-- ==== Sys2Proof/Word.lean ====
section
/-! DEFINITION. The word types of the AP-192 model. -/

namespace Sys2Proof

/-- A 64-bit register, the width of every control register (R14) and integer register (R32). -/
abbrev Word := BitVec 64

/-- One byte of memory. -/
abbrev Byte := BitVec 8

/-- A 128-bit floating register (R32). -/
abbrev Wide := BitVec 128

/-- A 32-bit operation word (R75). -/
abbrev OpWord := BitVec 32

end Sys2Proof
end

