-- ==== Sys2Proof/Machine/Operands.lean ====
section
/-! DEFINITION. Bit fields, sign extension, byte order and the operand forms of the Vouva operations (02, R76, R90, R91, R94). -/

namespace Sys2Proof.Machine

/-- Bits [hi:lo] of a number. -/
def bits (v hi lo : Nat) : Nat := (v >>> lo) % 2 ^ (hi + 1 - lo)

/-- One bit of a number. -/
def bit (v i : Nat) : Bool := v.testBit i

/-- 1 for true, 0 for false. -/
def bnat (b : Bool) : Nat := if b then 1 else 0

/-- A number with bits [hi:lo] replaced by the low bits of `x`. -/
def putBits (v hi lo x : Nat) : Nat :=
  v - (bits v hi lo) * 2 ^ lo + (x % 2 ^ (hi + 1 - lo)) * 2 ^ lo

/-- Field [hi:lo] of a register. -/
def fld (v : Word) (hi lo : Nat) : Nat := bits v.toNat hi lo

/-- One-bit field of a register. -/
def flag (v : Word) (i : Nat) : Bool := v.toNat.testBit i

/-- A register with field [hi:lo] replaced. -/
def setFld (v : Word) (hi lo x : Nat) : Word := BitVec.ofNat 64 (putBits v.toNat hi lo x)

/-- A register with one bit replaced. -/
def setFlag (v : Word) (i : Nat) (b : Bool) : Word := setFld v i i (bnat b)

/-- Sign extension of an n-bit field to 64 bits (R85, R91, R94). -/
def sext (n : Nat) (x : BitVec n) : Word := x.signExtend 64

/-- The two's-complement value of an n-bit number. -/
def toSigned (n v : Nat) : Int := if v < 2 ^ (n - 1) then (v : Int) else (v : Int) - 2 ^ n

/-- An integer as an n-bit two's-complement number. -/
def ofSigned (n : Nat) (v : Int) : Nat := (v % (2 ^ n : Int)).toNat

/-- Little-endian bytes of a number, lowest-addressed first (R74). -/
def toBytes : Nat → Nat → List Byte
  | 0, _ => []
  | n + 1, v => BitVec.ofNat 8 v :: toBytes n (v / 256)

/-- The number little-endian bytes stand for. -/
def ofBytes : List Byte → Nat
  | [] => 0
  | b :: bs => b.toNat + 256 * ofBytes bs

/-- The number big-endian bytes stand for. -/
def ofBytesBE (bs : List Byte) : Nat := ofBytes bs.reverse

/-- Big-endian bytes of a number. -/
def toBytesBE (n v : Nat) : List Byte := (toBytes n v).reverse

/-- The access size in bytes that the W field selects (R94). -/
def sizeOfW (w : BitVec 3) : Nat := 2 ^ w.toNat

/-- The numbers from `a` up, `n` of them. -/
def rangeFrom (a n : Nat) : List Nat := (List.range n).map (a + ·)

/-- ⌈log2 n⌉ (R35). -/
def clog2 (n : Nat) : Nat := if n ≤ 1 then 0 else Nat.log2 (n - 1) + 1

/-- The length of a number in bits, 0 for 0 (R128). -/
def bitLength (n : Nat) : Nat := if n = 0 then 0 else Nat.log2 n + 1

end Sys2Proof.Machine
end

