-- ==== Sys2Proof/Syntax.lean ====
section
/-! DEFINITION. The commands of the AP-192 (spec/opcode_table.json), one constructor per row, and the operands they carry. -/

namespace Sys2Proof

/-- Where an operation issues: the flat core index (R4), the slot of the bundle (R30) and the guard predicate (R33). -/
structure Slot where
  core : Nat
  slot : Nat
  guard : BitVec 3
  deriving DecidableEq, Repr

/-- Who makes a control-space access: the partition ID it carries (R6, R478) and the resident entry it acts for
(R526). Partition 0 is the manager, 2047 the Shepherd. -/
structure Agent where
  part : Nat
  res : Nat
  deriving DecidableEq, Repr

/-- An error that an array of a cache meets at a read (R202). -/
inductive ArrayErr
  | none | dataCorrected | dataUncorrectable | tagCorrected | tagUncorrectable
  deriving DecidableEq, Repr

/-- An error that a scratchpad word meets at a read (R300). -/
inductive WordErr
  | none | single | double
  deriving DecidableEq, Repr

/-- What a read of a memory piece meets (R310, R311): corrected in one device, or beyond the controller's code
and rebuilt, or beyond rebuilding. -/
inductive PieceErr
  | none
  | corrected (device : Nat)
  | rebuilt
  | lost
  deriving DecidableEq, Repr

/-- The errors chance lays on one access of a core. -/
structure Chance where
  array : ArrayErr
  word : WordErr
  deriving DecidableEq, Repr

/-- An error the ledger meets at a read of an entry (R372). -/
inductive LedgerErr
  | none | corrected
  | lost (word : Nat)
  deriving DecidableEq, Repr

/-- The header of an Ngatra message as it arrives (R414, R415): the flit's SEQ and the message's place among those of
the flit, and its fields. -/
structure Hdr where
  seq : Nat
  place : Nat
  src : Nat
  dst : Nat
  hop : Bool
  tid : Nat
  addr : Nat
  deriving DecidableEq, Repr

/-- What a device's request asks for (R402, R409). -/
inductive DevKind
  | memory | io | atomic
  deriving DecidableEq, Repr

/-- A request of a device on a PCIe link (R409): its requester ID, address and length, whether it writes, its bytes as a
little-endian number (for a read sent on to a peer, the bytes the peer returns), and EP. -/
structure DevReq where
  rid : Nat
  kind : DevKind
  write : Bool
  addr : Nat
  len : Nat
  data : Nat
  ep : Bool
  deriving DecidableEq, Repr

/-- A HELLO slot (R422). -/
structure Hello where
  src : Nat
  act : Bool
  size : Nat
  group : Nat
  width : Nat
  ver : Nat
  deriving DecidableEq, Repr

/-- How a command reaches the Shepherd: by its mailbox, or as a message on the I3C port with argument words and a
signature (R590). -/
inductive Via
  | mailbox
  | message (words : List Word) (sig : List Byte)
  deriving DecidableEq, Repr

/-- How memory training ends (R309, R604): the fields of MC_CFG (R333), or why the boot stops. -/
inductive TrainOutcome
  | ok (groups speed chcap : Nat) (dpc : Bool)
  | population
  | failed
  deriving DecidableEq, Repr

/-- The commands. -/
inductive Instr
  | registerWrite (a : Agent) (pa : Nat) (size : Nat) (v : Nat)
  | mgCfgerrClear (a : Agent) (v : Word)
  | fcCommit (a : Agent) (f : Nat) (v : Word)
  | tcCommit (a : Agent) (t : Nat) (v : Word)
  | pxCommit (a : Agent) (f : Nat) (v : Word)
  | chPathcommit (a : Agent) (v : Word)
  | chDraincommit (a : Agent) (v : Word)
  | lkCommit (a : Agent) (v : Word)
  | ptTrcommit (a : Agent) (v : Word)
  | stCommit (a : Agent) (v : Word)
  | ftCommit (a : Agent) (v : Word)
  | nop (x : Slot)
  | syscall (x : Slot) (code : BitVec 18)
  | mgrcall (x : Slot) (code : BitVec 18)
  | iret (x : Slot)
  | fenceS (x : Slot)
  | fenceF (x : Slot)
  | gath (x : Slot)
  | wfe (x : Slot)
  | crd (x : Slot) (rd : BitVec 6) (creg : BitVec 8)
  | cwr (x : Slot) (creg : BitVec 8) (rs : BitVec 6)
  | cctlWrite (x : Slot) (rs : BitVec 6)
  | denDisableDrained (c : Nat)
  | trd (x : Slot) (rd : BitVec 6) (tn : BitVec 4)
  | twait (x : Slot) (rd : BitVec 6) (tn : BitVec 4)
  | repi (x : Slot) (n : BitVec 16)
  | repn (x : Slot) (n : BitVec 7)
  | bt (x : Slot) (pc : BitVec 3) (disp : BitVec 20)
  | bf (x : Slot) (pc : BitVec 3) (disp : BitVec 20)
  | call (x : Slot) (disp : BitVec 24)
  | bri (x : Slot) (ra : BitVec 6)
  | calli (x : Slot) (ra : BitVec 6)
  | ret (x : Slot)
  | add (x : Slot) (rd : BitVec 6) (ra : BitVec 6) (rb : BitVec 6)
  | sub (x : Slot) (rd : BitVec 6) (ra : BitVec 6) (rb : BitVec 6)
  | addv (x : Slot) (rd : BitVec 6) (ra : BitVec 6) (rb : BitVec 6)
  | subv (x : Slot) (rd : BitVec 6) (ra : BitVec 6) (rb : BitVec 6)
  | and (x : Slot) (rd : BitVec 6) (ra : BitVec 6) (rb : BitVec 6)
  | or (x : Slot) (rd : BitVec 6) (ra : BitVec 6) (rb : BitVec 6)
  | xor (x : Slot) (rd : BitVec 6) (ra : BitVec 6) (rb : BitVec 6)
  | andn (x : Slot) (rd : BitVec 6) (ra : BitVec 6) (rb : BitVec 6)
  | shl (x : Slot) (rd : BitVec 6) (ra : BitVec 6) (rb : BitVec 6)
  | shr (x : Slot) (rd : BitVec 6) (ra : BitVec 6) (rb : BitVec 6)
  | sar (x : Slot) (rd : BitVec 6) (ra : BitVec 6) (rb : BitVec 6)
  | ror (x : Slot) (rd : BitVec 6) (ra : BitVec 6) (rb : BitVec 6)
  | min (x : Slot) (rd : BitVec 6) (ra : BitVec 6) (rb : BitVec 6)
  | max (x : Slot) (rd : BitVec 6) (ra : BitVec 6) (rb : BitVec 6)
  | minu (x : Slot) (rd : BitVec 6) (ra : BitVec 6) (rb : BitVec 6)
  | maxu (x : Slot) (rd : BitVec 6) (ra : BitVec 6) (rb : BitVec 6)
  | neg (x : Slot) (rd : BitVec 6) (ra : BitVec 6)
  | negv (x : Slot) (rd : BitVec 6) (ra : BitVec 6)
  | clz (x : Slot) (rd : BitVec 6) (ra : BitVec 6)
  | ctz (x : Slot) (rd : BitVec 6) (ra : BitVec 6)
  | popc (x : Slot) (rd : BitVec 6) (ra : BitVec 6)
  | bswap (x : Slot) (rd : BitVec 6) (ra : BitVec 6)
  | addi (x : Slot) (rd : BitVec 6) (ra : BitVec 6) (imm : BitVec 12)
  | andi (x : Slot) (rd : BitVec 6) (ra : BitVec 6) (imm : BitVec 10)
  | ori (x : Slot) (rd : BitVec 6) (ra : BitVec 6) (imm : BitVec 10)
  | xori (x : Slot) (rd : BitVec 6) (ra : BitVec 6) (imm : BitVec 10)
  | shli (x : Slot) (rd : BitVec 6) (ra : BitVec 6) (sh : BitVec 6)
  | shri (x : Slot) (rd : BitVec 6) (ra : BitVec 6) (sh : BitVec 6)
  | sari (x : Slot) (rd : BitVec 6) (ra : BitVec 6) (sh : BitVec 6)
  | rori (x : Slot) (rd : BitVec 6) (ra : BitVec 6) (sh : BitVec 6)
  | movz (x : Slot) (rd : BitVec 6) (hw : BitVec 2) (imm : BitVec 16)
  | movk (x : Slot) (rd : BitVec 6) (hw : BitVec 2) (imm : BitVec 16)
  | spadd (x : Slot) (imm : BitVec 16)
  | cmpEq (x : Slot) (pd : BitVec 3) (ra : BitVec 6) (rb : BitVec 6)
  | cmpNe (x : Slot) (pd : BitVec 3) (ra : BitVec 6) (rb : BitVec 6)
  | cmpLt (x : Slot) (pd : BitVec 3) (ra : BitVec 6) (rb : BitVec 6)
  | cmpLe (x : Slot) (pd : BitVec 3) (ra : BitVec 6) (rb : BitVec 6)
  | cmpLtu (x : Slot) (pd : BitVec 3) (ra : BitVec 6) (rb : BitVec 6)
  | cmpLeu (x : Slot) (pd : BitVec 3) (ra : BitVec 6) (rb : BitVec 6)
  | tst (x : Slot) (pd : BitVec 3) (ra : BitVec 6) (rb : BitVec 6)
  | pand (x : Slot) (pd : BitVec 3) (pa : BitVec 3) (pb : BitVec 3)
  | por (x : Slot) (pd : BitVec 3) (pa : BitVec 3) (pb : BitVec 3)
  | pxor (x : Slot) (pd : BitVec 3) (pa : BitVec 3) (pb : BitVec 3)
  | pandn (x : Slot) (pd : BitVec 3) (pa : BitVec 3) (pb : BitVec 3)
  | cmpiEq (x : Slot) (pd : BitVec 3) (ra : BitVec 6) (imm : BitVec 12)
  | cmpiNe (x : Slot) (pd : BitVec 3) (ra : BitVec 6) (imm : BitVec 12)
  | cmpiLt (x : Slot) (pd : BitVec 3) (ra : BitVec 6) (imm : BitVec 12)
  | cmpiLe (x : Slot) (pd : BitVec 3) (ra : BitVec 6) (imm : BitVec 12)
  | cmpiGt (x : Slot) (pd : BitVec 3) (ra : BitVec 6) (imm : BitVec 12)
  | cmpiGe (x : Slot) (pd : BitVec 3) (ra : BitVec 6) (imm : BitVec 12)
  | cmpiLtu (x : Slot) (pd : BitVec 3) (ra : BitVec 6) (imm : BitVec 12)
  | cmpiGeu (x : Slot) (pd : BitVec 3) (ra : BitVec 6) (imm : BitVec 12)
  | mul (x : Slot) (rd : BitVec 6) (ra : BitVec 6) (rb : BitVec 6)
  | mulh (x : Slot) (rd : BitVec 6) (ra : BitVec 6) (rb : BitVec 6)
  | mulhu (x : Slot) (rd : BitVec 6) (ra : BitVec 6) (rb : BitVec 6)
  | mulv (x : Slot) (rd : BitVec 6) (ra : BitVec 6) (rb : BitVec 6)
  | divsP (x : Slot) (gq : BitVec 6) (gr : BitVec 6) (gd : BitVec 6)
  | divuP (x : Slot) (gq : BitVec 6) (gr : BitVec 6) (gd : BitVec 6)
  | dstep (x : Slot) (gq : BitVec 6) (gr : BitVec 6) (gd : BitVec 6)
  | dfin (x : Slot) (gq : BitVec 6) (gr : BitVec 6) (gd : BitVec 6)
  | dnorm (x : Slot) (rd : BitVec 6) (ra : BitVec 6) (rb : BitVec 6)
  | ld (x : Slot) (rd : BitVec 6) (base : BitVec 6) (w : BitVec 3) (h : BitVec 1) (off : BitVec 8) (ch : Chance)
  | lds (x : Slot) (rd : BitVec 6) (base : BitVec 6) (w : BitVec 3) (h : BitVec 1) (off : BitVec 8) (ch : Chance)
  | st (x : Slot) (rs : BitVec 6) (base : BitVec 6) (w : BitVec 3) (h : BitVec 1) (off : BitVec 8)
  | ldf (x : Slot) (rd : BitVec 6) (base : BitVec 6) (w : BitVec 3) (h : BitVec 1) (off : BitVec 8) (ch : Chance)
  | stf (x : Slot) (rs : BitVec 6) (base : BitVec 6) (w : BitVec 3) (h : BitVec 1) (off : BitVec 8)
  | swap (x : Slot) (rd : BitVec 6) (base : BitVec 6) (rs : BitVec 6) (w : BitVec 2)
  | atomicFadd (x : Slot) (rd : BitVec 6) (base : BitVec 6) (rs : BitVec 6) (w : BitVec 2)
  | cas (x : Slot) (rd : BitVec 6) (base : BitVec 6) (rs : BitVec 6) (w : BitVec 2)
  | strel (x : Slot) (rs : BitVec 6) (base : BitVec 6) (w : BitVec 3)
  | dci (x : Slot) (base : BitVec 6)
  | ici (x : Slot) (base : BitVec 6)
  | dcf (x : Slot) (base : BitVec 6)
  | dcfi (x : Slot) (base : BitVec 6)
  | dzl (x : Slot) (base : BitVec 6)
  | dcia (x : Slot)
  | icia (x : Slot)
  | submit (x : Slot) (gd : BitVec 6) (ga : BitVec 6) (tn : BitVec 4)
  | fadd (x : Slot) (fd : BitVec 5) (fa : BitVec 5) (fb : BitVec 5) (fmt : BitVec 2)
  | fsub (x : Slot) (fd : BitVec 5) (fa : BitVec 5) (fb : BitVec 5) (fmt : BitVec 2)
  | fmul (x : Slot) (fd : BitVec 5) (fa : BitVec 5) (fb : BitVec 5) (fmt : BitVec 2)
  | fmin (x : Slot) (fd : BitVec 5) (fa : BitVec 5) (fb : BitVec 5) (fmt : BitVec 2)
  | fmax (x : Slot) (fd : BitVec 5) (fa : BitVec 5) (fb : BitVec 5) (fmt : BitVec 2)
  | fabs (x : Slot) (fd : BitVec 5) (fa : BitVec 5) (fmt : BitVec 2)
  | fneg (x : Slot) (fd : BitVec 5) (fa : BitVec 5) (fmt : BitVec 2)
  | fcps (x : Slot) (fd : BitVec 5) (fa : BitVec 5) (fb : BitVec 5) (fmt : BitVec 2)
  | fcvt (x : Slot) (fd : BitVec 5) (fa : BitVec 5) (sfmt : BitVec 2) (fmt : BitVec 2)
  | dqua (x : Slot) (fd : BitVec 5) (fa : BitVec 5) (fb : BitVec 5) (fmt : BitVec 2)
  | frint (x : Slot) (fd : BitVec 5) (fa : BitVec 5) (fmt : BitVec 2)
  | fma (x : Slot) (fd : BitVec 5) (fa : BitVec 5) (fb : BitVec 5) (fc : BitVec 5) (fmt : BitVec 2)
  | fms (x : Slot) (fd : BitVec 5) (fa : BitVec 5) (fb : BitVec 5) (fc : BitVec 5) (fmt : BitVec 2)
  | fnma (x : Slot) (fd : BitVec 5) (fa : BitVec 5) (fb : BitVec 5) (fc : BitVec 5) (fmt : BitVec 2)
  | fnms (x : Slot) (fd : BitVec 5) (fa : BitVec 5) (fb : BitVec 5) (fc : BitVec 5) (fmt : BitVec 2)
  | fmvg (x : Slot) (g : BitVec 6) (f : BitVec 5)
  | fmvgh (x : Slot) (g : BitVec 6) (f : BitVec 5)
  | gmvf (x : Slot) (g : BitVec 6) (f : BitVec 5)
  | gmvfh (x : Slot) (g : BitVec 6) (f : BitVec 5)
  | fcvtG (x : Slot) (g : BitVec 6) (f : BitVec 5) (fmt : BitVec 2)
  | fcvtzG (x : Slot) (g : BitVec 6) (f : BitVec 5) (fmt : BitVec 2)
  | fcvtF (x : Slot) (g : BitVec 6) (f : BitVec 5) (fmt : BitVec 2)
  | fcvtuF (x : Slot) (g : BitVec 6) (f : BitVec 5) (fmt : BitVec 2)
  | fcmpEq (x : Slot) (pd : BitVec 3) (fa : BitVec 5) (fb : BitVec 5) (fmt : BitVec 2)
  | fcmpLt (x : Slot) (pd : BitVec 3) (fa : BitVec 5) (fb : BitVec 5) (fmt : BitVec 2)
  | fcmpLe (x : Slot) (pd : BitVec 3) (fa : BitVec 5) (fb : BitVec 5) (fmt : BitVec 2)
  | fcmpUn (x : Slot) (pd : BitVec 3) (fa : BitVec 5) (fb : BitVec 5) (fmt : BitVec 2)
  | fcmpLtq (x : Slot) (pd : BitVec 3) (fa : BitVec 5) (fb : BitVec 5) (fmt : BitVec 2)
  | fcmpLeq (x : Slot) (pd : BitVec 3) (fa : BitVec 5) (fb : BitVec 5) (fmt : BitVec 2)
  | fcmpEqs (x : Slot) (pd : BitVec 3) (fa : BitVec 5) (fb : BitVec 5) (fmt : BitVec 2)
  | tlfl (x : Slot) (fd : BitVec 5) (fx : BitVec 5) (fdesc : BitVec 5) (ch : Chance)
  | tlin (x : Slot) (fd : BitVec 5) (fx : BitVec 5) (fdesc : BitVec 5) (ch : Chance)
  | tllg (x : Slot) (fd : BitVec 5) (fx : BitVec 5) (fdesc : BitVec 5) (ch : Chance)
  | fdivP (x : Slot) (fq : BitVec 5) (fr : BitVec 5) (fdv : BitVec 5) (fmt : BitVec 2)
  | fdstep (x : Slot) (fq : BitVec 5) (fr : BitVec 5) (fdv : BitVec 5) (fmt : BitVec 2)
  | fdfin (x : Slot) (fq : BitVec 5) (fr : BitVec 5) (fdv : BitVec 5) (fmt : BitVec 2)
  | fsqrtP (x : Slot) (fq : BitVec 5) (fr : BitVec 5) (fdv : BitVec 5) (fmt : BitVec 2)
  | frstep (x : Slot) (fq : BitVec 5) (fr : BitVec 5) (fdv : BitVec 5) (fmt : BitVec 2)
  | frfin (x : Slot) (fq : BitVec 5) (fr : BitVec 5) (fdv : BitVec 5) (fmt : BitVec 2)
  | xdivP (x : Slot) (fq : BitVec 5) (fr : BitVec 5) (fdv : BitVec 5) (fmt : BitVec 2)
  | xdstep (x : Slot) (fq : BitVec 5) (fr : BitVec 5) (fdv : BitVec 5) (fmt : BitVec 2)
  | xdfin (x : Slot) (fq : BitVec 5) (fr : BitVec 5) (fdv : BitVec 5) (fmt : BitVec 2)
  | bundleFetch (c : Nat) (ch : Chance)
  | operationLand (c : Nat)
  | loadDataArrival (c : Nat) (cycles : Nat)
  | freezeLimit (c : Nat)
  | exceptionEntry (c : Nat)
  | eventAccept (c : Nat) (source : Nat)
  | completionApply (c : Nat)
  | wfeWake (c : Nat)
  | reservedFieldCompletion (c : Nat) (tn : Nat)
  | fcXinva1 (a : Agent) (n : Nat) (v : Word)
  | fcXinva2 (a : Agent) (n : Nat) (v : Word)
  | fcXinvall1 (a : Agent) (n : Nat) (v : Word)
  | fcXinvall2 (a : Agent) (n : Nat) (v : Word)
  | mergeEntryTimeout (c : Nat) (k : Nat)
  | mergeEntryMove (c : Nat)
  | gatherMark (c : Nat)
  | gatherConfirm (c : Nat)
  | releaseAcknowledged (c : Nat) (cycles : Nat)
  | heldAccessPerform (c : Nat) (ch : Chance)
  | heldAccessResponse (c : Nat) (cycles : Nat)
  | stallDetect (f : Nat) (j : Nat)
  | checkerError (c : Nat)
  | rollbackComplete (l : Nat) (dbe : Option Nat)
  | selftestComplete (f : Nat) (j : Nat) (passA : Bool) (passB : Bool)
  | spareStateCopyComplete (l : Nat) (dbe : Option Nat)
  | pxCtlStop (a : Agent) (f : Nat) (j : Nat)
  | pxCtlStart (a : Agent) (f : Nat) (j : Nat) (dbe : Option Nat)
  | pxCtlSubstA (a : Agent) (f : Nat) (j : Nat)
  | pxCtlSubstB (a : Agent) (f : Nat) (j : Nat)
  | pxCtlReturn (a : Agent) (f : Nat) (j : Nat)
  | pxCtlTest (a : Agent) (f : Nat) (j : Nat)
  | pxSnapWrite (a : Agent) (f : Nat) (slot : Nat) (off : Nat) (v : Word)
  | pxLogClear (a : Agent) (f : Nat) (v : Word)
  | fillLand (f : Nat) (line : Nat)
  | readShared (f : Nat) (line : Nat) (pe : PieceErr)
  | readWithOwnership (f : Nat) (line : Nat) (pe : PieceErr)
  | upgrade (f : Nat) (line : Nat) (pe : PieceErr)
  | writeBackOfM (k : Nat) (line : Nat)
  | cleanEvictionNotice (k : Nat) (line : Nat)
  | victimMoved (f : Nat)
  | tileCacheHitMoved (f : Nat) (line : Nat) (err : ArrayErr)
  | uncachedLoad (c : Nat) (pe : PieceErr)
  | uncachedStore (c : Nat)
  | snoopInvalidate (k : Nat) (line : Nat)
  | snoopForward (k : Nat) (line : Nat) (err : ArrayErr)
  | evictionBufferInstall (t : Nat)
  | bypassWalkComplete (t : Nat)
  | tcModeTakeEffect (t : Nat)
  | fcCtlWrite (a : Agent) (f : Nat) (v : Word)
  | fcDrainComplete (f : Nat)
  | replWrite (a : Agent) (k : Nat) (v : Word)
  | waydisWrite (a : Agent) (k : Nat) (v : Word)
  | wayflushWrite (a : Agent) (k : Nat) (v : Word)
  | wayWalkComplete (k : Nat)
  | fcEcclogClear (a : Agent) (k : Nat) (v : Word)
  | fmCopy (n : Nat)
  | fmFill (n : Nat)
  | fmWb (n : Nat)
  | fmWbi (n : Nat)
  | farMemoryComplete (n : Nat)
  | sxBankctlWrite (a : Agent) (k : Nat) (v : Word)
  | bankStateChangeComplete (k : Nat) (b : Nat)
  | sxKeepwipe (a : Agent) (k : Nat) (v : Word)
  | keepWipeComplete (k : Nat)
  | sxEcclogClear (a : Agent) (k : Nat) (v : Word)
  | sxErrlogClear (a : Agent) (k : Nat) (v : Word)
  | patrolScrub (ch : Nat) (line : Nat) (pe : PieceErr)
  | granuleWriteHoldExpire (granule : Nat)
  | mcRetrain (a : Agent) (ch : Nat)
  | mcRepair (a : Agent) (ch : Nat)
  | mcAbort (a : Agent)
  | channelOffline (ch : Nat)
  | trainingOrRepairComplete (ok : Bool) (restored : Bool)
  | resyncComplete
  | mcEcclogClear (a : Agent) (v : Word)
  | penAttach (a : Agent) (pen : Nat)
  | penStop (a : Agent) (pen : Nat)
  | penStopped (pen : Nat)
  | penResume (a : Agent) (pen : Nat)
  | penAbort (a : Agent) (pen : Nat)
  | penDetach (a : Agent) (pen : Nat)
  | penReload (a : Agent) (pen : Nat)
  | penRestore (a : Agent) (pen : Nat) (mask : Nat)
  | penFail (a : Agent) (pen : Nat) (mask : Nat)
  | penMove (a : Agent) (pen : Nat) (drover : Nat)
  | penMoveComplete (g : Nat)
  | run (t : Nat) (entry : Nat) (slot : Nat) (le : LedgerErr)
  | commandSend (entry : Nat)
  | read (entry : Nat)
  | write (entry : Nat)
  | flush (entry : Nat)
  | writeZeroes (entry : Nat)
  | deallocate (entry : Nat)
  | compare (entry : Nat)
  | compareAndWrite (entry : Nat)
  | admin (entry : Nat)
  | ringTx (entry : Nat)
  | ringRx (entry : Nat)
  | ringCmd (entry : Nat)
  | ringQuery (entry : Nat)
  | nvmeCompletionEntry (pen : Nat) (path : Nat) (le : LedgerErr)
  | ringCompletionEntry (pen : Nat) (path : Nat) (le : LedgerErr)
  | msixAbsorb (p : Nat) (rid : Nat) (data : Nat)
  | completionPoll (pen : Nat)
  | commandTimeout (entry : Nat)
  | pathFailureReissue (pen : Nat) (path : Nat)
  | powerFailDrain
  | drainComplete (ok : Bool) (late : Bool)
  | ledgerThaw
  | linkRetrain (a : Agent) (p : Nat)
  | linkReeq (a : Agent) (p : Nat)
  | linkReeqComplete (p : Nat)
  | linkRelease (a : Agent) (p : Nat)
  | linkDown (p : Nat) (protocol : Bool)
  | linkUp (p : Nat) (rate : Nat) (lanes : Nat) (flit : Bool)
  | lkMarginGo (a : Agent) (p : Nat) (lane : Nat) (kind : Bool)
  | marginComplete (p : Nat) (steps : Nat)
  | dreqMemoryRead (a : Agent) (p : Nat) (wide : Bool) (addr : Nat)
  | dreqMemoryWrite (a : Agent) (p : Nat) (wide : Bool) (addr : Nat)
  | dreqConfigurationRead (a : Agent) (p : Nat) (addr : Nat)
  | dreqConfigurationWrite (a : Agent) (p : Nat) (addr : Nat)
  | dreqComplete (p : Nat) (result : Nat) (data : Nat)
  | dreqTimeout (p : Nat)
  | lkErrlogClear (a : Agent) (p : Nat) (v : Word)
  | deviceMemoryRequest (p : Nat) (req : DevReq) (pe : PieceErr)
  | atsTranslationRequest (p : Nat) (rid : Nat) (addr : Nat)
  | atsInvalidateTimeout (p : Nat) (fn : Nat)
  | pcieCorrectableError (p : Nat)
  | pcieNonfatalError (p : Nat) (rid : Nat) (addr : Nat) (result : Option Nat)
  | pcieFatalError (p : Nat)
  | null (p : Nat) (seq : Nat)
  | link (p : Nat) (nak : Bool) (ackv : Bool) (ackseq : Nat) (credits : List Nat)
  | hello (p : Nat) (h : Hello)
  | route (p : Nat) (h : Hdr) (lost : Nat) (lastseq : Nat) (down : Bool) (mark : Bool)
  | rds (p : Nat) (h : Hdr) (pe : PieceErr)
  | rdo (p : Nat) (h : Hdr) (full : Bool) (pe : PieceErr)
  | upg (p : Nat) (h : Hdr) (pe : PieceErr)
  | rdu (p : Nat) (h : Hdr) (pe : PieceErr)
  | wru (p : Nat) (h : Hdr) (mask : BitVec 64) (data : BitVec 512)
  | wb (p : Nat) (h : Hdr) (poison : Bool) (data : BitVec 512)
  | evc (p : Nat) (h : Hdr)
  | fmop (p : Nat) (h : Hdr) (desc : List Word)
  | fwds (p : Nat) (h : Hdr) (reqmod : Nat)
  | fwdo (p : Nat) (h : Hdr) (reqmod : Nat)
  | inv (p : Nat) (h : Hdr)
  | gnt (p : Nat) (h : Hdr)
  | iack (p : Nat) (h : Hdr)
  | cmp (p : Nat) (h : Hdr) (word : Word)
  | nack (p : Nat) (h : Hdr) (reason : Nat)
  | data (p : Nat) (h : Hdr) (st : Nat) (poison : Bool) (data : BitVec 512)
  | iackd (p : Nat) (h : Hdr) (poison : Bool) (data : BitVec 512)
  | pcmd (p : Nat) (h : Hdr) (entry : Nat) (slot : Nat) (body : List Word)
  | pstat (p : Nat) (h : Hdr) (status : Nat) (value : Nat)
  | badFlit (p : Nat) (lane : Option Nat)
  | ackTimer (p : Nat)
  | replayTimeout (p : Nat)
  | formationEnd
  | compress (k : Nat)
  | decompress (k : Nat)
  | compressionUnitComplete (k : Nat) (va : Bool) (vb : Bool)
  | czWithdraw (a : Agent) (k : Nat) (on : Bool)
  | czTest (a : Agent) (k : Nat)
  | czTestComplete (k : Nat) (pass : Bool)
  | czStoppart (a : Agent) (k : Nat) (part : Nat)
  | czVerlogClear (a : Agent) (k : Nat)
  | gcmEnc (k : Nat)
  | gcmDec (k : Nat)
  | xtsEnc (k : Nat)
  | xtsDec (k : Nat)
  | ctr (k : Nat)
  | cmacGen (k : Nat)
  | cmacVer (k : Nat)
  | hmacGen (k : Nat)
  | hmacVer (k : Nat)
  | cipherJobComplete (k : Nat) (c : Nat)
  | outputWithheld (k : Nat) (c : Nat) (n : Nat)
  | cipherDatapathError (k : Nat) (c : Nat) (kind : Nat)
  | acquire (a : Agent) (k : Nat) (token : Nat)
  | release (a : Agent) (k : Nat) (token : Nat)
  | lockWipeComplete (k : Nat)
  | cyForce (a : Agent) (k : Nat) (part : Nat)
  | cyWithdraw (a : Agent) (k : Nat) (on : Bool)
  | cyTest (a : Agent) (k : Nat)
  | cyTestComplete (k : Nat) (pass : Bool)
  | cyErrlogClear (a : Agent) (k : Nat)
  | ptAdmit (a : Agent) (r : Nat) (pid : Nat) (sealed : Bool)
  | ptQuiesce (a : Agent) (r : Nat)
  | ptResume (a : Agent) (r : Nat)
  | ptRemove (a : Agent) (r : Nat)
  | ptMode (a : Agent) (r : Nat) (sealed : Bool)
  | ptCoreWrite (a : Agent) (n : Nat) (next : Nat)
  | huInv (a : Agent) (v : Word)
  | huInvdone
  | stintPeriodBoundary
  | stintOpportunity (m : Nat) (waiting : List Nat)
  | coalesceTimerExpire (src : Nat)
  | evRouteWrite (a : Agent) (src : Nat) (v : Word)
  | evStatClear (a : Agent) (src : Nat) (v : Word)
  | evEoi (a : Agent) (n : Nat) (lvl : Nat) (v : Word)
  | evSwraise (a : Agent) (v : Word)
  | evRaise (a : Agent) (n : Nat) (v : Word)
  | mrstNRelease (samples : List Nat) (flash : Option (List Byte)) (broken : Bool) (lockstep : Bool)
  | mrstNAssert
  | getInfo (via : Via)
  | getRecord (via : Via)
  | getCerts
  | keyWrite
  | keyErase
  | keyDescribe
  | keyEraseOwner
  | loadMemtrain (flash : Option (List Byte))
  | memtrainComplete (o : TrainOutcome)
  | loadDroverFw (flash : Option (List Byte))
  | loadCzUcode (flash : Option (List Byte))
  | loadMloader (flash : Option (List Byte))
  | firmwareLoadComplete (u : Nat)
  | extend
  | seal
  | autoSeal
  | addendumSigned
  | shepUpdate
  | shepCommit
  | own
  | returnOwned
  | void (via : Via)
  | provision (sig : List Byte)
  | certify (sig : List Byte) (ecdsa : List Byte) (mldsa : List Byte)
  | tamperTrip (sensor : Nat)
  | meshCheck (broken : Bool)
  | shepherdLockstepMismatch
  | shepherdRestartComplete (ok : Bool)
  | noiseSourceFailure (src : Nat)
  | drbgReseed
  | recordReoffer
  | getVersion
  | getCapabilities
  | negotiateAlgorithms
  | getDigests
  | getCertificate (slot : Nat) (off : Nat) (len : Nat)
  | challenge (slot : Nat)
  | getMeasurements (index : Nat) (signed : Bool)
  | respondIfReady
  | spdmUnsupportedRequest
  | setEndpointId (n : Nat)
  | getEndpointId
  | getMctpVersionSupport
  | getMessageTypeSupport
  | strikeDrainTick (c : Nat) (idx : Nat)
  | ftCntClear (a : Agent) (c : Nat) (idx : Nat) (v : Word)
  | ftCtest (a : Agent) (v : Word)
  | coreSelftestComplete (pass : Bool)
  | ftMctargetWrite (a : Agent) (v : Word)
  | asyncMachineCheck
  | ftMclogClear (a : Agent) (v : Word)
  | extest
  | samplePreload
  | idcode
  | clamp
  | highz
  | extestPulse
  | extestTrain
  | bypass
  | railExcursion (idx : Nat) (leaves : Bool) (high : Bool)
  | pwRaillogClear (a : Agent) (v : Word)
  | temperatureSample (temps : List Nat)
  | thermalCapStep (b : Nat)
  | pwFoldWrite (a : Agent) (f : Nat) (v : Word)
  | pwFlockWrite (a : Agent) (k : Nat) (v : Word)
  | pllStepComplete (b : Nat)
  | foldSleepEntry (f : Nat)
  | foldWake (f : Nat)
  | flockSleepEntry (k : Nat)
  | flockWake (k : Nat)
  | tenseChange
  | recordPieceSend
  | recordPieceAccept
  | recordPauseTimeout
  | recordAcceptTimeout
  | uartTransmit (a : Agent) (byte : BitVec 8)
  | uartReceive (byte : BitVec 8)
  | tnUartrxRead (a : Agent)
  | tracePcSample
  | syncEdge
  | droverLockstepMismatch (d : Nat)
  | tamperSensorClear (sensor : Nat)
  | maskingGeneratorReseed (k : Nat)
  | uartByteSent
  | traceRecordSent
  | pxSnapRead (a : Agent) (f : Nat) (slot : Nat) (off : Nat) (dbe : Bool)
  deriving DecidableEq, Repr

end Sys2Proof
end

