-- ==== Sys2Proof/Decode.lean ====
section
/-! DEFINITION. The words of the Vouva operations: the encoding of each operation command (R74 to R107, R116), and the reserved-encoding check on a word (R31, R79, R80). The table of commands gives no row any bits, so no word spells a command. -/

namespace Sys2Proof

open Machine

/-- The command that a word spells by the table's bits: no row of the table gives bits. -/
def decodeTableWord (_nbits _w : Nat) : Option Instr := none

/-- An operation word: guard, major opcode, payload (R75). -/
def opw (x : Slot) (maj payload : Nat) : OpWord :=
  BitVec.ofNat 32 (x.guard.toNat * 2 ^ 29 + maj * 2 ^ 24 + payload)

/-- Payload with a minor in [5:0] and three register fields of 6 bits (R77: ALU, MULDIV). -/
def pay3 (rd ra rb : BitVec 6) (min : Nat) : Nat :=
  rd.toNat * 2 ^ 18 + ra.toNat * 2 ^ 12 + rb.toNat * 2 ^ 6 + min

/-- Payload of a predicate compare (R77: PCMP). -/
def payCmp (pd : BitVec 3) (ra rb min : Nat) : Nat :=
  pd.toNat * 2 ^ 21 + ra * 2 ^ 12 + rb * 2 ^ 6 + min

/-- Payload of a predicate compare with an immediate (R77: PCMPI). -/
def payCmpi (pd : BitVec 3) (cc : Nat) (ra : BitVec 6) (imm : BitVec 12) : Nat :=
  pd.toNat * 2 ^ 21 + cc * 2 ^ 18 + ra.toNat * 2 ^ 12 + imm.toNat

/-- Payload of a logical immediate or an immediate shift (R77: LOGI, SHI). -/
def payImm (rd ra : BitVec 6) (op imm : Nat) : Nat :=
  rd.toNat * 2 ^ 18 + ra.toNat * 2 ^ 12 + op * 2 ^ 10 + imm

/-- Payload of a load or store (R77: LD to STF). -/
def payMem (rd base : BitVec 6) (w : BitVec 3) (h : BitVec 1) (off : BitVec 8) : Nat :=
  rd.toNat * 2 ^ 18 + base.toNat * 2 ^ 12 + w.toNat * 2 ^ 9 + h.toNat * 2 ^ 8 + off.toNat

/-- Payload of an atomic (R77: ATOM). -/
def payAtom (rd base rs : BitVec 6) (w : BitVec 2) (min : Nat) : Nat :=
  rd.toNat * 2 ^ 18 + base.toNat * 2 ^ 12 + rs.toNat * 2 ^ 6 + w.toNat * 2 ^ 4 + min

/-- Payload of a store release or a maintenance operation (R77: CMX). -/
def payCmx (rs base : Nat) (w min : Nat) : Nat := rs * 2 ^ 18 + base * 2 ^ 12 + w * 2 ^ 9 + min

/-- Payload of a floating operation (R77: FOP). -/
def payFop (fd fa : BitVec 5) (fb : Nat) (fmt : BitVec 2) (min : Nat) : Nat :=
  fd.toNat * 2 ^ 19 + fa.toNat * 2 ^ 14 + fb * 2 ^ 9 + fmt.toNat * 2 ^ 7 + min

/-- Payload of a fused multiply-add (R77: FMA). -/
def payFma (fd fa fb fc : BitVec 5) (fmt : BitVec 2) (min : Nat) : Nat :=
  fd.toNat * 2 ^ 19 + fa.toNat * 2 ^ 14 + fb.toNat * 2 ^ 9 + fc.toNat * 2 ^ 4 + fmt.toNat * 2 ^ 2 + min

/-- Payload of a move or conversion between the files (R77: FX). -/
def payFx (g : BitVec 6) (f : BitVec 5) (fmt min : Nat) : Nat :=
  g.toNat * 2 ^ 18 + f.toNat * 2 ^ 13 + fmt * 2 ^ 11 + min

/-- Payload of a floating compare (R77: FCMP). -/
def payFcmp (pd : BitVec 3) (fmt : BitVec 2) (fa fb : BitVec 5) (min : Nat) : Nat :=
  pd.toNat * 2 ^ 21 + fmt.toNat * 2 ^ 18 + fa.toNat * 2 ^ 13 + fb.toNat * 2 ^ 8 + min

/-- Payload of a table interpolation (R77: TBL). -/
def payTbl (fd fx fdesc : BitVec 5) (min : Nat) : Nat :=
  fd.toNat * 2 ^ 19 + fx.toNat * 2 ^ 14 + fdesc.toNat * 2 ^ 9 + min

/-- Payload of a divide or square-root step (R77: FSTEP). -/
def payStep (fq fr fdv : BitVec 5) (fmt : BitVec 2) (min : Nat) : Nat :=
  fq.toNat * 2 ^ 19 + fr.toNat * 2 ^ 14 + fdv.toNat * 2 ^ 9 + fmt.toNat * 2 ^ 7 + min

/-- The word of an operation command; a command that is no operation has none and reads 0, the word that is
reserved in every slot. -/
def encode : Instr → OpWord
  | .nop x => opw x 0x01 0
  | .syscall x c => opw x 0x01 (c.toNat * 2 ^ 6 + 0x01)
  | .mgrcall x c => opw x 0x01 (c.toNat * 2 ^ 6 + 0x02)
  | .iret x => opw x 0x01 0x03
  | .fenceS x => opw x 0x01 0x04
  | .fenceF x => opw x 0x01 0x05
  | .gath x => opw x 0x01 0x06
  | .wfe x => opw x 0x01 0x07
  | .crd x rd creg => opw x 0x01 (rd.toNat * 2 ^ 18 + creg.toNat * 2 ^ 10 + 0x08)
  | .cwr x creg rs => opw x 0x01 (rs.toNat * 2 ^ 18 + creg.toNat * 2 ^ 10 + 0x09)
  | .cctlWrite x rs => opw x 0x01 (rs.toNat * 2 ^ 18 + 0x09 * 2 ^ 10 + 0x09)
  | .trd x rd tn => opw x 0x01 (rd.toNat * 2 ^ 18 + tn.toNat * 2 ^ 10 + 0x0A)
  | .twait x rd tn => opw x 0x01 (rd.toNat * 2 ^ 18 + tn.toNat * 2 ^ 10 + 0x0B)
  | .repi x n => opw x 0x02 n.toNat
  | .repn x n => opw x 0x02 (2 ^ 23 + n.toNat)
  | .bt x pc d => opw x 0x03 (pc.toNat * 2 ^ 21 + 2 ^ 20 + d.toNat)
  | .bf x pc d => opw x 0x03 (pc.toNat * 2 ^ 21 + d.toNat)
  | .call x d => opw x 0x04 d.toNat
  | .bri x ra => opw x 0x05 (ra.toNat * 2 ^ 12 + 0x0)
  | .calli x ra => opw x 0x05 (ra.toNat * 2 ^ 12 + 0x1)
  | .ret x => opw x 0x05 0x2
  | .add x d a b => opw x 0x06 (pay3 d a b 0x00)
  | .sub x d a b => opw x 0x06 (pay3 d a b 0x01)
  | .addv x d a b => opw x 0x06 (pay3 d a b 0x02)
  | .subv x d a b => opw x 0x06 (pay3 d a b 0x03)
  | .and x d a b => opw x 0x06 (pay3 d a b 0x04)
  | .or x d a b => opw x 0x06 (pay3 d a b 0x05)
  | .xor x d a b => opw x 0x06 (pay3 d a b 0x06)
  | .andn x d a b => opw x 0x06 (pay3 d a b 0x07)
  | .shl x d a b => opw x 0x06 (pay3 d a b 0x08)
  | .shr x d a b => opw x 0x06 (pay3 d a b 0x09)
  | .sar x d a b => opw x 0x06 (pay3 d a b 0x0A)
  | .ror x d a b => opw x 0x06 (pay3 d a b 0x0B)
  | .min x d a b => opw x 0x06 (pay3 d a b 0x0C)
  | .max x d a b => opw x 0x06 (pay3 d a b 0x0D)
  | .minu x d a b => opw x 0x06 (pay3 d a b 0x0E)
  | .maxu x d a b => opw x 0x06 (pay3 d a b 0x0F)
  | .neg x d a => opw x 0x06 (pay3 d a 0 0x10)
  | .negv x d a => opw x 0x06 (pay3 d a 0 0x11)
  | .clz x d a => opw x 0x06 (pay3 d a 0 0x12)
  | .ctz x d a => opw x 0x06 (pay3 d a 0 0x13)
  | .popc x d a => opw x 0x06 (pay3 d a 0 0x14)
  | .bswap x d a => opw x 0x06 (pay3 d a 0 0x15)
  | .addi x d a i => opw x 0x07 (d.toNat * 2 ^ 18 + a.toNat * 2 ^ 12 + i.toNat)
  | .andi x d a i => opw x 0x08 (payImm d a 0 i.toNat)
  | .ori x d a i => opw x 0x08 (payImm d a 1 i.toNat)
  | .xori x d a i => opw x 0x08 (payImm d a 2 i.toNat)
  | .shli x d a i => opw x 0x09 (payImm d a 0 i.toNat)
  | .shri x d a i => opw x 0x09 (payImm d a 1 i.toNat)
  | .sari x d a i => opw x 0x09 (payImm d a 2 i.toNat)
  | .rori x d a i => opw x 0x09 (payImm d a 3 i.toNat)
  | .movz x d h i => opw x 0x0C (d.toNat * 2 ^ 18 + h.toNat * 2 ^ 16 + i.toNat)
  | .movk x d h i => opw x 0x0D (d.toNat * 2 ^ 18 + h.toNat * 2 ^ 16 + i.toNat)
  | .spadd x i => opw x 0x0E i.toNat
  | .cmpEq x p a b => opw x 0x0A (payCmp p a.toNat b.toNat 0x00)
  | .cmpNe x p a b => opw x 0x0A (payCmp p a.toNat b.toNat 0x01)
  | .cmpLt x p a b => opw x 0x0A (payCmp p a.toNat b.toNat 0x02)
  | .cmpLe x p a b => opw x 0x0A (payCmp p a.toNat b.toNat 0x03)
  | .cmpLtu x p a b => opw x 0x0A (payCmp p a.toNat b.toNat 0x04)
  | .cmpLeu x p a b => opw x 0x0A (payCmp p a.toNat b.toNat 0x05)
  | .tst x p a b => opw x 0x0A (payCmp p a.toNat b.toNat 0x06)
  | .pand x p a b => opw x 0x0A (payCmp p a.toNat b.toNat 0x10)
  | .por x p a b => opw x 0x0A (payCmp p a.toNat b.toNat 0x11)
  | .pxor x p a b => opw x 0x0A (payCmp p a.toNat b.toNat 0x12)
  | .pandn x p a b => opw x 0x0A (payCmp p a.toNat b.toNat 0x13)
  | .cmpiEq x p a i => opw x 0x0B (payCmpi p 0 a i)
  | .cmpiNe x p a i => opw x 0x0B (payCmpi p 1 a i)
  | .cmpiLt x p a i => opw x 0x0B (payCmpi p 2 a i)
  | .cmpiLe x p a i => opw x 0x0B (payCmpi p 3 a i)
  | .cmpiGt x p a i => opw x 0x0B (payCmpi p 4 a i)
  | .cmpiGe x p a i => opw x 0x0B (payCmpi p 5 a i)
  | .cmpiLtu x p a i => opw x 0x0B (payCmpi p 6 a i)
  | .cmpiGeu x p a i => opw x 0x0B (payCmpi p 7 a i)
  | .mul x d a b => opw x 0x0F (pay3 d a b 0x00)
  | .mulh x d a b => opw x 0x0F (pay3 d a b 0x01)
  | .mulhu x d a b => opw x 0x0F (pay3 d a b 0x02)
  | .mulv x d a b => opw x 0x0F (pay3 d a b 0x03)
  | .divsP x q r d => opw x 0x0F (pay3 q r d 0x08)
  | .divuP x q r d => opw x 0x0F (pay3 q r d 0x09)
  | .dstep x q r d => opw x 0x0F (pay3 q r d 0x0A)
  | .dfin x q r d => opw x 0x0F (pay3 q r d 0x0B)
  | .dnorm x d a b => opw x 0x0F (pay3 d a b 0x0C)
  | .ld x r b w h o _ => opw x 0x10 (payMem r b w h o)
  | .lds x r b w h o _ => opw x 0x11 (payMem r b w h o)
  | .st x r b w h o => opw x 0x12 (payMem r b w h o)
  | .ldf x r b w h o _ => opw x 0x13 (payMem r b w h o)
  | .stf x r b w h o => opw x 0x14 (payMem r b w h o)
  | .swap x d b r w => opw x 0x15 (payAtom d b r w 0)
  | .atomicFadd x d b r w => opw x 0x15 (payAtom d b r w 1)
  | .cas x d b r w => opw x 0x15 (payAtom d b r w 2)
  | .strel x r b w => opw x 0x16 (payCmx r.toNat b.toNat w.toNat 0)
  | .dci x b => opw x 0x16 (payCmx 0 b.toNat 0 1)
  | .ici x b => opw x 0x16 (payCmx 0 b.toNat 0 2)
  | .dcf x b => opw x 0x16 (payCmx 0 b.toNat 0 3)
  | .dcfi x b => opw x 0x16 (payCmx 0 b.toNat 0 4)
  | .dzl x b => opw x 0x16 (payCmx 0 b.toNat 0 5)
  | .dcia x => opw x 0x16 (payCmx 0 0 0 6)
  | .icia x => opw x 0x16 (payCmx 0 0 0 7)
  | .submit x d a t => opw x 0x17 (d.toNat * 2 ^ 18 + a.toNat * 2 ^ 12 + t.toNat * 2 ^ 8)
  | .fadd x d a b m => opw x 0x18 (payFop d a b.toNat m 0x00)
  | .fsub x d a b m => opw x 0x18 (payFop d a b.toNat m 0x01)
  | .fmul x d a b m => opw x 0x18 (payFop d a b.toNat m 0x02)
  | .fmin x d a b m => opw x 0x18 (payFop d a b.toNat m 0x03)
  | .fmax x d a b m => opw x 0x18 (payFop d a b.toNat m 0x04)
  | .fabs x d a m => opw x 0x18 (payFop d a 0 m 0x05)
  | .fneg x d a m => opw x 0x18 (payFop d a 0 m 0x06)
  | .fcps x d a b m => opw x 0x18 (payFop d a b.toNat m 0x07)
  | .fcvt x d a sf m => opw x 0x18 (payFop d a sf.toNat m 0x08)
  | .dqua x d a b m => opw x 0x18 (payFop d a b.toNat m 0x09)
  | .frint x d a m => opw x 0x18 (payFop d a 0 m 0x0A)
  | .fma x d a b c m => opw x 0x19 (payFma d a b c m 0)
  | .fms x d a b c m => opw x 0x19 (payFma d a b c m 1)
  | .fnma x d a b c m => opw x 0x19 (payFma d a b c m 2)
  | .fnms x d a b c m => opw x 0x19 (payFma d a b c m 3)
  | .fmvg x g f => opw x 0x1A (payFx g f 0 0x0)
  | .fmvgh x g f => opw x 0x1A (payFx g f 0 0x1)
  | .gmvf x g f => opw x 0x1A (payFx g f 0 0x2)
  | .gmvfh x g f => opw x 0x1A (payFx g f 0 0x3)
  | .fcvtG x g f m => opw x 0x1A (payFx g f m.toNat 0x4)
  | .fcvtzG x g f m => opw x 0x1A (payFx g f m.toNat 0x5)
  | .fcvtF x g f m => opw x 0x1A (payFx g f m.toNat 0x6)
  | .fcvtuF x g f m => opw x 0x1A (payFx g f m.toNat 0x7)
  | .fcmpEq x p a b m => opw x 0x1B (payFcmp p m a b 0x0)
  | .fcmpLt x p a b m => opw x 0x1B (payFcmp p m a b 0x1)
  | .fcmpLe x p a b m => opw x 0x1B (payFcmp p m a b 0x2)
  | .fcmpUn x p a b m => opw x 0x1B (payFcmp p m a b 0x3)
  | .fcmpLtq x p a b m => opw x 0x1B (payFcmp p m a b 0x4)
  | .fcmpLeq x p a b m => opw x 0x1B (payFcmp p m a b 0x5)
  | .fcmpEqs x p a b m => opw x 0x1B (payFcmp p m a b 0x6)
  | .tlfl x d a b _ => opw x 0x1C (payTbl d a b 0)
  | .tlin x d a b _ => opw x 0x1C (payTbl d a b 1)
  | .tllg x d a b _ => opw x 0x1C (payTbl d a b 2)
  | .fdivP x q r d m => opw x 0x1D (payStep q r d m 0x0)
  | .fdstep x q r d m => opw x 0x1D (payStep q r d m 0x1)
  | .fdfin x q r d m => opw x 0x1D (payStep q r d m 0x2)
  | .fsqrtP x q r d m => opw x 0x1D (payStep q r d m 0x3)
  | .frstep x q r d m => opw x 0x1D (payStep q r d m 0x4)
  | .frfin x q r d m => opw x 0x1D (payStep q r d m 0x5)
  | .xdivP x q r d m => opw x 0x1D (payStep q r d m 0x8)
  | .xdstep x q r d m => opw x 0x1D (payStep q r d m 0x9)
  | .xdfin x q r d m => opw x 0x1D (payStep q r d m 0xA)
  | _ => 0

/-- The slots that accept a major opcode (R31, R77). -/
def majSlots (maj : Nat) : List Nat :=
  match maj with
  | 0x01 | 0x02 | 0x03 | 0x04 | 0x05 => [0]
  | 0x06 | 0x07 | 0x08 | 0x09 | 0x0A | 0x0B | 0x0C | 0x0D | 0x0E => [0, 1, 3]
  | 0x0F => [1]
  | 0x10 | 0x11 | 0x12 | 0x13 | 0x14 | 0x15 | 0x16 | 0x17 => [2]
  | 0x18 | 0x19 | 0x1A | 0x1B | 0x1C => [3]
  | 0x1D => [1]
  | _ => []

/-- Whether a CREG field names a register or a bank that is not there (R110, R111). -/
def cregBad (creg : Nat) : Bool :=
  let r := creg % 64
  let b := creg / 64
  decide (0x0B < r) || (decide (b ≠ 0) && !(decide (2 ≤ r ∧ r ≤ 7) || decide (r = 0x0B)))
    || (decide (b = 1) && decide (2 ≤ r ∧ r ≤ 5))

/-- Whether a payload is reserved for its major (R79 with the tables of R83 to R103, R116). -/
def payReserved (maj p : Nat) : Bool :=
  let z := fun (hi lo : Nat) => decide (bits p hi lo ≠ 0)
  match maj with
  | 0x01 =>
    let m := bits p 5 0
    if m = 0 ∨ (3 ≤ m ∧ m ≤ 7) then z 23 6
    else if m = 1 ∨ m = 2 then false
    else if m = 8 ∨ m = 9 then z 9 6 || cregBad (bits p 17 10)
    else if m = 0xA ∨ m = 0xB then z 17 14 || z 9 6
    else true
  | 0x02 =>
    if bit p 23 then z 22 7 || decide (bits p 6 0 = 0) || decide (64 < bits p 6 0)
    else z 22 16 || decide (bits p 15 0 = 0)
  | 0x05 =>
    let m := bits p 3 0
    z 23 18 || z 11 4 || (if m = 2 then z 17 12 else decide (2 < m))
  | 0x06 =>
    let m := bits p 5 0
    decide (0x15 < m) || (decide (0x10 ≤ m) && z 11 6)
  | 0x08 => decide (bits p 11 10 = 3)
  | 0x09 => z 9 6
  | 0x0A =>
    let m := bits p 5 0
    z 20 18 || (decide (6 < m) && (decide (m < 0x10) || decide (0x13 < m)))
      || (decide (0x10 ≤ m) && (z 17 15 || z 11 9))
  | 0x0E => z 23 16
  | 0x0F =>
    let m := bits p 5 0
    (decide (3 < m) && decide (m < 8)) || decide (0xC < m)
      || (decide (8 ≤ m) && decide (m ≤ 0xB) && decide (bits p 23 18 = bits p 17 12))
  | 0x10 => decide (3 < bits p 11 9)
  | 0x11 => decide (2 < bits p 11 9)
  | 0x12 => decide (3 < bits p 11 9)
  | 0x13 | 0x14 => decide (bits p 11 9 < 2) || decide (4 < bits p 11 9) || bit p 23
  | 0x15 => decide (bits p 5 4 < 2) || decide (2 < bits p 3 0)
  | 0x16 =>
    let m := bits p 3 0
    z 8 4 || decide (7 < m) || (if m = 0 then decide (3 < bits p 11 9) else z 23 18 || z 11 9)
      || (decide (6 ≤ m) && z 17 12)
  | 0x17 => z 7 0
  | 0x18 =>
    let m := bits p 5 0
    let dec := bit p 8
    bit p 6 || decide (0xA < m) || ((m = 5 || m = 6 || m = 0xA) && z 13 9)
      || (decide (m = 8) && (z 13 11 || decide (bits p 10 9 = bits p 8 7)))
      || (decide (m = 9) && !dec)
  | 0x19 => bit p 3
  | 0x1A =>
    let m := bits p 3 0
    z 10 4 || decide (7 < m) || (decide (m < 4) && z 12 11)
  | 0x1B => bit p 20 || z 7 4 || decide (6 < bits p 3 0)
  | 0x1C => z 8 2 || decide (bits p 1 0 = 3)
  | 0x1D =>
    let m := bits p 3 0
    z 6 4 || decide (bits p 23 19 = bits p 18 14)
      || (if m ≤ 5 then bit p 8 else if 8 ≤ m ∧ m ≤ 0xA then !bit p 8 else true)
  | _ => false

/-- Whether an operation word is a reserved encoding in a slot, whatever its guard (R79, R80). -/
def opReserved (slot : Nat) (w : OpWord) : Bool :=
  let v := w.toNat
  let maj := bits v 28 24
  let p := bits v 23 0
  !((majSlots maj).contains slot || (decide (maj = 1) && decide (bits p 5 0 = 0))) || payReserved maj p

/-- The operations a repeated bundle must not hold: `hold` says whether the repeat is a REPN (R71). -/
def repForbidden (hold : Bool) (w : OpWord) : Bool :=
  let v := w.toNat
  let maj := bits v 28 24
  let m := bits v 5 0
  decide (2 ≤ maj ∧ maj ≤ 5) || (decide (maj = 1) && (decide (1 ≤ m ∧ m ≤ 3) || (hold && decide (m = 0xB))))

/-- The four words of a bundle, slot 0 first (R74). -/
def bundleWords (bs : List Byte) : List OpWord :=
  [bs.take 4, (bs.drop 4).take 4, (bs.drop 8).take 4, (bs.drop 12).take 4].map fun b => BitVec.ofNat 32 (ofBytes b)

/-- The first slot from `i` up whose word satisfies a check. -/
def firstSlot (p : Nat → OpWord → Bool) : Nat → List OpWord → Option (Nat × OpWord)
  | _, [] => none
  | i, w :: ws => if p i w then some (i, w) else firstSlot p (i + 1) ws

/-- A field of an operation word: `n` bits from bit `lo` up. -/
def wordField (w : OpWord) (n lo : Nat) : BitVec n := w.extractLsb' lo n

/-- The operation that a word spells in a slot of a core's bundle, none where the word is a reserved encoding there (R74 to
R107, R116); `ch` are the errors chance lays on it. -/
def decodeOp (core slot : Nat) (ch : Chance) (w : OpWord) : Option Instr :=
  let f := wordField w
  let x : Slot := { core := core, slot := slot, guard := f 3 29 }
  if opReserved slot w then none
  else match (f 5 24).toNat with
  | 0x01 => match (f 6 0).toNat with
    | 0x0 => some (.nop x)
    | 0x1 => some (.syscall x (f 18 6))
    | 0x2 => some (.mgrcall x (f 18 6))
    | 0x3 => some (.iret x)
    | 0x4 => some (.fenceS x)
    | 0x5 => some (.fenceF x)
    | 0x6 => some (.gath x)
    | 0x7 => some (.wfe x)
    | 0x8 => some (.crd x (f 6 18) (f 8 10))
    | 0x9 => some (if f 8 10 = 9 then .cctlWrite x (f 6 18) else .cwr x (f 8 10) (f 6 18))
    | 0xA => some (.trd x (f 6 18) (f 4 10))
    | 0xB => some (.twait x (f 6 18) (f 4 10))
    | _ => none
  | 0x02 => match (f 1 23).toNat with
    | 0x0 => some (.repi x (f 16 0))
    | 0x1 => some (.repn x (f 7 0))
    | _ => none
  | 0x03 => match (f 1 20).toNat with
    | 0x1 => some (.bt x (f 3 21) (f 20 0))
    | 0x0 => some (.bf x (f 3 21) (f 20 0))
    | _ => none
  | 0x04 => some (.call x (f 24 0))
  | 0x05 => match (f 4 0).toNat with
    | 0x0 => some (.bri x (f 6 12))
    | 0x1 => some (.calli x (f 6 12))
    | 0x2 => some (.ret x)
    | _ => none
  | 0x06 => match (f 6 0).toNat with
    | 0x0 => some (.add x (f 6 18) (f 6 12) (f 6 6))
    | 0x1 => some (.sub x (f 6 18) (f 6 12) (f 6 6))
    | 0x2 => some (.addv x (f 6 18) (f 6 12) (f 6 6))
    | 0x3 => some (.subv x (f 6 18) (f 6 12) (f 6 6))
    | 0x4 => some (.and x (f 6 18) (f 6 12) (f 6 6))
    | 0x5 => some (.or x (f 6 18) (f 6 12) (f 6 6))
    | 0x6 => some (.xor x (f 6 18) (f 6 12) (f 6 6))
    | 0x7 => some (.andn x (f 6 18) (f 6 12) (f 6 6))
    | 0x8 => some (.shl x (f 6 18) (f 6 12) (f 6 6))
    | 0x9 => some (.shr x (f 6 18) (f 6 12) (f 6 6))
    | 0xA => some (.sar x (f 6 18) (f 6 12) (f 6 6))
    | 0xB => some (.ror x (f 6 18) (f 6 12) (f 6 6))
    | 0xC => some (.min x (f 6 18) (f 6 12) (f 6 6))
    | 0xD => some (.max x (f 6 18) (f 6 12) (f 6 6))
    | 0xE => some (.minu x (f 6 18) (f 6 12) (f 6 6))
    | 0xF => some (.maxu x (f 6 18) (f 6 12) (f 6 6))
    | 0x10 => some (.neg x (f 6 18) (f 6 12))
    | 0x11 => some (.negv x (f 6 18) (f 6 12))
    | 0x12 => some (.clz x (f 6 18) (f 6 12))
    | 0x13 => some (.ctz x (f 6 18) (f 6 12))
    | 0x14 => some (.popc x (f 6 18) (f 6 12))
    | 0x15 => some (.bswap x (f 6 18) (f 6 12))
    | _ => none
  | 0x07 => some (.addi x (f 6 18) (f 6 12) (f 12 0))
  | 0x08 => match (f 2 10).toNat with
    | 0x0 => some (.andi x (f 6 18) (f 6 12) (f 10 0))
    | 0x1 => some (.ori x (f 6 18) (f 6 12) (f 10 0))
    | 0x2 => some (.xori x (f 6 18) (f 6 12) (f 10 0))
    | _ => none
  | 0x09 => match (f 2 10).toNat with
    | 0x0 => some (.shli x (f 6 18) (f 6 12) (f 6 0))
    | 0x1 => some (.shri x (f 6 18) (f 6 12) (f 6 0))
    | 0x2 => some (.sari x (f 6 18) (f 6 12) (f 6 0))
    | 0x3 => some (.rori x (f 6 18) (f 6 12) (f 6 0))
    | _ => none
  | 0x0A => match (f 6 0).toNat with
    | 0x0 => some (.cmpEq x (f 3 21) (f 6 12) (f 6 6))
    | 0x1 => some (.cmpNe x (f 3 21) (f 6 12) (f 6 6))
    | 0x2 => some (.cmpLt x (f 3 21) (f 6 12) (f 6 6))
    | 0x3 => some (.cmpLe x (f 3 21) (f 6 12) (f 6 6))
    | 0x4 => some (.cmpLtu x (f 3 21) (f 6 12) (f 6 6))
    | 0x5 => some (.cmpLeu x (f 3 21) (f 6 12) (f 6 6))
    | 0x6 => some (.tst x (f 3 21) (f 6 12) (f 6 6))
    | 0x10 => some (.pand x (f 3 21) (f 3 12) (f 3 6))
    | 0x11 => some (.por x (f 3 21) (f 3 12) (f 3 6))
    | 0x12 => some (.pxor x (f 3 21) (f 3 12) (f 3 6))
    | 0x13 => some (.pandn x (f 3 21) (f 3 12) (f 3 6))
    | _ => none
  | 0x0B => match (f 3 18).toNat with
    | 0x0 => some (.cmpiEq x (f 3 21) (f 6 12) (f 12 0))
    | 0x1 => some (.cmpiNe x (f 3 21) (f 6 12) (f 12 0))
    | 0x2 => some (.cmpiLt x (f 3 21) (f 6 12) (f 12 0))
    | 0x3 => some (.cmpiLe x (f 3 21) (f 6 12) (f 12 0))
    | 0x4 => some (.cmpiGt x (f 3 21) (f 6 12) (f 12 0))
    | 0x5 => some (.cmpiGe x (f 3 21) (f 6 12) (f 12 0))
    | 0x6 => some (.cmpiLtu x (f 3 21) (f 6 12) (f 12 0))
    | 0x7 => some (.cmpiGeu x (f 3 21) (f 6 12) (f 12 0))
    | _ => none
  | 0x0C => some (.movz x (f 6 18) (f 2 16) (f 16 0))
  | 0x0D => some (.movk x (f 6 18) (f 2 16) (f 16 0))
  | 0x0E => some (.spadd x (f 16 0))
  | 0x0F => match (f 6 0).toNat with
    | 0x0 => some (.mul x (f 6 18) (f 6 12) (f 6 6))
    | 0x1 => some (.mulh x (f 6 18) (f 6 12) (f 6 6))
    | 0x2 => some (.mulhu x (f 6 18) (f 6 12) (f 6 6))
    | 0x3 => some (.mulv x (f 6 18) (f 6 12) (f 6 6))
    | 0x8 => some (.divsP x (f 6 18) (f 6 12) (f 6 6))
    | 0x9 => some (.divuP x (f 6 18) (f 6 12) (f 6 6))
    | 0xA => some (.dstep x (f 6 18) (f 6 12) (f 6 6))
    | 0xB => some (.dfin x (f 6 18) (f 6 12) (f 6 6))
    | 0xC => some (.dnorm x (f 6 18) (f 6 12) (f 6 6))
    | _ => none
  | 0x10 => some (.ld x (f 6 18) (f 6 12) (f 3 9) (f 1 8) (f 8 0) ch)
  | 0x11 => some (.lds x (f 6 18) (f 6 12) (f 3 9) (f 1 8) (f 8 0) ch)
  | 0x12 => some (.st x (f 6 18) (f 6 12) (f 3 9) (f 1 8) (f 8 0))
  | 0x13 => some (.ldf x (f 6 18) (f 6 12) (f 3 9) (f 1 8) (f 8 0) ch)
  | 0x14 => some (.stf x (f 6 18) (f 6 12) (f 3 9) (f 1 8) (f 8 0))
  | 0x15 => match (f 4 0).toNat with
    | 0x0 => some (.swap x (f 6 18) (f 6 12) (f 6 6) (f 2 4))
    | 0x1 => some (.atomicFadd x (f 6 18) (f 6 12) (f 6 6) (f 2 4))
    | 0x2 => some (.cas x (f 6 18) (f 6 12) (f 6 6) (f 2 4))
    | _ => none
  | 0x16 => match (f 4 0).toNat with
    | 0x0 => some (.strel x (f 6 18) (f 6 12) (f 3 9))
    | 0x1 => some (.dci x (f 6 12))
    | 0x2 => some (.ici x (f 6 12))
    | 0x3 => some (.dcf x (f 6 12))
    | 0x4 => some (.dcfi x (f 6 12))
    | 0x5 => some (.dzl x (f 6 12))
    | 0x6 => some (.dcia x)
    | 0x7 => some (.icia x)
    | _ => none
  | 0x17 => some (.submit x (f 6 18) (f 6 12) (f 4 8))
  | 0x18 => match (f 6 0).toNat with
    | 0x0 => some (.fadd x (f 5 19) (f 5 14) (f 5 9) (f 2 7))
    | 0x1 => some (.fsub x (f 5 19) (f 5 14) (f 5 9) (f 2 7))
    | 0x2 => some (.fmul x (f 5 19) (f 5 14) (f 5 9) (f 2 7))
    | 0x3 => some (.fmin x (f 5 19) (f 5 14) (f 5 9) (f 2 7))
    | 0x4 => some (.fmax x (f 5 19) (f 5 14) (f 5 9) (f 2 7))
    | 0x5 => some (.fabs x (f 5 19) (f 5 14) (f 2 7))
    | 0x6 => some (.fneg x (f 5 19) (f 5 14) (f 2 7))
    | 0x7 => some (.fcps x (f 5 19) (f 5 14) (f 5 9) (f 2 7))
    | 0x8 => some (.fcvt x (f 5 19) (f 5 14) (f 2 9) (f 2 7))
    | 0x9 => some (.dqua x (f 5 19) (f 5 14) (f 5 9) (f 2 7))
    | 0xA => some (.frint x (f 5 19) (f 5 14) (f 2 7))
    | _ => none
  | 0x19 => match (f 2 0).toNat with
    | 0x0 => some (.fma x (f 5 19) (f 5 14) (f 5 9) (f 5 4) (f 2 2))
    | 0x1 => some (.fms x (f 5 19) (f 5 14) (f 5 9) (f 5 4) (f 2 2))
    | 0x2 => some (.fnma x (f 5 19) (f 5 14) (f 5 9) (f 5 4) (f 2 2))
    | 0x3 => some (.fnms x (f 5 19) (f 5 14) (f 5 9) (f 5 4) (f 2 2))
    | _ => none
  | 0x1A => match (f 4 0).toNat with
    | 0x0 => some (.fmvg x (f 6 18) (f 5 13))
    | 0x1 => some (.fmvgh x (f 6 18) (f 5 13))
    | 0x2 => some (.gmvf x (f 6 18) (f 5 13))
    | 0x3 => some (.gmvfh x (f 6 18) (f 5 13))
    | 0x4 => some (.fcvtG x (f 6 18) (f 5 13) (f 2 11))
    | 0x5 => some (.fcvtzG x (f 6 18) (f 5 13) (f 2 11))
    | 0x6 => some (.fcvtF x (f 6 18) (f 5 13) (f 2 11))
    | 0x7 => some (.fcvtuF x (f 6 18) (f 5 13) (f 2 11))
    | _ => none
  | 0x1B => match (f 4 0).toNat with
    | 0x0 => some (.fcmpEq x (f 3 21) (f 5 13) (f 5 8) (f 2 18))
    | 0x1 => some (.fcmpLt x (f 3 21) (f 5 13) (f 5 8) (f 2 18))
    | 0x2 => some (.fcmpLe x (f 3 21) (f 5 13) (f 5 8) (f 2 18))
    | 0x3 => some (.fcmpUn x (f 3 21) (f 5 13) (f 5 8) (f 2 18))
    | 0x4 => some (.fcmpLtq x (f 3 21) (f 5 13) (f 5 8) (f 2 18))
    | 0x5 => some (.fcmpLeq x (f 3 21) (f 5 13) (f 5 8) (f 2 18))
    | 0x6 => some (.fcmpEqs x (f 3 21) (f 5 13) (f 5 8) (f 2 18))
    | _ => none
  | 0x1C => match (f 2 0).toNat with
    | 0x0 => some (.tlfl x (f 5 19) (f 5 14) (f 5 9) ch)
    | 0x1 => some (.tlin x (f 5 19) (f 5 14) (f 5 9) ch)
    | 0x2 => some (.tllg x (f 5 19) (f 5 14) (f 5 9) ch)
    | _ => none
  | 0x1D => match (f 4 0).toNat with
    | 0x0 => some (.fdivP x (f 5 19) (f 5 14) (f 5 9) (f 2 7))
    | 0x1 => some (.fdstep x (f 5 19) (f 5 14) (f 5 9) (f 2 7))
    | 0x2 => some (.fdfin x (f 5 19) (f 5 14) (f 5 9) (f 2 7))
    | 0x3 => some (.fsqrtP x (f 5 19) (f 5 14) (f 5 9) (f 2 7))
    | 0x4 => some (.frstep x (f 5 19) (f 5 14) (f 5 9) (f 2 7))
    | 0x5 => some (.frfin x (f 5 19) (f 5 14) (f 5 9) (f 2 7))
    | 0x8 => some (.xdivP x (f 5 19) (f 5 14) (f 5 9) (f 2 7))
    | 0x9 => some (.xdstep x (f 5 19) (f 5 14) (f 5 9) (f 2 7))
    | 0xA => some (.xdfin x (f 5 19) (f 5 14) (f 5 9) (f 2 7))
    | _ => none
  | _ => none

end Sys2Proof
end

