-- ==== Sys2Proof/Machine/Crypto.lean ====
section
/-! DEFINITION. The algorithms of the cipher engines: AES (FIPS 197), GCM (SP 800-38D), XTS (IEEE 1619), CTR (SP 800-38A), CMAC (SP 800-38B), SHA-384 (FIPS 180-4) and HMAC (FIPS 198-1), on byte strings (11, R477). -/

namespace Sys2Proof.Machine

open Sys2Proof

/-- Bytes as numbers, for arithmetic. -/
def nats (bs : List Byte) : List Nat := bs.map BitVec.toNat
/-- Numbers as bytes. -/
def ofNats (l : List Nat) : List Byte := l.map (BitVec.ofNat 8)
/-- Exclusive or of two byte strings, as long as the shorter. -/
def xorBytes (a b : List Byte) : List Byte := List.zipWith (· ^^^ ·) a b
/-- A string extended with 0 bytes. -/
def padTo (n : Nat) (bs : List Byte) : List Byte := bs ++ List.replicate (n - bs.length) 0
/-- A string cut into blocks of `n` bytes, the last perhaps short; `k` blocks at most. -/
def chunks (n : Nat) : Nat → List Byte → List (List Byte)
  | 0, _ => []
  | k + 1, bs => if bs.isEmpty then [] else bs.take n :: chunks n k (bs.drop n)
/-- The blocks of 16 bytes of a string. -/
def blocks16 (bs : List Byte) : List (List Byte) := chunks 16 (bs.length / 16 + 1) bs

/-! ### AES -/

/-- Multiplication by x in GF(2^8). -/
def xtime (b : Nat) : Nat := (b * 2 % 256) ^^^ (if 128 ≤ b then 0x1B else 0)
/-- Multiplication in GF(2^8). -/
def gmul (a b : Nat) : Nat :=
  ((List.range 8).foldl (fun (x : Nat × Nat) i => (if b.testBit i then x.1 ^^^ x.2 else x.1, xtime x.2)) (0, a)).1
/-- The S-box: the inverse, then the affine map. -/
def sboxOf (b : Nat) : Nat :=
  let sq := fun x => gmul x x
  let inv := ((List.range 6).foldl (fun (x : Nat × Nat) _ => let y := sq x.2; (gmul x.1 y, y)) (sq b, sq b)).1
  let rot := fun (x n : Nat) => (x * 2 ^ n % 256) ||| (x / 2 ^ (8 - n))
  inv ^^^ rot inv 1 ^^^ rot inv 2 ^^^ rot inv 3 ^^^ rot inv 4 ^^^ 0x63
/-- The S-box as a table. -/
def sbox : Array Nat := ((List.range 256).map sboxOf).toArray
/-- The inverse S-box as a table. -/
def invSbox : Array Nat := ((List.range 256).map fun y => ((List.range 256).find? fun x => sbox.getD x 0 == y).getD 0).toArray

/-- Key expansion: the words of the round keys, from the last word back. -/
def expandStep (nk : Nat) (ws : List (List Nat)) (i : Nat) : List (List Nat) :=
  let at_ := fun (n : Nat) => (ws[n]?).getD [0, 0, 0, 0]
  let t := at_ 0
  let sub := fun (w : List Nat) => w.map fun b => sbox.getD b 0
  let rcon := (List.range (i / nk - 1)).foldl (fun c _ => xtime c) 1
  let t := if i % nk = 0 then List.zipWith (· ^^^ ·) (sub (t.drop 1 ++ t.take 1)) [rcon, 0, 0, 0]
    else if nk = 8 ∧ i % nk = 4 then sub t else t
  List.zipWith (· ^^^ ·) (at_ (nk - 1)) t :: ws
/-- The round keys of a key of 16 or 32 bytes, in order. -/
def roundKeys (key : List Byte) : List (List Nat) :=
  let nk := key.length / 4
  let k := nats key
  let first := ((List.range nk).map fun i => (k.drop (4 * i)).take 4).reverse
  let ws := ((rangeFrom nk (4 * (nk + 7) - nk)).foldl (expandStep nk) first).reverse
  (List.range (nk + 7)).map fun r => ((ws.drop (4 * r)).take 4).flatten
/-- Exclusive or of two states. -/
def addKey (a k : List Nat) : List Nat := List.zipWith (· ^^^ ·) a k
/-- ShiftRows by `n` places to the left for each row. -/
def shiftRows (n : Nat) (s : List Nat) : List Nat :=
  (List.range 16).map fun i => (s[i % 4 + 4 * ((i / 4 + n * (i % 4)) % 4)]?).getD 0
/-- MixColumns by a circulant of coefficients. -/
def mixWith (co : List Nat) (s : List Nat) : List Nat :=
  (List.range 16).map fun i =>
    (List.range 4).foldl (fun x j => x ^^^ gmul ((s[i / 4 * 4 + j]?).getD 0) ((co[(j + 4 - i % 4) % 4]?).getD 0)) 0
/-- The cipher on one block under round keys. -/
def aesRounds (ks : List (List Nat)) (b : List Byte) : List Byte :=
  let n := ks.length - 1
  let k := fun (i : Nat) => (ks[i]?).getD []
  let sub := fun (s : List Nat) => s.map fun b => sbox.getD b 0
  let mid := (rangeFrom 1 (n - 1)).foldl (fun s i => addKey (mixWith [2, 3, 1, 1] (shiftRows 1 (sub s))) (k i)) (addKey (nats b) (k 0))
  ofNats (addKey (shiftRows 1 (sub mid)) (k n))
/-- The inverse cipher on one block under round keys. -/
def aesInvRounds (ks : List (List Nat)) (b : List Byte) : List Byte :=
  let n := ks.length - 1
  let k := fun (i : Nat) => (ks[i]?).getD []
  let sub := fun (s : List Nat) => s.map fun b => invSbox.getD b 0
  let mid := (List.range (n - 1)).foldl (fun s i => mixWith [14, 11, 13, 9] (addKey (sub (shiftRows 3 s)) (k (n - 1 - i)))) (addKey (nats b) (k n))
  ofNats (addKey (sub (shiftRows 3 mid)) (k 0))
/-- AES encryption of one block. -/
def aes (key b : List Byte) : List Byte := aesRounds (roundKeys key) b

/-! ### Counter mode and GCM -/

/-- A big-endian number with 1 added modulo 2^n in its low `n` bits, as 16 bytes. -/
def incBytes (n : Nat) (b : List Byte) : List Byte :=
  let v := ofBytesBE b
  toBytesBE 16 (v / 2 ^ n * 2 ^ n + (v + 1) % 2 ^ n)
/-- Counter mode over blocks from a counter block; the counter has `n` bits. -/
def ctrBlocks (ks : List (List Nat)) (n : Nat) : List Byte → List (List Byte) → List Byte
  | _, [] => []
  | c, b :: bs => xorBytes b (aesRounds ks c) ++ ctrBlocks ks n (incBytes n c) bs
/-- CTR of SP 800-38A with a 128-bit counter block (R477). -/
def ctr (key iv bs : List Byte) : List Byte := ctrBlocks (roundKeys key) 128 iv (blocks16 bs)

/-- Multiplication in GF(2^128) of GCM; the most significant bit is the coefficient of 1. -/
def ghashMul (x y : Nat) : Nat :=
  ((List.range 128).foldl (fun (a : Nat × Nat) i =>
    (if x.testBit (127 - i) then a.1 ^^^ a.2 else a.1,
     if a.2 % 2 = 1 then a.2 / 2 ^^^ 0xE1 * 2 ^ 120 else a.2 / 2)) (0, y)).1
/-- GHASH of whole blocks. -/
def ghash (h : Nat) (bs : List (List Byte)) : Nat := bs.foldl (fun y b => ghashMul (y ^^^ ofBytesBE (padTo 16 b)) h) 0
/-- The tag of GCM over AAD and ciphertext. -/
def gcmTag (ks : List (List Nat)) (iv aad ct : List Byte) : List Byte :=
  let h := ofBytesBE (aesRounds ks (List.replicate 16 0))
  let y := ghash h (blocks16 aad ++ blocks16 ct ++ [toBytesBE 8 (8 * aad.length) ++ toBytesBE 8 (8 * ct.length)])
  xorBytes (toBytesBE 16 y) (aesRounds ks (iv ++ [0, 0, 0, 1]))
/-- Encryption or decryption of GCM's data. -/
def gcmData (ks : List (List Nat)) (iv bs : List Byte) : List Byte := ctrBlocks ks 32 (iv ++ [0, 0, 0, 2]) (blocks16 bs)

/-! ### XTS -/

/-- The tweak of the next block: multiplication by x (IEEE 1619). -/
def xtsNext (t : List Byte) : List Byte :=
  let v := ofBytes t * 2
  toBytes 16 (if v < 2 ^ 128 then v else v % 2 ^ 128 ^^^ 0x87)
/-- One block under a tweak. -/
def xtsBlock (f : List Byte → List Byte) (t b : List Byte) : List Byte := xorBytes (f (xorBytes b t)) t
/-- The blocks of a data unit, with ciphertext stealing for a last short one; `f` is the block cipher or its inverse and
`dec` says which. -/
def xtsBlocks (f : List Byte → List Byte) (dec : Bool) : List Byte → List (List Byte) → List Byte
  | _, [] => []
  | t, [b] => xtsBlock f t b
  | t, [b, l] =>
    if l.length = 16 then xtsBlock f t b ++ xtsBlock f (xtsNext t) l
    else
      let t1 := if dec then xtsNext t else t
      let t2 := if dec then t else xtsNext t
      let c := xtsBlock f t1 b
      xtsBlock f t2 (l ++ c.drop l.length) ++ c.take l.length
  | t, b :: bs => xtsBlock f t b ++ xtsBlocks f dec (xtsNext t) bs
/-- A data unit under Key1 and Key2 with its tweak. -/
def xtsUnit (k1 k2 : List Byte) (dec : Bool) (tweak : Nat) (bs : List Byte) : List Byte :=
  let ks := roundKeys k1
  xtsBlocks (if dec then aesInvRounds ks else aesRounds ks) dec (aes k2 (toBytes 16 (tweak % 2 ^ 128))) (blocks16 bs)
/-- Data units of `n` bytes each with tweaks T, T + 1, … (R499). -/
def xts (k1 k2 : List Byte) (dec : Bool) (tweak n : Nat) (bs : List Byte) : List Byte :=
  let us := chunks n (bs.length / n + 1) bs
  (List.zipWith (fun j u => xtsUnit k1 k2 dec (tweak + j) u) (List.range us.length) us).flatten

/-! ### CMAC -/

/-- Doubling of CMAC's subkeys. -/
def cmacDbl (b : List Byte) : List Byte :=
  let v := ofBytesBE b * 2
  toBytesBE 16 (if v < 2 ^ 128 then v else v % 2 ^ 128 ^^^ 0x87)
/-- CMAC (SP 800-38B). -/
def cmac (key bs : List Byte) : List Byte :=
  let ks := roundKeys key
  let k1 := cmacDbl (aesRounds ks (List.replicate 16 0))
  let n := (bs.length - 1) / 16
  let last := bs.drop (16 * n)
  let last := if last.length = 16 then xorBytes last k1 else xorBytes (padTo 16 (last ++ [0x80])) (cmacDbl k1)
  (blocks16 (bs.take (16 * n)) ++ [last]).foldl (fun y b => aesRounds ks (xorBytes y b)) (List.replicate 16 0)

/-! ### SHA-384 and HMAC -/

/-- The first `n` primes. -/
def primes (n : Nat) : List Nat :=
  ((rangeFrom 2 450).filter fun p => (rangeFrom 2 (p - 2)).all fun d => decide (p < d * d) || p % d != 0).take n
/-- The greatest number whose cube does not exceed `n`. -/
def icbrt (n : Nat) : Nat := (List.range 70).foldl (fun r i => let t := r + 2 ^ (69 - i); if t * t * t ≤ n then t else r) 0
/-- The round constants: fractions of the cube roots of the first eighty primes. -/
def sha512K : Array Nat := ((primes 80).map fun p => icbrt (p * 2 ^ 192) % 2 ^ 64).toArray
/-- SHA-384's first hash value: fractions of the square roots of the ninth to sixteenth primes. -/
def sha384H : List Nat := ((primes 16).drop 8).map fun p => Nat.sqrt (p * 2 ^ 128) % 2 ^ 64
/-- Rotation of a 64-bit word to the right. -/
def ror (x n : Nat) : Nat := x / 2 ^ n ||| x * 2 ^ (64 - n) % 2 ^ 64
/-- The message schedule, the latest word first. -/
def shaSchedule (block : List Byte) : List Nat :=
  let first := ((List.range 16).map fun i => ofBytesBE ((block.drop (8 * i)).take 8)).reverse
  (List.range 64).foldl (fun ws _ =>
    let at_ := fun (n : Nat) => (ws[n - 1]?).getD 0
    let s0 := ror (at_ 15) 1 ^^^ ror (at_ 15) 8 ^^^ at_ 15 / 2 ^ 7
    let s1 := ror (at_ 2) 19 ^^^ ror (at_ 2) 61 ^^^ at_ 2 / 2 ^ 6
    (at_ 16 + s0 + at_ 7 + s1) % 2 ^ 64 :: ws) first
/-- One round on (a … h). -/
def shaRound (x : List Nat) (k w : Nat) : List Nat :=
  match x with
  | [a, b, c, d, e, f, g, h] =>
    let t1 := h + (ror e 14 ^^^ ror e 18 ^^^ ror e 41) + ((e &&& f) ^^^ ((2 ^ 64 - 1 - e) &&& g)) + k + w
    let t2 := (ror a 28 ^^^ ror a 34 ^^^ ror a 39) + ((a &&& b) ^^^ (a &&& c) ^^^ (b &&& c))
    [(t1 + t2) % 2 ^ 64, a, b, c, (d + t1) % 2 ^ 64, e, f, g]
  | _ => x
/-- The compression of one block of 128 bytes. -/
def shaBlock (h : List Nat) (block : List Byte) : List Nat :=
  let ws := (shaSchedule block).reverse
  let r := (List.zip ws sha512K.toList).foldl (fun x wk => shaRound x wk.2 wk.1) h
  List.zipWith (fun a b => (a + b) % 2 ^ 64) h r
/-- SHA-384 of a string. -/
def sha384 (bs : List Byte) : List Byte :=
  let p := bs ++ [0x80]
  let p := p ++ List.replicate ((112 + 128 - p.length % 128) % 128) 0 ++ toBytesBE 16 (8 * bs.length)
  (((chunks 128 (p.length / 128 + 1) p).foldl shaBlock sha384H).flatMap (toBytesBE 8)).take 48
/-- HMAC-SHA-384 under a key of at most one block. -/
def hmac384 (key bs : List Byte) : List Byte :=
  let k := padTo 128 key
  let pad := fun (b : Byte) => k.map (· ^^^ b)
  sha384 (pad 0x5C ++ sha384 (pad 0x36 ++ bs))

end Sys2Proof.Machine
end

