-- ==== Sys2Proof/Config.lean ====
section
/-! DEFINITION. Free values: constants without a body, standing for what the manual leaves open. Nothing can be proved about the value of any of them. -/

namespace Sys2Proof.Config

/-- The payload of a NaN converted to a format in which its payload does not fit, by the operand's bits
(03, R139 states it for binary64 to binary32 only). Log entry 20. -/
opaque freeNaNPayload : Nat → Nat

/-- The way an L1 cache replaces, as a function of the free-value counter (log entry 5). -/
opaque freeL1Way : Nat → Nat

/-- Where the controller places a granule in its channel: rank, bank, row and column of MC_ECCADDR as one number
of 40 bits [62:22], from the channel and the local granule index (R314, log entry 6). -/
opaque dramPlace : Nat → Nat → Nat

/-- FC_XFSTAT.LEVEL of a translation fault that no walk level found (ATTR and SPLITKIND, R170), as a function of
the free-value counter (log entry 7). -/
opaque freeFaultLevel : Nat → Nat

/-- The result of a table instruction whose extrapolation trap is displaced by another exception (R61, R155: no
untrapped result is stated), as a function of the free-value counter (log entry 8). -/
opaque freeTableDefault : Nat → Wide

/-- The bytes of a line that only another module holds, as a function of the line and the free-value counter (log entry
92). -/
opaque abroadLine : Nat → Nat → BitVec 512

/-- A field the spec gives no value, as a function of the free-value counter (log entry 11). -/
opaque freeNat : Nat → Nat

/-- The matches a version of the compression microcode finds for a unit after its history, at a level: literals (0, byte)
and matches (length, distance) (R451, R466, log entry 12). -/
opaque freeMatches (ucv level : Nat) (hist unit : List Byte) : List (Nat × Nat)

/-- The block with dynamic Huffman codes it writes for them, BFINAL included, in the order of the stream's bits (R451,
log entry 12). -/
opaque freeDynamicBlock (ucv level : Nat) (tokens : List (Nat × Nat)) (final : Bool) : List Bool

/-! ### The standards' own algorithms, and what is fixed at fabrication (14, log entry 13) -/

/-- The ECDSA P-384 public key of a private key, uncompressed (FIPS 186-5). -/
opaque ecdsaPublic : Nat → List Byte
/-- The deterministic ECDSA P-384 signature with SHA-384 of a message: r, then s (RFC 6979). -/
opaque ecdsaSign : Nat → List Byte → List Byte
/-- Whether an ECDSA P-384 signature of a message verifies under a public key. -/
opaque ecdsaVerify : (key sig message : List Byte) → Bool
/-- The ML-DSA-87 public key of a private key (FIPS 204). -/
opaque mldsaPublic : Nat → List Byte
/-- The deterministic ML-DSA-87 signature of a message, empty context. -/
opaque mldsaSign : Nat → List Byte → List Byte
/-- Whether both signatures of an image's block verify against a Mertovan image key whose hash is in ROM (R599). -/
opaque imageSigned : List Byte → Bool
/-- Whether a factory message is signed with the factory key (R590): its words and bytes, and the signature. -/
opaque factorySigned : List Nat → List Byte → List Byte → Bool
/-- The transcript an SPDM response signs (SPDM 1.2), as a function of the free-value counter. -/
opaque spdmTranscript : Nat → List Byte
/-- The module serial number. -/
opaque serial : Nat
/-- The ROM version. -/
opaque romVersion : Nat
/-- The Shepherd firmware image in bank A as fabricated. -/
opaque factoryImage : List Byte
/-- The die stepping and the manufacturer identity of IDCODE (R646). -/
opaque stepping : Nat
/-- Mertovan's manufacturer identity. -/
opaque manufacturer : Nat

end Sys2Proof.Config
end

