-- ==== Sys2Proof/Machine/RegMap.lean ====
section
/-! DEFINITION. The control registers of the module: their places in the control space (00, R13), their fields and access codes (R16), the values a field lists (R17), which live registers are drafted (R24), and their reset values. One constructor per register of the spec's register tables; `i` and `j` are its instance numbers. -/

namespace Sys2Proof.Machine

/-- The control registers, by the spec's names; LEDGER is a ledger word (08, R386). -/
inductive Reg
  | mgCfgerrAddr
  | mgCfgerrData
  | fcXroot1
  | fcXinva1
  | fcXinvall1
  | fcXfstat
  | fcXroot2
  | fcXinva2
  | fcXinvall2
  | fcCtl
  | fcRepl
  | fcWaydis
  | fcWayflush
  | fcEcclog
  | fcHits
  | fcMisses
  | fcAllot
  | fcAllotD
  | fcClass
  | fcClassD
  | fcCommit
  | fcCnti
  | fcCntf
  | tcCtl
  | tcCtlD
  | tcCommit
  | tcRepl
  | tcWaydis
  | tcWayflush
  | tcEcclog
  | tcEbstat
  | tcHits
  | tcDeclines
  | tcAllot
  | tcAllotD
  | pxCfg
  | pxCfgD
  | pxStat
  | pxCtl
  | pxGathers
  | pxRollbacks
  | pxSpare
  | pxLog
  | pxLogpc
  | pxLogsigB
  | pxLogsigS
  | pxCommit
  | sxBankctl
  | sxBankstat
  | sxKeepwipe
  | sxEcclog
  | sxErrlog
  | mcCfg
  | mcScrub
  | mcScrubstat
  | mcCmd
  | mcSvcstat
  | mcEcclog
  | mcEccaddr
  | mcChstat
  | mcCecnt
  | chCtl
  | chPenbase
  | chPencmd
  | chPencmdstat
  | chPathcommit
  | chDraincfg
  | chDraincfgD
  | chDrainaddr
  | chDrainaddrD
  | chDraincommit
  | chDrainstat
  | chMsibad
  | chDrovstat
  | chDrovctl
  | chPathgrp
  | chPathgrpD
  | chPathpol
  | chPathpolD
  | chPathstat
  | chPengrp
  | chPev
  | chLcap
  | chLused
  | chPenstat
  | ledger
  | lkCfg
  | lkCfgD
  | lkStat
  | lkCtl
  | lkMargin
  | lkErrlog
  | lkErraddr
  | lkDreq
  | lkDwdata
  | lkDstat
  | lkDrdata
  | lkCorr
  | lkReplay
  | lkApt
  | lkFn
  | lkCommit
  | lkPstat
  | lkRoute
  | czCtl
  | czStat
  | czStoppart
  | czVerlog
  | czUnits
  | czRawunits
  | czVerfails
  | czInbytes
  | czOutbytes
  | cyCtl
  | cyStat
  | cyHard
  | cyForce
  | cyErrlog
  | cyJobs
  | cyBlocks
  | cyDummies
  | cyTagfails
  | cyLock
  | ptRes
  | ptCtl
  | ptCtlstat
  | ptTrcommit
  | ptCore
  | ptInfl
  | ptTrough
  | ptTroughD
  | ptTrstat
  | huRoot
  | huInv
  | huInvstat
  | huFstat
  | stPeriod
  | stPeriodD
  | stCommit
  | stStat
  | stCap
  | stShare
  | stShareD
  | stUse
  | evRoute
  | evStat
  | evSwraise
  | evThresh1
  | evEoi1
  | evLast1
  | evRaise
  | evThresh2
  | evEoi2
  | evLast2
  | evActive
  | shMbaddr
  | shMbgo
  | shMbstat
  | shLife
  | shBootseq
  | shRecstat
  | shTamper
  | shFwstat
  | shHealth
  | ftStat
  | ftCommit
  | ftMctarget
  | ftMclog
  | ftMcaddr
  | ftCtest
  | ftCtstat
  | ftThresh
  | ftWindow
  | ftThreshD
  | ftWindowD
  | ftCnt
  | pwStat
  | pwRaillog
  | pwTherm
  | pwAotime
  | pwFold
  | pwFlock
  | pwTemp
  | tnStat
  | tnUart
  | tnUarttx
  | tnUartrx
  | tnTrace
  | tnSynctime
  | tnSyncstat
  deriving DecidableEq, Repr

/-- Access codes of R16; a bit in no field is rsv. -/
inductive Acc | rw | ro | wo | w1c | rc
  deriving DecidableEq, Repr

/-- A field: its bits, its access code, and the ranges of values it lists (none: every value). -/
structure Field where
  hi : Nat
  lo : Nat
  acc : Acc
  lists : List (Nat × Nat)
  deriving DecidableEq, Repr

/-- A register's place (offset in the control space, count and stride of its two instance numbers) and whether
it is a drafted live register (R24). -/
structure Place where
  base : Nat
  n1 : Nat
  s1 : Nat
  n2 : Nat
  s2 : Nat
  drafted : Bool
  deriving DecidableEq, Repr

/-- Where each register lies. -/
def Reg.place : Reg → Place
  | .mgCfgerrAddr => ⟨0x00000100, 1, 0x0, 1, 0x0, false⟩
  | .mgCfgerrData => ⟨0x00000108, 1, 0x0, 1, 0x0, false⟩
  | .fcXroot1 => ⟨0x40800000, 24, 0x1000000, 9, 0x1000, false⟩
  | .fcXinva1 => ⟨0x40800008, 24, 0x1000000, 9, 0x1000, false⟩
  | .fcXinvall1 => ⟨0x40800010, 24, 0x1000000, 9, 0x1000, false⟩
  | .fcXfstat => ⟨0x40800018, 24, 0x1000000, 9, 0x1000, false⟩
  | .fcXroot2 => ⟨0x40900000, 24, 0x1000000, 9, 0x1000, false⟩
  | .fcXinva2 => ⟨0x40900008, 24, 0x1000000, 9, 0x1000, false⟩
  | .fcXinvall2 => ⟨0x40900010, 24, 0x1000000, 9, 0x1000, false⟩
  | .fcCtl => ⟨0x40000000, 24, 0x1000000, 1, 0x0, false⟩
  | .fcRepl => ⟨0x40000008, 24, 0x1000000, 1, 0x0, false⟩
  | .fcWaydis => ⟨0x40000010, 24, 0x1000000, 1, 0x0, false⟩
  | .fcWayflush => ⟨0x40000018, 24, 0x1000000, 1, 0x0, false⟩
  | .fcEcclog => ⟨0x40000020, 24, 0x1000000, 1, 0x0, false⟩
  | .fcHits => ⟨0x40000028, 24, 0x1000000, 1, 0x0, false⟩
  | .fcMisses => ⟨0x40000030, 24, 0x1000000, 1, 0x0, false⟩
  | .fcAllot => ⟨0x40000100, 24, 0x1000000, 16, 0x8, true⟩
  | .fcAllotD => ⟨0x40000180, 24, 0x1000000, 16, 0x8, false⟩
  | .fcClass => ⟨0x40000200, 24, 0x1000000, 1, 0x0, true⟩
  | .fcClassD => ⟨0x40000208, 24, 0x1000000, 1, 0x0, false⟩
  | .fcCommit => ⟨0x40000210, 24, 0x1000000, 1, 0x0, false⟩
  | .fcCnti => ⟨0x40001000, 24, 0x1000000, 9, 0x10, false⟩
  | .fcCntf => ⟨0x40001008, 24, 0x1000000, 9, 0x10, false⟩
  | .tcCtl => ⟨0x70000000, 4, 0x1000000, 1, 0x0, true⟩
  | .tcCtlD => ⟨0x70000008, 4, 0x1000000, 1, 0x0, false⟩
  | .tcCommit => ⟨0x70000010, 4, 0x1000000, 1, 0x0, false⟩
  | .tcRepl => ⟨0x70000018, 4, 0x1000000, 1, 0x0, false⟩
  | .tcWaydis => ⟨0x70000020, 4, 0x1000000, 1, 0x0, false⟩
  | .tcWayflush => ⟨0x70000028, 4, 0x1000000, 1, 0x0, false⟩
  | .tcEcclog => ⟨0x70000030, 4, 0x1000000, 1, 0x0, false⟩
  | .tcEbstat => ⟨0x70000038, 4, 0x1000000, 1, 0x0, false⟩
  | .tcHits => ⟨0x70000040, 4, 0x1000000, 1, 0x0, false⟩
  | .tcDeclines => ⟨0x70000048, 4, 0x1000000, 1, 0x0, false⟩
  | .tcAllot => ⟨0x70000400, 4, 0x1000000, 64, 0x8, true⟩
  | .tcAllotD => ⟨0x70000600, 4, 0x1000000, 64, 0x8, false⟩
  | .pxCfg => ⟨0x40100000, 24, 0x1000000, 4, 0x40, true⟩
  | .pxCfgD => ⟨0x40100008, 24, 0x1000000, 4, 0x40, false⟩
  | .pxStat => ⟨0x40100010, 24, 0x1000000, 4, 0x40, false⟩
  | .pxCtl => ⟨0x40100018, 24, 0x1000000, 4, 0x40, false⟩
  | .pxGathers => ⟨0x40100020, 24, 0x1000000, 4, 0x40, false⟩
  | .pxRollbacks => ⟨0x40100028, 24, 0x1000000, 4, 0x40, false⟩
  | .pxSpare => ⟨0x40100100, 24, 0x1000000, 1, 0x0, false⟩
  | .pxLog => ⟨0x40100108, 24, 0x1000000, 1, 0x0, false⟩
  | .pxLogpc => ⟨0x40100110, 24, 0x1000000, 1, 0x0, false⟩
  | .pxLogsigB => ⟨0x40100118, 24, 0x1000000, 1, 0x0, false⟩
  | .pxLogsigS => ⟨0x40100120, 24, 0x1000000, 1, 0x0, false⟩
  | .pxCommit => ⟨0x40100128, 24, 0x1000000, 1, 0x0, false⟩
  | .sxBankctl => ⟨0x60000000, 12, 0x1000000, 1, 0x0, false⟩
  | .sxBankstat => ⟨0x60000008, 12, 0x1000000, 1, 0x0, false⟩
  | .sxKeepwipe => ⟨0x60000010, 12, 0x1000000, 1, 0x0, false⟩
  | .sxEcclog => ⟨0x60000018, 12, 0x1000000, 1, 0x0, false⟩
  | .sxErrlog => ⟨0x60000020, 12, 0x1000000, 1, 0x0, false⟩
  | .mcCfg => ⟨0x08000000, 1, 0x0, 1, 0x0, false⟩
  | .mcScrub => ⟨0x08000008, 1, 0x0, 1, 0x0, false⟩
  | .mcScrubstat => ⟨0x08000010, 1, 0x0, 1, 0x0, false⟩
  | .mcCmd => ⟨0x08000018, 1, 0x0, 1, 0x0, false⟩
  | .mcSvcstat => ⟨0x08000020, 1, 0x0, 1, 0x0, false⟩
  | .mcEcclog => ⟨0x08000028, 1, 0x0, 1, 0x0, false⟩
  | .mcEccaddr => ⟨0x08000030, 1, 0x0, 1, 0x0, false⟩
  | .mcChstat => ⟨0x08000100, 20, 0x8, 1, 0x0, false⟩
  | .mcCecnt => ⟨0x08000200, 20, 0x8, 1, 0x0, false⟩
  | .chCtl => ⟨0x20000000, 1, 0x0, 1, 0x0, false⟩
  | .chPenbase => ⟨0x20000008, 1, 0x0, 1, 0x0, false⟩
  | .chPencmd => ⟨0x20000010, 1, 0x0, 1, 0x0, false⟩
  | .chPencmdstat => ⟨0x20000018, 1, 0x0, 1, 0x0, false⟩
  | .chPathcommit => ⟨0x20000020, 1, 0x0, 1, 0x0, false⟩
  | .chDraincfg => ⟨0x20000028, 1, 0x0, 1, 0x0, true⟩
  | .chDraincfgD => ⟨0x20000030, 1, 0x0, 1, 0x0, false⟩
  | .chDrainaddr => ⟨0x20000038, 1, 0x0, 1, 0x0, true⟩
  | .chDrainaddrD => ⟨0x20000040, 1, 0x0, 1, 0x0, false⟩
  | .chDraincommit => ⟨0x20000048, 1, 0x0, 1, 0x0, false⟩
  | .chDrainstat => ⟨0x20000050, 1, 0x0, 1, 0x0, false⟩
  | .chMsibad => ⟨0x20000058, 1, 0x0, 1, 0x0, false⟩
  | .chDrovstat => ⟨0x20001000, 32, 0x8, 1, 0x0, false⟩
  | .chDrovctl => ⟨0x20001100, 32, 0x8, 1, 0x0, false⟩
  | .chPathgrp => ⟨0x20002000, 256, 0x8, 1, 0x0, true⟩
  | .chPathgrpD => ⟨0x20002800, 256, 0x8, 1, 0x0, false⟩
  | .chPathpol => ⟨0x20003000, 256, 0x8, 1, 0x0, true⟩
  | .chPathpolD => ⟨0x20003800, 256, 0x8, 1, 0x0, false⟩
  | .chPathstat => ⟨0x20004000, 256, 0x8, 1, 0x0, false⟩
  | .chPengrp => ⟨0x20008000, 1024, 0x8, 1, 0x0, false⟩
  | .chPev => ⟨0x2000A000, 1024, 0x8, 1, 0x0, false⟩
  | .chLcap => ⟨0x20010000, 2047, 0x8, 1, 0x0, false⟩
  | .chLused => ⟨0x20014000, 2047, 0x8, 1, 0x0, false⟩
  | .chPenstat => ⟨0x20100000, 65536, 0x8, 1, 0x0, false⟩
  | .ledger => ⟨0x20800000, 65536, 0x80, 16, 0x8, false⟩
  | .lkCfg => ⟨0x10000000, 128, 0x10000, 1, 0x0, true⟩
  | .lkCfgD => ⟨0x10000008, 128, 0x10000, 1, 0x0, false⟩
  | .lkStat => ⟨0x10000010, 128, 0x10000, 1, 0x0, false⟩
  | .lkCtl => ⟨0x10000018, 128, 0x10000, 1, 0x0, false⟩
  | .lkMargin => ⟨0x10000020, 128, 0x10000, 1, 0x0, false⟩
  | .lkErrlog => ⟨0x10000028, 128, 0x10000, 1, 0x0, false⟩
  | .lkErraddr => ⟨0x10000030, 128, 0x10000, 1, 0x0, false⟩
  | .lkDreq => ⟨0x10000038, 128, 0x10000, 1, 0x0, false⟩
  | .lkDwdata => ⟨0x10000040, 128, 0x10000, 1, 0x0, false⟩
  | .lkDstat => ⟨0x10000048, 128, 0x10000, 1, 0x0, false⟩
  | .lkDrdata => ⟨0x10000050, 128, 0x10000, 1, 0x0, false⟩
  | .lkCorr => ⟨0x10000058, 128, 0x10000, 1, 0x0, false⟩
  | .lkReplay => ⟨0x10000060, 128, 0x10000, 1, 0x0, false⟩
  | .lkApt => ⟨0x10000100, 128, 0x10000, 4, 0x8, false⟩
  | .lkFn => ⟨0x10001000, 128, 0x10000, 256, 0x8, false⟩
  | .lkCommit => ⟨0x10008000, 1, 0x0, 1, 0x0, false⟩
  | .lkPstat => ⟨0x10008008, 1, 0x0, 1, 0x0, false⟩
  | .lkRoute => ⟨0x10008010, 8, 0x8, 1, 0x0, false⟩
  | .czCtl => ⟨0x60200000, 12, 0x1000000, 1, 0x0, false⟩
  | .czStat => ⟨0x60200008, 12, 0x1000000, 1, 0x0, false⟩
  | .czStoppart => ⟨0x60200010, 12, 0x1000000, 1, 0x0, false⟩
  | .czVerlog => ⟨0x60200018, 12, 0x1000000, 1, 0x0, false⟩
  | .czUnits => ⟨0x60200020, 12, 0x1000000, 1, 0x0, false⟩
  | .czRawunits => ⟨0x60200028, 12, 0x1000000, 1, 0x0, false⟩
  | .czVerfails => ⟨0x60200030, 12, 0x1000000, 1, 0x0, false⟩
  | .czInbytes => ⟨0x60200038, 12, 0x1000000, 1, 0x0, false⟩
  | .czOutbytes => ⟨0x60200040, 12, 0x1000000, 1, 0x0, false⟩
  | .cyCtl => ⟨0x60100000, 12, 0x1000000, 1, 0x0, false⟩
  | .cyStat => ⟨0x60100008, 12, 0x1000000, 1, 0x0, false⟩
  | .cyHard => ⟨0x60100010, 12, 0x1000000, 1, 0x0, false⟩
  | .cyForce => ⟨0x60100018, 12, 0x1000000, 1, 0x0, false⟩
  | .cyErrlog => ⟨0x60100020, 12, 0x1000000, 1, 0x0, false⟩
  | .cyJobs => ⟨0x60100028, 12, 0x1000000, 1, 0x0, false⟩
  | .cyBlocks => ⟨0x60100030, 12, 0x1000000, 1, 0x0, false⟩
  | .cyDummies => ⟨0x60100038, 12, 0x1000000, 1, 0x0, false⟩
  | .cyTagfails => ⟨0x60100040, 12, 0x1000000, 1, 0x0, false⟩
  | .cyLock => ⟨0x60101000, 12, 0x1000000, 1, 0x0, false⟩
  | .ptRes => ⟨0x04000000, 257, 0x8, 1, 0x0, false⟩
  | .ptCtl => ⟨0x04001000, 1, 0x0, 1, 0x0, false⟩
  | .ptCtlstat => ⟨0x04001008, 1, 0x0, 1, 0x0, false⟩
  | .ptTrcommit => ⟨0x04001010, 1, 0x0, 1, 0x0, false⟩
  | .ptCore => ⟨0x04002000, 216, 0x8, 1, 0x0, false⟩
  | .ptInfl => ⟨0x04003000, 257, 0x8, 1, 0x0, false⟩
  | .ptTrough => ⟨0x04010000, 8192, 0x8, 1, 0x0, true⟩
  | .ptTroughD => ⟨0x04020000, 8192, 0x8, 1, 0x0, false⟩
  | .ptTrstat => ⟨0x04030000, 8192, 0x8, 1, 0x0, false⟩
  | .huRoot => ⟨0x04400000, 257, 0x8, 1, 0x0, false⟩
  | .huInv => ⟨0x04401000, 1, 0x0, 1, 0x0, false⟩
  | .huInvstat => ⟨0x04401008, 1, 0x0, 1, 0x0, false⟩
  | .huFstat => ⟨0x04402000, 216, 0x8, 1, 0x0, false⟩
  | .stPeriod => ⟨0x04800000, 1, 0x0, 1, 0x0, true⟩
  | .stPeriodD => ⟨0x04800008, 1, 0x0, 1, 0x0, false⟩
  | .stCommit => ⟨0x04800010, 1, 0x0, 1, 0x0, false⟩
  | .stStat => ⟨0x04800018, 1, 0x0, 1, 0x0, false⟩
  | .stCap => ⟨0x04801000, 192, 0x8, 1, 0x0, false⟩
  | .stShare => ⟨0x04900000, 192, 0x1000, 257, 0x8, true⟩
  | .stShareD => ⟨0x04A00000, 192, 0x1000, 257, 0x8, false⟩
  | .stUse => ⟨0x04B00000, 192, 0x1000, 257, 0x8, false⟩
  | .evRoute => ⟨0x03000000, 2048, 0x8, 1, 0x0, false⟩
  | .evStat => ⟨0x03004000, 2048, 0x8, 1, 0x0, false⟩
  | .evSwraise => ⟨0x03008000, 1, 0x0, 1, 0x0, false⟩
  | .evThresh1 => ⟨0x03100000, 216, 0x1000, 1, 0x0, false⟩
  | .evEoi1 => ⟨0x03100008, 216, 0x1000, 1, 0x0, false⟩
  | .evLast1 => ⟨0x03100010, 216, 0x1000, 1, 0x0, false⟩
  | .evRaise => ⟨0x03100018, 216, 0x1000, 1, 0x0, false⟩
  | .evThresh2 => ⟨0x03200000, 216, 0x1000, 1, 0x0, false⟩
  | .evEoi2 => ⟨0x03200008, 216, 0x1000, 1, 0x0, false⟩
  | .evLast2 => ⟨0x03200010, 216, 0x1000, 1, 0x0, false⟩
  | .evActive => ⟨0x03200018, 216, 0x1000, 1, 0x0, false⟩
  | .shMbaddr => ⟨0x02000000, 1, 0x0, 1, 0x0, false⟩
  | .shMbgo => ⟨0x02000008, 1, 0x0, 1, 0x0, false⟩
  | .shMbstat => ⟨0x02000010, 1, 0x0, 1, 0x0, false⟩
  | .shLife => ⟨0x02000018, 1, 0x0, 1, 0x0, false⟩
  | .shBootseq => ⟨0x02000020, 1, 0x0, 1, 0x0, false⟩
  | .shRecstat => ⟨0x02000028, 1, 0x0, 1, 0x0, false⟩
  | .shTamper => ⟨0x02000030, 1, 0x0, 1, 0x0, false⟩
  | .shFwstat => ⟨0x02000038, 1, 0x0, 1, 0x0, false⟩
  | .shHealth => ⟨0x02000040, 1, 0x0, 1, 0x0, false⟩
  | .ftStat => ⟨0x05000000, 1, 0x0, 1, 0x0, false⟩
  | .ftCommit => ⟨0x05000008, 1, 0x0, 1, 0x0, false⟩
  | .ftMctarget => ⟨0x05000010, 1, 0x0, 1, 0x0, false⟩
  | .ftMclog => ⟨0x05000018, 1, 0x0, 1, 0x0, false⟩
  | .ftMcaddr => ⟨0x05000020, 1, 0x0, 1, 0x0, false⟩
  | .ftCtest => ⟨0x05000028, 1, 0x0, 1, 0x0, false⟩
  | .ftCtstat => ⟨0x05000030, 1, 0x0, 1, 0x0, false⟩
  | .ftThresh => ⟨0x05001000, 17, 0x10, 1, 0x0, true⟩
  | .ftWindow => ⟨0x05001008, 17, 0x10, 1, 0x0, true⟩
  | .ftThreshD => ⟨0x05002000, 17, 0x10, 1, 0x0, false⟩
  | .ftWindowD => ⟨0x05002008, 17, 0x10, 1, 0x0, false⟩
  | .ftCnt => ⟨0x05100000, 17, 0x10000, 3200, 0x8, false⟩
  | .pwStat => ⟨0x01000000, 1, 0x0, 1, 0x0, false⟩
  | .pwRaillog => ⟨0x01000008, 1, 0x0, 1, 0x0, false⟩
  | .pwTherm => ⟨0x01000010, 1, 0x0, 1, 0x0, false⟩
  | .pwAotime => ⟨0x01000018, 1, 0x0, 1, 0x0, false⟩
  | .pwFold => ⟨0x01000100, 24, 0x8, 1, 0x0, false⟩
  | .pwFlock => ⟨0x01000200, 12, 0x8, 1, 0x0, false⟩
  | .pwTemp => ⟨0x01000300, 44, 0x8, 1, 0x0, false⟩
  | .tnStat => ⟨0x01100000, 1, 0x0, 1, 0x0, false⟩
  | .tnUart => ⟨0x01100008, 1, 0x0, 1, 0x0, false⟩
  | .tnUarttx => ⟨0x01100010, 1, 0x0, 1, 0x0, false⟩
  | .tnUartrx => ⟨0x01100018, 1, 0x0, 1, 0x0, false⟩
  | .tnTrace => ⟨0x01100020, 1, 0x0, 1, 0x0, false⟩
  | .tnSynctime => ⟨0x01100030, 1, 0x0, 1, 0x0, false⟩
  | .tnSyncstat => ⟨0x01100038, 1, 0x0, 1, 0x0, false⟩

/-- The fields of each register, by the rule that gives them. -/
def Reg.fields : Reg → List Field
  | .mgCfgerrAddr => [⟨63, 63, .w1c, []⟩, ⟨62, 62, .ro, []⟩, ⟨61, 59, .ro, []⟩, ⟨51, 0, .ro, []⟩]  -- R20
  | .mgCfgerrData => [⟨63, 0, .ro, []⟩]  -- R21
  | .fcXroot1 => [⟨63, 63, .rw, []⟩, ⟨59, 48, .rw, []⟩, ⟨47, 12, .rw, []⟩]  -- R166
  | .fcXinva1 => [⟨63, 63, .wo, []⟩, ⟨59, 48, .wo, []⟩, ⟨47, 12, .wo, []⟩]  -- R168
  | .fcXinvall1 => [⟨59, 48, .wo, []⟩, ⟨1, 0, .wo, [(1, 3)]⟩]  -- R169
  | .fcXfstat => [⟨63, 63, .ro, []⟩, ⟨62, 62, .ro, []⟩, ⟨61, 60, .ro, []⟩, ⟨59, 52, .ro, []⟩, ⟨51, 0, .ro, []⟩]  -- R170
  | .fcXroot2 => [⟨63, 63, .rw, []⟩, ⟨51, 12, .rw, []⟩]  -- R167
  | .fcXinva2 => [⟨47, 12, .wo, []⟩]  -- R168
  | .fcXinvall2 => [⟨1, 0, .wo, [(1, 1), (3, 3)]⟩]  -- R169
  | .fcCtl => [⟨9, 8, .ro, []⟩, ⟨4, 4, .ro, []⟩, ⟨1, 1, .ro, []⟩, ⟨0, 0, .rw, []⟩]  -- R238
  | .fcRepl => [⟨63, 63, .w1c, []⟩, ⟨62, 62, .rw, []⟩, ⟨47, 32, .ro, []⟩, ⟨15, 0, .rw, [(1, 65535)]⟩]  -- R239
  | .fcWaydis => [⟨31, 16, .w1c, []⟩, ⟨15, 0, .rw, []⟩]  -- R240
  | .fcWayflush => [⟨15, 0, .wo, []⟩]  -- R241
  | .fcEcclog => [⟨63, 63, .w1c, []⟩, ⟨62, 62, .ro, []⟩, ⟨61, 61, .ro, []⟩, ⟨60, 60, .ro, []⟩, ⟨59, 55, .ro, []⟩, ⟨51, 6, .ro, []⟩]  -- R242
  | .fcHits => [⟨63, 0, .ro, []⟩]  -- R245
  | .fcMisses => [⟨63, 0, .ro, []⟩]  -- R245
  | .fcAllot => [⟨63, 63, .rw, []⟩, ⟨53, 48, .rw, []⟩, ⟨15, 0, .rw, []⟩]  -- R243
  | .fcAllotD => [⟨63, 63, .rw, []⟩, ⟨53, 48, .rw, []⟩, ⟨15, 0, .rw, []⟩]  -- R243
  | .fcClass => [⟨35, 0, .rw, []⟩]  -- R244
  | .fcClassD => [⟨35, 0, .rw, []⟩]  -- R244
  | .fcCommit => [⟨63, 0, .wo, []⟩]  -- R245
  | .fcCnti => [⟨63, 0, .ro, []⟩]  -- R245
  | .fcCntf => [⟨63, 0, .ro, []⟩]  -- R245
  | .tcCtl => [⟨3, 3, .rw, []⟩, ⟨2, 2, .rw, []⟩, ⟨1, 0, .rw, [(0, 2)]⟩]  -- R247
  | .tcCtlD => [⟨3, 3, .rw, []⟩, ⟨2, 2, .rw, []⟩, ⟨1, 0, .rw, [(0, 2)]⟩]  -- R247
  | .tcCommit => [⟨63, 0, .wo, []⟩]  -- R249
  | .tcRepl => [⟨63, 63, .w1c, []⟩, ⟨62, 62, .rw, []⟩, ⟨47, 32, .ro, []⟩, ⟨15, 0, .rw, [(1, 65535)]⟩]  -- R249
  | .tcWaydis => [⟨47, 24, .w1c, []⟩, ⟨23, 0, .rw, []⟩]  -- R249
  | .tcWayflush => [⟨23, 0, .wo, []⟩]  -- R249
  | .tcEcclog => [⟨63, 63, .w1c, []⟩, ⟨62, 62, .ro, []⟩, ⟨61, 61, .ro, []⟩, ⟨60, 60, .ro, []⟩, ⟨59, 55, .ro, []⟩, ⟨51, 6, .ro, []⟩]  -- R249
  | .tcEbstat => [⟨6, 0, .ro, []⟩]  -- R250
  | .tcHits => [⟨63, 0, .ro, []⟩]  -- R249
  | .tcDeclines => [⟨63, 0, .ro, []⟩]  -- R249
  | .tcAllot => [⟨63, 63, .rw, []⟩, ⟨23, 0, .rw, []⟩]  -- R248
  | .tcAllotD => [⟨63, 63, .rw, []⟩, ⟨23, 0, .rw, []⟩]  -- R248
  | .pxCfg => [⟨19, 19, .rw, []⟩, ⟨18, 18, .rw, []⟩, ⟨17, 17, .rw, []⟩, ⟨12, 8, .rw, [(8, 16)]⟩, ⟨4, 0, .rw, [(1, 16)]⟩]  -- R284
  | .pxCfgD => [⟨19, 19, .rw, []⟩, ⟨18, 18, .rw, []⟩, ⟨17, 17, .rw, []⟩, ⟨12, 8, .rw, [(8, 16)]⟩, ⟨4, 0, .rw, [(1, 16)]⟩]  -- R284
  | .pxStat => [⟨63, 61, .ro, []⟩, ⟨60, 60, .ro, []⟩, ⟨59, 59, .ro, []⟩, ⟨58, 58, .ro, []⟩, ⟨57, 57, .ro, []⟩, ⟨56, 56, .ro, []⟩, ⟨55, 55, .ro, []⟩, ⟨48, 40, .ro, []⟩, ⟨39, 29, .ro, []⟩, ⟨16, 0, .ro, []⟩]  -- R287
  | .pxCtl => [⟨3, 0, .wo, [(0, 6)]⟩]  -- R288
  | .pxGathers => [⟨63, 0, .ro, []⟩]  -- R290
  | .pxRollbacks => [⟨63, 0, .ro, []⟩]  -- R290
  | .pxSpare => [⟨63, 63, .ro, []⟩, ⟨62, 62, .ro, []⟩, ⟨61, 61, .ro, []⟩, ⟨3, 0, .ro, []⟩]  -- R289
  | .pxLog => [⟨63, 63, .w1c, []⟩, ⟨62, 62, .ro, []⟩, ⟨61, 60, .ro, []⟩, ⟨59, 57, .ro, []⟩, ⟨56, 53, .ro, []⟩, ⟨52, 50, .ro, []⟩]  -- R290
  | .pxLogpc => [⟨63, 4, .ro, []⟩]  -- R290
  | .pxLogsigB => [⟨63, 0, .ro, []⟩]  -- R290
  | .pxLogsigS => [⟨63, 0, .ro, []⟩]  -- R290
  | .pxCommit => [⟨63, 0, .wo, []⟩]  -- R290
  | .sxBankctl => (List.range 16).map (fun b => ⟨2 * b + 1, 2 * b, .rw, [(0, 2)]⟩)  -- R327
  | .sxBankstat => [⟨48, 48, .ro, []⟩, ⟨47, 32, .ro, []⟩, ⟨31, 0, .ro, []⟩]  -- R328
  | .sxKeepwipe => [⟨0, 0, .wo, []⟩]  -- R329
  | .sxEcclog => [⟨63, 63, .w1c, []⟩, ⟨62, 62, .ro, []⟩, ⟨61, 61, .ro, []⟩, ⟨23, 4, .ro, []⟩]  -- R330
  | .sxErrlog => [⟨63, 63, .w1c, []⟩, ⟨62, 62, .ro, []⟩, ⟨61, 59, .ro, []⟩, ⟨58, 58, .ro, []⟩, ⟨55, 48, .ro, []⟩, ⟨23, 4, .ro, []⟩]  -- R331
  | .mcCfg => [⟨63, 63, .ro, []⟩, ⟨57, 56, .ro, []⟩, ⟨55, 52, .ro, []⟩, ⟨51, 51, .ro, []⟩, ⟨47, 40, .ro, []⟩, ⟨13, 0, .ro, []⟩]  -- R333
  | .mcScrub => [⟨63, 63, .rw, []⟩, ⟨7, 0, .rw, [(1, 168)]⟩]  -- R334
  | .mcScrubstat => [⟨63, 32, .ro, []⟩, ⟨15, 0, .ro, []⟩]  -- R335
  | .mcCmd => [⟨12, 8, .wo, [(0, 19)]⟩, ⟨3, 0, .wo, [(0, 3)]⟩]  -- R336
  | .mcSvcstat => [⟨63, 63, .ro, []⟩, ⟨62, 62, .ro, []⟩, ⟨61, 59, .ro, []⟩, ⟨58, 56, .ro, []⟩, ⟨52, 48, .ro, []⟩, ⟨31, 0, .ro, []⟩]  -- R337
  | .mcEcclog => [⟨63, 63, .w1c, []⟩, ⟨62, 62, .ro, []⟩, ⟨61, 61, .ro, []⟩, ⟨60, 60, .ro, []⟩, ⟨59, 55, .ro, []⟩, ⟨51, 6, .ro, []⟩]  -- R339
  | .mcEccaddr => [⟨63, 63, .ro, []⟩, ⟨62, 61, .ro, []⟩, ⟨60, 60, .ro, []⟩, ⟨59, 56, .ro, []⟩, ⟨55, 51, .ro, []⟩, ⟨50, 33, .ro, []⟩, ⟨32, 22, .ro, []⟩]  -- R339
  | .mcChstat => [⟨63, 61, .ro, []⟩, ⟨60, 60, .ro, []⟩, ⟨59, 59, .ro, []⟩, ⟨58, 52, .ro, []⟩, ⟨51, 40, .ro, []⟩]  -- R338
  | .mcCecnt => [⟨63, 0, .ro, []⟩]  -- R339
  | .chCtl => [⟨1, 1, .ro, []⟩, ⟨0, 0, .rw, []⟩]  -- R387
  | .chPenbase => [⟨51, 25, .rw, []⟩]  -- R388
  | .chPencmd => [⟨59, 56, .wo, [(0, 9)]⟩, ⟨55, 48, .wo, []⟩, ⟨15, 0, .wo, []⟩]  -- R389
  | .chPencmdstat => [⟨63, 63, .ro, []⟩, ⟨62, 62, .ro, []⟩, ⟨59, 56, .ro, []⟩, ⟨55, 52, .ro, []⟩, ⟨15, 0, .ro, []⟩]  -- R390
  | .chPathcommit => [⟨63, 0, .wo, []⟩]  -- R391
  | .chDraincfg => [⟨63, 63, .rw, []⟩, ⟨62, 62, .rw, []⟩, ⟨15, 0, .rw, []⟩]  -- R396
  | .chDraincfgD => [⟨63, 63, .rw, []⟩, ⟨62, 62, .rw, []⟩, ⟨15, 0, .rw, []⟩]  -- R396
  | .chDrainaddr => [⟨63, 0, .rw, []⟩]  -- R396
  | .chDrainaddrD => [⟨63, 0, .rw, []⟩]  -- R396
  | .chDraincommit => [⟨63, 0, .wo, []⟩]  -- R396
  | .chDrainstat => [⟨63, 61, .ro, []⟩, ⟨60, 60, .ro, []⟩, ⟨16, 0, .ro, []⟩]  -- R397
  | .chMsibad => [⟨63, 0, .ro, []⟩]  -- R397
  | .chDrovstat => [⟨63, 61, .ro, []⟩, ⟨47, 32, .ro, []⟩, ⟨10, 0, .ro, []⟩]  -- R395
  | .chDrovctl => [⟨0, 0, .rw, []⟩]  -- R395
  | .chPathgrp => [⟨63, 0, .rw, []⟩]  -- R391
  | .chPathgrpD => [⟨63, 0, .rw, []⟩]  -- R391
  | .chPathpol => [⟨1, 0, .rw, [(0, 2)]⟩]  -- R391
  | .chPathpolD => [⟨1, 0, .rw, [(0, 2)]⟩]  -- R391
  | .chPathstat => [⟨63, 0, .ro, []⟩]  -- R392
  | .chPengrp => [⟨63, 63, .ro, []⟩, ⟨4, 0, .ro, []⟩]  -- R394
  | .chPev => [⟨63, 0, .w1c, []⟩]  -- R394
  | .chLcap => [⟨16, 0, .rw, []⟩]  -- R394
  | .chLused => [⟨16, 0, .ro, []⟩]  -- R394
  | .chPenstat => [⟨63, 61, .ro, []⟩, ⟨60, 60, .ro, []⟩, ⟨47, 40, .ro, []⟩, ⟨39, 32, .ro, []⟩, ⟨12, 0, .ro, []⟩]  -- R393
  | .ledger => [⟨63, 0, .ro, []⟩]  -- R372
  | .lkCfg => [⟨23, 16, .rw, []⟩, ⟨13, 12, .rw, [(0, 2)]⟩, ⟨10, 8, .rw, [(0, 3)]⟩, ⟨7, 5, .rw, [(0, 5)]⟩, ⟨4, 4, .rw, []⟩, ⟨3, 0, .rw, [(1, 4)]⟩]  -- R433
  | .lkCfgD => [⟨23, 16, .rw, []⟩, ⟨13, 12, .rw, [(0, 2)]⟩, ⟨10, 8, .rw, [(0, 3)]⟩, ⟨7, 5, .rw, [(0, 5)]⟩, ⟨4, 4, .rw, []⟩, ⟨3, 0, .rw, [(1, 4)]⟩]  -- R433
  | .lkStat => [⟨63, 61, .ro, []⟩, ⟨60, 58, .ro, []⟩, ⟨57, 53, .ro, []⟩, ⟨52, 52, .ro, []⟩, ⟨51, 51, .ro, []⟩, ⟨50, 48, .ro, []⟩, ⟨47, 32, .ro, []⟩, ⟨31, 31, .ro, []⟩, ⟨30, 30, .ro, []⟩]  -- R435
  | .lkCtl => [⟨3, 0, .wo, [(0, 3)]⟩]  -- R436
  | .lkMargin => [⟨63, 63, .ro, []⟩, ⟨62, 60, .ro, []⟩, ⟨59, 56, .rw, []⟩, ⟨55, 55, .rw, []⟩, ⟨54, 48, .ro, []⟩, ⟨0, 0, .wo, []⟩]  -- R437
  | .lkErrlog => [⟨63, 63, .w1c, []⟩, ⟨62, 62, .ro, []⟩, ⟨61, 58, .ro, []⟩, ⟨15, 0, .ro, []⟩]  -- R438
  | .lkErraddr => [⟨63, 0, .ro, []⟩]  -- R438
  | .lkDreq => [⟨63, 62, .wo, []⟩, ⟨61, 61, .wo, []⟩, ⟨53, 0, .wo, []⟩]  -- R439
  | .lkDwdata => [⟨63, 0, .rw, []⟩]  -- R439
  | .lkDstat => [⟨63, 63, .ro, []⟩, ⟨62, 62, .ro, []⟩, ⟨61, 59, .ro, []⟩]  -- R439
  | .lkDrdata => [⟨63, 0, .ro, []⟩]  -- R439
  | .lkCorr => [⟨63, 0, .ro, []⟩]  -- R441
  | .lkReplay => [⟨63, 0, .ro, []⟩]  -- R441
  | .lkApt => [⟨63, 63, .rw, []⟩, ⟨61, 54, .rw, []⟩, ⟨53, 14, .rw, []⟩]  -- R440
  | .lkFn => [⟨63, 63, .rw, []⟩, ⟨62, 62, .rw, []⟩, ⟨61, 61, .w1c, []⟩, ⟨60, 50, .rw, [(0, 2046)]⟩, ⟨15, 0, .rw, []⟩]  -- R440
  | .lkCommit => [⟨63, 0, .wo, []⟩]  -- R434
  | .lkPstat => [⟨63, 61, .ro, []⟩, ⟨60, 58, .ro, []⟩, ⟨57, 54, .ro, []⟩, ⟨53, 46, .ro, []⟩, ⟨45, 38, .ro, []⟩, ⟨37, 31, .ro, []⟩, ⟨30, 24, .ro, []⟩]  -- R442
  | .lkRoute => [⟨63, 63, .ro, []⟩, ⟨62, 62, .ro, []⟩, ⟨61, 59, .ro, []⟩, ⟨58, 56, .ro, []⟩]  -- R442
  | .czCtl => [⟨1, 1, .wo, []⟩, ⟨0, 0, .rw, []⟩]  -- R470
  | .czStat => [⟨63, 61, .ro, []⟩, ⟨60, 59, .ro, []⟩, ⟨50, 48, .ro, []⟩, ⟨15, 0, .ro, []⟩]  -- R471
  | .czStoppart => [⟨10, 0, .wo, [(0, 2046)]⟩]  -- R472
  | .czVerlog => [⟨63, 63, .w1c, []⟩, ⟨62, 62, .ro, []⟩, ⟨61, 60, .ro, []⟩, ⟨57, 47, .ro, []⟩, ⟨46, 43, .ro, []⟩, ⟨31, 0, .ro, []⟩]  -- R473
  | .czUnits => [⟨63, 0, .ro, []⟩]  -- R474
  | .czRawunits => [⟨63, 0, .ro, []⟩]  -- R474
  | .czVerfails => [⟨63, 0, .ro, []⟩]  -- R474
  | .czInbytes => [⟨63, 0, .ro, []⟩]  -- R474
  | .czOutbytes => [⟨63, 0, .ro, []⟩]  -- R474
  | .cyCtl => [⟨1, 1, .wo, []⟩, ⟨0, 0, .rw, []⟩]  -- R514
  | .cyStat => [⟨63, 61, .ro, []⟩, ⟨60, 59, .ro, []⟩, ⟨58, 58, .ro, []⟩, ⟨57, 53, .ro, []⟩]  -- R515
  | .cyHard => [⟨63, 63, .rw, []⟩, ⟨10, 8, .rw, [(1, 4)]⟩, ⟨2, 0, .rw, [(0, 4)]⟩]  -- R516
  | .cyForce => [⟨10, 0, .wo, [(0, 2046)]⟩]  -- R517
  | .cyErrlog => [⟨63, 63, .w1c, []⟩, ⟨62, 62, .ro, []⟩, ⟨61, 60, .ro, []⟩, ⟨59, 59, .ro, []⟩, ⟨58, 48, .ro, []⟩, ⟨11, 0, .ro, []⟩]  -- R518
  | .cyJobs => [⟨63, 0, .ro, []⟩]  -- R519
  | .cyBlocks => [⟨63, 0, .ro, []⟩]  -- R519
  | .cyDummies => [⟨63, 0, .ro, []⟩]  -- R519
  | .cyTagfails => [⟨63, 0, .ro, []⟩]  -- R519
  | .cyLock => [⟨63, 61, .ro, []⟩, ⟨60, 50, .ro, []⟩, ⟨49, 49, .ro, []⟩, ⟨33, 32, .wo, [(0, 2)]⟩, ⟨31, 0, .wo, []⟩]  -- R520
  | .ptRes => [⟨63, 62, .ro, []⟩, ⟨61, 61, .ro, []⟩, ⟨10, 0, .ro, []⟩]  -- R556
  | .ptCtl => [⟨63, 60, .wo, [(0, 5)]⟩, ⟨56, 48, .wo, []⟩, ⟨11, 11, .wo, []⟩, ⟨10, 0, .wo, []⟩]  -- R557
  | .ptCtlstat => [⟨63, 60, .ro, []⟩, ⟨59, 56, .ro, []⟩, ⟨8, 0, .ro, []⟩]  -- R558
  | .ptTrcommit => [⟨63, 0, .wo, []⟩]  -- R560
  | .ptCore => [⟨24, 16, .ro, []⟩, ⟨8, 0, .rw, [(0, 256)]⟩]  -- R559
  | .ptInfl => [⟨31, 0, .ro, []⟩]  -- R559
  | .ptTrough => [⟨63, 63, .rw, []⟩, ⟨62, 60, .rw, []⟩, ⟨59, 56, .rw, []⟩, ⟨55, 48, .rw, []⟩, ⟨40, 32, .rw, [(0, 256)]⟩, ⟨12, 0, .rw, []⟩]  -- R560
  | .ptTroughD => [⟨63, 63, .rw, []⟩, ⟨62, 60, .rw, []⟩, ⟨59, 56, .rw, []⟩, ⟨55, 48, .rw, []⟩, ⟨40, 32, .rw, [(0, 256)]⟩, ⟨12, 0, .rw, []⟩]  -- R560
  | .ptTrstat => [⟨12, 0, .ro, []⟩]  -- R559
  | .huRoot => [⟨63, 63, .rw, []⟩, ⟨51, 12, .rw, []⟩]  -- R561
  | .huInv => [⟨63, 63, .wo, []⟩, ⟨58, 48, .wo, []⟩, ⟨47, 12, .wo, []⟩]  -- R561
  | .huInvstat => [⟨63, 63, .ro, []⟩, ⟨62, 62, .ro, []⟩, ⟨61, 61, .ro, []⟩]  -- R561
  | .huFstat => [⟨63, 63, .ro, []⟩, ⟨62, 61, .ro, []⟩, ⟨60, 57, .ro, []⟩, ⟨56, 55, .ro, []⟩, ⟨47, 0, .ro, []⟩]  -- R562
  | .stPeriod => [⟨14, 0, .rw, [(250, 25000)]⟩]  -- R563
  | .stPeriodD => [⟨14, 0, .rw, [(250, 25000)]⟩]  -- R563
  | .stCommit => [⟨63, 0, .wo, []⟩]  -- R563
  | .stStat => [⟨63, 32, .ro, []⟩, ⟨1, 1, .w1c, []⟩, ⟨0, 0, .w1c, []⟩]  -- R563
  | .stCap => [⟨63, 63, .ro, []⟩, ⟨47, 24, .ro, []⟩, ⟨23, 0, .ro, []⟩]  -- R563
  | .stShare => [⟨23, 0, .rw, []⟩]  -- R563
  | .stShareD => [⟨23, 0, .rw, []⟩]  -- R563
  | .stUse => [⟨47, 24, .ro, []⟩, ⟨23, 0, .ro, []⟩]  -- R563
  | .evRoute => [⟨63, 63, .rw, []⟩, ⟨62, 62, .rw, []⟩, ⟨59, 56, .rw, []⟩, ⟨55, 47, .rw, [(0, 256)]⟩, ⟨46, 39, .rw, [(0, 215)]⟩, ⟨36, 28, .rw, [(0, 256)]⟩, ⟨23, 16, .rw, []⟩, ⟨15, 0, .rw, []⟩]  -- R579
  | .evStat => [⟨63, 63, .w1c, []⟩, ⟨62, 62, .ro, []⟩, ⟨15, 0, .ro, []⟩]  -- R580
  | .evSwraise => [⟨10, 0, .wo, [(1792, 2047)]⟩]  -- R581
  | .evThresh1 => [⟨3, 0, .rw, []⟩]  -- R582
  | .evEoi1 => [⟨0, 0, .wo, []⟩]  -- R581
  | .evLast1 => [⟨63, 63, .ro, []⟩, ⟨47, 32, .ro, []⟩, ⟨10, 0, .ro, []⟩]  -- R582
  | .evRaise => [⟨10, 0, .wo, []⟩]  -- R581
  | .evThresh2 => [⟨3, 0, .rw, []⟩]  -- R582
  | .evEoi2 => [⟨0, 0, .wo, []⟩]  -- R581
  | .evLast2 => [⟨63, 63, .ro, []⟩, ⟨47, 32, .ro, []⟩, ⟨10, 0, .ro, []⟩]  -- R582
  | .evActive => [⟨31, 16, .ro, []⟩, ⟨15, 0, .ro, []⟩]  -- R582
  | .shMbaddr => [⟨51, 8, .rw, []⟩]  -- R627
  | .shMbgo => [⟨0, 0, .wo, []⟩]  -- R627
  | .shMbstat => [⟨63, 63, .ro, []⟩, ⟨62, 62, .ro, []⟩, ⟨55, 48, .ro, []⟩, ⟨47, 32, .ro, []⟩, ⟨31, 0, .ro, []⟩]  -- R627
  | .shLife => [⟨63, 61, .ro, []⟩, ⟨60, 60, .ro, []⟩, ⟨59, 59, .ro, []⟩]  -- R628
  | .shBootseq => [⟨63, 0, .ro, []⟩]  -- R628
  | .shRecstat => [⟨63, 63, .ro, []⟩, ⟨62, 62, .ro, []⟩, ⟨61, 61, .ro, []⟩, ⟨47, 32, .ro, []⟩, ⟨31, 16, .ro, []⟩, ⟨15, 0, .ro, []⟩]  -- R628
  | .shTamper => [⟨63, 32, .ro, []⟩, ⟨3, 0, .w1c, []⟩]  -- R629
  | .shFwstat => [⟨63, 63, .ro, []⟩, ⟨62, 62, .ro, []⟩, ⟨47, 32, .ro, []⟩, ⟨31, 16, .ro, []⟩, ⟨15, 0, .ro, []⟩]  -- R629
  | .shHealth => [⟨63, 62, .ro, []⟩, ⟨61, 61, .w1c, []⟩, ⟨31, 0, .ro, []⟩]  -- R629
  | .ftStat => [⟨63, 63, .ro, []⟩, ⟨62, 62, .ro, []⟩, ⟨15, 0, .ro, []⟩]  -- R649
  | .ftCommit => [⟨63, 0, .wo, []⟩]  -- R634
  | .ftMctarget => [⟨63, 63, .rw, []⟩, ⟨7, 0, .rw, [(0, 215)]⟩]  -- R649
  | .ftMclog => [⟨63, 63, .w1c, []⟩, ⟨62, 62, .ro, []⟩, ⟨61, 54, .ro, []⟩, ⟨53, 53, .ro, []⟩, ⟨52, 52, .ro, []⟩, ⟨51, 44, .ro, []⟩, ⟨39, 24, .ro, []⟩]  -- R650
  | .ftMcaddr => [⟨63, 0, .ro, []⟩]  -- R650
  | .ftCtest => [⟨7, 0, .wo, [(0, 215)]⟩]  -- R651
  | .ftCtstat => [⟨63, 63, .ro, []⟩, ⟨62, 60, .ro, []⟩, ⟨59, 59, .ro, []⟩, ⟨7, 0, .ro, []⟩]  -- R651
  | .ftThresh => [⟨63, 32, .rw, []⟩, ⟨31, 0, .rw, []⟩]  -- R652
  | .ftWindow => [⟨31, 0, .rw, []⟩]  -- R652
  | .ftThreshD => [⟨63, 32, .rw, []⟩, ⟨31, 0, .rw, []⟩]  -- R652
  | .ftWindowD => [⟨31, 0, .rw, []⟩]  -- R652
  | .ftCnt => [⟨63, 63, .w1c, []⟩, ⟨62, 62, .ro, []⟩, ⟨61, 32, .ro, []⟩, ⟨31, 0, .ro, []⟩]  -- R652
  | .pwStat => [⟨63, 55, .ro, []⟩, ⟨54, 54, .ro, []⟩]  -- R685
  | .pwRaillog => [⟨63, 63, .w1c, []⟩, ⟨62, 62, .ro, []⟩, ⟨61, 58, .ro, []⟩, ⟨57, 57, .ro, []⟩, ⟨31, 0, .ro, []⟩]  -- R685
  | .pwTherm => [⟨63, 63, .ro, []⟩, ⟨62, 62, .ro, []⟩, ⟨15, 8, .rw, []⟩, ⟨7, 0, .rw, []⟩]  -- R686
  | .pwAotime => [⟨63, 0, .ro, []⟩]  -- R685
  | .pwFold => [⟨63, 61, .ro, []⟩, ⟨60, 60, .ro, []⟩, ⟨52, 48, .ro, []⟩, ⟨12, 8, .rw, [(4, 22)]⟩, ⟨0, 0, .rw, []⟩]  -- R687
  | .pwFlock => [⟨63, 61, .ro, []⟩, ⟨60, 60, .ro, []⟩, ⟨52, 48, .ro, []⟩, ⟨12, 8, .rw, [(4, 20)]⟩, ⟨0, 0, .rw, []⟩]  -- R687
  | .pwTemp => [⟨15, 0, .ro, []⟩]  -- R688
  | .tnStat => [⟨63, 62, .ro, []⟩, ⟨61, 61, .ro, []⟩, ⟨60, 60, .ro, []⟩, ⟨7, 0, .ro, []⟩]  -- R688
  | .tnUart => [⟨63, 63, .w1c, []⟩, ⟨62, 62, .w1c, []⟩, ⟨56, 48, .ro, []⟩, ⟨40, 32, .ro, []⟩, ⟨23, 0, .rw, []⟩]  -- R689
  | .tnUarttx => [⟨7, 0, .wo, []⟩]  -- R689
  | .tnUartrx => [⟨63, 63, .rc, []⟩, ⟨7, 0, .rc, []⟩]  -- R689
  | .tnTrace => [⟨63, 62, .rw, [(0, 2)]⟩, ⟨55, 48, .rw, [(0, 215)]⟩, ⟨3, 0, .rw, []⟩]  -- R690
  | .tnSynctime => [⟨63, 0, .ro, []⟩]  -- R690
  | .tnSyncstat => [⟨63, 63, .ro, []⟩, ⟨31, 0, .ro, []⟩]  -- R690

/-- THRESH and WARN of R630 as FT_THRESH holds them. -/
def threshReset (c : Nat) : Nat :=
  let (t, w) : Nat × Nat := match c with
    | 0 => (8, 4) | 1 => (4, 2) | 2 => (16, 8) | 3 => (16, 8) | 4 => (1, 1) | 5 => (32, 16)
    | 6 => (4096, 1024) | 7 => (16, 8) | 8 => (1024, 256) | 9 => (4194304, 1048576)
    | 10 => (1000, 100) | 11 => (8, 4) | 12 => (4, 2) | 13 => (4, 2) | 14 => (64, 16)
    | 15 => (3, 1) | _ => (16, 4)
  t * 2 ^ 32 + w

/-- WINDOW of R630 in milliseconds. -/
def windowReset (c : Nat) : Nat :=
  if c = 1 ∨ c = 16 then 3600000 else if c = 9 ∨ c = 10 then 1000 else 86400000

/-- How many counters a strike class has (R630); class 7 has none in the control space. -/
def strikeCount (c : Nat) : Nat :=
  match c with
  | 0 => 216 | 1 => 96 | 2 => 384 | 3 => 96 | 4 => 28 | 5 => 192 | 6 => 3200 | 7 => 0 | 8 => 20
  | 9 => 256 | 10 => 128 | 11 => 32 | 12 => 12 | 13 => 12 | 14 => 1 | 15 => 1 | 16 => 2 | _ => 0

/-- The reset value of each register; a register the spec gives none is named in log entry 3. -/
def Reg.reset (r : Reg) (i j : Nat) : Nat :=
  match r with
  | .fcRepl | .tcRepl => 0x0000ACE10000ACE1
  | .fcAllot | .fcAllotD => if j = 0 then 0xFFFF else 0
  | .tcCtl | .tcCtlD => 0xC
  | .tcAllot | .tcAllotD => if j = 0 then 0xFFFFFF else 0
  | .pxCfg | .pxCfgD => 0xC04
  | .pxStat => 0x8000000000000000
  | .sxBankctl | .sxBankstat => 0xAAAAAAAA
  | .mcScrub => 0x8000000000000018
  | .mcChstat => if i % 5 = 4 then 2 ^ 60 else 0
  | .chDrovstat => 0x6000000000000020
  | .chPengrp => i % 32
  | .chLcap => if i = 0 then 0x10000 else 0
  | .lkCfg | .lkCfgD => 0x100A2
  | .czStat => 0x6000000000000000
  | .cyCtl => 1
  | .cyStat => 0x4000000000000000
  | .cyHard => 0x404
  | .ptRes => if i = 0 then 0x4000000000000000 else 0
  | .stPeriod | .stPeriodD => 0x9C4
  | .ftThresh | .ftThreshD => threshReset i
  | .ftWindow | .ftWindowD => windowReset i
  | .pwStat => 0x1FF * 2 ^ 55
  | .pwTherm => 0x645F
  | .pwFold => 0x4000000000001601
  | .pwFlock => 0x4000000000001401
  | .tnUart => 0x1C200
  | _ => 0

/-- Every register. -/
def Reg.all : List Reg :=
  [.mgCfgerrAddr, .mgCfgerrData, .fcXroot1, .fcXinva1, .fcXinvall1, .fcXfstat, .fcXroot2, .fcXinva2,
   .fcXinvall2, .fcCtl, .fcRepl, .fcWaydis, .fcWayflush, .fcEcclog, .fcHits, .fcMisses,
   .fcAllot, .fcAllotD, .fcClass, .fcClassD, .fcCommit, .fcCnti, .fcCntf, .tcCtl,
   .tcCtlD, .tcCommit, .tcRepl, .tcWaydis, .tcWayflush, .tcEcclog, .tcEbstat, .tcHits,
   .tcDeclines, .tcAllot, .tcAllotD, .pxCfg, .pxCfgD, .pxStat, .pxCtl, .pxGathers,
   .pxRollbacks, .pxSpare, .pxLog, .pxLogpc, .pxLogsigB, .pxLogsigS, .pxCommit, .sxBankctl,
   .sxBankstat, .sxKeepwipe, .sxEcclog, .sxErrlog, .mcCfg, .mcScrub, .mcScrubstat, .mcCmd,
   .mcSvcstat, .mcEcclog, .mcEccaddr, .mcChstat, .mcCecnt, .chCtl, .chPenbase, .chPencmd,
   .chPencmdstat, .chPathcommit, .chDraincfg, .chDraincfgD, .chDrainaddr, .chDrainaddrD, .chDraincommit, .chDrainstat,
   .chMsibad, .chDrovstat, .chDrovctl, .chPathgrp, .chPathgrpD, .chPathpol, .chPathpolD, .chPathstat,
   .chPengrp, .chPev, .chLcap, .chLused, .chPenstat, .ledger, .lkCfg, .lkCfgD,
   .lkStat, .lkCtl, .lkMargin, .lkErrlog, .lkErraddr, .lkDreq, .lkDwdata, .lkDstat,
   .lkDrdata, .lkCorr, .lkReplay, .lkApt, .lkFn, .lkCommit, .lkPstat, .lkRoute,
   .czCtl, .czStat, .czStoppart, .czVerlog, .czUnits, .czRawunits, .czVerfails, .czInbytes,
   .czOutbytes, .cyCtl, .cyStat, .cyHard, .cyForce, .cyErrlog, .cyJobs, .cyBlocks,
   .cyDummies, .cyTagfails, .cyLock, .ptRes, .ptCtl, .ptCtlstat, .ptTrcommit, .ptCore,
   .ptInfl, .ptTrough, .ptTroughD, .ptTrstat, .huRoot, .huInv, .huInvstat, .huFstat,
   .stPeriod, .stPeriodD, .stCommit, .stStat, .stCap, .stShare, .stShareD, .stUse,
   .evRoute, .evStat, .evSwraise, .evThresh1, .evEoi1, .evLast1, .evRaise, .evThresh2,
   .evEoi2, .evLast2, .evActive, .shMbaddr, .shMbgo, .shMbstat, .shLife, .shBootseq,
   .shRecstat, .shTamper, .shFwstat, .shHealth, .ftStat, .ftCommit, .ftMctarget, .ftMclog,
   .ftMcaddr, .ftCtest, .ftCtstat, .ftThresh, .ftWindow, .ftThreshD, .ftWindowD, .ftCnt,
   .pwStat, .pwRaillog, .pwTherm, .pwAotime, .pwFold, .pwFlock, .pwTemp, .tnStat,
   .tnUart, .tnUarttx, .tnUartrx, .tnTrace, .tnSynctime, .tnSyncstat]

/-- The offset of a register instance in the control space. -/
def Reg.addr (r : Reg) (i j : Nat := 0) : Nat :=
  r.place.base + i * r.place.s1 + j * r.place.s2

/-- The instance of a register that lies at an offset. -/
def Reg.at? (r : Reg) (off : Nat) : Option (Nat × Nat) :=
  let p := r.place
  if off < p.base then none
  else
    let d := off - p.base
    let i := if p.s1 = 0 then 0 else d / p.s1
    let e := if p.s1 = 0 then d else d % p.s1
    let j := if p.s2 = 0 then 0 else e / p.s2
    let z := if p.s2 = 0 then e else e % p.s2
    if i < p.n1 ∧ j < p.n2 ∧ z = 0 ∧ (r = .ftCnt → j < strikeCount i) then some (i, j) else none

/-- The first register of a list that lies at an offset. -/
def findReg (off : Nat) : List Reg → Option (Reg × Nat × Nat)
  | [] => none
  | r :: rs => match r.at? off with
    | some (i, j) => some (r, i, j)
    | none => findReg off rs

/-- The register at an offset of the control space, none where the offset is unassigned (R13). -/
def regAt (off : Nat) : Option (Reg × Nat × Nat) := findReg off Reg.all

/-- The reset value at an offset. -/
def offReset (off : Nat) : Word :=
  match regAt off with
  | some (r, i, j) => BitVec.ofNat 64 (r.reset i j)
  | none => 0

/-- Whether a value lies in one of the listed ranges. -/
def listed (v : Nat) (ls : List (Nat × Nat)) : Bool :=
  ls.isEmpty || ls.any (fun p => decide (p.1 ≤ v) && decide (v ≤ p.2))

/-- Whether a field can be set by a write (R17). -/
def Acc.settable : Acc → Bool
  | .rw | .wo | .w1c => true
  | _ => false

/-- The reserved values a register has across its fields, beside those of single fields (R17): the rule is
named at each. -/
def Reg.crossReserved (r : Reg) (i v : Nat) : Bool :=
  match r with
  | .chPencmd =>  -- R389
    let cmd := bits v 59 56
    let arg := bits v 55 48
    if cmd = 7 ∨ cmd = 8 then false else if cmd = 9 then decide (32 ≤ arg) else decide (arg ≠ 0)
  | .chLcap => decide (0x10000 < bits v 16 0)  -- R394
  | .lkDreq =>  -- R439
    let a := bits v 53 0
    if 2 ≤ bits v 63 62 then decide (a % 4 ≠ 0) || decide (2 ^ 28 ≤ a) || bit v 61
    else decide (a % (if bit v 61 then 8 else 4) ≠ 0)
  | .ptCtl =>  -- R557
    let cmd := bits v 63 60
    let res := bits v 56 48
    let pid := bits v 10 0
    if cmd = 0 then false
    else decide (res = 0) || decide (256 < res)
      || (if cmd = 1 then decide (pid = 0) || decide (pid = 2047) else decide (pid ≠ 0))
      || (decide (cmd ≠ 1) && decide (cmd ≠ 5) && bit v 11)
  | .ptTrough | .ptTroughD =>  -- R560
    let unit := bits v 62 60
    let depth := bits v 12 0
    bit v 63 && (decide (unit = 0) || decide (4 < unit) || decide (depth = 0) || decide (4096 < depth)
      || (decide (unit ≤ 2) && decide (12 ≤ bits v 59 56)))
  | .huInv => decide (bits v 58 48 = 2047)  -- R561
  | .evRoute =>  -- R579
    (bit v 62 && decide (bits v 55 47 ≠ 0)) || (decide (i < 1792) && decide (bits v 36 28 ≠ 0))
      || (decide (1 < bits v 23 16) && decide (bits v 15 0 = 0))
  | .ftThresh | .ftThreshD => decide (bits v 63 32 = 0)  -- R652
  | .ftWindow | .ftWindowD => decide (bits v 31 0 = 0)  -- R652
  | .pwTherm =>  -- R686
    decide (bits v 15 8 ≤ bits v 7 0) || decide (104 < bits v 15 8) || decide (bits v 7 0 < 60)
  | .tnUart => decide (bits v 23 0 < 9600) || decide (3000000 < bits v 23 0)  -- R689
  | _ => false

/-- Whether a write carries a reserved value in a field it can set (R17). -/
def Reg.reservedWrite (r : Reg) (i v : Nat) : Bool :=
  r.fields.any (fun f => f.acc.settable && !listed (bits v f.hi f.lo) f.lists) || r.crossReserved i v

/-- The value a register takes from a write, field by field under the access codes (R16). -/
def writeFields (fs : List Field) (old v : Nat) : Nat :=
  fs.foldl (fun acc f =>
    match f.acc with
    | .rw => putBits acc f.hi f.lo (bits v f.hi f.lo)
    | .w1c => putBits acc f.hi f.lo (bits old f.hi f.lo &&& (2 ^ (f.hi + 1 - f.lo) - 1 - bits v f.hi f.lo))
    | _ => acc) old

/-- What a read returns of a stored value: wo and rsv bits read 0 (R16). -/
def readFields (fs : List Field) (v : Nat) : Nat :=
  fs.foldl (fun acc f => if f.acc = .wo then acc else acc + bits v f.hi f.lo * 2 ^ f.lo) 0

end Sys2Proof.Machine
end

