-- ==== Sys2Proof/Machine/Flags.lean ====
section
/-! DEFINITION. The arithmetic flags of ASTAT (R113), the mood fields an operation latches (R38, R112), and the traps they cause (R122, R137, R138). -/

namespace Sys2Proof.Machine

/-- The fields of MOOD an operation uses, latched at its issue (R38). -/
structure Mood where
  pl : Nat
  ct : Bool
  vt : Bool
  dzt : Bool
  fpt : Nat
  drm : Nat
  rm : Nat
  deriving DecidableEq, Repr

/-- The mood fields of a MOOD value (R112). -/
def moodOf (v : Word) : Mood :=
  { pl := fld v 23 22, ct := flag v 20, vt := flag v 19, dzt := flag v 18,
    fpt := fld v 17 13, drm := fld v 12 10, rm := fld v 9 8 }

/-- Flag positions of ASTAT[6:0] (R113). -/
def flagFX : Nat := 1
/-- Underflow. -/
def flagFU : Nat := 2
/-- Overflow. -/
def flagFO : Nat := 4
/-- Floating division by zero. -/
def flagFZ : Nat := 8
/-- Invalid. -/
def flagFI : Nat := 16
/-- Integer division by zero. -/
def flagIZ : Nat := 32
/-- Integer overflow. -/
def flagIV : Nat := 64

/-- An arithmetic trap: its vector and XCAUSE.DETAIL (R138). -/
structure Trap where
  vector : Nat
  detail : Nat
  deriving DecidableEq, Repr

/-- The trap of an integer operation that raises `flags` (R122, R127). -/
def intTrap (m : Mood) (flags : Nat) : Option Trap :=
  if bit flags 5 && m.dzt then some ⟨0x08, flagIZ⟩
  else if bit flags 6 && m.vt then some ⟨0x07, flagIV⟩
  else none

/-- The trap of a floating operation that raises `flags`; a tiny exact result traps under the underflow
enable alone and then DETAIL carries FU (R137, R138). -/
def fpTrap (m : Mood) (flags : Nat) (tinyExact : Bool) : Option Trap :=
  let hit := (flags ||| (if tinyExact then flagFU else 0)) &&& m.fpt
  if hit = 0 then none else some ⟨0x09, hit⟩

/-- The trap of table extrapolation: TX is bit 47 of XCAUSE, bit 15 of DETAIL (R138, R155). -/
def txTrap : Trap := ⟨0x09, 0x8000⟩

end Sys2Proof.Machine
end

