-- ==== Sys2Proof/Machine/Table.lean ====
section
/-! DEFINITION. Sparse tables: keys strictly rising, an unlisted key reading as a default. Registers and every array of the module are such tables; memory is one whose entries never equal what an unlisted key reads as. -/

namespace Sys2Proof.Machine

/-- A table from numbers to values; a key that is not listed reads as a default given at each use. -/
abbrev Tbl (α : Type) := List (Nat × α)

/-- The value at a key. -/
def tget {α : Type} (d : α) : Tbl α → Nat → α
  | [], _ => d
  | (k, v) :: t, n => if n = k then v else tget d t n

/-- The listed value at a key, if there is one. -/
def tfind {α : Type} : Tbl α → Nat → Option α
  | [], _ => none
  | (k, v) :: t, n => if n = k then some v else tfind t n

/-- A table without a key. -/
def tdel {α : Type} : Tbl α → Nat → Tbl α
  | [], _ => []
  | (k, v) :: t, n => if n = k then tdel t n else (k, v) :: tdel t n

/-- A table with a value listed at a key. -/
def tins {α : Type} : Tbl α → Nat → α → Tbl α
  | [], n, x => [(n, x)]
  | (k, v) :: t, n, x =>
    if n = k then (n, x) :: t else if n < k then (n, x) :: (k, v) :: t else (k, v) :: tins t n x

/-- Writes a value: storing the default removes the entry, so that equal tables are equal data. -/
def tput {α : Type} [DecidableEq α] (d : α) (t : Tbl α) (n : Nat) (x : α) : Tbl α :=
  if x = d then tdel t n else tins t n x

/-- Whether every key of a table lies above a bound and keys rise strictly. -/
def tsorted {α : Type} : Tbl α → Bool
  | [] => true
  | [_] => true
  | (k, _) :: (l, w) :: t => decide (k < l) && tsorted ((l, w) :: t)

/-- The canonical form of a table whose unlisted keys read as `d`. -/
def twf {α : Type} [DecidableEq α] (d : Nat → α) (t : Tbl α) : Bool :=
  tsorted t && t.all (fun p => decide (p.2 ≠ d p.1))

/-- Replaces the first element that satisfies `p`. -/
def updFirst {α : Type} (p : α → Bool) (f : α → α) : List α → List α
  | [] => []
  | x :: xs => if p x then f x :: xs else x :: updFirst p f xs

/-- Removes the first element that satisfies `p`. -/
def delFirst {α : Type} (p : α → Bool) : List α → List α
  | [] => []
  | x :: xs => if p x then xs else x :: delFirst p xs

/-- The element at an index, or a default. -/
def lget {α : Type} (d : α) (l : List α) (i : Nat) : α := (l[i]?).getD d

end Sys2Proof.Machine
end

