-- ==== Sys2Proof/Machine/State.lean ====
section
/-! DEFINITION. The state of the module as plain data, what ends a step, and the state after reset. Arrays are the tables of Machine/Table.lean. -/

namespace Sys2Proof.Machine

open Sys2Proof

/-- Faults that stop the machine: none. The module reports every fault in its own state, so no meaning raises
this; the one constructor keeps the type closed (safe). -/
inductive Fault
  | none
  deriving DecidableEq, Repr

/-- Why a command has no meaning in this model. -/
inductive Refusal
  /-- The command is not modelled; raised by an arm of `exec` alone (safe). -/
  | notModelled (mnemonic : String)
  deriving DecidableEq, Repr

/-! ### Cores (01 to 04) -/

/-- Where a result lands (R32, R110). -/
inductive Dest
  | g (n : Nat)
  | f (n : Nat)
  | p (n : Nat)
  | sp (level : Nat)
  | tally (n : Nat)
  | divSigns
  | creg (key : Nat)
  deriving DecidableEq, Repr

/-- A value on its way to a register. -/
structure RegWrite where
  dest : Dest
  val : Wide
  deriving DecidableEq, Repr

/-- A machine check and its record (R638, R639). -/
structure MCheck where
  code : Nat
  store : Bool
  async : Bool
  place : Nat
  info : Nat
  deriving DecidableEq, Repr

/-- An exception due: vector, XCAUSE.DETAIL, XINFO (R58, R63, R64). -/
structure Exc where
  vector : Nat
  detail : Nat
  info : Nat
  deriving DecidableEq, Repr

/-- The bytes of one half of a load (R187): their address and number, and the bytes once they have arrived. -/
structure Seg where
  pa : Nat
  len : Nat
  data : Option (List Byte)
  poison : Bool
  deriving DecidableEq, Repr

/-- A load whose data has not all arrived (R43): its halves, lowest first, the sign to extend from and the
register it writes. -/
structure Need where
  segs : List Seg
  signed : Bool
  dest : Dest
  deriving DecidableEq, Repr

/-- What a cache maintenance operation on the core's own L1s does at its landing (R97). -/
inductive Maint
  | dci (line : Nat) | ici (line : Nat) | dcia | icia
  deriving DecidableEq, Repr

/-- An operation in flight (R36): issued in `slot` of bundle `num` at `addr`, landing at the end of issue cycle
`due`. `ready` is false while its data has not arrived (R43); `cwr` is a core control register write, applied with
its checks at the landing (R111, R184); `sigPre` and `sigPost` are the words it folds before and after its results
(R261), `held` a value that is not folded, `lvq` an entry of the load-value queue to fill (R256); `act` is L1
maintenance, `subm` the tally of a SUBMIT. -/
structure Flight where
  num : Nat
  addr : Nat
  slot : Nat
  due : Nat
  writes : List RegWrite
  flags : Nat
  trap : Option Trap
  mcheck : Option MCheck
  ready : Bool
  cwr : Option (Nat × Word)
  need : Option Need
  sigPre : List Word
  sigPost : List Word
  held : Bool
  lvq : Bool
  act : Option Maint
  subm : Option Nat
  deriving DecidableEq, Repr

/-- Why a core is frozen (R43) or gated. -/
inductive Freeze
  | data            -- a load or atomic whose data has not arrived at its latency
  | fetch           -- a fetch that waits for a fill
  | partialOverlap  -- R179
  | mergeFull       -- R175
  | tally (t : Nat) -- TWAIT (R54)
  | gather          -- a waiting gather, or a mark that waits (R266)
  | cctlDrain       -- a CWR that clears DEN (R185)
  | queue           -- the load-value queue or the lag (R257)
  | maint (line : Nat)  -- a DCI whose line's merging entries still move (R98, R232)
  deriving DecidableEq, Repr

/-- The bundle that issues: its address and words (R30), its number (R56), the next slot to issue, its cycle
count and the cycles it has spent (R35), and what takes effect at its end: a taken branch (R46), a repeat prefix
(R69), a call (R59), a gather (R263), a WFE (R83), an IRET (R66). -/
structure Bundle where
  addr : Nat
  words : List OpWord
  num : Nat
  next : Nat
  cycles : Nat
  spent : Nat
  branch : Option Nat
  rep : Option (Nat × Bool)
  call : Option Exc
  gath : Bool
  fence : Bool
  wfe : Bool
  iret : Option (List Word)
  deriving DecidableEq, Repr

/-- A merging buffer entry (R174 to R176); `mask` has a bit for each byte written; `closed` gives the place in
the order of closing. -/
structure MEntry where
  line : Nat
  epoch : Nat
  data : BitVec 512
  mask : BitVec 64
  closed : Option Nat
  age : Nat
  deriving DecidableEq, Repr

/-- A held entry (R174, R177): its line, its bytes, its epoch and the interval it was created in. -/
structure HEntry where
  line : Nat
  epoch : Nat
  data : BitVec 512
  mask : BitVec 64
  interval : Nat
  deriving DecidableEq, Repr

/-- Kinds of held access (R181). -/
inductive HKind
  | load (signed : Bool) | store | swap | fadd | cas (cmp : Nat) | submit (tally : Nat) | dcf | dcfi | dzl
  deriving DecidableEq, Repr

/-- How far a held access has come: issued; issued and its bundle confirmed, its own gather still to come; checked by
its gather; at the home agent; waiting for ownership of its line or for another module; performed; its value delivered
(R182). -/
inductive HPhase
  | issued | next | checked | atHome | waitOwn | remote | done | answered
  deriving DecidableEq, Repr

/-- A held access (R181, R182): what it does, its addresses (its halves by line, R187), size and data, and once
performed the value it returns; `left` are the parts another module has not answered (address, length, place in the
value, transaction ID). -/
structure HeldAcc where
  kind : HKind
  num : Nat
  slot : Nat
  va : Nat
  pa : Nat
  halves : List (Nat × Nat)
  size : Nat
  data : Nat
  isF : Bool
  dest : Nat
  phase : HPhase
  left : List (Nat × Nat × Nat × Nat)
  value : Nat
  mcheck : Option MCheck
  pl : Nat
  deriving DecidableEq, Repr

/-- A cached first-stage translation (R164): its class (P2 or P0/P1), SPACE, whether global, level and virtual
page, what it maps to, its rights and the address of the entry. -/
structure TlbE where
  p2 : Bool
  space : Nat
  glob : Bool
  lvl : Nat
  vpn : Nat
  out : Nat
  attr : Nat
  r : Bool
  w : Bool
  x : Bool
  u : Bool
  entry : Nat
  deriving DecidableEq, Repr

/-- A cached hurdle translation (R532): partition, level, page, grain, attribute, SEC and rights. -/
structure HurdleE where
  part : Nat
  lvl : Nat
  prn : Nat
  out : Nat
  attr : Nat
  sec : Bool
  r : Bool
  w : Bool
  x : Bool
  deriving DecidableEq, Repr

/-- Why a gather is taken (R263). -/
inductive GCause
  | interval | gath | fence | held | full | overlap | twait | wfe | command | stop
  deriving DecidableEq, Repr

/-- Whether a gather of this cause is a waiting one (R266). -/
def GCause.waits : GCause → Bool
  | .interval | .gath => false
  | _ => true

/-- Conditions due at the boundary of a gather, which a rollback to it brings back (R61): a call, traps and machine
checks. -/
structure Due where
  call : Option Exc
  traps : List (Flight × Trap)
  mchecks : List MCheck
  deriving DecidableEq, Repr

/-- Nothing due. -/
def Due.none : Due := { call := Option.none, traps := [], mchecks := [] }

/-- A mark that has been taken and not confirmed (R264, R265): its cause, the bundle number, the interval it ends,
the entries closed by then, the captured signature, the conditions due there, and the router's values (R575). -/
structure Mark where
  cause : GCause
  num : Nat
  interval : Nat
  closes : Nat
  sig : Word
  due : Due
  ev : List Word
  deriving DecidableEq, Repr

/-- The architectural registers of a logical core: what a snapshot holds (R268). `creg` is keyed by the bank
(0 unbanked, 1 to 3 for P0 to P2) times 64 plus the register number of R110 and holds sp as register 0x0B. -/
structure Arch where
  g : Tbl Word
  f : Tbl Wide
  p : Nat
  pc : Nat
  dpc : Nat
  dv : Bool
  rn : Bool
  rcount : Nat
  creg : Tbl Word
  tally : Tbl Word
  hrec : Word
  hval : Wide
  deriving DecidableEq, Repr

/-- The registers after reset: the values of R110, every tally IDLE (R49), p0 reading 1, and 0 in every
register the spec gives no reset value (log entry 1). -/
def Arch.reset : Arch :=
  { g := [], f := [], p := 1, pc := 0, dpc := 0, dv := false, rn := false, rcount := 0, creg := [],
    tally := [], hrec := 0, hval := 0 }

/-- A line of an L1 cache: its address and bytes (R183). -/
structure L1Line where
  line : Nat
  data : BitVec 512
  deriving DecidableEq, Repr

/-- Kinds of load-value queue entry (R256). -/
inductive LvKind
  | load | knot | submit | time | fault | mchk | compl | event
  deriving DecidableEq, Repr

/-- A load-value queue entry (R256); `data` is filled at the landing, `bad` where a machine check took its place;
`idx` is the index of a knot, or the latency of a load; `kept` marks an entry of a bundle that faulted, which the shadow
meets on its way to the same fault. -/
structure LvEntry where
  num : Nat
  slot : Nat
  kind : LvKind
  idx : Nat
  data : Option Wide
  bad : Bool
  kept : Bool
  deriving DecidableEq, Repr

/-- A core. -/
structure Core where
  arch : Arch
  cyc : Nat                       -- number of the next issue cycle (R36)
  timebase : Word                 -- R44
  bnum : Nat                      -- bundles issued (R56)
  bcnt : Nat                      -- bundles since the last mark (R263)
  flights : List Flight
  bundle : Option Bundle
  freeze : Option Freeze
  gated : Bool                    -- clock-gated by WFE (R83)
  stopped : Bool                  -- stopped under R65
  fault : Option Exc              -- fault of the bundle at PC (R59)
  call : Option Exc
  traps : List (Flight × Trap)    -- traps landed at this boundary (R59)
  mchecks : List MCheck
  fbuf : Option (Nat × BitVec 512 × Bool)  -- a line a fetch waited for, and its poison (R201)
  twaited : Bool                  -- the gather before a TWAIT freeze has been taken at this boundary (R263)
  merge : List MEntry
  held : List HEntry              -- created since the latest confirm, in creation order
  rel : List HEntry               -- being released, in creation order
  epoch : Nat
  closes : Nat                    -- entries closed so far
  interval : Nat                  -- number of the interval since the latest mark
  gdue : Option GCause
  mark : Option Mark
  kept : Due                      -- conditions due at the confirmed gather (R61)
  waitRel : Option GCause         -- a waiting gather waits for the release (R266)
  smchecks : List MCheck          -- machine checks of released stores, for the next boundary (R59)
  hacc : Option HeldAcc
  hnext : List HeldAcc             -- held accesses issued behind it, each to be performed after a gather of its own (R181)
  l1d : Tbl L1Line
  l1i : Tbl L1Line
  barred : List Nat               -- lines whose fill in flight the L1D does not take (R233)
  tlb : List TlbE
  hcache : List HurdleE
  sigq : List (Nat × Nat × List Word)  -- words to fold since the mark, by bundle and place in it (R261)
  popped : List LvEntry           -- queue entries the shadow's bundle has taken (R256)
  arrived : List (Nat × Word)     -- completions that wait for a boundary (R52)
  applied : List (Nat × Nat × Word)    -- interval, tally and word of completions applied since the confirm (R269)
  events : List (Nat × Nat × Nat) -- interval, source and count of events accepted since the confirm (R269)
  evBase : List Word              -- ACTIVE, EV_LAST1, EV_LAST2 at the confirm (R575)
  denDrain : Option Word          -- CCTL value waiting for the drain of R185
  errs : Nat                      -- checker errors since the last confirm (R281)
  lstate : Nat                    -- state of the logical core on this core, as PX_STAT.STATE (R287)
  tested : Bool                   -- passed FT_CTEST since it was declared lame (R633)
  deriving DecidableEq, Repr

/-- A core after reset: stopped (R283), nothing in flight, caches empty and disabled (R185). -/
def Core.reset : Core :=
  { arch := Arch.reset, cyc := 0, timebase := 0, bnum := 0, bcnt := 0, flights := [], bundle := none,
    freeze := none, gated := false, stopped := false, fault := none, call := none, traps := [], mchecks := [],
    fbuf := none, twaited := false, merge := [], held := [], rel := [], epoch := 0, closes := 0, interval := 0, gdue := none,
    mark := none, kept := Due.none, waitRel := none, smchecks := [], hacc := none, hnext := [], l1d := [], l1i := [], barred := [], tlb := [], hcache := [],
    sigq := [], popped := [], arrived := [], applied := [], events := [], evBase := [0, 0, 0], denDrain := none, errs := 0,
    lstate := 4, tested := false }

/-! ### Pairs (06) -/

/-- A state copy in progress (R277, R279): the role, whether it is handed back, whether it came from a command, and
whether the logical core goes on STOPPED. -/
structure Copy where
  role : Nat
  ret : Bool
  mgr : Bool
  stopped : Bool
  deriving DecidableEq, Repr

/-- What interrupts a logical core: the detection being answered (R290), none where none is: its cause, the core
named (15 none) and the signatures; a state copy; a self-test in progress (0 where issue is to resume, 4 or 5 in that
state, 6 TEST; R288, R632); and what is to be done after a waiting gather, in order: 1 STOP, 3 to 5 SUBST and RETURN, 6
self-test, 7 replacement of a lame core (R288, R632). -/
structure Seq where
  cause : Option Nat
  named : Nat
  sigB : Word
  sigS : Word
  copy : Option Copy
  test : Option Nat
  cmds : List Nat
  deriving DecidableEq, Repr

/-- Nothing interrupts a logical core. -/
def Seq.reset : Seq := { cause := none, named := 15, sigB := 0, sigS := 0, copy := none, test := none, cmds := [] }

/-- A pair: the parity of the role that runs alone when degraded (R273), its queue (R256), the bundles the
bellwether issued and the shadow has not, whether a transient resumption awaits a confirm (R273), whether its strike
counter calls for a self-test (R632), the GIVL and LAG in force (R285), and the snapshot words that hold a double-bit
error (R693), by logical core and offset. -/
structure Pair where
  alone : Option Nat
  lvq : List LvEntry
  fetched : List (Nat × Nat × List OpWord)
  retried : Bool
  struck : Bool
  givl : Nat
  lag : Nat
  snapBad : List (Nat × Nat)
  deriving DecidableEq, Repr

/-- A pair after reset. -/
def Pair.reset : Pair :=
  { alone := none, lvq := [], fetched := [], retried := false, struck := false, givl := 12, lag := 4, snapBad := [] }

/-! ### Caches and home agents (05) -/

/-- Line states (R204); I is absence. -/
inductive LState | m | e | s
  deriving DecidableEq, Repr

/-- A line of a fold or tile cache: address, state, bytes, the class that installed it (R220), whether it was
hit since (R212), and poison (R202). -/
structure CLine where
  line : Nat
  st : LState
  data : BitVec 512
  cls : Nat
  hit : Bool
  poison : Bool
  deriving DecidableEq, Repr

/-- What a fill is for (R206); `uncached` is a read of another home that a cache not ENABLED does not keep (R209, R227). -/
inductive FillKind
  | shared | own | ownNoData | upgrade | uncached
  deriving DecidableEq, Repr

/-- A fill in flight (R201): the fold, the line, what it asks for, the allotment class of the core that began it, the cores
that wait (flat index and whether for a fetch), the transaction ID of its request to another module, the data and state once served, and whether it may install (R233). -/
structure Fill where
  fold : Nat
  line : Nat
  kind : FillKind
  cls : Nat
  sent : Option Nat
  waiters : List (Nat × Bool)
  served : Option (BitVec 512 × LState × Bool)
  install : Bool
  deriving DecidableEq, Repr

/-- A directory entry (R205): owned or shared, and its holders: 0 to 23 folds, 24 to 27 tile caches, 28 + m
module m. -/
structure DirE where
  owned : Bool
  holders : List Nat
  deriving DecidableEq, Repr

/-- A request the home serves that waits for its snoops (R206): requester (as a holder number), line, kind, the
holders still to answer, and the data so far; `tid` is that of a request of another module. -/
structure Txn where
  req : Nat
  tid : Nat
  line : Nat
  kind : FillKind
  waits : List Nat
  data : Option (BitVec 512 × Bool)
  deriving DecidableEq, Repr

/-- A line on its way out of a cache to its home or its tile cache. -/
structure OutLine where
  src : Nat
  line : Nat
  st : LState
  data : BitVec 512
  cls : Nat
  hit : Bool
  poison : Bool
  deriving DecidableEq, Repr

/-- A walk of ways in progress: the cache (fold f, or 24 + t) and the ways (R224, R241). -/
structure Walk where
  cache : Nat
  ways : Nat
  deriving DecidableEq, Repr

/-- The caches and the directories of the module. `fold` is keyed by fold, set and way, `tile` likewise;
`lfsr2` is the second copy of each LFSR (R219), `plru` the tree bits of each set (R218), `bypass` the tiles whose
bypass walk runs (R214), `homeq` requests of other modules for lines in a transaction. -/
structure Caches where
  fold : Tbl CLine
  tile : Tbl CLine
  lfsr2 : Tbl Nat
  plru : Tbl Nat
  fills : List Fill
  victims : List OutLine
  evict : List OutLine
  out : List OutLine
  walks : List Walk
  bypass : List Nat
  dir : Tbl DirE
  guest : Tbl DirE
  txns : List Txn
  homeq : List Txn
  modeNow : Tbl Nat
  deriving DecidableEq, Repr

/-! ### Scratchpads and memory (07) -/

/-- A partial granule held in the controller's write buffer (R316): granule index and pieces written. -/
structure Hold where
  granule : Nat
  pieces : Nat
  deriving DecidableEq, Repr

/-- A DRAM row's strike counter (class 7), which the controller holds (R630). -/
structure RowCount where
  channel : Nat
  row : Nat
  level : Nat
  warned : Bool
  lame : Bool
  deriving DecidableEq, Repr

/-- The memory controller's own state: granules held, marked regions of the channels in service (R320), pieces
poisoned (line numbers, R318), row strike counters (class 7 of R630), devices spared, the patrol
scrub's place, the service operation and the rows pending hard repair. -/
structure MemCtl where
  holds : List Hold
  marked : List (Nat × Nat)
  poison : List Nat
  rows : List RowCount
  spared : List (Nat × Nat)
  scrubPos : Nat               -- pieces read in the current pass (R312)
  op : Nat                     -- the service operation: 1 RETRAIN, 2 REPAIR, 3 sPPR (R322)
  result : Nat                 -- its RESULT at the end of RESYNC
  ppr : List (Nat × Nat)       -- channel and local granule of each row pending hard repair (R313)
  deriving DecidableEq, Repr

/-! ### Troughs (12) -/

/-- An accepted request (R51, R535): where it came from, its tally, its descriptor's address and whether it has
completed. `ticket` tells requests apart. -/
structure Request where
  ticket : Nat
  core : Nat
  tally : Nat
  res : Nat
  part : Nat
  pl : Nat
  header : Nat
  desc : Nat
  deriving DecidableEq, Repr

/-! ### Messages of the pasture (09) -/

/-- An Ngatra message: its header fields (R415) and the further slots as 64-bit words, lowest first. -/
structure Msg where
  mtype : Nat
  src : Nat
  dst : Nat
  hop : Bool
  tid : Nat
  addr : Nat
  param : Nat
  body : List Word
  deriving DecidableEq, Repr

/-- A far memory operation that is performed or awaits other modules (R234 to R236): the status it ends with once every
piece has succeeded, the bytes of this module's own part, and the pieces sent away (transaction, length, answer). -/
structure FarOp where
  trough : Nat
  req : Request
  status : Nat
  bytes : Nat
  pieces : List (Nat × Nat × Option Word)
  deriving DecidableEq, Repr

/-! ### Stints (12) -/

/-- A meter in its current period (R538 to R542): the opportunity that comes next, the capacity, the counts of the
owners (resident entries, 512 RECOVERY, 513 UNASSIGNED), their credits (R540), the opportunities of each that have
passed, and USED, BORROW and the last borrower of this period. -/
structure Meter where
  pos : Nat
  cap : Nat
  counts : List (Nat × Nat)
  credit : List (Nat × Int)
  passed : Tbl Nat
  used : Tbl Nat
  borrow : Tbl Nat
  last : Nat
  deriving DecidableEq, Repr

/-- A meter before its first period. -/
def Meter.reset : Meter :=
  { pos := 0, cap := 0, counts := [], credit := [], passed := [], used := [], borrow := [], last := 0 }

/-! ### Channel subsystem (08) -/

/-- Queue positions of one path of a pen (R343): submission tail and the device's reported submission head, completion
head, and the phase the next completion entry carries. -/
structure PenPath where
  sqTail : Nat
  sqHead : Nat
  cqHead : Nat
  phase : Bool
  deriving DecidableEq, Repr

/-- Queue positions after ATTACH or RESTORE (R347, R367). -/
def PenPath.reset : PenPath := { sqTail := 0, sqHead := 0, cqHead := 0, phase := true }

/-- A pen in the pen state table (R343); its state, failed flags and count in flight stand in CH_PENSTAT. `recd` are the
64 words of its record as last read (R344), `last` the path chosen last (R373), `wait` the ledger entry that waits for
ring space (R363). -/
structure Pen where
  recd : List Word
  paths : Tbl PenPath
  last : Option Nat
  wait : Option Nat
  deriving DecidableEq, Repr

/-- A detached pen. -/
def Pen.reset : Pen := { recd := [], paths := [], last := none, wait := none }

/-- A ledger entry in use (R370, R371): the request, the pen and slot, the current command (first and last clause, its
own clause), its sends, and the status recorded. `cw` are the statuses of the two entries of a COMPARE_AND_WRITE,
`port` carried the latest send, `bad` marks an uncorrectable error in a word (R372), `owner` is the module and
transaction a forwarded command came from (R368), with its clauses in `body`; `tid` is that of the latest forward. -/
structure Sent where
  req : Request
  pen : Nat
  slot : Nat
  sent : Bool
  once : Bool
  path : Nat
  port : Nat
  sends : Nat
  clause : Nat
  last : Nat
  tag : Word
  cmd : List Word
  tfirst : Nat
  tlast : Nat
  status : Nat
  dstat : Nat
  tried : Nat
  bytes : Nat
  cw : Option Nat × Option Nat
  bad : Bool
  owner : Option (Nat × Nat)
  tid : Nat
  body : List Word
  deriving DecidableEq, Repr

/-- A power-fail drain (R380 to R383): the image and whether PFW_N has risen. -/
structure Drain where
  count : Nat
  crc : Nat
  ended : Bool
  deriving DecidableEq, Repr

/-- The channel subsystem's own state: pens, the ledger entries in use by index, a pen command that waits for the thaw
or for a pen to stop (R380, R347), the drain, and the value last posted to each bus address of a link (port times 2^64
plus the address). -/
structure Chans where
  pens : Tbl Pen
  sents : Tbl Sent
  waiting : Option Word
  drain : Option Drain
  posted : Tbl Word
  deriving DecidableEq, Repr

/-! ### Ngatra links (09) -/

/-- The protocol state of an Ngatra link (R414 to R420), keyed by its lowest port: the next SEQ, the messages sent and
not acknowledged, replays of the oldest flit without progress, the last good SEQ received and the messages taken from
that flit, the credits held and the slots freed (REQ, SNP, RSP, DAT, PEN, TRN), the last LINK slot sent (NAK, ACKV,
ACKSEQ, credits). -/
structure LinkS where
  seq : Nat
  kept : List (Nat × Msg)
  stuck : Nat
  good : Nat
  taken : Nat
  credits : List Nat
  freed : List Nat
  said : Option (Bool × Bool × Nat × List Nat)
  deriving DecidableEq, Repr

/-- A link that has just come up (R418). -/
def LinkS.reset : LinkS :=
  { seq := 0, kept := [], stuck := 0, good := 4095, taken := 0, credits := [512, 256, 512, 2560, 512, 1024],
    freed := [0, 0, 0, 0, 0, 0], said := none }

/-- The pasture as this module sees it: the links, the direct links of its neighbours as masks (R426), the messages that
wait for a module's ROUTE with their SEQ (R426), and the modules whose marker is awaited (R427). -/
structure Pasture where
  links : Tbl LinkS
  nbrs : Tbl Nat
  resync : Tbl (List (Nat × Msg))
  marks : List Nat
  deriving DecidableEq, Repr

/-- What a root port answered a device last: success or Unsupported Request, the bytes as a number, and EP (R409,
R411). -/
structure DevAnswer where
  ok : Bool
  data : Nat
  ep : Bool
  deriving DecidableEq, Repr

/-- By lowest port: the LK_DREQ request in progress (R408), the LINK command that runs (R436), the ATS functions whose
invalidation is outstanding (R411), the last answer to a device, and the lanes a margin measurement took from striping
(R430). -/
structure PortOps where
  dreq : Tbl Word
  cmd : Tbl Nat
  ats : List (Nat × Nat)
  answers : Tbl DevAnswer
  margin : Tbl Nat
  deriving DecidableEq, Repr

/-! ### Engines (10, 11) -/

/-- A compression job in its context (R444, R449): its request, the words of its descriptor, the state words as fields,
the history (the latest 32 KiB, most recent byte first) and the frame's CONTENT and LINK once read. -/
structure CzJob where
  req : Request
  words : List Word
  outdone : Nat
  skip : Nat
  indone : Nat
  cksum : Nat
  inbit : Nat
  ncarry : Nat
  carry : Nat
  hist : List Byte
  head : Option (Nat × Bool)
  deriving DecidableEq, Repr

/-- A compression engine: its contexts, the context and the trough whose turn is next, the partitions it stops, and
whether its self-test runs (R444, R470, R472). -/
structure CzEngine where
  jobs : Tbl CzJob
  turn : Nat
  next : Nat
  stopping : List Nat
  testing : Bool
  deriving DecidableEq, Repr

/-- An idle compression engine. -/
def CzEngine.reset : CzEngine := { jobs := [], turn := 0, next := 0, stopping := [], testing := false }

/-- A key slot (R483); KEY is a 256-bit number whose byte i is KEY[8i + 7 : 8i]. STATE: 0 EMPTY, 1 LIVE, 2 SPENT. -/
structure KeySlot where
  key : Nat
  state : Nat
  ktype : Nat
  use : Nat
  owner : Nat
  gen : Nat
  fixed : Nat
  invoc : Nat
  hwm : Nat
  deriving DecidableEq, Repr

/-- An empty slot that was never written. -/
def KeySlot.reset : KeySlot :=
  { key := 0, state := 0, ktype := 0, use := 0, owner := 0, gen := 0, fixed := 0, invoc := 0, hwm := 0 }

/-- A cipher job in its context (R486, R495): its request, the words of its descriptor, what it latched (the slot, Key2 of an
XTS-AES-256 pair, the invocation value, hardened mode with its dummy blocks), the datapath errors so far, and where it has
failed its status and the least and most destination bytes written. -/
structure CyJob where
  req : Request
  words : List Word
  slot : KeySlot
  key2 : Nat
  invoc : Nat
  hard : Bool
  dummy : Nat
  errors : Nat
  fail : Option (Nat × Nat × Nat)
  deriving DecidableEq, Repr

/-- A cipher engine: its contexts, the trough whose turn is next, the lock's token, and the blocks since its masking
generator was seeded (R479, R495, R507). -/
structure CyEngine where
  jobs : Tbl CyJob
  next : Nat
  token : Nat
  masked : Nat
  deriving DecidableEq, Repr

/-- An idle cipher engine. -/
def CyEngine.reset : CyEngine := { jobs := [], next := 0, token := 0, masked := 0 }

/-! ### The Shepherd (14) -/

/-- A mailbox command that GO has started (R620): its address, words 0x00 to 0x78, and whether a wipe overtook it (R624). -/
structure MbCmd where
  addr : Nat
  words : List Word
  wiped : Bool
  deriving DecidableEq, Repr

/-- A LOAD under way (R604, R621): its type, the drovers or engines whose image does not run yet and the version, the reply's
SEQ and ADDSEQ, and whether one of them was declared lame. -/
structure Loading where
  type : Nat
  mask : Nat
  version : Nat
  seq : Nat
  addseq : Nat
  lost : Bool
  deriving DecidableEq, Repr

/-- A record piece that waits for the BMC (R613): its offset within the record, its bytes and its record's BOOTSEQ. -/
structure Piece where
  off : Nat
  data : List Byte
  bootseq : Nat
  deriving DecidableEq, Repr

/-- The signed SPDM and MCTP answers, and the replies to Mertovan's messages, as the I3C port gives them (R590, R615 to R618);
`words` holds STATUS and the reply data, `bytes` what follows them. -/
inductive Reply
  | words (op status : Nat) (data : List Word) (bytes : List Byte)
  | eid (n : Nat)
  | mctpVersion
  | mctpTypes
  | version
  | capabilities
  | algorithms
  | digests (d : List Byte)
  | certificate (part : List Byte) (rest : Nat)
  | challengeAuth (digest nonce sig : List Byte)
  | measurements (blocks : List (Nat × List Byte)) (nonce sig : List Byte)
  | unsupported
  | invalid
  | notReady
  deriving DecidableEq, Repr

/-- Why the Shepherd's cores restart (R588, R625). -/
inductive Restart | mismatch | update
  deriving DecidableEq, Repr

/-- The Shepherd. What the MRAM holds (R587): `life` (0 RAW to 4 VOID), the owner key hash, the identity private keys, the
certificate chains, the tamper latch and count, KW, the firmware banks and which is active, MINSVN, the boot sequence number,
the current record (header, entries in SEQ order, the blobs of its MRAM copy, the memory size of the record so far) and the
journal of unsigned entries, one list for each addendum to come. What it does not: the keep SRAM, whether firmware runs, the
mailbox command and the LOAD under way, whether memory has been trained, the nonce of R593, the noise sources that fail, the
sensors tripped and their responses not yet recorded, a restart, the pieces pending, the memory copy of R614 (address, length,
bytes used), the tick the first addendum of the journal was formed at, the EID, the last reply on the I3C port and a deferred
one, and whether core 0.0.0 has been started (R605). -/
structure Shep where
  life : Nat
  ownerHash : Option (List Byte)
  idKeys : Option (Nat × Nat)
  chains : Option (List Byte × List Byte)
  latch : Bool
  trips : Nat
  kw : Nat
  bankA : List Byte
  bankB : List Byte
  active : Bool
  minsvn : Nat
  bootseq : Nat
  header : List Word
  entries : List (List Word)
  copy : List (List Byte)
  size : Nat
  addseq : Nat
  sealed : Bool
  journal : List (List (List Word))
  keepSram : List Host.Cell
  up : Bool
  cmd : Option MbCmd
  load : Option Loading
  trained : Bool
  nonce : Option (List Byte)
  noise : Nat
  tripped : Nat
  trippedDue : List Nat
  restart : Option Restart
  pieces : List Piece
  recMem : Option (Nat × Nat × Nat)
  formed : Nat
  eid : Nat
  reply : Option Reply
  deferred : Option Reply
  started : Bool
  deriving DecidableEq, Repr

/-! ### The tense port, power and the test access port (15, 16) -/

/-- The tense port (R671 to R680): whether a record piece is being offered, the transfer sent and not yet accepted, the UART
queues, the trace queue and the records lost, and which flash the straps select (R672). -/
structure Tense where
  offering : Bool
  transfer : Option (List Byte)
  uartTx : List Byte
  uartRx : List Byte
  trace : List Word
  lost : Nat
  deriving DecidableEq, Repr

/-- Power and reset: whether MRST_N is asserted, whether THERMTRIP_N is driven, whether TH_WARN may be raised, the samples
each sensor has read 110 °C or more, the FREQ each flock runs under (R663), the code in the instruction register of the
test access port (R646), and the boot that waits for the rails: its recovery strap, self-test and flash (R655). -/
structure Power where
  held : Bool
  trip : Bool
  warned : Bool
  hot : Tbl Nat
  flockFreq : Tbl Nat
  tap : Nat
  bootWait : Option (Bool × Bool × Option (List Byte))
  deriving DecidableEq, Repr

/-- The module. -/
structure State where
  pending : List Instr
  regs : Tbl Word                  -- control registers by offset in the control space (R13, R14)
  mem : List Host.Cell             -- main memory and scratchpads of the module by physical address
  spPoison : List Nat              -- poisoned scratchpad words (R300)
  bankTo : Tbl Nat                 -- the state a scratchpad bank is changing to (R302, R304)
  ownModule : Nat                  -- module ID (R4), strapped
  cores : Tbl Core
  saved : Tbl Core                 -- each core as it was when its bundle began to issue (R59)
  snapC : Tbl Arch                 -- confirmed snapshots (R265)
  snapP : Tbl Arch                 -- pending snapshots (R264)
  pairs : Tbl Pair
  seqs : Tbl Seq                   -- what interrupts each logical core (R270 to R279)
  caches : Caches
  memctl : MemCtl
  evFirst : Tbl Nat                -- tick of the raise that set PEND (R568)
  evBack : List Nat                -- sources a rollback returned (R575)
  troughs : Tbl (List Request)
  rfield : List Request            -- requests to complete with RESERVED_FIELD (R108)
  ticket : Nat
  hurdles : List HurdleE           -- the base die's hurdle cache (R532)
  meters : Tbl Meter               -- stints in the current period (R538)
  msgs : List Msg                  -- messages to other modules, oldest first (R416)
  chans : Chans
  pasture : Pasture
  ports : PortOps
  shep : Shep
  tense : Tense
  power : Power
  cz : Tbl CzEngine
  cy : Tbl CyEngine
  keys : Tbl KeySlot               -- key slots (R483)
  drbg : Nat                       -- generate requests since the DRBG was seeded (R596)
  far : List FarOp                 -- far memory operations not yet completed
  huWait : List Nat                -- tickets an invalidation waits for (R533)
  thermal : Tbl Nat                -- thermal caps in 100 MHz: fold f, 24 + flock k (R669)
  sealedNow : List Nat             -- resident entries in sealed mode in this period (R523)
  tid : Nat                        -- the next transaction ID (R415)
  strikeAcc : Tbl Nat              -- accumulators of R631
  asyncMc : Option MCheck          -- a machine check that waits (R640)
  freeCtr : Nat                    -- the model's own: the next free value (log entry 2)
  deriving DecidableEq, Repr

/-! ### Reset -/

/-- The Shepherd as fabricated: life-cycle state RAW, an image in bank A, and an MRAM otherwise empty (R587, R589; log entry
15). -/
def Shep.reset : Shep :=
  { life := 0, ownerHash := none, idKeys := none, chains := none, latch := false, trips := 0, kw := 0,
    bankA := Config.factoryImage, bankB := [], active := false, minsvn := 0, bootseq := 0, header := [], entries := [], copy := [],
    size := 0, addseq := 0, sealed := false, journal := [], keepSram := [], up := false, cmd := none, load := none,
    trained := false, nonce := none, noise := 0, tripped := 0, trippedDue := [], restart := none, pieces := [], recMem := none,
    formed := 0, eid := 0, reply := none, deferred := none, started := false }

/-- Empty caches and directories, every cache disabled (R227, R238). -/
def Caches.reset : Caches :=
  { fold := [], tile := [], lfsr2 := [], plru := [], fills := [], victims := [], evict := [], out := [], walks := [], bypass := [],
    dir := [], guest := [], txns := [], homeq := [], modeNow := [] }

/-- The memory controller before memory is trained. -/
def MemCtl.reset : MemCtl :=
  { holds := [], marked := [], poison := [], rows := [], spared := [], scrubPos := 0, op := 0, result := 0, ppr := [] }

/-- The module while MRST_N is asserted for the first time: every control register at its reset value, which no listed
register stands for, no core started, memory and scratchpads with nothing listed (R26, R283, R302, R657, R665). -/
def State.reset : State :=
  { pending := [], regs := [], mem := [], spPoison := [], bankTo := [], ownModule := 0, cores := [], saved := [], snapC := [],
    snapP := [], pairs := [], seqs := [], caches := Caches.reset, memctl := MemCtl.reset, evFirst := [], evBack := [], troughs := [],
    rfield := [], ticket := 0, hurdles := [], meters := [], msgs := [],
    chans := { pens := [], sents := [], waiting := none, drain := none, posted := [] },
    pasture := { links := [], nbrs := [], resync := [], marks := [] },
    ports := { dreq := [], cmd := [], ats := [], answers := [], margin := [] },
    shep := Shep.reset,
    tense := { offering := false, transfer := none, uartTx := [], uartRx := [], trace := [], lost := 0 },
    power := { held := true, trip := false, warned := false, hot := [], flockFreq := [], tap := 2, bootWait := none },
    cz := [], cy := [], keys := [], drbg := 0, far := [], huWait := [], thermal := [], sealedNow := [], tid := 0, strikeAcc := [],
    asyncMc := none, freeCtr := 0 }

/-- What a command answers. -/
abbrev Out := Host.Outcome State Fault Refusal

end Sys2Proof.Machine
end

