-- ==== Sys2Proof/Machine/Ops.lean ====
section
/-! DEFINITION. The named operations over the state: control registers, memory bytes, events, rejections, machine checks' log, the numbering of cores and pairs, and the registers of a core. -/

namespace Sys2Proof.Machine

open Sys2Proof

/-! ### Control registers -/

/-- The value a control register holds. -/
def State.rget (s : State) (r : Reg) (i : Nat := 0) (j : Nat := 0) : Word :=
  (tfind s.regs (r.addr i j)).getD (BitVec.ofNat 64 (r.reset i j))

/-- The state with a control register set. -/
def State.rset (s : State) (r : Reg) (i j : Nat) (v : Word) : State :=
  { s with regs := tins s.regs (r.addr i j) v }

/-- The state with a control register changed. -/
def State.rmod (s : State) (r : Reg) (i j : Nat) (f : Word → Word) : State :=
  s.rset r i j (f (s.rget r i j))

/-- Field [hi:lo] of a control register. -/
def State.rfld (s : State) (r : Reg) (i j hi lo : Nat) : Nat := fld (s.rget r i j) hi lo

/-- One bit of a control register. -/
def State.rbit (s : State) (r : Reg) (i j b : Nat) : Bool := flag (s.rget r i j) b

/-- The state with a field of a control register set. -/
def State.rput (s : State) (r : Reg) (i j hi lo v : Nat) : State := s.rmod r i j (setFld · hi lo v)

/-- Adds to a 64-bit counter that wraps (R245, R290, R339). -/
def State.bump (s : State) (r : Reg) (i : Nat := 0) (j : Nat := 0) (n : Nat := 1) : State :=
  s.rmod r i j (· + BitVec.ofNat 64 n)

/-- Adds 1 to a counter of 64 bits that saturates. -/
def satAdd (max v n : Nat) : Nat := min (v + n) max

/-- The physical address of an offset of the module's own control space (R11). -/
def State.ctlPa (s : State) (off : Nat) : Nat := 0xF000000000000 + s.ownModule * 2 ^ 32 + off

/-! ### Free values -/

/-- The state after it has drawn a free value. -/
def State.drawn (s : State) : State := { s with freeCtr := s.freeCtr + 1 }

/-! ### Events (13) and rejections (00) -/

/-- A trace record joins its queue in SERVICE, or is counted as lost (R679). -/
def State.traceRecord (s : State) (w : Nat) : State :=
  let t := s.tense
  if s.rfld .tnStat 0 0 63 62 = 3 ∧ t.trace.length < 64 then { s with tense := { t with trace := t.trace ++ [BitVec.ofNat 64 w] } }
  else { s with tense := { t with lost := t.lost + 1 } }

/-- The EVENT record of a raise, where TN_TRACE asks for them (R679). -/
def State.traceEvent (s : State) (src : Nat) : State :=
  if s.rfld .tnTrace 0 0 63 62 = 1 then s.traceRecord (2 ^ 60 + (s.rget .pwAotime).toNat % 2 ^ 20 * 2 ^ 40 + src) else s

/-- A raise of an event source: PEND is set and COUNT rises, saturating (R567); the tick of the raise that sets
PEND is kept for R568. -/
def State.raise (s : State) (src : Nat) : State :=
  let v := s.rget .evStat src
  let s := if flag v 63 then s else { s with evFirst := tins s.evFirst src (s.rget .pwAotime).toNat }
  (s.rset .evStat src 0 (BitVec.ofNat 64 (2 ^ 63 + satAdd 0xFFFF (fld v 15 0) 1))).traceEvent src

/-- A rejection is recorded in MG_CFGERR, or sets OVF where a record is held, and raises source 4 (R18, R20 to R22). -/
def State.reject (s : State) (cause addr data : Nat) : State :=
  let a := s.rget .mgCfgerrAddr
  let s := if flag a 63 then s.rset .mgCfgerrAddr 0 0 (setFlag a 62 true)
    else (s.rset .mgCfgerrAddr 0 0 (BitVec.ofNat 64 (2 ^ 63 + cause * 2 ^ 59 + addr % 2 ^ 52))).rset
      .mgCfgerrData 0 0 (BitVec.ofNat 64 data)
  s.raise 4

/-- A log register under the first-record rule of R22: a record while VLD is 0, else OVF. -/
def State.record (s : State) (r : Reg) (i j : Nat) (v : Nat) : State :=
  let a := s.rget r i j
  s.rset r i j (if flag a 63 then setFlag a 62 true else BitVec.ofNat 64 (2 ^ 63 + v % 2 ^ 62))

/-- A machine check is recorded in FT_MCLOG and FT_MCADDR under the first-record rule and raises FT_MCHK
(R641, R650); `core` is 0xFF for one that waits. -/
def State.recordMc (s : State) (m : MCheck) (core : Nat) : State :=
  let log := s.rget .ftMclog
  let s := if flag log 63 then s.rset .ftMclog 0 0 (setFlag log 62 true)
    else (s.rset .ftMclog 0 0 (BitVec.ofNat 64 (2 ^ 63 + m.code * 2 ^ 54 + bnat m.store * 2 ^ 53
      + bnat m.async * 2 ^ 52 + core % 256 * 2 ^ 44 + m.place % 2 ^ 16 * 2 ^ 24))).rset
      .ftMcaddr 0 0 (BitVec.ofNat 64 m.info)
  s.raise 34

/-- A machine check that no store caused, delivered to the core that made the access (R638). -/
def mcheckOf (code place info : Nat) : MCheck :=
  { code := code, store := false, async := false, place := place, info := info }

/-- XCAUSE.DETAIL of a machine check (R639). -/
def MCheck.detail (m : MCheck) : Nat :=
  m.code * 2 ^ 24 + bnat m.store * 2 ^ 23 + bnat m.async * 2 ^ 22 + m.place % 2 ^ 16

/-! ### Memory bytes (R11, R293) -/

/-- What a byte of memory that nothing has written reads as (log entry 4). -/
def memDefault : Byte := 0

/-- A byte of memory. -/
def State.byte (s : State) (pa : Nat) : Byte := tget memDefault s.mem pa

/-- The state with a byte of memory written. -/
def State.setByte (s : State) (pa : Nat) (b : Byte) : State := { s with mem := tput memDefault s.mem pa b }

/-- `n` bytes of memory from an address up. -/
def State.bytes (s : State) (pa n : Nat) : List Byte := (rangeFrom pa n).map s.byte

/-- Bytes written from an address up. -/
def setBytes (s : State) : Nat → List Byte → State
  | _, [] => s
  | pa, b :: bs => setBytes (s.setByte pa b) (pa + 1) bs

/-- The 64 bytes of a line (line number pa / 64). -/
def State.memLine (s : State) (line : Nat) : BitVec 512 := BitVec.ofNat 512 (ofBytes (s.bytes (line * 64) 64))

/-- The state with a line of memory written. -/
def State.setMemLine (s : State) (line : Nat) (d : BitVec 512) : State :=
  setBytes s (line * 64) (toBytes 64 d.toNat)

/-- Byte `i` of a line. -/
def lineByte (d : BitVec 512) (i : Nat) : Byte := (d >>> (8 * i)).setWidth 8

/-- `n` bytes of a line from byte `i` up. -/
def lineBytes (d : BitVec 512) (i n : Nat) : List Byte := (rangeFrom i n).map (lineByte d)

/-- A line with the bytes that `mask` selects taken from `x`. -/
def lineMerge (d x : BitVec 512) (mask : BitVec 64) : BitVec 512 :=
  BitVec.ofNat 512 (ofBytes ((List.range 64).map fun i => if mask.getLsbD i then lineByte x i else lineByte d i))

/-- Bytes placed in a line from byte `i` up, and the mask of the bytes written. -/
def linePlace (i : Nat) (bs : List Byte) : BitVec 512 × BitVec 64 :=
  (BitVec.ofNat 512 (ofBytes bs * 2 ^ (8 * i)), BitVec.ofNat 64 ((2 ^ bs.length - 1) * 2 ^ i))

/-- The mask of a whole line. -/
def fullMask : BitVec 64 := BitVec.allOnes 64

/-! ### Addresses (R11, R13, R293 to R295, R314) -/

/-- Whether an address lies in the main memory range of the pasture. -/
def inMemRange (pa : Nat) : Bool := decide (pa < 0x200000000000)

/-- Whether an address lies in a module's control space, and which. -/
def ctlModule (pa : Nat) : Option Nat :=
  if 0xF000000000000 ≤ pa ∧ pa < 0xF000800000000 then some ((pa - 0xF000000000000) / 2 ^ 32) else none

/-- The module of a memory address (R11). -/
def memModule (pa : Nat) : Nat := bits pa 44 42

/-- The byte within its module of a memory address. -/
def memOff (pa : Nat) : Nat := bits pa 41 0

/-- Whether a byte offset lies in the 256 MiB of the scratchpads (R293). -/
def inSpRange (off : Nat) : Bool := decide (0x3FFF0000000 ≤ off)

/-- The flock, the bank and the word of a scratchpad byte of the own module (R293). -/
def State.scratch (s : State) (pa : Nat) : Option (Nat × Nat × Nat) :=
  let off := memOff pa
  if inMemRange pa && (memModule pa == s.ownModule) && inSpRange off && decide (off < 0x3FFFC000000) then
    let d := off - 0x3FFF0000000
    some (d / 2 ^ 24, d / 2 ^ 20 % 16, d % 2 ^ 24 / 16)
  else none

/-- The physical address of byte `off` of flock k's scratchpad (R293). -/
def State.spBase (s : State) (k : Nat) : Nat := s.ownModule * 2 ^ 42 + 0x3FFF0000000 + k * 2 ^ 24

/-- Whether a module is present in the pasture: the own module, or one LK_PSTAT shows (R425). -/
def State.present (s : State) (m : Nat) : Bool :=
  decide (m = s.ownModule) || s.rbit .lkPstat 0 0 (46 + m)

/-- WHERE of an unbacked address (R12, R295, R638), none where the address is backed by main memory or a
scratchpad. Memory of another module is taken as populated up to its scratchpad range. -/
def State.unbacked (s : State) (pa : Nat) : Option Nat :=
  if inMemRange pa then
    let m := memModule pa
    let off := memOff pa
    if !s.present m then some 1
    else if m = s.ownModule then
      if inSpRange off then (if off < 0x3FFFC000000 then none else some 2)
      else if off < s.rfld .mcCfg 0 0 13 0 * 2 ^ 28 then none else some 2
    else if inSpRange off && decide (0x3FFFC000000 ≤ off) then some 2 else none
  else some 0

/-- Whether an address is main memory: backed and in no scratchpad range (R294, R295). -/
def State.mainMem (s : State) (pa : Nat) : Bool :=
  inMemRange pa && (s.unbacked pa).isNone && !inSpRange (memOff pa)

/-- The number of populated stripe groups (R333). -/
def State.groups (s : State) : Nat := 2 ^ s.rfld .mcCfg 0 0 57 56

/-- The stripe group, data channel and local granule index of a byte offset (R314). -/
def State.granulePlace (s : State) (off : Nat) : Nat × Nat × Nat :=
  let g := off / 256
  let n := s.groups
  (g % n, 5 * (g % n) + bits off 7 6, g / n)

/-! ### Cores, folds and pairs (R4, R252 to R254, R277, R643) -/

/-- The fold of a flat core index. -/
def foldOf (n : Nat) : Nat := n / 9
/-- The flock of a flat core index. -/
def flockOf (n : Nat) : Nat := n / 18
/-- The core's record. -/
def State.core (s : State) (n : Nat) : Core := tget Core.reset s.cores n
/-- The state with a core's record set. -/
def State.setCore (s : State) (n : Nat) (c : Core) : State := { s with cores := tins s.cores n c }
/-- The state with a core's record changed. -/
def State.modCore (s : State) (n : Nat) (f : Core → Core) : State := s.setCore n (f (s.core n))
/-- Whether the clock of fold f runs: awake, and no thermal trip (R665, R670). -/
def State.foldRuns (s : State) (f : Nat) : Bool := decide (s.rfld .pwFold f 0 63 61 = 0) && !s.power.trip
/-- Whether the clock of flock k's engines runs (R666, R670). -/
def State.flockRuns (s : State) (k : Nat) : Bool := decide (s.rfld .pwFlock k 0 63 61 = 0) && !s.power.trip
/-- The record of module pair p. -/
def State.pair (s : State) (p : Nat) : Pair := tget Pair.reset s.pairs p
/-- The state with a pair's record changed. -/
def State.modPair (s : State) (p : Nat) (f : Pair → Pair) : State :=
  { s with pairs := tins s.pairs p (f (s.pair p)) }

/-- What interrupts logical core `l`. -/
def State.seq (s : State) (l : Nat) : Seq := tget Seq.reset s.seqs l
/-- The state with it changed. -/
def State.modSeq (s : State) (l : Nat) (f : Seq → Seq) : State := { s with seqs := tins s.seqs l (f (s.seq l)) }

/-- The core the spare of fold f stands in for (R289). -/
def State.spareFor (s : State) (f : Nat) : Option Nat :=
  let v := s.rget .pxSpare f
  if flag v 63 then some (fld v 3 0) else none

/-- Whether a core is lame: the LAME bit of its strike counter (R632). -/
def State.lame (s : State) (n : Nat) : Bool := s.rbit .ftCnt 0 n 63

/-- Whether module pair p is in paired mode (R252). -/
def State.paired (s : State) (p : Nat) : Bool := s.rbit .pxCfg (p / 4) (p % 4) 19

/-- Whether module pair p runs degraded (R273). -/
def State.degraded (s : State) (p : Nat) : Bool := s.rbit .pxStat (p / 4) (p % 4) 60

/-- The core number whose role a physical core plays (R277, R643): none where it holds no role. -/
def State.roleOf (s : State) (n : Nat) : Option Nat :=
  let f := foldOf n
  let r := if n % 9 = 8 then s.spareFor f else if s.spareFor f = some (n % 9) then none else some (n % 9)
  match r with
  | none => none
  | some c =>
    let p := 4 * f + c / 2
    if s.degraded p && decide ((s.pair p).alone ≠ some (c % 2)) then none else some c

/-- The physical core in the role of core number c of fold f. -/
def State.physOf (s : State) (f c : Nat) : Nat := if s.spareFor f = some c then 9 * f + 8 else 9 * f + c

/-- What a physical core does: nothing, a logical core of its own, bellwether, or shadow (R254). -/
inductive Part | idle | single | bell | shadow
  deriving DecidableEq, Repr

/-- The part a physical core plays. -/
def State.part (s : State) (n : Nat) : Part :=
  match s.roleOf n with
  | none => .idle
  | some c =>
    let p := 4 * foldOf n + c / 2
    if !s.paired p || s.degraded p then .single else if c % 2 = 0 then .bell else .shadow

/-- The module pair a physical core belongs to by its role. -/
def State.pairOf (s : State) (n : Nat) : Nat := 4 * foldOf n + (s.roleOf n).getD (n % 9) / 2

/-- The flat index of the logical core a role number of fold f belongs to (R254). -/
def State.logicalOf (s : State) (f c : Nat) : Nat :=
  if s.paired (4 * f + c / 2) then 9 * f + 2 * (c / 2) else 9 * f + c

/-- The flat index of the logical core a physical core runs. -/
def State.logical (s : State) (n : Nat) : Nat := s.logicalOf (foldOf n) ((s.roleOf n).getD (n % 9))

/-- The state of a logical core, as PX_STAT.STATE names it (R287). -/
def State.lstate (s : State) (l : Nat) : Nat := (s.core l).lstate

/-- The state with a logical core's state set. -/
def State.setLstate (s : State) (l v : Nat) : State := s.modCore l (fun c => { c with lstate := v })

/-- The physical cores that run a logical core, the bellwether first. -/
def State.coresOf (s : State) (l : Nat) : List Nat :=
  let f := foldOf l
  let c := l % 9
  let p := 4 * f + c / 2
  if s.paired p then
    if s.degraded p then [s.physOf f (2 * (c / 2) + (s.pair p).alone.getD 0)]
    else [s.physOf f (2 * (c / 2)), s.physOf f (2 * (c / 2) + 1)]
  else [s.physOf f c]

/-- The index under which a core's translation and router pages are kept: the pages of a spare that stands in
are those of the core it stands in for (R277), and in paired mode both cores name the logical core (R254, R578). -/
def State.pageOf (s : State) (n : Nat) : Nat :=
  let f := foldOf n
  let c := if n % 9 = 8 then (s.spareFor f).getD 8 else n % 9
  if c = 8 then n else 9 * f + c

/-- The router's index of a core: `pageOf`, and in paired mode the pair's logical core (R570, R578). -/
def State.evCore (s : State) (n : Nat) : Nat :=
  let m := s.pageOf n
  if m % 9 = 8 then m else s.logicalOf (foldOf m) (m % 9)

/-- The resident entry a logical core belongs to: CUR of PT_CORE, the spare's where it stands in (R526). -/
def State.curOf (s : State) (l : Nat) : Nat := s.rfld .ptCore (s.physOf (foldOf l) (l % 9)) 0 24 16

/-- The partition ID of a resident entry (R523). -/
def State.partId (s : State) (r : Nat) : Nat := s.rfld .ptRes r 0 10 0

/-- The state of a resident entry: 0 EMPTY, 1 ACTIVE, 2 QUIESCING (R523). -/
def State.resState (s : State) (r : Nat) : Nat := s.rfld .ptRes r 0 63 62

/-! ### Registers of a core (R32, R57, R110) -/

/-- The reset value of a core control register by its key. -/
def cregReset (k : Nat) : Word := if k = 0 then 0x800000 else 0

/-- A core control register by its key: bank times 64 plus number. -/
def Arch.cr (a : Arch) (k : Nat) : Word := (tfind a.creg k).getD (cregReset k)

/-- The registers with a core control register set. -/
def Arch.setCr (a : Arch) (k : Nat) (v : Word) : Arch := { a with creg := tins a.creg k v }

/-- The current privilege level. -/
def Arch.pl (a : Arch) : Nat := fld (a.cr 0) 23 22

/-- The key of sp of a level. -/
def spKey (pl : Nat) : Nat := (pl + 1) * 64 + 0x0B

/-- An integer register; g0 reads 0. -/
def Arch.rg (a : Arch) (n : Nat) : Word := if n = 0 then 0 else tget 0 a.g n

/-- A floating register. -/
def Arch.rf (a : Arch) (n : Nat) : Wide := tget 0 a.f n

/-- A predicate; p0 reads 1. -/
def Arch.rp (a : Arch) (n : Nat) : Bool := decide (n = 0) || a.p.testBit n

/-- The value of an idle tally (R49). -/
def tallyIdle : Word := 0xFFFE000000000000

/-- The value of a pending tally (R49). -/
def tallyPending : Word := 0xFFFF000000000000

/-- A tally. -/
def Arch.rt (a : Arch) (n : Nat) : Word := (tfind a.tally n).getD tallyIdle

/-- The registers with one register written; writes to g0 and p0 are discarded (R32). -/
def Arch.write (a : Arch) (w : RegWrite) : Arch :=
  match w.dest with
  | .g n => if n = 0 then a else { a with g := tins a.g n (w.val.setWidth 64) }
  | .f n => { a with f := tins a.f n w.val }
  | .p n => if n = 0 then a else { a with p := putBits a.p n n (bnat (w.val != 0)) }
  | .sp l => a.setCr (spKey l) (w.val.setWidth 64)
  | .tally n => { a with tally := tins a.tally n (w.val.setWidth 64) }
  | .divSigns => a.setCr 1 (setFld (a.cr 1) 15 14 w.val.toNat)
  | .creg k => a.setCr k (w.val.setWidth 64)

/-- The registers with sticky flags added to ASTAT (R113). -/
def Arch.addFlags (a : Arch) (fl : Nat) : Arch :=
  if fl = 0 then a else a.setCr 1 (a.cr 1 ||| BitVec.ofNat 64 (fl % 128))

/-- The mood of the current level (R112). -/
def Arch.mood (a : Arch) : Mood := moodOf (a.cr 0)

/-- The key of a register banked by level (R57). -/
def bankKey (pl n : Nat) : Nat := (pl + 1) * 64 + n

end Sys2Proof.Machine
end

