-- ==== Sys2Proof/Machine/Chan.lean ====
section
/-! DEFINITION. Memory channels and pieces: which channel holds a line, poison in memory, writes of lines through the controller, and the failure of a channel (07, R310 to R325). -/

namespace Sys2Proof.Machine

open Sys2Proof

/-- The state of a channel: 0 ABSENT, 1 ONLINE, 2 OFFLINE, 3 RESYNC, 4 FAILED (R338). -/
def State.chState (s : State) (ch : Nat) : Nat := s.rfld .mcChstat ch 0 63 61

/-- The state with a channel's state set. -/
def State.setChState (s : State) (ch v : Nat) : State := s.rput .mcChstat ch 0 63 61 v

/-- The memory controller's record changed. -/
def State.modMc (s : State) (f : MemCtl → MemCtl) : State := { s with memctl := f s.memctl }

/-- Whether a line lies in the own module's main memory. -/
def State.ownLine (s : State) (line : Nat) : Bool :=
  inMemRange (line * 64) && (memModule (line * 64) == s.ownModule) && !inSpRange (memOff (line * 64))

/-- Group, data channel and local granule index of a line of the own module (R314). -/
def State.linePlace (s : State) (line : Nat) : Nat × Nat × Nat := s.granulePlace (memOff (line * 64))

/-- The line of channel `ch` in granule `loc` of its group, none for the check channel. -/
def State.chanLine (s : State) (ch loc : Nat) : Option Nat :=
  if ch % 5 = 4 then none
  else some ((s.ownModule * 2 ^ 42 + (loc * s.groups + ch / 5) * 256) / 64 + ch % 5)

/-- The channels of a group in some state. -/
def State.groupIn (s : State) (g st : Nat) : List Nat :=
  (rangeFrom (5 * g) 5).filter fun ch => s.chState ch = st

/-- Whether memory holds a line poisoned: a listed piece (R318), or a piece of a channel that failed beside
another failed channel of its group (R324). -/
def State.memPoisoned (s : State) (line : Nat) : Bool :=
  s.memctl.poison.contains line ||
    (s.ownLine line &&
      (let (g, ch, _) := s.linePlace line
       decide (s.chState ch = 4) && decide (2 ≤ (s.groupIn g 4).length)))

/-- A piece marked poisoned. -/
def State.poisonMem (s : State) (line : Nat) : State :=
  if s.memctl.poison.contains line then s else s.modMc fun m => { m with poison := line :: m.poison }

/-- A write of a whole line through its home's controller: its bytes, its poison (R318), the mark of its region
while its channel is OFFLINE (R320), and the pieces of its granule held for combining (R316). -/
def State.memWriteLine (s : State) (line : Nat) (d : BitVec 512) (poison : Bool) : State :=
  let s := s.setMemLine line d
  let s := s.modMc fun m => { m with poison := if poison then line :: m.poison.filter (· ≠ line) else m.poison.filter (· ≠ line) }
  if s.ownLine line then
    let (_, ch, loc) := s.linePlace line
    let s := if s.chState ch = 2 && !s.memctl.marked.contains (ch, loc / 1024) then
      s.modMc fun m => { m with marked := (ch, loc / 1024) :: m.marked } else s
    let s := if s.chState ch = 2 then s.rput .mcSvcstat 0 0 31 0 (s.memctl.marked.filter (fun x => x.1 == ch)).length else s
    let g := line / 4
    let b := 2 ^ (line % 4)
    let rest := s.memctl.holds.filter (fun h => h.granule != g)
    let had := match s.memctl.holds.find? (fun h => h.granule == g) with
      | some h => h.pieces
      | none => 0
    s.modMc fun m => { m with holds := if had ||| b = 15 then rest else { granule := g, pieces := had ||| b } :: rest }
  else s

/-- A service operation ends: RESULT, BUSY and PHASE, and MC_SVC (R337, R340). -/
def State.endService (s : State) (result : Nat) : State :=
  let v := s.rget .mcSvcstat
  (s.rset .mcSvcstat 0 0 (setFld (setFld v 63 63 0) 61 56 result)).raise 1540

/-- The lines of channel `ch` in a marked region of 1,024 granules. -/
def State.regionLines (s : State) (ch region : Nat) : List Nat :=
  (rangeFrom (region * 1024) 1024).filterMap (s.chanLine ch)

/-- A channel becomes FAILED (R319, R321); what that does beside another channel of its group that is not
ONLINE (R324); MC_DEGR and, where pieces are lost, MC_UE. -/
def State.failChannel (s : State) (ch : Nat) : State :=
  let g := ch / 5
  if s.chState ch = 4 ∨ s.chState ch = 0 then s
  else
    let busy := (s.groupIn g 2 ++ s.groupIn g 3).filter (· ≠ ch)
    let lost := (s.groupIn g 4).filter (· ≠ ch)
    let s := s.setChState ch 4
    let s := if s.rbit .mcSvcstat 0 0 63 && decide (s.rfld .mcSvcstat 0 0 52 48 = ch) then
        (s.modMc fun m => { m with marked := m.marked.filter (fun x => x.1 != ch), op := 0 }).endService 4
      else s
    let s := match busy with
      | o :: _ =>
        let regions := (s.memctl.marked.filter (fun (x : Nat × Nat) => x.1 == o)).map (fun (x : Nat × Nat) => x.2)
        let lines := regions.flatMap fun r => s.regionLines o r ++ s.regionLines ch r
        let s := lines.foldl State.poisonMem s
        let s := s.setChState o 1
        let s := s.modMc fun m => { m with marked := m.marked.filter (fun x => x.1 != o) }
        (s.endService 4).raise (1532 + g)
      | [] => s
    let s := if lost.isEmpty then s else s.raise (1532 + g)
    s.raise (1536 + g)

end Sys2Proof.Machine
end

