-- ==== Sys2Proof/Machine/Ports.lean ====
section
/-! DEFINITION. Links, their failure, the paths of pens over them, the routes of the pasture and the sending of Ngatra messages (08, R343 to R350, R374; 09, R399 to R431). -/

namespace Sys2Proof.Machine

open Sys2Proof

/-! ### Links (R399, R400, R435) -/

/-- The lowest port of the link a port belongs to, from its WIDTH (R399). -/
def State.lowPort (s : State) (p : Nat) : Nat := p - p % 2 ^ s.rfld .lkCfg p 0 10 8

/-- The state of a link: 0 OFF, 1 DOWN, 2 UP, 3 RECOVERY, 4 CONTAINED, 5 MEMBER (R435). -/
def State.linkState (s : State) (p : Nat) : Nat := s.rfld .lkStat p 0 63 61

/-- The role of a link: 0 OFF, 1 PCIE, 2 NGATRA (R433). -/
def State.linkRole (s : State) (p : Nat) : Nat := s.rfld .lkCfg p 0 13 12

/-- LK_LINK of a link. -/
def State.lkLink (s : State) (p : Nat) : State := s.raise (128 + 2 * p)

/-- A link takes a state; a change raises LK_LINK (R443). -/
def State.setLink (s : State) (p v : Nat) : State :=
  if s.linkState p = v then s else (s.rput .lkStat p 0 63 61 v).lkLink p

/-- A record in LK_ERRLOG and LK_ERRADDR under the first-record rule, and LK_XFER (R438). -/
def State.lkError (s : State) (p cause rid addr : Nat) : State :=
  let v := s.rget .lkErrlog p
  let s := if flag v 63 then s.rset .lkErrlog p 0 (setFlag v 62 true)
    else (s.rset .lkErrlog p 0 (BitVec.ofNat 64 (2 ^ 63 + cause * 2 ^ 58 + rid % 2 ^ 16))).rset .lkErraddr p 0 (BitVec.ofNat 64 addr)
  s.raise (129 + 2 * p)

/-! ### Pens and their paths (R343 to R350) -/

/-- The channel subsystem's record changed. -/
def State.modCh (s : State) (f : Chans → Chans) : State := { s with chans := f s.chans }

/-- A pen of the pen state table. -/
def State.pen (s : State) (n : Nat) : Pen := tget Pen.reset s.chans.pens n

/-- The state with a pen changed. -/
def State.modPen (s : State) (n : Nat) (f : Pen → Pen) : State := s.modCh fun c => { c with pens := tins c.pens n (f (s.pen n)) }

/-- The state of a pen: 0 DETACHED, 1 ATTACHED, 2 STOPPING, 3 STOPPED (R347, R393). -/
def State.penState (s : State) (n : Nat) : Nat := s.rfld .chPenstat n 0 63 61

/-- Word `w` of a pen's record. -/
def Pen.word (p : Pen) (w : Nat) : Nat := (lget 0 p.recd w).toNat

/-- KIND of a pen: 1 NVME, 2 NVME_ADMIN, 3 RING, 4 REMOTE (R344). -/
def Pen.kind (p : Pen) : Nat := bits (p.word 0) 63 60
/-- PART of a pen. -/
def Pen.part (p : Pen) : Nat := bits (p.word 0) 58 48
/-- PATHGRP of a pen. -/
def Pen.group (p : Pen) : Nat := bits (p.word 0) 47 40
/-- QSIZE of a pen. -/
def Pen.qsize (p : Pen) : Nat := bits (p.word 0) 12 0
/-- Word `w` of a pen's path entry i (R345). -/
def Pen.pathWord (p : Pen) (i w : Nat) : Nat := p.word (16 + 4 * i + w)
/-- Queue positions of a path. -/
def Pen.path (p : Pen) (i : Nat) : PenPath := tget PenPath.reset p.paths i

/-- Whether path i of a path group is valid (R391). -/
def State.pathValid (s : State) (g i : Nat) : Bool := s.rbit .chPathgrp g 0 (8 * i + 7)
/-- PORT of path i of a path group. -/
def State.pathPort (s : State) (g i : Nat) : Nat := s.rfld .chPathgrp g 0 (8 * i + 6) (8 * i)
/-- Whether a path is UP in its group: valid, and its link up, in Recovery too (R350, R429). -/
def State.pathUp (s : State) (g i : Nat) : Bool :=
  s.pathValid g i && (s.linkState (s.pathPort g i) == 2 || s.linkState (s.pathPort g i) == 3)
/-- Whether a path has failed for a pen (R374). -/
def State.pathFailed (s : State) (n i : Nat) : Bool := s.rbit .chPenstat n 0 (32 + i)

/-- A path fails for a pen, CH_PATH is raised (R374, R398). -/
def State.failPath (s : State) (n i : Nat) : State :=
  if s.pathFailed n i then s else (s.rput .chPenstat n 0 (32 + i) (32 + i) 1).raise 51

/-- Paths of a path group over a port, valid ones and those being drained. -/
def State.pathsOver (s : State) (n g p : Nat) : List Nat :=
  (List.range 8).filter fun i =>
    (s.pathValid g i && s.pathPort g i == p) || s.chans.sents.any fun x => x.2.pen == n && x.2.sent && x.2.path == i && x.2.port == p

/-- A link goes down or is reported fatal: each group path over it changes state, and it fails for every pen of every
group that uses it (R374). -/
def State.failPort (s : State) (p : Nat) : State :=
  let s := (List.range 256).foldl (fun s g =>
    ((List.range 8).filter fun i => s.pathValid g i && s.pathPort g i == p).foldl (fun s _ => s.raise 51) s) s
  (s.chans.pens.map fun x => x.1).foldl (fun s n =>
    if s.penState n = 0 then s else (s.pathsOver n (s.pen n).group p).foldl (fun s i => s.failPath n i) s) s

/-! ### Accesses another module does not serve (R12, R416) -/

/-- A core's accesses to a line end in the machine check UNBACKED (R12, R416, R638). -/
def Core.unserved (c : Core) (line place : Nat) : Core :=
  let mc := fun (pa : Nat) => mcheckOf 1 place pa
  let fl := fun (f : Flight) =>
    match f.need with
    | none => f
    | some nd =>
      match nd.segs.find? fun g => g.data.isNone && g.pa / 64 == line with
      | none => f
      | some g =>
        let seg := fun (x : Seg) => if x.data.isNone && x.pa / 64 == line then { x with data := some (List.replicate x.len 0) } else x
        { f with need := some { nd with segs := nd.segs.map seg }, mcheck := f.mcheck.orElse fun _ => some (mc g.pa) }
  let lost := c.rel.filter fun h => h.line == line
  let bad := lost.map fun _ => { mc (line * 64) with store := true }
  let waits := fun (h : HeldAcc) => (h.phase == .waitOwn && h.pa / 64 == line) || h.left.any fun x => x.1 / 64 == line
  let valued := fun (h : HeldAcc) => match h.kind with
    | .load _ | .swap | .fadd | .cas _ => true
    | _ => false
  let hacc := c.hacc.map fun h =>
    if waits h then
      (if valued h then { h with phase := .done, left := [], mcheck := h.mcheck.orElse fun _ => some (mc h.pa) }
       else { h with phase := .answered, left := [] })
    else h
  let bad := bad ++ match c.hacc with
    | some h => if waits h && !valued h then [{ mc h.pa with store := true }] else []
    | none => []
  { c with flights := c.flights.map fl, rel := c.rel.filter fun h => h.line != line, smchecks := c.smchecks ++ bad, hacc := hacc }

/-- A request of this module for a line is not served: its fills end, and every access that waits for it (R12, R416). -/
def State.unserved (s : State) (line place : Nat) : State :=
  let gone := s.caches.fills.filter fun x => x.line == line && x.served.isNone
  let s := { s with caches := { s.caches with fills := s.caches.fills.filter fun x => !(x.line == line && x.served.isNone) } }
  let fetchers := gone.flatMap fun x => (x.waiters.filter fun w => w.2).map fun w => w.1
  let s := { s with cores := s.cores.map fun x => (x.1, x.2.unserved line place) }
  fetchers.eraseDups.foldl (fun s n => s.modCore n fun c =>
    if c.freeze = some .fetch then { c with freeze := none, mchecks := c.mchecks ++ [mcheckOf 1 place (line * 64)] } else c) s

/-- A module is no longer present: what this module asked of it is not served, and the far memory operations it performs end
FM_RANGE (R236, R425, R426). -/
def State.moduleLost (s : State) (m : Nat) : State :=
  let lines := (s.caches.fills.filter fun x => x.served.isNone && memModule (x.line * 64) == m).map fun x => x.line
  let held := s.cores.flatMap fun x => match x.2.hacc with
    | some h => (h.left.filter fun y => memModule y.1 == m).map fun y => y.1 / 64
    | none => []
  let s := (lines ++ held).eraseDups.foldl (fun s l => s.unserved l 1) s
  let end1 := fun (x : FarOp) => if bits x.req.header 34 32 = m then
    { x with pieces := x.pieces.map fun p => (p.1, p.2.1, p.2.2.orElse fun _ => some (BitVec.ofNat 64 (0x101 * 2 ^ 48))) } else x
  let s := { s with far := s.far.map end1 }
  { s with msgs := s.msgs.filter fun x => x.dst != m }

/-! ### Sending Ngatra messages (R415 to R419) -/

/-- The class of a message type: 0 REQ, 1 SNP, 2 RSP, 3 DAT, 4 PEN (R416). -/
def mtypeClass (t : Nat) : Nat :=
  if 0x08 ≤ t ∧ t < 0x10 then 0 else if 0x10 ≤ t ∧ t < 0x18 then 1 else if 0x20 ≤ t ∧ t < 0x28 then 3 else if 0x28 ≤ t then 4 else 2

/-- The credit class of a message: TRN on the first link of a two-hop route (R418). -/
def Msg.cls (m : Msg) : Nat := if m.hop then 5 else mtypeClass m.mtype

/-- The slots a message takes (R415, R416). -/
def Msg.slots (m : Msg) : Nat := 1 + (m.body.length + 1) / 2

/-- The protocol state of an Ngatra link. -/
def State.lnk (s : State) (p : Nat) : LinkS := tget LinkS.reset s.pasture.links p

/-- The pasture's record changed. -/
def State.modPa (s : State) (f : Pasture → Pasture) : State := { s with pasture := f s.pasture }

/-- The state with a link's protocol state changed. -/
def State.modLnk (s : State) (p : Nat) (f : LinkS → LinkS) : State := s.modPa fun x => { x with links := tins x.links p (f (s.lnk p)) }

/-- Whether pasture group g is an active link that is up (R423, R442). -/
def State.groupActive (s : State) (g : Nat) : Bool :=
  s.rbit .lkPstat 0 0 (31 + g) && (s.linkState (4 * g) == 2 || s.linkState (4 * g) == 3)
/-- Whether pasture group g is a standby link that is up. -/
def State.groupStandby (s : State) (g : Nat) : Bool :=
  s.rbit .lkPstat 0 0 (24 + g) && (s.linkState (4 * g) == 2 || s.linkState (4 * g) == 3)
/-- The peer of a pasture group (R435). -/
def State.groupPeer (s : State) (g : Nat) : Nat := s.rfld .lkStat (4 * g) 0 50 48

/-- A message leaves in the next payload flits of a link, and is kept for replay under the SEQ of the last of them
(R414, R418, R419). -/
def State.transmit (s : State) (p : Nat) (m : Msg) : State :=
  s.modLnk p fun l => { l with seq := (l.seq + 1 + (m.slots - 1) / 15) % 4096, kept := l.kept ++ [((l.seq + (m.slots - 1) / 15) % 4096, m)],
                               credits := l.credits.set m.cls (lget 0 l.credits m.cls - m.slots) }

/-- Messages sent in order: one that lacks its credits, its link or its peer's ROUTE holds back the later ones of its
class on its link (R418, R426); one to a module that is not present is dropped. -/
def sendMsgs : List Msg → List (Nat × Nat) → State → State
  | [], _, s => s
  | m :: ms, blocked, s =>
    let r := s.rget .lkRoute m.dst
    if !flag r 63 then sendMsgs ms blocked s
    else
      let p := 4 * fld r 58 56
      let m' := { m with hop := !flag r 62 }
      let waits := blocked.contains (p, m'.cls) || !s.groupActive (p / 4) || s.linkState p != 2 || decide (lget 0 (s.lnk p).credits m'.cls < m'.slots)
        || (m.mtype != 3 && (tfind s.pasture.resync m.dst).isSome)
      if waits then sendMsgs ms ((p, m'.cls) :: blocked) { s with msgs := s.msgs ++ [m] }
      else sendMsgs ms blocked (s.transmit p m')

/-- Every message that may leave does. -/
def State.pumpMsgs (s : State) : State := sendMsgs s.msgs [] { s with msgs := [] }

/-- A message handed to the links, from any module. -/
def State.post (s : State) (m : Msg) : State := ({ s with msgs := s.msgs ++ [m] }).pumpMsgs

/-- A message of this module. -/
def State.send (s : State) (mtype dst tid addr param : Nat) (body : List Word) : State :=
  s.post { mtype := mtype, src := s.ownModule, dst := dst, hop := false, tid := tid, addr := addr, param := param, body := body }

/-- A request of this module, under a new transaction ID. -/
def State.ask (s : State) (mtype dst addr param : Nat) (body : List Word) : State :=
  { s.send mtype dst s.tid addr param body with tid := (s.tid + 1) % 4096 }

/-! ### Routes (R423 to R427, R442) -/

/-- The route to module d as LK_ROUTE_d shows it: the active link, a standby one awaiting its designation, or the
lowest-numbered neighbour with active links to both (R426). -/
def State.routeTo (s : State) (d : Nat) : Word :=
  let gs := List.range 7
  let direct := (gs.find? fun g => s.groupActive g && s.groupPeer g == d).orElse fun _ =>
    gs.find? fun g => s.groupStandby g && s.groupPeer g == d
  match direct with
  | some g => BitVec.ofNat 64 (3 * 2 ^ 62 + d * 2 ^ 59 + g * 2 ^ 56)
  | none =>
    let via := (List.range 8).findSome? fun k =>
      if (tget 0 s.pasture.nbrs k).testBit d then (gs.find? fun g => s.groupActive g && s.groupPeer g == k).map fun g => (k, g) else none
    match via with
    | some (k, g) => BitVec.ofNat 64 (2 ^ 63 + k * 2 ^ 59 + g * 2 ^ 56)
    | none => 0

/-- Every route chosen anew; PRESENT, DIRECT and LK_ROUTE follow, a change raises LK_PASTURE (R424 to R426, R442). -/
def State.updateRoutes (s : State) : State :=
  let others := (List.range 8).filter fun d => d != s.ownModule
  let new := others.map fun d => (d, s.routeTo d)
  let changed := new.any fun x => s.rget .lkRoute x.1 != x.2
  let lost := (new.filter fun x => flag (s.rget .lkRoute x.1) 63 && !flag x.2 63).map fun x => x.1
  let s := new.foldl (fun s x =>
    let active := (List.range 7).any fun g => s.groupActive g && s.groupPeer g == x.1
    (((s.rset .lkRoute x.1 0 x.2).rput .lkPstat 0 0 (46 + x.1) (46 + x.1) (x.2.toNat / 2 ^ 63)).rput .lkPstat 0 0 (38 + x.1) (38 + x.1) (bnat active))) s
  let s := if changed then s.raise 56 else s
  (lost.foldl State.moduleLost s).pumpMsgs

/-- ROUTE to every neighbour on a link change (R426): LOST, DOWN. -/
def State.tellNeighbours (s : State) (d : Nat) (down : Bool) : State :=
  ((List.range 8).filter fun m => m != d && s.rbit .lkPstat 0 0 (38 + m)).foldl (fun s m =>
    s.send 3 m 0 0 (d * 2 ^ 48 + bnat down * 2 ^ 35) []) s

/-- A pasture group becomes the active link to its peer (R423); where the route led over another module the marker goes
that way first, and the peer's is awaited (R427). -/
def State.activate (s : State) (g : Nat) : State :=
  let d := s.groupPeer g
  let old := s.rget .lkRoute d
  let indirect := flag old 63 && !flag old 62
  let s := if indirect then (s.send 3 d 0 0 (d * 2 ^ 48 + 2 ^ 34) []).modPa fun x => { x with marks := d :: x.marks.filter fun m => m != d } else s
  let s := (s.rput .lkPstat 0 0 (31 + g) (31 + g) 1).rput .lkPstat 0 0 (24 + g) (24 + g) 0
  s.updateRoutes.tellNeighbours d false

/-- An Ngatra link has gone down: a standby link takes over, designated by the lower-numbered module, else the route
leads over another module; the messages not yet acknowledged wait for the peer's ROUTE (R420, R426). -/
def State.ngatraDown (s : State) (p : Nat) : State :=
  let g := p / 4
  let d := s.groupPeer g
  let l := s.lnk p
  let was := s.rbit .lkPstat 0 0 (31 + g)
  let s := ((s.rput .lkPstat 0 0 (31 + g) (31 + g) 0).rput .lkPstat 0 0 (24 + g) (24 + g) 0).modLnk p fun _ => LinkS.reset
  if !was then s.updateRoutes
  else
    let s := s.modPa fun x => { x with resync := tins x.resync d (((tfind x.resync d).getD []) ++ l.kept) }
    let s := match (List.range 7).find? fun i => s.groupStandby i && s.groupPeer i == d with
      | some i => if s.ownModule < d then s.activate i else s.updateRoutes
      | none => s.updateRoutes
    let s := if s.present d then s.send 3 d 0 0 (d * 2 ^ 48 + l.good * 2 ^ 36 + 2 ^ 35) []
      else s.modPa fun x => { x with resync := tdel x.resync d }
    s.tellNeighbours d true

/-- A link goes DOWN or CONTAINED (`v` 1 or 4): its rate and lanes read 0, the paths over it fail, and an Ngatra
link's routes change (R374, R412, R420). -/
def State.linkDown (s : State) (p v : Nat) : State :=
  if s.linkState p = v ∨ s.linkState p = 0 ∨ s.linkState p = 5 then s
  else
    let s := (s.rmod .lkStat p 0 fun w => setFld w 60 52 0).setLink p v
    let s := s.failPort p
    if s.linkRole p = 2 then s.ngatraDown p else s

/-- What ends with a lane lost during a LINK command or a margin measurement (R431). -/
def State.abortPortOp (s : State) (p : Nat) : State :=
  let s := if s.rbit .lkMargin p 0 63 then (s.rmod .lkMargin p 0 fun v => setFld (setFlag v 63 false) 62 60 3).lkLink p else s
  if tget 0 s.ports.cmd p = 2 then
    ({ s with ports := { s.ports with cmd := tdel s.ports.cmd p } }).rput .lkStat p 0 31 31 0 |>.lkLink p
  else s

/-- A lane is declared lame (R428). -/
def State.lameLane (s : State) (lane : Nat) : State :=
  let p := s.lowPort (lane / 2)
  let i := lane - 2 * p
  let s := ((s.rput .lkStat p 0 (32 + i) (32 + i) 1).lkLink p).abortPortOp p
  let top := 2 ^ (s.rfld .lkCfg p 0 10 8 + 1) - 1
  let lanes := s.rfld .lkStat p 0 57 53
  let up := decide (s.linkState p = 2)
  if !up then s
  else if s.linkRole p = 2 then
    if s.rbit .lkCfg p 0 4 && !s.rbit .lkStat p 0 51 && i == top then s
    else if s.rbit .lkCfg p 0 4 && !s.rbit .lkStat p 0 51 && !s.rbit .lkStat p 0 (32 + top) then s.rput .lkStat p 0 51 51 1
    else
      let s := s.rput .lkStat p 0 57 53 (lanes - 1)
      if lanes ≤ 1 then s.linkDown p 1 else s
  else s.setLink p 3

/-- A link is declared lame: an Ngatra link goes DOWN, a PCIe link is CONTAINED (R632). -/
def State.lameLink (s : State) (p : Nat) : State := s.linkDown p (if s.linkRole p = 2 then 1 else 4)

/-! ### Drovers (R342, R385, R395) -/

/-- The drover of a pen's group. -/
def State.droverOf (s : State) (n : Nat) : Nat := s.rfld .chPengrp (n / 64) 0 4 0

/-- A drover is declared lame: its groups are dealt out in rising order to the drovers after it that are neither lame
nor held (R385, R632). -/
def State.lameDrover (s : State) (d : Nat) : State :=
  let s := s.rput .chDrovstat d 0 63 61 2
  let fit := (rangeFrom 1 31).map (fun i => (d + i) % 32) |>.filter fun e => !s.rbit .ftCnt 11 e 63 && !s.rbit .chDrovctl e 0 0
  let groups := (List.range 1024).filter fun g => s.rfld .chPengrp g 0 4 0 = d
  let s := if fit.isEmpty then s
    else (List.range groups.length).foldl (fun s i =>
      (s.rput .chPengrp (lget 0 groups i) 0 4 0 (lget 0 fit (i % fit.length))).raise 49) s
  s.raise 50

end Sys2Proof.Machine
end

