-- ==== Sys2Proof/Machine/Strike.lean ====
section
/-! DEFINITION. Strike counters, warnings and lame declarations (15, R630 to R632). -/

namespace Sys2Proof.Machine

open Sys2Proof

/-- THRESH of a class. -/
def State.thresh (s : State) (c : Nat) : Nat := s.rfld .ftThresh c 0 63 32
/-- WARN of a class. -/
def State.warnAt (s : State) (c : Nat) : Nat := s.rfld .ftThresh c 0 31 0
/-- WINDOW of a class in ticks. -/
def State.windowTicks (s : State) (c : Nat) : Nat := s.rfld .ftWindow c 0 31 0 * 25000

/-- The number of ways disabled in a mask of `n`. -/
def countBits (n v : Nat) : Nat := ((List.range n).filter v.testBit).length

/-- The ways of a cache: 16 in a fold cache, 24 in a tile cache (R198). Caches are numbered f for folds and 24 + t
for tiles. -/
def cacheWays (k : Nat) : Nat := if k < 24 then 16 else 24

/-- The event sources of a cache: ECC, WAY, REPL, DONE (R251). -/
def cacheSrc (k i : Nat) : Nat := if k < 24 then 1604 + 8 * k + i else 1584 + 4 * (k - 24) + i

/-- The HW and SW masks of a cache's WAYDIS register (R240, R249). -/
def State.waydisHw (s : State) (k : Nat) : Nat :=
  if k < 24 then s.rfld .fcWaydis k 0 31 16 else s.rfld .tcWaydis (k - 24) 0 47 24
/-- The SW mask. -/
def State.waydisSw (s : State) (k : Nat) : Nat :=
  if k < 24 then s.rfld .fcWaydis k 0 15 0 else s.rfld .tcWaydis (k - 24) 0 23 0
/-- The state with the HW mask set. -/
def State.setWaydisHw (s : State) (k v : Nat) : State :=
  if k < 24 then s.rput .fcWaydis k 0 31 16 v else s.rput .tcWaydis (k - 24) 0 47 24 v
/-- The state with the SW mask set. -/
def State.setWaydisSw (s : State) (k v : Nat) : State :=
  if k < 24 then s.rput .fcWaydis k 0 15 0 v else s.rput .tcWaydis (k - 24) 0 23 0 v

/-- Whether a way is enabled: neither bit of WAYDIS (R225). -/
def State.wayOn (s : State) (k w : Nat) : Bool := !(s.waydisHw k ||| s.waydisSw k).testBit w

/-- A walk of the masked ways begins, or joins the walk in progress; WFBUSY in a fold's FC_CTL (R224, R241). -/
def State.startWalk (s : State) (k mask : Nat) : State :=
  let ws := s.caches.walks
  let old := match ws.find? (fun w => w.cache == k) with
    | some w => w.ways
    | none => 0
  let s := { s with caches := { s.caches with
    walks := { cache := k, ways := old ||| mask } :: ws.filter (fun w => w.cache != k) } }
  if k < 24 then s.rput .fcCtl k 0 4 4 1 else s

/-- Raises WAY where half of a cache's ways are disabled (R226). -/
def State.wayThreshold (s : State) (k : Nat) : State :=
  if cacheWays k / 2 ≤ countBits 24 (s.waydisHw k ||| s.waydisSw k) then s.raise (cacheSrc k 1) else s

/-- A gather falls due for what waits to be done after one. -/
def State.armCommands (s : State) (l : Nat) : State :=
  match s.coresOf l with
  | n :: _ => s.modCore n fun k => { k with gdue := match k.gdue with
      | some g => some (if g.waits then g else .command)
      | none => some .command }
  | [] => s

/-- A logical core is to take a waiting gather, and then to do what `cmd` says; one that a detection interrupts does so
once it runs again (R288, R632). -/
def State.commandDue (s : State) (l cmd : Nat) : State :=
  let add := fun (s : State) => s.modSeq l fun q => if q.cmds.contains cmd then q else { q with cmds := q.cmds ++ [cmd] }
  if s.lstate l = 0 then (add s).armCommands l
  else if s.lstate l ≤ 3 ∧ cmd ≠ 6 then add s
  else s

/-- Whether the spare of a fold is free: neither in use nor lame (R278). -/
def State.spareFree (s : State) (f : Nat) : Bool := (s.spareFor f).isNone && !s.lame (9 * f + 8)

/-- A state copy begins (R277). -/
def State.startCopy (s : State) (l : Nat) (c : Copy) : State :=
  (s.modSeq l fun q => { q with copy := some c, test := none }).setLstate l 3

/-- A core of a STOPPED logical core declared lame: no gather is to be waited for; the spare takes the role, or the
pair degrades or becomes SAFE (R632, R273). -/
def State.lameStopped (s : State) (l role : Nat) : State :=
  let f := foldOf l
  let j := role / 2
  let p := 4 * f + j
  if s.spareFree f then s.startCopy l { role := role, ret := false, mgr := false, stopped := true }
  else if !s.paired p then s
  else if s.degraded p || s.rbit .pxCfg f j 17 then (s.setLstate l 5).raise (1602 + 8 * f)
  else
    let s := (s.rput .pxStat f j 60 60 1).modPair p fun q => { q with alone := some (1 - role % 2) }
    s.raise (1601 + 8 * f)

/-- A core declared lame is to be replaced, or its pair degraded, after a waiting gather (R632). -/
def State.lameCoreDue (s : State) (n : Nat) : State :=
  match s.roleOf n with
  | none => s
  | some c =>
    let l := s.logicalOf (foldOf n) c
    if s.lstate l = 4 then s.lameStopped l c else s.commandDue l 7

/-- The logical cores of module pair p. -/
def State.logicalsOf (s : State) (p : Nat) : List Nat :=
  let l := 9 * (p / 4) + 2 * (p % 4)
  if s.paired p then [l] else [l, l + 1]

/-- The self-test of a pair whose counter has reached its threshold (R632): a RUNNING logical core first takes a
waiting gather; one under rollback tests when that ends; a STOPPED or SAFE pair tests at once. -/
def State.pairTestDue (s : State) (p : Nat) : State :=
  let ls := s.logicalsOf p
  let s := s.modPair p fun q => { q with struck := true }
  if ls.all fun l => decide (4 ≤ s.lstate l) then
    ls.foldl (fun s l => (s.modSeq l fun q => { q with test := some (s.lstate l) }).setLstate l 2) s
  else ls.foldl (fun s l => s.commandDue l 6) s

/-- A device is declared lame: sparing, or the channel fails on the second device of a rank and subchannel
(R313); `i` is 160 × channel + 80 × DIMM + DEV. -/
def State.spareDevice (s : State) (i : Nat) : State :=
  let ch := i / 160
  let dev := i % 160
  let side := fun (d : Nat) => (d / 80, d % 80 / 20, d % 20 / 10)
  if s.memctl.spared.any (fun x => x.1 == ch && side x.2 == side dev && x.2 != dev) then s.failChannel ch
  else
    let s := s.modMc fun m => { m with spared := (ch, dev) :: m.spared }
    let s := s.rmod .mcChstat ch 0 fun v => setFld (setFlag v 59 true) 58 52 (dev % 80)
    s.raise (1536 + ch / 5)

/-- sPPR of a row: its channel goes OFFLINE where no service operation runs and the rest of the group is ONLINE,
and the row, which holds local granule `loc`, is pending hard repair (R313). -/
def State.repairRow (s : State) (ch loc : Nat) : State :=
  let s := s.rmod .mcChstat ch 0 fun v => setFld v 51 40 (satAdd 4095 (fld v 51 40) 1)
  let s := s.modMc fun m => { m with ppr := (ch, loc) :: m.ppr }
  let others := (rangeFrom (5 * (ch / 5)) 5).filter (fun c => c != ch)
  if s.rbit .mcSvcstat 0 0 63 || !(others.all fun c => s.chState c = 1) || s.chState ch ≠ 1 then s
  else
    let s := s.modMc fun m => { m with marked := (ch, loc / 1024) :: m.marked, op := 3, result := 1 }
    (s.setChState ch 2).rset .mcSvcstat 0 0
      (BitVec.ofNat 64 (2 ^ 63 + 2 * 2 ^ 59 + ch * 2 ^ 48 + 1))

/-- The action of a lame declaration (R632); those of the engines and the entropy sources stand with them. -/
def State.declareLame (s : State) (c i : Nat) : State :=
  match c with
  | 0 => (s.modCore i fun c => { c with tested := false }).lameCoreDue i
  | 2 => (((s.setWaydisHw (i / 16) (s.waydisHw (i / 16) ||| 2 ^ (i % 16))).startWalk (i / 16) (2 ^ (i % 16))).raise
      (cacheSrc (i / 16) 1)).wayThreshold (i / 16)
  | 3 => (((s.setWaydisHw (24 + i / 24) (s.waydisHw (24 + i / 24) ||| 2 ^ (i % 24))).startWalk (24 + i / 24)
      (2 ^ (i % 24))).raise (cacheSrc (24 + i / 24) 1)).wayThreshold (24 + i / 24)
  | 5 => s.raise (1505 + 2 * (i / 16))
  | 6 => s.spareDevice i
  | 8 => s.failChannel i
  | 9 => s.lameLane i
  | 10 => s.lameLink i
  | 11 => s.lameDrover i
  | _ => s

/-- The number of counters now lame, one more or one less (FT_STAT.LAMENOW). -/
def State.lameCount (s : State) (up : Bool) : State :=
  s.rmod .ftStat 0 0 fun w => setFld w 15 0 (if up then fld w 15 0 + 1 else fld w 15 0 - 1)

/-- A lame declaration of counter `i` of class `c` is counted, and the class's action is taken (R632). -/
def State.fallLame (s : State) (c i : Nat) : State :=
  ((s.lameCount true).declareLame c i).raise 33

/-- A lame declaration that no strike makes (R507). -/
def State.declare (s : State) (c i : Nat) : State :=
  if s.rbit .ftCnt c i 63 then s else (s.rmod .ftCnt c i fun v => setFlag v 63 true).fallLame c i

/-- A strike against counter `i` of class `c` (R631). -/
def State.strike (s : State) (c i : Nat) : State :=
  let v := s.rget .ftCnt c i
  let level := satAdd (2 ^ 32 - 1) (fld v 31 0) 1
  let warns := decide (s.warnAt c ≤ level) && !flag v 62
  let falls := decide (s.thresh c ≤ level) && !flag v 63
  let v := setFld (setFld v 31 0 level) 61 32 (satAdd (2 ^ 30 - 1) (fld v 61 32) 1)
  let v := if warns then setFlag v 62 true else v
  let v := if falls && decide (c ≠ 1) then setFlag v 63 true else v
  let s := s.rset .ftCnt c i v
  let s := if warns then s.raise 32 else s
  if falls then (if c = 1 then (s.pairTestDue i).raise 33 else s.fallLame c i) else s

/-- The counter of a DRAM row, and the state with room for it: where the 256 counters of its channel are in use, the one
with the lowest level is given to it, and what that one held is lost (R630). -/
def State.rowCounter (s : State) (ch row : Nat) : RowCount × State :=
  match s.memctl.rows.find? (fun x => x.channel == ch && x.row == row) with
  | some x => (x, s.modMc fun m => { m with rows := m.rows.filter fun y => y != x })
  | none =>
    let s := { s with strikeAcc := tdel s.strikeAcc (2 ^ 40 + ch * 2 ^ 32 + row) }
    let fresh : RowCount := { channel := ch, row := row, level := 0, warned := false, lame := false }
    let mine := s.memctl.rows.filter fun x => x.channel == ch
    let low := mine.foldl (fun m x => min m x.level) (2 ^ 32)
    match mine.find? (fun x => x.level == low) with
    | some y =>
      if mine.length < 256 then (fresh, s)
      else
        let s := s.modMc fun m => { m with rows := delFirst (fun x => x == y) m.rows }
        (fresh, if y.lame then s.lameCount false else s)
    | none => (fresh, s)

/-- A strike against a DRAM row (class 7), as one against any counter (R630, R631). -/
def State.strikeRow (s : State) (ch row loc : Nat) : State :=
  let (x, s) := s.rowCounter ch row
  let level := satAdd (2 ^ 32 - 1) x.level 1
  let warns := decide (s.warnAt 7 ≤ level) && !x.warned
  let falls := decide (s.thresh 7 ≤ level) && !x.lame
  let x := { x with level := level, warned := x.warned || warns, lame := x.lame || falls }
  let s := s.modMc fun m => { m with rows := x :: m.rows }
  let s := if warns then s.raise 32 else s
  if falls then ((s.lameCount true).repairRow ch loc).raise 33 else s

end Sys2Proof.Machine
end

