-- ==== Sys2Proof/Machine/CacheArr.lean ====
section
/-! DEFINITION. The cache arrays, the coherent view of memory they give with it, and the choice of victims (05, R198 to R226). Caches are numbered f for fold f and 24 + t for tile t. -/

namespace Sys2Proof.Machine

open Sys2Proof

/-- The caches' record changed. -/
def State.modCa (s : State) (f : Caches → Caches) : State := { s with caches := f s.caches }

/-- The number of sets of a cache (R198). -/
def cacheSets (k : Nat) : Nat := if k < 24 then 8192 else 65536

/-- The place of a way of a line's set in the arrays. -/
def cacheKey (k line w : Nat) : Nat :=
  if k < 24 then (k * 8192 + line % 8192) * 16 + w else ((k - 24) * 65536 + line % 65536) * 32 + w

/-- The array a cache lies in. -/
def Caches.arr (c : Caches) (k : Nat) : Tbl CLine := if k < 24 then c.fold else c.tile

/-- The line a way holds in the set of `line`. -/
def State.cway (s : State) (k line w : Nat) : Option CLine := tfind (s.caches.arr k) (cacheKey k line w)

/-- The way and the entry that hold a line. -/
def State.cfind (s : State) (k line : Nat) : Option (Nat × CLine) :=
  (List.range (cacheWays k)).findSome? fun w =>
    match s.cway k line w with
    | some l => if l.line = line then some (w, l) else none
    | none => none

/-- The state with a way set. -/
def State.cset (s : State) (k line w : Nat) (l : CLine) : State :=
  s.modCa fun c => if k < 24 then { c with fold := tins c.fold (cacheKey k line w) l }
    else { c with tile := tins c.tile (cacheKey k line w) l }

/-- The state with a way emptied. -/
def State.cclear (s : State) (k line w : Nat) : State :=
  s.modCa fun c => if k < 24 then { c with fold := tdel c.fold (cacheKey k line w) }
    else { c with tile := tdel c.tile (cacheKey k line w) }

/-- A core without a line in its L1D. -/
def Core.dropL1d (c : Core) (line : Nat) : Core := { c with l1d := c.l1d.filter (fun x => x.2.line != line) }
/-- A core without a line in its L1s. -/
def Core.dropL1 (c : Core) (line : Nat) : Core :=
  { c.dropL1d line with l1i := c.l1i.filter (fun x => x.2.line != line) }

/-- The cores that satisfy a check, changed. -/
def State.mapCores (s : State) (p : Nat → Bool) (f : Core → Core) : State :=
  let g := fun (x : Nat × Core) => if p x.1 then (x.1, f x.2) else x
  { s with cores := s.cores.map g }

/-- A line removed from every L1 of a fold (R199). -/
def State.dropL1 (s : State) (f line : Nat) : State := s.mapCores (fun n => n / 9 == f) (fun c => c.dropL1 line)

/-- A line removed from the L1D of every core of a fold. -/
def State.dropL1d (s : State) (f line : Nat) : State := s.mapCores (fun n => n / 9 == f) (fun c => c.dropL1d line)

/-- A line removed from a cache, and from the L1s under a fold cache. -/
def State.cdrop (s : State) (k line : Nat) : State :=
  let s := match s.cfind k line with
    | some (w, _) => s.cclear k line w
    | none => s
  if k < 24 then s.dropL1 k line else s

/-! ### The coherent value of a line -/

/-- The home module of a line (R203). -/
def lineHome (line : Nat) : Nat := memModule (line * 64)

/-- A copy of a line in the caches of this module whose state satisfies a check, wherever it is on its way. -/
def State.copyThat (s : State) (p : LState → Bool) (line : Nat) : Option (BitVec 512 × Bool) :=
  let c := s.caches
  let inArr := fun (t : Tbl CLine) => t.findSome? fun (x : Nat × CLine) =>
    if x.2.line = line && p x.2.st then some (x.2.data, x.2.poison) else none
  let inOut := fun (l : List OutLine) => l.findSome? fun (x : OutLine) =>
    if x.line = line && p x.st then some (x.data, x.poison) else none
  (inArr c.fold).orElse fun _ => (inArr c.tile).orElse fun _ => (inOut c.victims).orElse fun _ =>
    (inOut c.evict).orElse fun _ => inOut c.out

/-- The M copy of a line (R204). -/
def State.dirtyCopy (s : State) (line : Nat) : Option (BitVec 512 × Bool) := s.copyThat (fun st => st == .m) line

/-- Any copy of a line: all are equal to each other (R204). -/
def State.copyHere (s : State) (line : Nat) : Option (BitVec 512 × Bool) := s.copyThat (fun _ => true) line

/-- Whether the current value of a line is known to another module alone: a cache there owns it, or it has its home there
and no copy here (R205, R207). -/
def State.abroad (s : State) (line : Nat) : Bool :=
  if lineHome line = s.ownModule then
    match tfind s.caches.dir line with
    | some e => e.owned && e.holders.any fun h => decide (28 ≤ h)
    | none => false
  else s.present (lineHome line) && (s.copyHere line).isNone

/-- The current value of a line and whether it is poisoned; what only another module knows is a free value (log entry
92). -/
def State.cohLine (s : State) (line : Nat) : BitVec 512 × Bool :=
  match s.dirtyCopy line with
  | some x => x
  | none =>
    let mem := (s.memLine line, s.memPoisoned line)
    if s.abroad line then (Config.abroadLine line s.freeCtr, false)
    else if lineHome line = s.ownModule then mem
    else (s.copyHere line).getD mem

/-- The current value of `n` bytes of main memory. -/
def State.cohBytes (s : State) (pa n : Nat) : List Byte :=
  (rangeFrom pa n).map fun a => lineByte (s.cohLine (a / 64)).1 (a % 64)

/-- The lines that `n` bytes from an address touch. -/
def linesOf (pa n : Nat) : List Nat := if n = 0 then [] else rangeFrom (pa / 64) ((pa + n - 1) / 64 + 1 - pa / 64)

/-- The first poisoned line among those `n` bytes touch. -/
def State.cohPoison (s : State) (pa n : Nat) : Option Nat := (linesOf pa n).find? fun l => (s.cohLine l).2

/-- The directory entry of a line: the home's own, or the guest directory's (R205, R207). -/
def State.dirOf (s : State) (line : Nat) : Option DirE :=
  tfind (if memModule (line * 64) = s.ownModule then s.caches.dir else s.caches.guest) line

/-- The state with a line's directory entry set or removed. -/
def State.setDir (s : State) (line : Nat) (e : Option DirE) : State :=
  let put := fun (t : Tbl DirE) => match e with
    | some x => if x.holders.isEmpty then tdel t line else tins t line x
    | none => tdel t line
  s.modCa fun c => if memModule (line * 64) = s.ownModule then { c with dir := put c.dir } else { c with guest := put c.guest }

/-- A holder removed from a line's directory entry (R206). -/
def State.dirRemove (s : State) (line h : Nat) : State :=
  match s.dirOf line with
  | some e => s.setDir line (some { e with holders := e.holders.filter (fun x => x != h) })
  | none => s

/-- A holder replaced in a line's directory entry (R206). -/
def State.dirMove (s : State) (line old new : Nat) : State :=
  match s.dirOf line with
  | some e => s.setDir line (some { e with holders := (e.holders.filter (fun x => x != old && x != new)) ++ [new] })
  | none => s

/-- The words of a line, lowest first. -/
def lineWords (d : BitVec 512) : List Word := (List.range 8).map fun i => (d >>> (64 * i)).setWidth 64

/-- What leaves with the copies of a line: a dirty one is written to memory and other modules are sent INV, or the copy goes
home to another module (R206, R207, R416). -/
def State.copiesGo (s : State) (line : Nat) : State :=
  if lineHome line = s.ownModule then
    let away := match s.dirOf line with
      | some e => e.holders.filter fun h => decide (28 ≤ h)
      | none => []
    let s := match s.dirtyCopy line with
      | some (d, p) => s.memWriteLine line d p
      | none => if s.abroad line then s.memWriteLine line (s.cohLine line).1 false else s
    away.foldl (fun s h => s.ask 0x12 (h - 28) (line * 64) 0 []) s
  else match s.dirtyCopy line, s.copyHere line with
    | some (d, p), _ => s.ask 0x0D (lineHome line) (line * 64) (bnat p * 2 ^ 48) (lineWords d)
    | none, some _ => s.ask 0x0E (lineHome line) (line * 64) 0 []
    | none, none => s

/-- Every copy of a line removed, a dirty one written to memory first (R209, R231, R235). -/
def State.invalidateAll (s : State) (line : Nat) : State :=
  let s := s.copiesGo line
  let keep := fun (t : Tbl CLine) => t.filter (fun x => x.2.line != line)
  let keepO := fun (l : List OutLine) => l.filter (fun x => x.line != line)
  let bar := fun (f : Fill) => if f.line = line then { f with install := false } else f
  let s := s.modCa fun c => { c with fold := keep c.fold, tile := keep c.tile, victims := keepO c.victims,
                                     evict := keepO c.evict, out := keepO c.out, fills := c.fills.map bar }
  (s.mapCores (fun _ => true) (fun c => c.dropL1 line)).setDir line none

/-- A dirty copy of a line written to memory, the copy becoming E (R231, DCF). -/
def State.cleanAll (s : State) (line : Nat) : State :=
  match s.dirtyCopy line with
  | none => s
  | some (d, p) =>
    let s := s.memWriteLine line d p
    let clean := fun (t : Tbl CLine) => t.map fun x =>
      if x.2.line = line && x.2.st == .m then (x.1, { x.2 with st := .e }) else x
    let cleanO := fun (l : List OutLine) => l.map fun x => if x.line = line && x.st == .m then { x with st := .e } else x
    s.modCa fun c => { c with fold := clean c.fold, tile := clean c.tile, victims := cleanO c.victims,
                              evict := cleanO c.evict, out := cleanO c.out }

/-- One coherent write of the bytes of a line that a mask selects: every copy is invalidated, then memory is written, that
of another module by WRU (R209, R235, R416); a line written in part keeps its poison (R318). -/
def State.cohWriteMask (s : State) (line : Nat) (d : BitVec 512) (m : BitVec 64) : State :=
  let s := s.invalidateAll line
  if lineHome line = s.ownModule then
    s.memWriteLine line (lineMerge (s.memLine line) d m) (decide (m ≠ fullMask) && s.memPoisoned line)
  else s.ask 0x0C (lineHome line) (line * 64) 0 (m :: 0 :: lineWords d)

/-- One coherent write of bytes within a line. -/
def State.cohWriteLine (s : State) (line i : Nat) (bs : List Byte) : State :=
  let (d, m) := Machine.linePlace i bs
  s.cohWriteMask line d m

/-- A coherent write of bytes to main memory, line by line. -/
def State.cohWrite (s : State) (pa : Nat) (bs : List Byte) : State :=
  (linesOf pa bs.length).foldl (fun s l =>
    let a := max pa (l * 64)
    s.cohWriteLine l (a % 64) ((bs.drop (a - pa)).take (l * 64 + 64 - a))) s

/-! ### Room in the directories (R203, R208) -/

/-- The tile of the home agent of a line (R203). -/
def homeAgent (line : Nat) : Nat := (line / 4 % 4) ^^^ (line / 2 ^ 14 % 4)

/-- The other entries of the directory a line belongs to, in its home agent, that may be evicted. -/
def State.dirOthers (s : State) (line : Nat) : List Nat :=
  let t := if lineHome line = s.ownModule then s.caches.dir else s.caches.guest
  (t.filter fun x => x.1 != line && homeAgent x.1 == homeAgent line && !(s.caches.txns.any fun q => q.line == x.1)).map fun x => x.1

/-- Whether a new entry for a line finds no place in its home agent's directory or guest directory (R208). -/
def State.dirFull (s : State) (line : Nat) : Bool :=
  decide ((if lineHome line = s.ownModule then 3145728 else 1048576) ≤ (s.dirOthers line).length)

/-- The directory entry of a line set; a new one that finds no place evicts another, whose copies are invalidated, a dirty one
written back; which, the spec leaves open (R208, log entry 64). -/
def State.putDir (s : State) (line : Nat) (e : DirE) : State :=
  let s := if (s.dirOf line).isNone && s.dirFull line then
      (s.invalidateAll (lget 0 (s.dirOthers line) (Config.freeNat s.freeCtr % (s.dirOthers line).length))).drawn
    else s
  s.setDir line (some e)

/-! ### Replacement (R216 to R219) -/

/-- One step of the LFSR (R217). -/
def lfsrStep (v : Nat) : Nat :=
  let b := (v + v / 4 + v / 8 + v / 32) % 2
  v / 2 + b * 2 ^ 15

/-- The leaves of a cache's pseudo-LRU tree (R218). -/
def plruLeaves (k : Nat) : Nat := if k < 24 then 16 else 32

/-- The key of a set's pseudo-LRU bits. -/
def plruKey (k line : Nat) : Nat := k * 65536 + line % cacheSets k

/-- The nodes on a way's path made to point away from it (R218); node 1 is the root, node 2i + d its child. -/
def plruTouch (bitsNow way : Nat) : Nat → Nat → Nat
  | 0, _ => bitsNow
  | d + 1, node =>
    let dir := way / 2 ^ d % 2
    plruTouch (putBits bitsNow node node (1 - dir)) way d (2 * node + dir)

/-- The victim of a walk down the tree; `base` is the first leaf below `node`, `d` its depth (R218). -/
def plruVictim (bitsNow : Nat) (cands : List Nat) : Nat → Nat → Nat → Nat
  | 0, _, base => base
  | d + 1, node, base =>
    let half := 2 ^ d
    let has := fun (dir : Nat) => cands.any fun w => decide (base + dir * half ≤ w) && decide (w < base + dir * half + half)
    let dir := if bitsNow.testBit node then 1 else 0
    let dir := if has dir then dir else 1 - dir
    plruVictim bitsNow cands d (2 * node + dir) (base + dir * half)

/-- A hit or fill of a way noted in its set's tree (R218). -/
def State.plruUse (s : State) (k line w : Nat) : State :=
  let key := plruKey k line
  s.modCa fun c => { c with plru := tput 0 c.plru key (plruTouch (tget 0 c.plru key) w (Nat.log2 (plruLeaves k)) 1) }

/-- The REPL register of a cache. -/
def State.repl (s : State) (k : Nat) : Word := if k < 24 then s.rget .fcRepl k else s.rget .tcRepl (k - 24)
/-- The state with a REPL register set. -/
def State.setRepl (s : State) (k : Nat) (v : Word) : State :=
  if k < 24 then s.rset .fcRepl k 0 v else s.rset .tcRepl (k - 24) 0 v

/-- The second copy of a cache's LFSR (R219). -/
def State.lfsr2 (s : State) (k : Nat) : Nat := (tfind s.caches.lfsr2 k).getD 0xACE1

/-- The fallback comes into force where the copies of the LFSR differ or the state is 0 (R219). -/
def State.checkLfsr (s : State) (k : Nat) : State :=
  let v := s.repl k
  if (fld v 47 32 ≠ s.lfsr2 k ∨ fld v 47 32 = 0) ∧ !flag v 63 then
    ((s.setRepl k (setFlag v 63 true)).raise (cacheSrc k 2)).strike 4 k
  else s

/-- The LFSR stepped for a fill that installs (R216). -/
def State.stepLfsr (s : State) (k : Nat) : State :=
  let v := s.repl k
  let s := s.setRepl k (setFld v 47 32 (lfsrStep (fld v 47 32)))
  (s.modCa fun c => { c with lfsr2 := tins c.lfsr2 k (lfsrStep (s.lfsr2 k)) }).checkLfsr k

/-- The candidate ways of a mask (R216). -/
def State.candidates (s : State) (k mask : Nat) : List Nat :=
  (List.range (cacheWays k)).filter fun w => mask.testBit w && s.wayOn k w

/-- The way a fill takes, with the LFSR already stepped (R216). -/
def State.chooseWay (s : State) (k line : Nat) (cands : List Nat) : Nat :=
  match cands.find? fun w => (s.cway k line w).isNone with
  | some w => w
  | none =>
    let v := s.repl k
    if flag v 63 || flag v 62 then
      plruVictim (tget 0 s.caches.plru (plruKey k line)) cands (Nat.log2 (plruLeaves k)) 1 0
    else lget 0 cands (fld v 47 32 * cands.length / 65536)

/-- The mode of a tile cache now in force: 0 native, 1 Ferrex, 2 bypass (R215). -/
def State.tileMode (s : State) (t : Nat) : Nat := tget 0 s.caches.modeNow t

/-- A line leaving a tile cache or dropped by it goes to its home: written back if M, else a notice (R211). -/
def State.sendHome (s : State) (o : OutLine) : State := s.modCa fun c => { c with out := c.out ++ [o] }

/-- What leaves a way as a victim: a fold's line is offered to its tile cache, a tile's goes home (R211). -/
def State.evictWay (s : State) (k line w : Nat) : State :=
  match s.cway k line w with
  | none => s
  | some l =>
    let o : OutLine := { src := k, line := l.line, st := l.st, data := l.data, cls := l.cls, hit := l.hit, poison := l.poison }
    let s := s.cclear k line w
    if k < 24 then
      let s := s.dropL1 k l.line
      s.modCa fun c => { c with victims := c.victims ++ [o] }
    else s.sendHome o

/-- A line installed under a class's mask: the LFSR steps, a way is chosen and its line evicted (R216). False
where no way is a candidate: nothing is installed and WAY is raised (R221). -/
def State.install (s : State) (k mask : Nat) (l : CLine) : State × Bool :=
  let cands := s.candidates k mask
  if cands.isEmpty then (s.raise (cacheSrc k 1), false)
  else
    let s := s.stepLfsr k
    let w := s.chooseWay k l.line cands
    let s := s.evictWay k l.line w
    ((s.cset k l.line w l).plruUse k l.line w, true)

/-! ### Array errors (R202) -/

/-- An array error recorded in a cache's ECCLOG, its ECC event and the strike against the way (R202, R242). -/
def State.arrayLog (s : State) (k line w : Nat) (ue tag : Bool) : State :=
  let v := bnat ue * 2 ^ 61 + bnat tag * 2 ^ 60 + w * 2 ^ 55 + line % 2 ^ 46 * 64
  let s := if k < 24 then s.record .fcEcclog k 0 v else s.record .tcEcclog (k - 24) 0 v
  let s := s.raise (cacheSrc k 0)
  if k < 24 then s.strike 2 (16 * k + w) else s.strike 3 (24 * (k - 24) + w)

/-- A lookup in a cache with the error its array meets: the state after, and the way and line found, none on a miss
or where the line had to be dropped; a home elsewhere learns of a lost owner by a poisoned write-back (R202, R207). -/
def State.lookup (s : State) (k line : Nat) (err : ArrayErr) : State × Option (Nat × CLine) :=
  match s.cfind k line with
  | none => (s, none)
  | some (w, l) =>
    match err with
    | .none => (s, some (w, l))
    | .dataCorrected => (s.arrayLog k line w false false, some (w, l))
    | .tagCorrected => (s.arrayLog k line w false true, some (w, l))
    | .dataUncorrectable =>
      let s := s.arrayLog k line w true false
      if l.st == .m then
        let l := { l with poison := true }
        (s.cset k line w l, some (w, l))
      else ((s.cdrop k line).dirRemove line k, none)
    | .tagUncorrectable =>
      let s := (s.arrayLog k line w true true).cdrop k line
      match s.dirOf line with
      | some e =>
        let s := if !e.owned || !e.holders.contains k then s
          else if lineHome line = s.ownModule then s.poisonMem line
          else s.ask 0x0D (lineHome line) (line * 64) (2 ^ 48) (lineWords l.data)
        (s.dirRemove line k, none)
      | none => (s, none)

/-- The state of a fold cache: 0 DISABLED, 1 ENABLED, 2 DRAINING (R227). -/
def State.fcState (s : State) (f : Nat) : Nat := s.rfld .fcCtl f 0 9 8

/-! ### Scratchpad banks (R297 to R305) -/

/-- Whether a bank serves accesses: ON, and not leaving ON (R302). -/
def State.bankOn (s : State) (k b : Nat) : Bool :=
  let v := s.rget .sxBankstat k
  decide (fld v (2 * b + 1) (2 * b) = 0) && !flag v (32 + b)

/-- The agent number of a core at its flock's banks (R331). -/
def bankAgent (n : Nat) : Nat := n % 18

/-- Whether an agent is admitted to a keep bank (R305). -/
def keepAdmits (agent : Nat) : Bool := decide (agent < 0x12) || agent == 0x20 || agent == 0x3F

/-- Why a bank refuses an access, in SX_ERRLOG's terms: none where it serves it (R303, R305, R306, R331). -/
def State.bankRefuses (s : State) (k b agent : Nat) : Option Nat :=
  if !s.bankOn k b then some 0
  else if b = 15 && !keepAdmits agent then some 1
  else if b = 15 && s.rbit .sxBankstat k 0 48 then some 2
  else none

/-- A refusal recorded in SX_ERRLOG and SX_ERR raised (R303, R331). -/
def State.logRefusal (s : State) (k agent cause : Nat) (wr : Bool) (off : Nat) : State :=
  (s.record .sxErrlog k 0 (cause * 2 ^ 59 + bnat wr * 2 ^ 58 + agent * 2 ^ 48 + off / 16 % 2 ^ 20 * 16)).raise (1505 + 2 * k)

/-- What a scratchpad read answers: its bytes, or the address of the poisoned word it consumed (R300, R303). -/
inductive SpRead
  | data (bs : List Byte)
  | poison (word : Nat)
  deriving DecidableEq, Repr

/-- A scratchpad read of `n` bytes by an agent; `err` is the error its first word meets (R297, R300, R303). -/
def State.spRead (s : State) (agent pa n : Nat) (err : WordErr) : State × SpRead :=
  match s.scratch pa with
  | none => (s, .data (s.bytes pa n))
  | some (k, b, w) =>
    match s.bankRefuses k b agent with
    | some cause => (s.logRefusal k agent cause false (w * 16), .poison (pa / 16 * 16))
    | none =>
      let word := pa / 16
      let s := if s.spPoison.contains word then s else match err with
        | .none => s
        | .single => ((s.record .sxEcclog k 0 (w * 16)).raise (1505 + 2 * k)).strike 5 (16 * k + b)
        | .double =>
          let s := { s with spPoison := word :: s.spPoison }
          ((s.record .sxEcclog k 0 (2 ^ 61 + w * 16)).raise (1505 + 2 * k)).strike 5 (16 * k + b)
      match (rangeFrom word ((pa + n - 1) / 16 + 1 - word)).find? fun x => s.spPoison.contains x with
      | some x => (s, .poison (x * 16))
      | none => (s, .data (s.bytes pa n))

/-- A scratchpad write by an agent, and whether the bank refused it; one write that covers a word clears its
poison (R298, R300, R303). -/
def State.spWrite (s : State) (agent pa : Nat) (bs : List Byte) : State × Bool :=
  match s.scratch pa with
  | none => (setBytes s pa bs, false)
  | some (k, b, w) =>
    match s.bankRefuses k b agent with
    | some cause => (s.logRefusal k agent cause true (w * 16), true)
    | none =>
      let s := { s with spPoison := s.spPoison.filter fun x => !(decide (pa ≤ x * 16) && decide (x * 16 + 16 ≤ pa + bs.length)) }
      (setBytes s pa bs, false)

/-- A scratchpad write by byte mask within a line, as one write. -/
def State.spWriteMask (s : State) (agent line : Nat) (d : BitVec 512) (m : BitVec 64) : State × Bool :=
  match s.scratch (line * 64) with
  | none => (s.setMemLine line (lineMerge (s.memLine line) d m), false)
  | some (k, b, w) =>
    match s.bankRefuses k b agent with
    | some cause => (s.logRefusal k agent cause true (w * 16), true)
    | none =>
      let whole := fun (x : Nat) => decide (x / 4 = line) && ((m >>> (x % 4 * 16)).setWidth 16 == BitVec.allOnes 16)
      let s := { s with spPoison := s.spPoison.filter fun x => !whole x }
      (s.setMemLine line (lineMerge (s.memLine line) d m), false)

/-- The machine check of a poisoned or refused scratchpad word (R638). -/
def State.spMcheck (s : State) (word : Nat) : MCheck :=
  match s.scratch word with
  | some (k, b, _) => mcheckOf 3 (16 * k + b) (word / 16 * 16)
  | none => mcheckOf 3 0 (word / 16 * 16)

end Sys2Proof.Machine
end

