-- ==== Sys2Proof/Machine/MemCtl.lean ====
section
/-! DEFINITION. The memory controller: reads of pieces and their errors, patrol scrub, write combining, and the service operations (07, R310 to R325, R332 to R340). -/

namespace Sys2Proof.Machine

open Sys2Proof

/-! ### Errors of a piece (R310, R311, R339) -/

/-- The controller's place for a granule, as MC_ECCADDR reports it without SUBCH and DEVICE (R314, log entry 6). -/
def eccPlace (dpc : Bool) (ch loc : Nat) : Nat :=
  let d := Config.dramPlace ch loc
  (if dpc then d / 2 ^ 40 % 2 * 2 ^ 63 else 0) + bits d 39 38 * 2 ^ 61 + bits d 33 0 * 2 ^ 22

/-- An error of a piece recorded in MC_ECCLOG and MC_ECCADDR, under the first-record rule (R339). -/
def State.eccRecord (s : State) (ch loc line device : Nat) (ue rebuilt : Bool) : State :=
  let free := !s.rbit .mcEcclog 0 0 63
  let s := s.record .mcEcclog 0 0 (bnat ue * 2 ^ 61 + bnat rebuilt * 2 ^ 60 + ch * 2 ^ 55 + line % 2 ^ 46 * 64)
  if free then
    s.rset .mcEccaddr 0 0 (BitVec.ofNat 64 (putBits (putBits (eccPlace (s.rbit .mcCfg 0 0 51) ch loc) 60 60 (loc % 2)) 59 56 device))
  else s

/-- The row of a granule as the controller's row counters name it: DIMM, rank, bank and row. -/
def rowOf (dpc : Bool) (ch loc : Nat) : Nat := eccPlace dpc ch loc / 2 ^ 33

/-- A layer 2 correction attributed to one device (R311, R630). -/
def State.pieceCorrected (s : State) (ch loc line device : Nat) : State :=
  let dpc := s.rbit .mcCfg 0 0 51
  let s := s.eccRecord ch loc line (device % 10) false false
  let s := (s.bump .mcCecnt ch).raise (1528 + ch / 5)
  let s := s.strike 6 (160 * ch + 80 * (eccPlace dpc ch loc / 2 ^ 63 % 2) + device % 80)
  s.strikeRow ch (rowOf dpc ch loc) loc

/-- A piece beyond the controller's code, rebuilt from the others of its granule and written back (R311). -/
def State.pieceRebuilt (s : State) (ch loc line : Nat) : State :=
  let s := s.eccRecord ch loc line 15 false true
  ((s.bump .mcCecnt ch).raise (1528 + ch / 5)).strike 8 ch

/-- A piece that cannot be rebuilt: poisoned (R311, R318). -/
def State.pieceLost (s : State) (ch loc line : Nat) : State :=
  ((s.eccRecord ch loc line 15 true false).poisonMem line).raise (1532 + ch / 5)

/-- A check piece that cannot be rebuilt: no line of memory stands for it, so the record and MC_UE show it (R311, R312). -/
def State.checkLost (s : State) (ch loc line : Nat) : State :=
  (s.eccRecord ch loc line 15 true false).raise (1532 + ch / 5)

/-- Whether a piece can be rebuilt: no other channel of its group is out of service (R319, R324). -/
def State.rebuildable (s : State) (ch : Nat) : Bool :=
  (rangeFrom (5 * (ch / 5)) 5).all fun c => decide (c = ch) || decide (s.chState c = 1)

/-- What a read of one piece of the own module meets (R310, R311, R315, R319): a piece in the write buffer or of a
channel out of service meets no error of its own; a poisoned piece stays so. -/
def State.pieceError (s : State) (line : Nat) (pe : PieceErr) : State :=
  if !s.ownLine line || s.memPoisoned line then s
  else
    let (_, ch, loc) := s.linePlace line
    let buffered := match s.memctl.holds.find? (fun h => h.granule == line / 4) with
      | some h => h.pieces.testBit (line % 4)
      | none => false
    if buffered || decide (s.chState ch ≠ 1) then s
    else match pe with
    | .none => s
    | .corrected dev => s.pieceCorrected ch loc line dev
    | .rebuilt => if s.rebuildable ch then s.pieceRebuilt ch loc line else s.pieceLost ch loc line
    | .lost => s.pieceLost ch loc line

/-! ### Patrol scrub and write combining -/

/-- The pieces of one channel: CHCAP units of 8 GiB (R333). -/
def State.channelPieces (s : State) : Nat := s.rfld .mcCfg 0 0 47 40 * 2 ^ 27

/-- PATROL_SCRUB: one piece of an ONLINE channel is read; errors are corrected, rebuilt or leave it poisoned, and the
pass goes on (R312, R325, R335). -/
def execPatrolScrub (ch line : Nat) (pe : PieceErr) (s : State) : Out :=
  if !s.rbit .mcScrub 0 0 63 || decide (s.chState ch ≠ 1) || !s.ownLine line || decide (20 ≤ ch) then .next s
  else
    let (g, own, loc) := s.linePlace line
    if g ≠ ch / 5 ∨ (ch % 5 ≠ 4 ∧ own ≠ ch) then .next s
    else
      let s := if ch % 5 ≠ 4 then s.pieceError line pe
        else match pe with
        | .none => s
        | .corrected dev => s.pieceCorrected ch loc line dev
        | .rebuilt => if s.rebuildable ch then s.pieceRebuilt ch loc line else s.checkLost ch loc line
        | .lost => s.checkLost ch loc line
      let total := s.channelPieces * ((List.range 20).filter fun c => s.chState c = 1).length
      let pos := s.memctl.scrubPos + 1
      if total ≤ pos then
        let s := s.modMc fun m => { m with scrubPos := 0 }
        .next ((s.rset .mcScrubstat 0 0 (BitVec.ofNat 64 ((s.rfld .mcScrubstat 0 0 63 32 + 1) % 2 ^ 32 * 2 ^ 32))).raise 1541)
      else .next ((s.modMc fun m => { m with scrubPos := pos }).rput .mcScrubstat 0 0 15 0 (pos * 65536 / total))

/-- GRANULE_WRITE_HOLD_EXPIRE: the hold of a partial granule ends and it is written with its check piece, which
memory's bytes already show (R316, R320). -/
def execGranuleWriteHoldExpire (granule : Nat) (s : State) : Out :=
  .next (s.modMc fun m => { m with holds := m.holds.filter fun h => h.granule != granule })

/-! ### Service operations (R322 to R324, R336, R337) -/

/-- A command written to MC_CMD (R322, R323, R336). -/
def State.mcCommand (s : State) (ch cmd : Nat) : State :=
  let st := s.rget .mcSvcstat
  let rej := s.rput .mcSvcstat 0 0 62 62 1
  let others := (rangeFrom (5 * (ch / 5)) 5).filter fun c => c ≠ ch
  match cmd with
  | 0 => s
  | 3 =>
    if !flag st 63 then s.rput .mcSvcstat 0 0 62 62 0
    else if fld st 61 59 = 3 then rej
    else
      let c := fld st 52 48
      let s := (s.rset .mcSvcstat 0 0 (setFlag (setFld st 61 59 3) 62 false)).setChState c 3
      s.modMc fun m => { m with result := 2 }
  | c =>
    if flag st 63 || decide (s.chState ch ≠ 1) || !(others.all fun c => s.chState c = 1)
        || (decide (c = 2) && decide (s.rfld .mcChstat ch 0 51 40 = 0)) then rej
    else
      let s := s.rset .mcSvcstat 0 0 (BitVec.ofNat 64 (2 ^ 63 + 1 * 2 ^ 59 + ch * 2 ^ 48))
      s.modMc fun m => { m with op := c, result := 1, marked := m.marked.filter fun x => x.1 != ch }

/-- CHANNEL_OFFLINE: the operations in flight have completed and the channel goes OFFLINE; for REPAIR the regions of
the pending rows are marked (R322). -/
def execChannelOffline (ch : Nat) (s : State) : Out :=
  let st := s.rget .mcSvcstat
  if flag st 63 ∧ fld st 61 59 = 1 ∧ fld st 52 48 = ch ∧ s.chState ch = 1 then
    let s := s.setChState ch 2
    let rows := if s.memctl.op = 2 then (s.memctl.ppr.filter fun x => x.1 == ch).map fun x => (x.1, x.2 / 1024) else []
    let s := s.modMc fun m => { m with marked := rows.foldl (fun l x => if l.contains x then l else x :: l) m.marked }
    .next (s.rset .mcSvcstat 0 0 (setFld (setFld st 61 59 2) 31 0 (s.memctl.marked.filter fun x => x.1 == ch).length))
  else .next s

/-- TRAINING_OR_REPAIR_COMPLETE: success, or the previous values restored, leads to RESYNC; neither makes the channel
FAILED (R322, R323, R630 class 8). -/
def execTrainingOrRepairComplete (ok restored : Bool) (s : State) : Out :=
  let st := s.rget .mcSvcstat
  let ch := fld st 52 48
  if flag st 63 ∧ fld st 61 59 = 2 then
    let s := if ok then s else s.strike 8 ch
    if !flag (s.rget .mcSvcstat) 63 then .next (if ok || restored then s else s.rput .mcSvcstat 0 0 58 56 3)
    else if !ok && !restored then .next ((s.endService 3).failChannel ch)
    else if s.chState ch ≠ 2 then .next s
    else
      let s := if s.memctl.op = 2 && ok then
          (s.modMc fun m => { m with ppr := m.ppr.filter fun x => x.1 != ch }).rput .mcChstat ch 0 51 40 0
        else s
      .next ((s.setChState ch 3).rput .mcSvcstat 0 0 61 59 3)
  else .next s

/-- RESYNC_COMPLETE: no marked region remains; the channel is ONLINE and MC_SVC is raised (R322). -/
def execResyncComplete (s : State) : Out :=
  let st := s.rget .mcSvcstat
  let ch := fld st 52 48
  if flag st 63 ∧ fld st 61 59 = 3 ∧ s.chState ch = 3 then
    let s := s.modMc fun m => { m with marked := m.marked.filter fun x => x.1 != ch, op := 0 }
    .next ((s.setChState ch 1).endService s.memctl.result)
  else .next s

end Sys2Proof.Machine
end

