-- ==== Sys2Proof/Machine/Events.lean ====
section
/-! DEFINITION. The event router: readiness, the priority rule, acceptance, end of interrupt and software events (13). -/

namespace Sys2Proof.Machine

open Sys2Proof

/-- The sources whose PEND is set. -/
def State.pendingSources (s : State) : List Nat :=
  let base := Reg.evStat.addr 0
  s.regs.filterMap fun x =>
    if base ≤ x.1 ∧ x.1 < base + 8 * 2048 ∧ flag x.2 63 then some ((x.1 - base) / 8) else none

/-- Whether a pending source is ready (R568). -/
def State.evReady (s : State) (src : Nat) : Bool :=
  let r := s.rget .evRoute src
  let first := tget 0 s.evFirst src
  s.rbit .evStat src 0 63 &&
    (decide (max 1 (fld r 23 16) ≤ s.rfld .evStat src 0 15 0)
     || (decide (fld r 15 0 ≠ 0) && decide (first + fld r 15 0 ≤ (s.rget .pwAotime).toNat))
     || s.evBack.contains src)

/-- The logical core a source is routed to (R570). -/
def State.evTarget (s : State) (src : Nat) : Nat := s.evCore (s.rfld .evRoute src 0 46 39)

/-- Whether the router presents a source to logical core `l` (R568, R570, R576). -/
def State.presented (s : State) (l src : Nat) : Bool :=
  s.evReady src && s.rbit .evRoute src 0 63 && decide (s.evTarget src = l) && decide (s.lstate l = 0)

/-- Whether any event is presented to logical core `l`. -/
def State.anyPresented (s : State) (l : Nat) : Bool := s.pendingSources.any (s.presented l)

/-- The level a source is taken at: 1 or 2. -/
def State.evLevel (s : State) (src : Nat) : Nat := if s.rbit .evRoute src 0 62 then 2 else 1

/-- The active set of a level of logical core `l`, as 16 bits. -/
def State.evActiveSet (s : State) (l lvl : Nat) : Nat :=
  if lvl = 2 then s.rfld .evActive l 0 31 16 else s.rfld .evActive l 0 15 0

/-- The rule of R571 for logical core `l` at privilege level `pl`. -/
def State.evPasses (s : State) (l pl src : Nat) : Bool :=
  let r := s.rget .evRoute src
  let lvl := s.evLevel src
  let act := s.evActiveSet l lvl
  let thr := if lvl = 2 then s.rfld .evThresh2 l 0 3 0 else s.rfld .evThresh1 l 0 3 0
  (decide (lvl = 2) || (decide (pl ≠ 2) && decide (s.curOf l = fld r 55 47)))
    && decide (thr ≤ fld r 59 56) && (decide (act = 0) || decide (Nat.log2 act < fld r 59 56))

/-- Whether source `a` goes before source `b`: priority, then P2 before P1, then number (R571). -/
def State.evBefore (s : State) (a b : Nat) : Bool :=
  let pa := s.rfld .evRoute a 0 59 56
  let pb := s.rfld .evRoute b 0 59 56
  decide (pb < pa) || (decide (pa = pb) && (decide (s.evLevel b < s.evLevel a) || (decide (s.evLevel a = s.evLevel b) && decide (a < b))))

/-- The source that logical core `l` is to accept (R571). -/
def State.evChoose (s : State) (l pl : Nat) : Option Nat :=
  (s.pendingSources.filter fun x => s.presented l x && s.evPasses l pl x).foldl (fun best x =>
    match best with
    | none => some x
    | some b => if s.evBefore x b then some x else some b) none

/-- PEND and COUNT of a source cleared (R567). -/
def State.evClear (s : State) (src : Nat) : State :=
  { s.rset .evStat src 0 0 with evFirst := tdel s.evFirst src, evBack := s.evBack.filter fun x => x != src }

/-- The router's part of an acceptance (R572, steps 1 to 3). -/
def State.evTake (s : State) (l src : Nat) : State :=
  let count := s.rfld .evStat src 0 15 0
  let lvl := s.evLevel src
  let prio := s.rfld .evRoute src 0 59 56
  let last := BitVec.ofNat 64 (2 ^ 63 + count * 2 ^ 32 + src)
  let s := s.evClear src
  let s := if lvl = 2 then s.rset .evLast2 l 0 last else s.rset .evLast1 l 0 last
  let b := (if lvl = 2 then 16 else 0) + prio
  s.rput .evActive l 0 b b 1

/-- An end of interrupt: the highest bit of a level's active set is cleared, in the values a rollback restores as
well (R572, R575). -/
def State.evEoiAt (s : State) (l lvl : Nat) : State :=
  let act := s.evActiveSet l lvl
  if act = 0 then s
  else
    let b := (if lvl = 2 then 16 else 0) + Nat.log2 act
    let s := s.rput .evActive l 0 b b 0
    let clr := fun (e : List Word) => match e with
      | a :: rest => setFld a b b 0 :: rest
      | [] => []
    let s := s.modCore l fun c => { c with evBase := clr c.evBase }
    match s.coresOf l with
    | n :: _ => s.modCore n fun c => { c with mark := c.mark.map fun m => { m with ev := clr m.ev } }
    | [] => s

/-- A raise by a guest, performed only where the route names the writer's entry (R574). -/
def State.evGuestRaise (s : State) (a : Agent) (src : Nat) : State :=
  if 1792 ≤ src ∧ a.res ≠ 0 ∧ s.rfld .evRoute src 0 36 28 = a.res then s.raise src else s

/-- The COALT-th tick after the raise that set PEND: the always-on time reaches it (R568). -/
def execCoalesceTimerExpire (src : Nat) (s : State) : Out :=
  let t := s.rfld .evRoute src 0 15 0
  if s.rbit .evStat src 0 63 ∧ t ≠ 0 ∧ src < 2048 then
    .next (s.rset .pwAotime 0 0 (BitVec.ofNat 64 (max (s.rget .pwAotime).toNat (tget 0 s.evFirst src + t))))
  else .next s

/-- The values of the router at a gather, which a rollback to it restores (R575). -/
def State.evNow (s : State) (l : Nat) : List Word := [s.rget .evActive l, s.rget .evLast1 l, s.rget .evLast2 l]

/-- The router's part of a rollback: the kept values, and each recorded acceptance returned as pending (R575). -/
def State.evRestore (s : State) (l : Nat) (events : List (Nat × Nat)) : State :=
  let base := (s.core l).evBase
  let s := ((s.rset .evActive l 0 (lget 0 base 0)).rset .evLast1 l 0 (lget 0 base 1)).rset .evLast2 l 0 (lget 0 base 2)
  events.foldl (fun s e =>
    let n := satAdd 0xFFFF (s.rfld .evStat e.1 0 15 0) e.2
    { s.rset .evStat e.1 0 (BitVec.ofNat 64 (2 ^ 63 + n)) with evBack := e.1 :: s.evBack.filter fun x => x != e.1 }) s

/-- The router clears a logical core's sets and last acceptances at START (R576). -/
def State.evStart (s : State) (l : Nat) : State :=
  let s := ((s.rset .evActive l 0 0).rset .evLast1 l 0 0).rset .evLast2 l 0 0
  s.modCore l fun c => { c with evBase := [0, 0, 0] }

end Sys2Proof.Machine
end

