-- ==== Sys2Proof/Machine/Translate.lean ====
section
/-! DEFINITION. Both stages of translation, their caches, target kinds and the faults of an access (04, R157 to R173; 12, R527 to R532). -/

namespace Sys2Proof.Machine

open Sys2Proof

/-- What an access asks for (R163, R529). -/
inductive AKind | load | store | atomic | dzl | maint | hdr | fetch | walk
  deriving DecidableEq, Repr

/-- Whether an access needs read permission. -/
def AKind.reads : AKind → Bool
  | .load | .atomic | .maint | .hdr | .walk => true
  | _ => false

/-- Whether an access needs write permission. -/
def AKind.writes : AKind → Bool
  | .store | .atomic | .dzl => true
  | _ => false

/-- What the hurdle answers: a physical address with the grain's attribute, a refusal (the REASON codes of R562,
10 RANGE and 11 SECURE) at a walk level, or poison at a line. -/
inductive HRes
  | ok (pa attr : Nat) (e : HurdleE)
  | refused (reason lvl : Nat)
  | poison (line : Nat)
  deriving DecidableEq, Repr

/-- Whether a hurdle entry has a reserved bit set (R527). -/
def hurdleReserved (e : Nat) : Bool :=
  decide (bits e 63 52 ≠ 0) || bit e 10 || decide (bits e 6 5 ≠ 0) || bit e 2 || decide (bits e 4 3 = 3)
    || (!bit e 1 && decide (bits e 11 2 ≠ 0))

/-- Index `lvl` of an address (R160, R527). -/
def tblIndex (a lvl : Nat) : Nat := bits a (20 + 9 * lvl) (12 + 9 * lvl)

/-- The hurdle walk from a table at level `n - 1` (R528); on success the leaf, not yet checked for rights. -/
def State.hurdleWalk (s : State) (part pra : Nat) : Nat → Nat → HRes
  | 0, _ => .refused 4 0
  | n + 1, table =>
    let ea := table + 8 * tblIndex pra n
    if !s.mainMem ea then .refused 9 n
    else match s.cohPoison ea 8 with
    | some l => .poison l
    | none =>
      let e := ofBytes (s.cohBytes ea 8)
      if !bit e 0 then .refused 2 n
      else if hurdleReserved e then .refused 3 n
      else if bit e 1 then
        if n = 3 then .refused 4 n
        else if n ≠ 0 ∧ bits e (11 + 9 * n) 12 ≠ 0 then .refused 5 n
        else .ok (bits e 51 12 * 4096 + pra % 2 ^ (12 + 9 * n)) (bits e 4 3)
          { part := part, lvl := n, prn := pra / 2 ^ (12 + 9 * n), out := bits e 51 12 * 4096, attr := bits e 4 3,
            sec := bit e 11, r := bit e 7, w := bit e 8, x := bit e 9 }
      else if n = 0 then .refused 4 n
      else s.hurdleWalk part pra n (bits e 51 12 * 4096)

/-- The rights of a grain (R529). -/
def hurdleRights (e : HurdleE) (pa : Nat) (kind : AKind) (secure : Bool) : HRes :=
  if e.sec && !secure then .refused 11 e.lvl
  else if kind == .fetch && !e.x then .refused 8 e.lvl
  else if kind.reads && !e.r then .refused 6 e.lvl
  else if kind.writes && !e.w then .refused 7 e.lvl
  else .ok pa e.attr e

/-- The hurdle of resident entry `r` with an agent's cache of translations; `secure` for the partition's cores and
cipher engines (R528 to R532). -/
def State.hurdle (s : State) (cache : List HurdleE) (r pra : Nat) (kind : AKind) (secure : Bool) : HRes :=
  if 2 ^ 48 ≤ pra then .refused 10 3
  else if s.resState r = 0 then .refused 1 3
  else
    let part := s.partId r
    match cache.find? fun e => e.part == part && pra / 2 ^ (12 + 9 * e.lvl) == e.prn with
    | some e => hurdleRights e (e.out + pra % 2 ^ (12 + 9 * e.lvl)) kind secure
    | none =>
      let root := s.rget .huRoot r
      if !flag root 63 then .refused 1 3
      else match s.hurdleWalk part pra 4 (fld root 51 12 * 4096) with
      | .ok pa _ e => hurdleRights e pa kind secure
      | x => x

/-- A fault of an access: its place in the order of R81, its vector, its XINFO, and what FC_XFSTAT or HU_FSTAT
record (R170, R562). -/
structure Flt where
  rank : Nat
  vector : Nat
  info : Nat
  xfstat : Option Nat
  hfstat : Option Nat
  deriving DecidableEq, Repr

/-- A translation fault found by the first stage (vector 0x03, R170). -/
def xfault (rank va : Nat) (fetch : Bool) (lvl reason entry : Nat) : Flt :=
  { rank := rank, vector := 3, info := va, hfstat := none,
    xfstat := some (2 ^ 63 + bnat fetch * 2 ^ 62 + lvl % 4 * 2 ^ 60 + reason * 2 ^ 52 + entry % 2 ^ 52) }

/-- A hurdle fault (vector 0x04, R531, R562); `kind` 0 data, 1 fetch, 2 walk. -/
def hfault (va kind reason lvl pra : Nat) : Flt :=
  { rank := 5, vector := 4, info := va, xfstat := none,
    hfstat := some (2 ^ 63 + kind * 2 ^ 61 + reason * 2 ^ 57 + lvl * 2 ^ 55 + pra % 2 ^ 48) }

/-- What translation answers: the physical address and the combined attribute (0 cacheable, 1 uncached, 2 I/O) with
the translations to keep; a fault; or poison at a line (R692). -/
inductive XRes
  | ok (pa attr : Nat) (tlb : List TlbE) (hur : List HurdleE)
  | fault (f : Flt)
  | poison (line : Nat)
  deriving DecidableEq, Repr

/-- Whether a first-stage entry has a reserved bit set (R161): in a P1 table PA[51:48] must be 0. -/
def xentryReserved (p2 : Bool) (e : Nat) : Bool :=
  decide (bits e 63 52 ≠ 0) || decide (bits e 11 10 ≠ 0) || bit e 2 || decide (bits e 4 3 = 3)
    || (!p2 && decide (bits e 51 48 ≠ 0)) || (!bit e 1 && decide (bits e 9 2 ≠ 0))

/-- The hurdle translations a core keeps (R532). -/
def State.coreHurdle (s : State) (n pra : Nat) (kind : AKind) : HRes :=
  s.hurdle (s.core n).hcache (s.curOf (s.logical n)) pra kind true

/-- The first-stage walk from a table at level `k - 1` (R162); on success the leaf, not yet checked for rights. -/
def State.firstWalk (s : State) (n pl va : Nat) (fetch : Bool) (space : Nat) : Nat → Nat → List HurdleE → XRes
  | 0, _, _ => .fault (xfault 4 va fetch 0 4 0)
  | k + 1, table, hs =>
    let ea := table + 8 * tblIndex va k
    let h : HRes := if pl = 2 then .ok ea 0 { part := 0, lvl := 0, prn := 0, out := 0, attr := 0, sec := false, r := true, w := true, x := true }
      else s.coreHurdle n ea .walk
    match h with
    | .refused reason lvl => .fault (hfault va 2 reason lvl ea)
    | .poison l => .poison l
    | .ok pa _ he =>
      let hs := if pl = 2 then hs else he :: hs
      if !s.mainMem pa then .fault (xfault 4 va fetch k 12 ea)
      else match s.cohPoison pa 8 with
      | some l => .poison l
      | none =>
        let e := ofBytes (s.cohBytes pa 8)
        if !bit e 0 then .fault (xfault 4 va fetch k 2 ea)
        else if xentryReserved (pl == 2) e then .fault (xfault 4 va fetch k 3 ea)
        else if bit e 1 then
          if k = 3 then .fault (xfault 4 va fetch k 4 ea)
          else if k ≠ 0 ∧ bits e (11 + 9 * k) 12 ≠ 0 then .fault (xfault 4 va fetch k 5 ea)
          else .ok (bits e 51 12 * 4096 + va % 2 ^ (12 + 9 * k)) (bits e 4 3)
            [{ p2 := pl == 2, space := space, glob := bit e 5, lvl := k, vpn := va / 2 ^ (12 + 9 * k), out := bits e 51 12 * 4096,
               attr := bits e 4 3, r := bit e 7, w := bit e 8, x := bit e 9, u := bit e 6, entry := ea }] hs
        else if k = 0 then .fault (xfault 4 va fetch 0 4 ea)
        else s.firstWalk n pl va fetch space k (bits e 51 12 * 4096) hs

/-- The rights of a leaf (R163). -/
def leafRights (t : TlbE) (pl va : Nat) (kind : AKind) : Option Flt :=
  let fetch := kind == .fetch
  if pl = 0 ∧ !t.u then some (xfault 4 va fetch t.lvl 9 t.entry)
  else if fetch && !t.x then some (xfault 4 va fetch t.lvl 8 t.entry)
  else if kind.reads && !t.r then some (xfault 4 va fetch t.lvl 6 t.entry)
  else if kind.writes && !t.w then some (xfault 4 va fetch t.lvl 7 t.entry)
  else none

/-- The second stage of an access whose first stage answered `pra` with attribute `attr` (R158, R159). -/
def State.secondStage (s : State) (n pl va pra attr : Nat) (kind : AKind) (tlb : List TlbE) (hs : List HurdleE) : XRes :=
  if pl = 2 then .ok pra attr tlb hs
  else match s.coreHurdle n pra kind with
  | .ok pa a e => .ok pa (max attr a) tlb (e :: hs)
  | .refused reason lvl => .fault (hfault va (bnat (kind == .fetch)) reason lvl pra)
  | .poison l => .poison l

/-- Both stages of translation for a core's access at a level (R157 to R164). -/
def State.translate (s : State) (n pl va : Nat) (kind : AKind) : XRes :=
  let page := s.logical n
  let fetch := kind == .fetch
  let root := if pl = 2 then s.rget .fcXroot2 (page / 9) (page % 9) else s.rget .fcXroot1 (page / 9) (page % 9)
  let en := flag root 63
  if 2 ^ (if pl = 2 && !en then 52 else 48) ≤ va then .fault (xfault 4 va fetch 3 1 0)
  else if !en then s.secondStage n pl va va 0 kind [] []
  else
    let space := if pl = 2 then 0 else fld root 59 48
    let hit := (s.core n).tlb.find? fun t =>
      t.p2 == (pl == 2) && (t.p2 || t.glob || t.space == space) && va / 2 ^ (12 + 9 * t.lvl) == t.vpn
    let leaf : XRes := match hit with
      | some t => .ok (t.out + va % 2 ^ (12 + 9 * t.lvl)) t.attr [t] []
      | none => s.firstWalk n pl va fetch space 4 ((if pl = 2 then fld root 51 12 else fld root 47 12) * 4096) []
    match leaf with
    | .ok pra attr (t :: _) hs =>
      (match leafRights t pl va kind with
       | some f => .fault f
       | none => s.secondStage n pl va pra attr kind (if hit.isSome then [] else [t]) hs)
    | x => x

/-- The translations an access found, kept by the core (R164, R532). -/
def State.keep (s : State) (n : Nat) (tlb : List TlbE) (hs : List HurdleE) : State :=
  let new := fun (l : List HurdleE) => hs.filter fun e => !l.contains e
  s.modCore n fun c => { c with tlb := tlb ++ c.tlb, hcache := new c.hcache ++ c.hcache }

/-! ### Target kinds (R159) -/

/-- The kind of target of an access. -/
inductive Tgt | cache | uncached | io | own
  deriving DecidableEq, Repr

/-- The target kind of a physical address for a core, with the combined attribute (R159, R294). -/
def State.tgt (s : State) (n pa attr : Nat) : Tgt :=
  if (ctlModule pa).isSome then .io
  else if inMemRange pa && inSpRange (memOff pa) then
    match s.scratch pa with
    | some (k, _, _) => if k = flockOf n then .own else .io
    | none => .io
  else if attr = 0 then .cache else if attr = 1 then .uncached else .io

/-- Whether an address lies in a core's translation pages or a router's manager page (R171, R578). -/
def State.guardedPage (s : State) (pa : Nat) : Bool :=
  match ctlModule pa with
  | none => false
  | some m =>
    let off := pa % 2 ^ 32
    let win := off / 2 ^ 24
    let o := off % 2 ^ 24
    decide (m = s.ownModule) &&
      ((decide (0x40 ≤ win ∧ win ≤ 0x57) && (decide (0x800000 ≤ o ∧ o < 0x809000) || decide (0x900000 ≤ o ∧ o < 0x909000)))
       || (decide (win = 3) && decide (0x200000 ≤ o ∧ o < 0x2D8000)))

/-- Whether an address lies in a keep bank of the module (R305). -/
def State.inKeep (s : State) (pa : Nat) : Bool :=
  match s.scratch pa with
  | some (_, b, _) => b == 15
  | none => false

/-- One half of an access, translated. -/
structure Half where
  va : Nat
  pa : Nat
  len : Nat
  tgt : Tgt
  deriving DecidableEq, Repr

/-- A fault without a record of its own. -/
def plainFlt (rank vector info : Nat) : Flt := { rank := rank, vector := vector, info := info, xfstat := none, hfstat := none }

/-- The faults that depend on the translated address, in the order of R81. -/
def State.lateFault (s : State) (pl : Nat) (kind : AKind) (h : Bool) (opInfo va pa : Nat) (t : Tgt) : Option Flt :=
  if (kind == .atomic && t != .cache && t != .own) || (kind == .hdr && (ctlModule pa).isSome) then
    some (xfault 6 va false (Config.freeFaultLevel s.freeCtr) 10 0)
  else if pl = 0 && s.guardedPage pa then some (plainFlt 7 2 opInfo)
  else if kind == .hdr && s.inKeep pa then some (plainFlt 8 0x0D va)
  else if (h && t != .own) || (!h && t == .own && s.inKeep pa) then some (plainFlt 8 0x0D va)
  else none

/-- What the translation of a whole access answers. -/
inductive DRes
  | ok (halves : List Half) (tlb : List TlbE) (hur : List HurdleE)
  | fault (f : Flt)
  | poison (line : Nat)
  deriving DecidableEq, Repr

/-- The halves of an access by line (R187). -/
def halvesOf (va size : Nat) : List (Nat × Nat) :=
  let room := 64 - va % 64
  if size ≤ room then [(va, size)] else [(va, room), ((va + room) % 2 ^ 64, size - room)]

/-- One half translated and checked. -/
def State.halfXlate (s : State) (n pl : Nat) (kind : AKind) (h : Bool) (opInfo : Nat) (a : Nat × Nat) : DRes :=
  match s.translate n pl a.1 kind with
  | .fault f => .fault f
  | .poison l => .poison l
  | .ok pa attr tlb hs =>
    let t := s.tgt n pa attr
    match s.lateFault pl kind h opInfo a.1 pa t with
    | some f => .fault f
    | none => .ok [{ va := a.1, pa := pa, len := a.2, tgt := t }] tlb hs

/-- The whole of a data access translated and checked, both halves before either is performed; of two faults the
one that comes first in the order of R81 is reported, the lower half's where they are alike (R187, R188). -/
def State.dataXlate (s : State) (n pl va size : Nat) (kind : AKind) (h : Bool) (opInfo : Nat) : DRes :=
  match halvesOf va size with
  | [a] => s.halfXlate n pl kind h opInfo a
  | [a, b] =>
    (match s.halfXlate n pl kind h opInfo a, s.halfXlate n pl kind h opInfo b with
     | .poison l, _ => .poison l
     | _, .poison l => .poison l
     | .fault f, .fault g => if g.rank < f.rank then .fault g else .fault f
     | .fault f, .ok .. => .fault f
     | .ok .., .fault g => .fault g
     | .ok hs t u, .ok hs' t' u' =>
       if hs.map Half.tgt = hs'.map Half.tgt then .ok (hs ++ hs') (t ++ t') (u ++ u')
       else .fault (xfault 6 b.1 false (Config.freeFaultLevel s.freeCtr) 11 0))
  | _ => .poison 0

/-- Whether an access of `size` bytes at `va` passes the stack bounds of a level (R87). -/
def Arch.stackOk (a : Arch) (pl va size : Nat) : Bool :=
  decide ((a.cr (bankKey pl 6)).toNat ≤ va) && decide (va + size ≤ (a.cr (bankKey pl 7)).toNat)

/-- What a fault records besides its exception (R170, R531). -/
def State.logFault (s : State) (n : Nat) (f : Flt) : State :=
  let l := s.logical n
  let s := match f.xfstat with
    | some v => s.rset .fcXfstat (l / 9) (l % 9) (BitVec.ofNat 64 v)
    | none => s
  let s := if f.rank = 6 then s.drawn else s
  match f.hfstat with
  | some v => s.rset .huFstat n 0 (BitVec.ofNat 64 v)
  | none => s

end Sys2Proof.Machine
end

