-- ==== Sys2Proof/Machine/Issue.lean ====
section
/-! DEFINITION. Issue and landing of operations: guards, flights, the signature, faults at issue, and what a landing does (01, R33 to R41, R59; 06, R261). -/

namespace Sys2Proof.Machine

open Sys2Proof

/-! ### The signature (R261, R262) -/

/-- One step of the signature's CRC with the top bit of the word (R262). -/
def sigStep (s : Word) (wbit : Bool) : Word :=
  let t := (s.getLsbD 63).xor wbit
  let s := s <<< 1
  if t then s ^^^ 0x42F0E1EBA9EA3693 else s

/-- A word folded into a signature, most significant bit first (R262). -/
def sigFold (s w : Word) : Word :=
  (List.range 64).foldl (fun s i => sigStep s (w.getLsbD (63 - i))) s

/-- The signature of the recorded words. -/
def sigOf (q : List (Nat × Nat × List Word)) : Word := (q.flatMap fun x => x.2.2).foldl sigFold 0

/-- Words recorded in issue order: by bundle, then by place in it (R261). -/
def sigIns (num place : Nat) (ws : List Word) : List (Nat × Nat × List Word) → List (Nat × Nat × List Word)
  | [] => [(num, place, ws)]
  | x :: xs => if x.1 < num ∨ (x.1 = num ∧ x.2.1 ≤ place) then x :: sigIns num place ws xs else (num, place, ws) :: x :: xs

/-- The words of a register written (R261, item 2). -/
def resultWords (w : RegWrite) : List Word :=
  match w.dest with
  | .g n => if n = 0 then [] else [w.val.setWidth 64]
  | .sp _ => [w.val.setWidth 64]
  | .p n => if n = 0 then [] else [if w.val = 0 then 0 else 1]
  | .f _ => [w.val.setWidth 64, (w.val >>> 64).setWidth 64]
  | _ => []

/-- A core with the words of an operation recorded; a single-mode core forms no signature. -/
def Core.sign (c : Core) (on : Bool) (num place : Nat) (ws : List Word) : Core :=
  if on then { c with sigq := sigIns num place ws c.sigq } else c

/-- Whether a core forms a signature (R261). -/
def State.signs (s : State) (n : Nat) : Bool := s.part n == .bell || s.part n == .shadow

/-! ### Issue -/

/-- XINFO of a fault that names an operation: its slot and word (R64). -/
def opInfo (slot : Nat) (w : OpWord) : Nat := slot * 2 ^ 32 + w.toNat

/-- Whether a core is at work: it plays a part, its logical core is RUNNING, and it is neither frozen, gated nor
stopped. -/
def State.live (s : State) (n : Nat) : Bool :=
  let c := s.core n
  decide (n < 216) && s.part n != .idle && decide (s.lstate (s.logical n) = 0) && c.freeze.isNone && !c.gated && !c.stopped
    && s.foldRuns (foldOf n)

/-- Whether the operation with word `w` is the next of the core's bundle to issue. -/
def State.canIssue (s : State) (x : Slot) (w : OpWord) : Bool :=
  s.live x.core &&
    match (s.core x.core).bundle with
    | some b => decide (b.next = x.slot) && decide (b.words[x.slot]? = some w)
    | none => false

/-- What an operation writes when it lands, the flags it raises and the trap they cause. -/
structure OpRes where
  writes : List RegWrite
  flags : Nat
  trap : Option Trap
  deriving DecidableEq, Repr

/-- A result in an integer register. -/
def gres (rd : BitVec 6) (v : Word) : OpRes := ⟨[⟨.g rd.toNat, v.setWidth 128⟩], 0, none⟩
/-- A result in a predicate. -/
def pres (pd : BitVec 3) (b : Bool) : OpRes := ⟨[⟨.p pd.toNat, if b then 1 else 0⟩], 0, none⟩
/-- A result in a floating register. -/
def fresr (fd : BitVec 5) (v : Wide) : OpRes := ⟨[⟨.f fd.toNat, v⟩], 0, none⟩
/-- No result. -/
def nores : OpRes := ⟨[], 0, none⟩

/-- A bundle of no words, standing where a core issues none. -/
def Bundle.none : Bundle :=
  { addr := 0, words := [], num := 0, next := 0, cycles := 1, spent := 0, branch := Option.none, rep := Option.none,
    call := Option.none, gath := false, fence := false, wfe := false, iret := Option.none }

/-- The flight of an operation that issues now with latency `lat` (R36). -/
def Core.flight (c : Core) (x : Slot) (w : OpWord) (lat : Nat) (r : OpRes) : Flight :=
  let b := c.bundle.getD Bundle.none
  { num := b.num, addr := b.addr, slot := x.slot, due := c.cyc + lat - 1, writes := r.writes, flags := r.flags, trap := r.trap,
    mcheck := none, ready := true, cwr := none, need := none, sigPre := [BitVec.ofNat 64 (opInfo x.slot w)], sigPost := [],
    held := false, lvq := false, act := none, subm := none }

/-- A core with a flight added. -/
def Core.fly (c : Core) (f : Flight) : Core := { c with flights := c.flights ++ [f] }

/-- A core with its bundle changed. -/
def Core.modBundle (c : Core) (f : Bundle → Bundle) : Core := { c with bundle := c.bundle.map f }

/-- A core whose next slot is the one after: the operation has issued. -/
def Core.issued (c : Core) : Core := c.modBundle fun b => { b with next := b.next + 1 }

/-- A core whose operation has issued with a result that lands at latency `lat`. -/
def Core.issueRes (c : Core) (x : Slot) (w : OpWord) (lat : Nat) (r : OpRes) : Core :=
  (c.fly (c.flight x w lat r)).issued

/-- An operation whose result the core's registers decide: on, it flies; off, only its slot passes (R33). -/
def opReg (x : Slot) (w : OpWord) (lat : Nat) (f : Arch → OpRes) (s : State) : State :=
  if s.canIssue x w then
    s.modCore x.core fun c =>
      if c.arch.rp x.guard.toNat then c.issueRes x w lat (f c.arch) else c.issued
  else s

/-- An operation that acts on the whole state when it is on; it sees to its slot itself. -/
def opAct (x : Slot) (w : OpWord) (act : State → State) (s : State) : State :=
  if s.canIssue x w then
    if (s.core x.core).arch.rp x.guard.toNat then act s else s.modCore x.core Core.issued
  else s

/-! ### Faults and freezes at issue: no slot of the bundle takes effect (R59) -/

/-- The bundle in issue taken back: its flights, stores and held access are withdrawn, and the queue entries it
appended or took. -/
def State.undo (s : State) (n : Nat) : State :=
  let c := s.core n
  match c.bundle with
  | none => s
  | some b =>
    let sv := (tfind s.saved n).getD c
    let touched := c.merge.map MEntry.line
    let fl := c.flights.filter (fun f => f.num != b.num)
    let l1 := c.l1d.filter (fun l => !touched.contains l.2.line)
    let mine := fun (h : HeldAcc) => h.num == b.num && decide (h.slot < 4)
    let s := s.setCore n { c with bundle := none, flights := fl, merge := sv.merge, epoch := sv.epoch, closes := sv.closes,
                                  hacc := if c.hacc.any mine then sv.hacc else c.hacc, hnext := c.hnext.filter fun h => !mine h,
                                  gdue := if c.gdue != some .held then c.gdue else if !(s.seq (s.logical n)).cmds.isEmpty then some (sv.gdue.getD .command) else sv.gdue,
                                  popped := [], l1d := l1 }
    match s.part n with
    | .bell => s.modPair (s.pairOf n) fun p => { p with lvq := p.lvq.filter fun e => e.num != b.num || decide (4 ≤ e.slot) || e.kept }
    | .shadow => s.modPair (s.pairOf n) fun p => { p with lvq := c.popped ++ p.lvq, fetched := (b.num, b.addr, b.words) :: p.fetched }
    | _ => s

/-- An exception packed in the data of a queue entry (R256): DETAIL and vector above, XINFO below. -/
def Exc.pack (e : Exc) : Wide := BitVec.ofNat 128 ((e.detail * 2 ^ 32 + e.vector) * 2 ^ 64 + e.info % 2 ^ 64)

/-- The exception a queue entry holds. -/
def unpackExc (d : Wide) : Exc :=
  { vector := bits d.toNat 95 64, detail := bits d.toNat 127 96, info := bits d.toNat 63 0 }

/-- The queue entry of a machine check at a boundary (R256). -/
def mcEntry (num : Nat) (m : MCheck) : LvEntry :=
  { num := num, slot := 4, kind := .mchk, idx := 0,
    data := some (Exc.pack { vector := 0x1F, detail := m.detail, info := m.info }), bad := false, kept := false }

/-- A queue entry appended by the bellwether (R256). -/
def State.lvPush (s : State) (n : Nat) (e : LvEntry) : State :=
  if s.part n = .bell then s.modPair (s.pairOf n) fun p => { p with lvq := p.lvq ++ [e] } else s

/-- Whether the bellwether needs `k` more queue entries than are free (R257). -/
def State.lvFull (s : State) (n k : Nat) : Bool :=
  s.part n == .bell && decide (256 < (s.pair (s.pairOf n)).lvq.length + k)

/-- Whether a held access is under way. -/
def Core.heldBusy (c : Core) : Bool :=
  match c.hacc with
  | some h => h.phase != .answered
  | none => false

/-- A held access issues: it is the core's next, or waits for the one before it; a gather falls due (R181). -/
def Core.hold (c : Core) (h : HeldAcc) : Core :=
  if c.heldBusy then { c with hnext := c.hnext ++ [h], gdue := some .held } else { c with hacc := some h, gdue := some .held }

/-- Whether a held access still has its gather to come. -/
def Core.heldWaits (c : Core) : Bool :=
  (match c.hacc with
   | some h => h.phase == .issued || h.phase == .next
   | none => false) || !c.hnext.isEmpty

/-- The core freezes at the boundary before its bundle. -/
def State.opFreeze (s : State) (n : Nat) (fz : Freeze) : State :=
  (s.undo n).modCore n fun c => { c with freeze := some fz }

/-- An operation that needs `k` queue entries goes on where they are free, and freezes the bellwether where not
(R257). -/
def State.withQueue (s : State) (n k : Nat) (go : State → State) : State :=
  if s.lvFull n k then s.opFreeze n .queue else go s

/-- A bundle handed on to the shadow, which meets the same words (R254). -/
def State.handOn (s : State) (n : Nat) (b : Bundle) : State :=
  if s.part n = .bell then s.modPair (s.pairOf n) fun p => { p with fetched := p.fetched ++ [(b.num, b.addr, b.words)] } else s

/-- A fault at the issue of the core's bundle. One that translation or the target decides goes to the shadow
through the queue (R256); of any other the shadow gets the bundle, with the queue entries made on the way, and finds it
itself. -/
def State.opFault (s : State) (n : Nat) (e : Exc) (queued : Bool) : State :=
  let b := (s.core n).bundle
  let num := match b with
    | some b => b.num
    | none => (s.core n).bnum
  if queued then
    s.withQueue n 1 fun s =>
      ((s.undo n).modCore n fun c => { c with fault := some e }).lvPush n
        { num := num, slot := 4, kind := .fault, idx := 0, data := some e.pack, bad := false, kept := false }
  else
    let keep := fun (e : LvEntry) => if e.num = num then { e with data := some (e.data.getD 0), kept := true } else e
    let s : State := match b with
      | some b => s.handOn n b
      | none => s
    let s := if s.part n = .bell then s.modPair (s.pairOf n) fun p => { p with lvq := p.lvq.map keep }
      else s.modCore n fun c => { c with popped := [] }
    let s := s.undo n
    let s := if s.part n = .shadow then s.modPair (s.pairOf n) fun p => { p with fetched := p.fetched.drop 1 } else s
    s.modCore n fun c => { c with fault := some e }

/-- A machine check at the boundary before the core's bundle (R692). -/
def State.opMcheck (s : State) (n : Nat) (m : MCheck) : State :=
  let num := (s.core n).bnum
  let s := (s.undo n).modCore n fun c => { c with mchecks := c.mchecks ++ [m] }
  s.lvPush n (mcEntry num m)

/-- A fault of an access at issue, with its record (R170, R531). -/
def State.accessFault (s : State) (n : Nat) (f : Flt) : State :=
  (s.logFault n f).opFault n { vector := f.vector, detail := 0, info := f.info } (decide (3 ≤ f.rank))

/-! ### Landing -/

/-- The writable bits of a core control register (R112 to R115). -/
def cregMask (r : Nat) : Word :=
  match r with
  | 0 => 0xFFFF00 | 1 => 0xC07F | 2 => ~~~0x7FF#64 | 3 => ~~~0xF#64 | 4 => ~~~0#64 | 5 => ~~~0#64
  | 6 => ~~~0xF#64 | 7 => ~~~0xF#64 | _ => 0

/-- Every OPEN merging entry closes, in the order of creation (R176). -/
def Core.closeAll (c : Core) : Core :=
  let m := c.merge.foldl (fun (acc : List MEntry × Nat) e =>
    if e.closed.isNone then (acc.1 ++ [{ e with closed := some acc.2 }], acc.2 + 1) else (acc.1 ++ [e], acc.2)) ([], c.closes)
  { c with merge := m.1, closes := m.2 }

/-- The key a CREG field selects at a level (R110). -/
def cregKey (pl : Nat) (creg : Nat) : Nat :=
  let r := creg % 64
  let banked := decide (2 ≤ r ∧ r ≤ 7) || decide (r = 0x0B)
  if !banked then r else (if creg / 64 = 0 then pl + 1 else creg / 64) * 64 + r

/-- A rejected write of a core control register (R111); the shadow records nothing (R255). -/
def State.cregReject (s : State) (n creg : Nat) (v : Word) : State :=
  if s.part n = .shadow then s else s.reject 4 (n * 256 + creg) v.toNat

/-- A CWR lands (R111, R112, R184, R185). -/
def State.landCwr (s : State) (n creg : Nat) (v : Word) : State :=
  let c := s.core n
  let a := c.arch
  let key := cregKey a.pl creg
  match creg % 64 with
  | 0 => if 5 ≤ fld v 12 10 then s.cregReject n creg v
      else s.modCore n fun c => { c with arch := c.arch.setCr 0 (v &&& cregMask 0) }
  | 9 =>
    let old := a.cr 9
    if (flag v 1 && !flag old 1 && !flag old 3) || (flag v 0 && !flag old 0 && !flag old 2) then s.cregReject n creg v
    else
      let ien := flag v 0
      let v1 := setFlag old 0 ien
      let v1 := if flag old 0 && !ien then setFlag v1 2 false else v1
      if flag old 1 && !flag v 1 && s.part n != .shadow then
        s.modCore n fun c => { c.closeAll with arch := c.arch.setCr 9 v1, denDrain := some v1, freeze := some .cctlDrain }
      else
        let v2 := setFlag v1 1 (flag v 1)
        let v2 := if flag old 1 && !flag v 1 then setFlag v2 3 false else v2
        s.modCore n fun c => { c with arch := c.arch.setCr 9 v2 }
  | 8 => s
  | 0x0A => s
  | r => s.modCore n fun c => { c with arch := c.arch.setCr key (v &&& cregMask r) }

/-- The queue entry of a landing operation filled; a shadow that waits for it goes on (R256, R257). -/
def State.lvFill (s : State) (n : Nat) (f : Flight) : State :=
  let v : Wide := match f.writes with
    | w :: _ => w.val
    | [] => 0
  let mine := fun (e : LvEntry) => e.num == f.num && e.slot == f.slot && e.data.isNone
  let fill := fun (e : LvEntry) => { e with data := some v, bad := f.mcheck.isSome }
  let s := s.modPair (s.pairOf n) fun p => { p with lvq := updFirst mine fill p.lvq }
  ((s.coresOf (s.logical n)).drop 1).foldl (fun s d => s.modCore d fun c =>
    if c.freeze = some .queue ∧ c.bundle.isNone then { c with freeze := none } else c) s

/-- L1 maintenance takes effect (R97, R233): DCI closes the line's merging entries and waits for them to move. -/
def Core.maintain (c : Core) (fills : List Nat) : Maint → Core
  | .dci line =>
    let m := c.merge.foldl (fun (acc : List MEntry × Nat) e =>
      if e.line = line ∧ e.closed.isNone then (acc.1 ++ [{ e with closed := some acc.2 }], acc.2 + 1) else (acc.1 ++ [e], acc.2)) ([], c.closes)
    { c.dropL1d line with merge := m.1, closes := m.2, barred := if fills.contains line then line :: c.barred else c.barred,
                          freeze := if m.1.any (fun e => e.line == line) then some (.maint line) else c.freeze }
  | .ici line => { c with l1i := c.l1i.filter (fun x => x.2.line != line) }
  | .dcia => { c with l1d := [], barred := fills ++ c.barred, arch := c.arch.setCr 9 (setFlag (c.arch.cr 9) 3 true) }
  | .icia => { c with l1i := [], arch := c.arch.setCr 9 (setFlag (c.arch.cr 9) 2 true) }

/-- The lines of the fills a core waits for. -/
def State.fillsOf (s : State) (n : Nat) : List Nat :=
  (s.caches.fills.filter fun f => f.waiters.contains (n, false)).map fun f => f.line

/-- One operation lands: a machine check or a trap keeps its results back (R59), else its results, flags and control
register write take effect, and its words are folded (R261). -/
def State.land (s : State) (n : Nat) (f : Flight) : State :=
  let sg := s.signs n
  let s := if f.lvq && s.part n == .bell then s.lvFill n f else s
  match f.mcheck, f.trap with
  | some m, _ =>
    let s := s.modCore n fun c => ({ c with mchecks := c.mchecks ++ [m] } : Core).sign sg f.num (f.slot + 1) f.sigPre
    s.lvPush n (mcEntry ((s.core n).bnum + 1) m)
  | none, some t => s.modCore n fun c => { c with traps := c.traps ++ [(f, t)], arch := c.arch.addFlags f.flags }
  | none, none =>
    let ws := f.sigPre ++ (if f.held then [] else f.writes.flatMap resultWords) ++ f.sigPost
      ++ (if f.flags = 0 then [] else [BitVec.ofNat 64 f.flags])
    let s := match f.cwr with
      | some (creg, v) => s.landCwr n creg v
      | none => s
    let s := match f.act with
      | some m => s.modCore n fun c => c.maintain (s.fillsOf n) m
      | none => s
    s.modCore n fun c => ({ c with arch := (f.writes.foldl Arch.write c.arch).addFlags f.flags } : Core).sign sg f.num (f.slot + 1) ws

/-- The operations that land at the end of issue cycle `cy`, control register writes first so that no flag is lost
(R40); one whose data is not there waits. -/
def State.landAt (s : State) (n cy : Nat) : State :=
  let due := (s.core n).flights.filter fun f => f.due == cy && f.ready
  let s := s.modCore n fun c => { c with flights := c.flights.filter fun f => !(f.due == cy && f.ready) }
  (due.filter (fun f => f.cwr.isSome) ++ due.filter (fun f => f.cwr.isNone)).foldl (fun s f => s.land n f) s

/-- Whether every operation in flight has its data. -/
def Core.allReady (c : Core) : Bool := c.flights.all Flight.ready

/-- The number of drain cycles (R41). -/
def Core.drainCycles (c : Core) : Nat := c.flights.foldl (fun m f => if f.ready then max m (f.due + 1 - c.cyc) else m) 0

/-- The core drains: every operation in flight lands in order; drain cycles count in TIMEBASE alone (R41, R44). -/
def State.drain (s : State) (n : Nat) : State :=
  let c := s.core n
  let d := c.drainCycles
  let s := (rangeFrom c.cyc d).foldl (fun s cy => s.landAt n cy) s
  s.modCore n fun c => { c with timebase := c.timebase + BitVec.ofNat 64 d }

end Sys2Proof.Machine
end

