-- ==== Sys2Proof/Machine/Path.lean ====
section
/-! DEFINITION. The store path of a core (merging buffer and held entries), forwarding, and the start of a rollback (04, R174 to R182; 06, R258, R270 to R272). -/

namespace Sys2Proof.Machine

open Sys2Proof

/-! ### Detections and rollback (R258, R270, R272) -/

/-- A core stopped in mid-course by a rollback: operations in flight, freeze and bundle abandoned, unconfirmed
stores discarded, its L1D emptied (R270, steps 1 and 2). A held access already released to its target goes on (R271). -/
def Core.abandon (c : Core) : Core :=
  { c with flights := [], bundle := none, freeze := none, gated := false, fault := none, call := none, traps := [],
           mchecks := [], fbuf := none, twaited := false, merge := [], held := [], l1d := [], gdue := none, mark := none, waitRel := none,
           popped := [], sigq := [], denDrain := none, bcnt := 0,
           hacc := match c.hacc with
             | some h => if h.phase = .issued ∨ h.phase = .answered then none else some h
             | none => none,
           hnext := c.hnext.filter fun h => h.phase == .next }

/-- Fills in flight for the cores of a rolled-back pair deliver to no one and install nothing (R270, R233). -/
def State.dropWaiters (s : State) (ns : List Nat) : State :=
  let f := fun (x : Fill) =>
    let mine := x.waiters.any fun w => ns.contains w.1
    if mine then { x with waiters := x.waiters.filter (fun w => !ns.contains w.1), install := x.install && x.waiters.any (fun w => !ns.contains w.1) } else x
  s.modCa fun c => { c with fills := c.fills.map f }

/-- Whether a log of detections may take a record, noted when the detection's sequence ends (R290): the cause, the
core named and the signatures are kept until then. -/
def State.noteCause (s : State) (l cause core : Nat) (sigB sigS : Word) : State :=
  s.modSeq l fun q => { q with cause := some cause, named := core, sigB := sigB, sigS := sigS }

/-- A rollback of logical core `l` begins (R270, steps 1 to 3): PX_CHECK is raised, a strike counts against the core
named or the pair (R272), and STATE becomes ROLLBACK. `core` is 15 where no core is named. -/
def State.startRollback (s : State) (l cause core : Nat) (sigB sigS : Word) : State :=
  let f := foldOf l
  let p := 4 * f + l % 9 / 2
  let ns := s.coresOf l
  let s := s.noteCause l cause core sigB sigS
  let s := ns.foldl (fun s n => s.modCore n Core.abandon) s
  let s := s.dropWaiters ns
  let s := s.modPair p fun q => { q with lvq := [], fetched := [] }
  let s := (s.modSeq l fun q => { q with cmds := q.cmds.filter fun k => k != 6 }).setLstate l 1
  let s := s.raise (1600 + 8 * f)
  if core = 15 then s.strike 1 p else s.strike 0 (9 * f + core)

/-- A mismatch at the shadow: key or stall (R258). -/
def State.mismatch (s : State) (n cause : Nat) : State := s.startRollback (s.logical n) cause 15 0 0

/-! ### The load-value queue at the shadow (R256 to R258) -/

/-- What the shadow meets at the head of the queue. -/
inductive LvHead
  | taken (e : LvEntry)
  | wait
  | wrong
  deriving DecidableEq, Repr

/-- Whether a queue entry is that of a held access of the core that has not yet landed: it is taken at that
landing. -/
def Core.awaits (c : Core) (e : LvEntry) : Bool :=
  c.flights.any fun f => f.held && !f.ready && f.num == e.num && f.slot == e.slot

/-- The entry the shadow needs: taken, not yet filled, or a wrong key. -/
def State.lvHead (s : State) (n num slot : Nat) (kind : LvKind) : LvHead :=
  match (s.pair (s.pairOf n)).lvq.find? fun e => !(s.core n).awaits e with
  | none => .wrong
  | some e =>
    if e.num = num ∧ e.slot = slot ∧ e.kind = kind then (if e.data.isSome then .taken e else .wait) else .wrong

/-- The head of the queue removed; kept by the core in case its bundle is taken back. -/
def State.lvPop (s : State) (n : Nat) : State :=
  let c := s.core n
  match (s.pair (s.pairOf n)).lvq.find? fun e => !c.awaits e with
  | none => s
  | some e => (s.modPair (s.pairOf n) fun p => { p with lvq := delFirst (fun x => !c.awaits x) p.lvq }).setCore n
      { c with popped := c.popped ++ [e] }

/-- The shadow takes an entry for the operation in `slot` of its bundle and goes on with it; it waits for one not
filled, and a wrong key is a mismatch. -/
def State.lvTake (s : State) (n slot : Nat) (kind : LvKind) (k : LvEntry → State → State) : State :=
  match (s.core n).bundle with
  | none => s
  | some b =>
    match s.lvHead n b.num slot kind with
    | .taken e => k e (s.lvPop n)
    | .wait => s.opFreeze n .queue
    | .wrong => s.mismatch n 1

/-! ### Merging buffer (R174 to R177) -/

/-- The entries of a merging buffer. -/
def mergeSize : Nat := 16

/-- The held entries a core has: 64 for a bellwether, 32 for a core of its own (R174). -/
def State.heldSize (s : State) (n : Nat) : Nat := if s.part n = .bell then 64 else 32

/-- A store's bytes into the merging buffer: into the OPEN entry of its line and epoch, or a FREE entry; none where
neither is there (R175). -/
def Core.merge1 (c : Core) (line i : Nat) (bs : List Byte) : Option Core :=
  let (d, m) := linePlace i bs
  let isOpen := fun (e : MEntry) => e.line == line && e.epoch == c.epoch && e.closed.isNone
  let into := fun (e : MEntry) =>
    let mask := e.mask ||| m
    { e with data := lineMerge e.data d m, mask := mask, age := c.cyc,
             closed := if mask = fullMask then some c.closes else none }
  let add : MEntry := { line := line, epoch := c.epoch, data := d, mask := m, closed := if m = fullMask then some c.closes else none, age := c.cyc }
  let next := if c.merge.any isOpen then some (updFirst isOpen into c.merge)
    else if c.merge.length < mergeSize then some (c.merge ++ [add]) else none
  next.map fun l => { c with merge := l, closes := c.closes + 1 }

/-- The oldest OPEN entry closed where no entry is closed (R175). -/
def Core.closeOldest (c : Core) : Core :=
  if c.merge.any fun e => e.closed.isSome then c
  else { c with merge := updFirst (fun e => e.closed.isNone) (fun e => { e with closed := some c.closes }) c.merge, closes := c.closes + 1 }

/-- The L1D's copy of a line updated by a store (R177). -/
def Core.l1Write (c : Core) (line i : Nat) (bs : List Byte) : Core :=
  let (d, m) := linePlace i bs
  let f := fun (x : Nat × L1Line) => if x.2.line = line then (x.1, { x.2 with data := lineMerge x.2.data d m }) else x
  { c with l1d := c.l1d.map f }

/-- The halves of a store with their bytes. -/
def splitBytes : List Half → List Byte → List (Half × List Byte)
  | [], _ => []
  | h :: hs, bs => (h, bs.take h.len) :: splitBytes hs (bs.drop h.len)

/-- Halves stored into a core's merging buffer and L1D; none where the buffer is full. -/
def Core.mergeAll (c : Core) : List (Half × List Byte) → Option Core
  | [] => some c
  | (h, bs) :: rest =>
    match c.merge1 (h.pa / 64) (h.pa % 64) bs with
    | none => none
    | some c => (if h.tgt = .cache then c.l1Write (h.pa / 64) (h.pa % 64) bs else c).mergeAll rest

/-- The oldest CLOSED entry of a merging buffer: the one that closed first (R176). -/
def oldestClosed (l : List MEntry) : Option MEntry :=
  l.foldl (fun (acc : Option MEntry) e =>
    match e.closed, acc with
    | none, _ => acc
    | some _, none => some e
    | some k, some b => if k < b.closed.getD 0 then some e else acc) none

/-- The oldest CLOSED entry moves into the held entries: into one of its line and epoch created since the latest
mark, or a free one; where every held entry is in use the core is to take a gather (R175, R177). -/
def State.moveOne (s : State) (n : Nat) : State :=
  let c := s.core n
  match oldestClosed c.merge with
  | none => s
  | some e =>
    let same := fun (h : HEntry) => h.line == e.line && h.epoch == e.epoch && h.interval == c.interval
    let into := fun (h : HEntry) => { h with data := lineMerge h.data e.data e.mask, mask := h.mask ||| e.mask }
    let rest := c.merge.filter fun m => m.closed != e.closed
    if c.held.any same then s.setCore n { c with merge := rest, held := updFirst same into c.held }
    else if c.held.length + c.rel.length < s.heldSize n then
      s.setCore n { c with merge := rest, held := c.held ++ [{ line := e.line, epoch := e.epoch, data := e.data, mask := e.mask, interval := c.interval }] }
    else s.setCore n { c with gdue := match c.gdue with
      | some g => some (if g.waits && g != .command then g else .full)
      | none => some .full }

/-- Entries move until none is CLOSED or none can (R264, step 2). -/
def State.moveAll (s : State) (n : Nat) : Nat → State
  | 0 => s
  | k + 1 => (s.moveOne n).moveAll n k

/-! ### Forwarding (R179, R180) -/

/-- The store path of a core, oldest entry first, as lines with their bytes (R179). -/
def Core.path (c : Core) : List (Nat × BitVec 512 × BitVec 64) :=
  c.rel.map (fun h => (h.line, h.data, h.mask)) ++ c.held.map (fun h => (h.line, h.data, h.mask))
    ++ c.merge.map (fun e => (e.line, e.data, e.mask))

/-- The youngest entry of a store path that holds a byte, and the byte. -/
def pathByte (path : List (Nat × BitVec 512 × BitVec 64)) (pa : Nat) : Option (Nat × Byte) :=
  (path.zipIdx.foldl (fun (acc : Option (Nat × Byte)) x =>
    if x.1.1 = pa / 64 && x.1.2.2.getLsbD (pa % 64) then some (x.2, lineByte x.1.2.1 (pa % 64)) else acc) none)

/-- What the store path has for a load (R179). -/
inductive Fwd
  | none
  | all (bs : List Byte)
  | part
  deriving DecidableEq, Repr

/-- The first row of R179 that applies to `len` bytes at `pa`. -/
def Core.forward (c : Core) (pa len : Nat) : Fwd :=
  let hits := (rangeFrom pa len).map (pathByte c.path)
  if hits.all Option.isNone then .none
  else
    let ids := hits.filterMap fun x => x.map (·.1)
    match ids with
    | [] => .none
    | i :: _ => if ids.length = len ∧ ids.all (· == i) then .all (hits.filterMap fun x => x.map (·.2)) else .part

/-- The entries that hold a byte of a load close (R176). -/
def Core.closeOverlap (c : Core) (pa len : Nat) : Core :=
  let m := c.merge.foldl (fun (acc : List MEntry × Nat) e =>
    let hit := e.line = pa / 64 ∧ (rangeFrom (pa % 64) len).any e.mask.getLsbD
    if hit ∧ e.closed.isNone then (acc.1 ++ [{ e with closed := some acc.2 }], acc.2 + 1) else (acc.1 ++ [e], acc.2)) ([], c.closes)
  { c with merge := m.1, closes := m.2 }

/-- Bytes of the own scratchpad with the store path's laid over them (R180). -/
def overlay (path : List (Nat × BitVec 512 × BitVec 64)) : Nat → List Byte → List Byte
  | _, [] => []
  | pa, b :: bs =>
    (match pathByte path pa with
     | some (_, x) => x
     | none => b) :: overlay path (pa + 1) bs

/-- A store of an operation's halves into the store path; where the merging buffer is full the core freezes (R175). -/
def State.pathStore (s : State) (n : Nat) (hs : List (Half × List Byte)) (k : State → State) : State :=
  match (s.core n).mergeAll hs with
  | some c => k (s.setCore n c)
  | none => (s.opFreeze n .mergeFull).modCore n Core.closeOldest

end Sys2Proof.Machine
end

