-- ==== Sys2Proof/Machine/Float.lean ====
section
/-! DEFINITION. Floating formats, values and rounding (03, R131 to R137, R143, R144). Exact results are fractions of natural numbers; each is rounded once. -/

namespace Sys2Proof.Machine

/-- The four formats of FMT (R78). -/
inductive FFmt | b32 | b64 | d64 | d128
  deriving DecidableEq, Repr

/-- The format the 2-bit FMT field names (R78). -/
def fmtOf (f : BitVec 2) : FFmt :=
  if f = 0 then .b32 else if f = 1 then .b64 else if f = 2 then .d64 else .d128

namespace FFmt
/-- Radix of the format. -/
def radix : FFmt → Nat
  | .b32 => 2 | .b64 => 2 | .d64 => 10 | .d128 => 10
/-- Width in bits. -/
def width : FFmt → Nat
  | .b32 => 32 | .b64 => 64 | .d64 => 64 | .d128 => 128
/-- Precision p in digits (R131). -/
def prec : FFmt → Nat
  | .b32 => 24 | .b64 => 53 | .d64 => 16 | .d128 => 34
/-- emin (R131). -/
def emin : FFmt → Int
  | .b32 => -126 | .b64 => -1022 | .d64 => -383 | .d128 => -6143
/-- emax (R131). -/
def emax : FFmt → Int
  | .b32 => 127 | .b64 => 1023 | .d64 => 384 | .d128 => 6144
/-- Least quantum exponent. -/
def qmin (f : FFmt) : Int := f.emin - (f.prec - 1)
/-- Greatest quantum exponent (R144). -/
def qmax (f : FFmt) : Int := f.emax - (f.prec - 1)
/-- Whether the radix is ten. -/
def dec (f : FFmt) : Bool := f.radix == 10
end FFmt

/-- A floating value: a NaN with its sign, signalling bit and payload, an infinity, or sign·coef·radix^exp. -/
inductive FVal
  | nan (sign signalling : Bool) (payload : Nat)
  | inf (sign : Bool)
  | fin (sign : Bool) (coef : Nat) (exp : Int)
  deriving DecidableEq, Repr

/-- The default NaN (R139). -/
def defaultNaN : FVal := .nan false false 0

/-- Reads a binary value of `w` bits with `e` exponent bits and precision `p` (R131). -/
def decodeBin (w e p v : Nat) : FVal :=
  let sign := bit v (w - 1)
  let ex := bits v (w - 2) (p - 1)
  let fr := bits v (p - 2) 0
  let bias : Int := 2 ^ (e - 1) - 1
  if ex = 2 ^ e - 1 then
    if fr = 0 then .inf sign else .nan sign (!bit fr (p - 2)) (bits fr (p - 3) 0)
  else if ex = 0 then .fin sign fr (2 - bias - p)
  else .fin sign (fr + 2 ^ (p - 1)) ((ex : Int) - bias - p + 1)

/-- Writes a binary value whose coefficient and exponent fit the format. -/
def encodeBin (w e p : Nat) (x : FVal) : Nat :=
  let bias : Int := 2 ^ (e - 1) - 1
  let s (b : Bool) := bnat b * 2 ^ (w - 1)
  match x with
  | .nan sg q pl => s sg + (2 ^ e - 1) * 2 ^ (p - 1) + bnat (!q) * 2 ^ (p - 2) + pl % 2 ^ (p - 2)
  | .inf sg => s sg + (2 ^ e - 1) * 2 ^ (p - 1)
  | .fin sg c q =>
    if c < 2 ^ (p - 1) then s sg + c
    else s sg + (q + bias + p - 1).toNat * 2 ^ (p - 1) + (c - 2 ^ (p - 1))

/-- Reads a BID value of `w` bits with `x` exponent bits and precision `p`; a non-canonical coefficient reads
as zero with its exponent and a payload of 10^(p-1) or more as 0 (R133). -/
def decodeBid (w x p v : Nat) : FVal :=
  let sign := bit v (w - 1)
  let qmin : Int := if p = 16 then -398 else -6176
  let cut (c : Nat) := if c < 10 ^ p then c else 0
  if bits v (w - 2) (w - 5) = 15 then
    if bit v (w - 6) then
      let pl := bits v (w - x - 5) 0
      .nan sign (bit v (w - 7)) (if pl < 10 ^ (p - 1) then pl else 0)
    else .inf sign
  else if bits v (w - 2) (w - 3) = 3 then
    .fin sign (cut (2 ^ (w - x - 1) + bits v (w - x - 4) 0)) (qmin + bits v (w - 4) (w - x - 3))
  else .fin sign (cut (bits v (w - x - 2) 0)) (qmin + bits v (w - 2) (w - x - 1))

/-- Writes a canonical BID value (R133). -/
def encodeBid (w x p : Nat) (v : FVal) : Nat :=
  let qmin : Int := if p = 16 then -398 else -6176
  let s (b : Bool) := bnat b * 2 ^ (w - 1)
  match v with
  | .nan sg q pl => s sg + 0x1F * 2 ^ (w - 6) + bnat q * 2 ^ (w - 7) + (if pl < 10 ^ (p - 1) then pl else 0)
  | .inf sg => s sg + 0x1E * 2 ^ (w - 6)
  | .fin sg c q =>
    let e := (q - qmin).toNat
    if c < 2 ^ (w - x - 1) then s sg + e * 2 ^ (w - x - 1) + c
    else s sg + 3 * 2 ^ (w - 3) + e * 2 ^ (w - x - 3) + c % 2 ^ (w - x - 3)

/-- The value a register's low bits hold in a format (R131, R132, R133). -/
def fdecode (f : FFmt) (v : Nat) : FVal :=
  match f with
  | .b32 => decodeBin 32 8 24 (v % 2 ^ 32)
  | .b64 => decodeBin 64 11 53 (v % 2 ^ 64)
  | .d64 => decodeBid 64 10 16 (v % 2 ^ 64)
  | .d128 => decodeBid 128 14 34 (v % 2 ^ 128)

/-- The 128-bit register contents of a value: the format's bits, zeros above (R132). -/
def fencode (f : FFmt) (x : FVal) : Wide :=
  BitVec.ofNat 128 (match f with
    | .b32 => encodeBin 32 8 24 x
    | .b64 => encodeBin 64 11 53 x
    | .d64 => encodeBid 64 10 16 x
    | .d128 => encodeBid 128 14 34 x)

/-- Decimal digits of a number, 0 for 0. -/
def digits10 (n : Nat) : Nat :=
  if n = 0 then 0 else
    let k := Nat.log2 n * 30103 / 100000
    if 10 ^ (k + 1) ≤ n then k + 2 else if 10 ^ k ≤ n then k + 1 else k

/-- Digits of a number in the radix of a format. -/
def fdigits (f : FFmt) (n : Nat) : Nat := if f.dec then digits10 n else bitLength n

/-- Rounding directions (R112): the binary modes are 0 to 3, decimal adds 4, ties to away. -/
def roundUp (mode : Nat) (sign : Bool) (odd : Bool) (rem den : Nat) : Bool :=
  if rem = 0 then false
  else match mode with
    | 0 => decide (den < 2 * rem) || (decide (den = 2 * rem) && odd)
    | 1 => false
    | 2 => !sign
    | 3 => sign
    | _ => decide (den ≤ 2 * rem)

/-- num/den divided by radix^q, as numerator and denominator. -/
def scaleQ (r : Nat) (num den : Nat) (q : Int) : Nat × Nat :=
  if 0 ≤ q then (num, den * r ^ q.toNat) else (num * r ^ (-q).toNat, den)

/-- The exact value num/den rounded to a multiple of radix^q: coefficient and whether it changed. -/
def roundAt (r mode : Nat) (sign : Bool) (num den : Nat) (q : Int) : Nat × Bool :=
  let (n, d) := scaleQ r num den q
  let c := n / d
  let m := n % d
  (if roundUp mode sign (c % 2 == 1) m d then c + 1 else c, m != 0)

/-- The largest finite value of a format (R131). -/
def fmax (f : FFmt) (sign : Bool) : FVal := .fin sign (f.radix ^ f.prec - 1) f.qmax

/-- The overflowed result (R136). -/
def overflowVal (f : FFmt) (mode : Nat) (sign : Bool) : FVal :=
  if mode = 1 ∨ (mode = 2 ∧ sign) ∨ (mode = 3 ∧ !sign) then fmax f sign else .inf sign

/-- Strips up to `n` trailing zeros while the exponent is below `pref` (R143). -/
def stripZeros : Nat → Nat → Int → Int → Nat × Int
  | 0, c, q, _ => (c, q)
  | n + 1, c, q, pref =>
    if q < pref ∧ c % 10 = 0 then stripZeros n (c / 10) (q + 1) pref else (c, q)

/-- A rounded result: the value, the flags it raises, and whether it is tiny and exact (R137). -/
structure FRes where
  val : FVal
  flags : Nat
  tinyExact : Bool
  deriving DecidableEq, Repr

/-- A result that needs no rounding. -/
def fres (v : FVal) (flags : Nat := 0) : FRes := ⟨v, flags, false⟩

/-- FI with the default NaN (R139, R140). -/
def invalid : FRes := fres defaultNaN flagFI

/-- The least quantum exponent at which num/den has at most p digits. -/
def fullQ (f : FFmt) (num den : Nat) : Int :=
  let q : Int := (fdigits f num : Int) - fdigits f den - f.prec
  let (n, d) := scaleQ f.radix num den q
  if f.radix ^ f.prec ≤ n / d then q + 1 else q

/-- A coefficient and exponent with a carry out of p digits folded in. -/
def carry (f : FFmt) (c : Nat) (q : Int) : Nat × Int :=
  if c = f.radix ^ f.prec then (f.radix ^ (f.prec - 1), q + 1) else (c, q)

/-- The value (−1)^sign · num/den rounded once to the format: precision, tininess after rounding, overflow,
cohort (R134 to R136, R143, R144). `pref` is the preferred exponent of an exact decimal result. -/
def roundRat (f : FFmt) (mode : Nat) (sign : Bool) (num den : Nat) (pref : Int) : FRes :=
  if num = 0 then fres (.fin sign 0 (if f.dec then max f.qmin (min f.qmax pref) else f.qmin))
  else
    let q0 := fullQ f num den
    let (cu, qu) := carry f (roundAt f.radix mode sign num den q0).1 q0
    let tiny := decide (qu + fdigits f cu ≤ f.emin)
    let q := max q0 f.qmin
    let (c0, inexact) := roundAt f.radix mode sign num den q
    let (c, q) := carry f c0 q
    if f.qmax < q then ⟨overflowVal f mode sign, flagFO ||| flagFX, false⟩
    else
      let (c, q) :=
        if f.dec && !inexact then stripZeros f.prec c q (min pref f.qmax) else (c, q)
      ⟨.fin sign c q,
        (if inexact then flagFX ||| (if tiny then flagFU else 0) else 0),
        tiny && !inexact⟩

/-- Rounds a signed fraction; an exact zero takes `zsign` (R141). -/
def roundSigned (f : FFmt) (mode : Nat) (num : Int) (den : Nat) (zsign : Bool) (pref : Int) : FRes :=
  roundRat f mode (if num = 0 then zsign else decide (num < 0)) num.natAbs den pref

/-- coef·radix^exp as numerator and denominator. -/
def asFrac (r : Nat) (c : Nat) (q : Int) : Nat × Nat :=
  if 0 ≤ q then (c * r ^ q.toNat, 1) else (c, r ^ (-q).toNat)

/-- The rounding mode of a result in a format (R134). -/
def modeFor (m : Mood) (f : FFmt) : Nat := if f.dec then m.drm else m.rm

/-- A NaN made quiet (R139). -/
def quietNaN : FVal → FVal
  | .nan s _ p => .nan s false p
  | v => v

/-- Whether a value is a NaN. -/
def isNaN : FVal → Bool
  | .nan _ _ _ => true
  | _ => false
/-- Whether a value is a signalling NaN. -/
def isSNaN : FVal → Bool
  | .nan _ s _ => s
  | _ => false
/-- The sign of a value. -/
def fsign : FVal → Bool
  | .nan s _ _ => s
  | .inf s => s
  | .fin s _ _ => s
/-- A value with the given sign. -/
def withSign (s : Bool) : FVal → FVal
  | .nan _ q p => .nan s q p
  | .inf _ => .inf s
  | .fin _ c q => .fin s c q
/-- Whether a value is a zero. -/
def isZero : FVal → Bool
  | .fin _ 0 _ => true
  | _ => false

/-- The result a NaN operand decides: FI with the default NaN when an operand is signalling (R140), else the
first NaN (R139). DEDUCED: log entry 21. -/
def nanOf (xs : List FVal) : Option FRes :=
  if xs.any isSNaN then some invalid
  else (xs.find? isNaN).map (fun v => fres v)

end Sys2Proof.Machine
end

