-- ==== Sys2Proof/Machine/FloatOps.lean ====
section
/-! DEFINITION. Floating and decimal operations (03, R139 to R145) and the division and square-root steps (R147 to R150). -/

namespace Sys2Proof.Machine

/-- Exact sum of two finite values as a signed coefficient over a common exponent. -/
def sumExact (r : Nat) (sa : Bool) (ca : Nat) (qa : Int) (sb : Bool) (cb : Nat) (qb : Int) : Int × Int :=
  let q := min qa qb
  let a : Int := ca * r ^ (qa - q).toNat
  let b : Int := cb * r ^ (qb - q).toNat
  ((if sa then -a else a) + (if sb then -b else b), q)

/-- The sum of two values (R139 to R141, R143). -/
def faddV (f : FFmt) (mode : Nat) (a b : FVal) : FRes :=
  match nanOf [a, b] with
  | some r => r
  | none =>
    match a, b with
    | .inf s, .inf t => if s = t then fres (.inf s) else invalid
    | .inf s, _ => fres (.inf s)
    | _, .inf t => fres (.inf t)
    | .fin sa ca qa, .fin sb cb qb =>
      let (n, q) := sumExact f.radix sa ca qa sb cb qb
      let (num, den) := asFrac f.radix n.natAbs q
      let zsign := if ca = 0 ∧ cb = 0 ∧ sa = sb then sa else decide (mode = 3)
      roundSigned f mode (if n < 0 then -(num : Int) else num) den zsign (min qa qb)
    | _, _ => invalid

/-- The difference of two values. -/
def fsubV (f : FFmt) (mode : Nat) (a b : FVal) : FRes :=
  if isNaN b then faddV f mode a b else faddV f mode a (withSign (!fsign b) b)

/-- The product of two values (R140, R141, R143). -/
def fmulV (f : FFmt) (mode : Nat) (a b : FVal) : FRes :=
  match nanOf [a, b] with
  | some r => r
  | none =>
    let s := fsign a ^^ fsign b
    match a, b with
    | .fin _ ca qa, .fin _ cb qb =>
      let (num, den) := asFrac f.radix (ca * cb) (qa + qb)
      roundRat f mode s num den (qa + qb)
    | x, y => if isZero x || isZero y then invalid else fres (.inf s)

/-- (−1)^np·(a × b) + (−1)^nc·c, rounded once (R100, R140, R141). -/
def fmaV (f : FFmt) (mode : Nat) (np nc : Bool) (a b c : FVal) : FRes :=
  let prodInvalid := match a, b with
    | .inf _, y => isZero y
    | x, .inf _ => isZero x
    | _, _ => false
  if prodInvalid then
    if isNaN c && !isSNaN c then fres c flagFI else invalid
  else
    match nanOf [a, b, c] with
    | some r => r
    | none =>
      let sp := (fsign a ^^ fsign b) ^^ np
      let sc := fsign c ^^ nc
      match a, b, c with
      | .fin _ ca qa, .fin _ cb qb, .fin _ cc qc =>
        let (n, q) := sumExact f.radix sp (ca * cb) (qa + qb) sc cc qc
        let (num, den) := asFrac f.radix n.natAbs q
        let zsign := if ca * cb = 0 ∧ cc = 0 ∧ sp = sc then sp else decide (mode = 3)
        roundSigned f mode (if n < 0 then -(num : Int) else num) den zsign q
      | .fin _ _ _, .fin _ _ _, _ => fres (.inf sc)
      | _, _, .inf _ => if sp = sc then fres (.inf sp) else invalid
      | _, _, _ => fres (.inf sp)

/-- Exact comparison of two values that are no NaNs; +0 and −0 compare equal. -/
def fcompare (r : Nat) (a b : FVal) : Ordering :=
  match a, b with
  | .inf s, .inf t => if s = t then .eq else if s then .lt else .gt
  | .inf s, _ => if s then .lt else .gt
  | _, .inf t => if t then .gt else .lt
  | .fin sa ca qa, .fin sb cb qb =>
    let q := min qa qb
    let x : Int := ca * r ^ (qa - q).toNat
    let y : Int := cb * r ^ (qb - q).toNat
    compare (if sa then -x else x) (if sb then -y else y)
  | _, _ => .eq

/-- The exponent of a finite value, 0 for others. -/
def fexp : FVal → Int
  | .fin _ _ q => q
  | _ => 0

/-- minimumNumber and maximumNumber (R140, R143): −0 below +0, the number when one operand is a NaN, and of
two members of one cohort the smaller exponent for the minimum and the larger for the maximum. -/
def fminmaxV (f : FFmt) (isMax : Bool) (a b : FVal) : FRes :=
  match isNaN a, isNaN b with
  | true, true => if isSNaN a || isSNaN b then invalid else fres a
  | true, false => fres b (if isSNaN a then flagFI else 0)
  | false, true => fres a (if isSNaN b then flagFI else 0)
  | false, false =>
    let aLess := match fcompare f.radix a b with
      | .lt => true
      | .gt => false
      | .eq => if fsign a ≠ fsign b then fsign a else decide (fexp a ≤ fexp b)
    fres (if aLess ^^ isMax then a else b)

/-- DQUA: `a` quantized to the exponent of `b` (R140, R143, R144). -/
def quantizeV (f : FFmt) (mode : Nat) (a b : FVal) : FRes :=
  match nanOf [a, b] with
  | some r => r
  | none =>
    match a, b with
    | .inf s, .inf _ => fres (.inf s)
    | .fin s ca qa, .fin _ _ qb =>
      let (num, den) := asFrac 10 ca qa
      let (c, inexact) := roundAt 10 mode s num den qb
      if 10 ^ f.prec ≤ c then invalid else fres (.fin s c qb) (if inexact then flagFX else 0)
    | _, _ => invalid

/-- FRINT and DRINT: rounded to an integral value, FX when it changes (R143, R144). -/
def rintV (f : FFmt) (mode : Nat) (a : FVal) : FRes :=
  match nanOf [a] with
  | some r => r
  | none =>
    match a with
    | .fin s c q =>
      if 0 ≤ q then fres a
      else
        let (n, inexact) := roundAt f.radix mode s (asFrac f.radix c q).1 (asFrac f.radix c q).2 0
        if f.dec then fres (.fin s n 0) (if inexact then flagFX else 0)
        else
          let r := roundRat f mode s n 1 0
          fres r.val (if inexact then flagFX else 0)
    | v => fres v

/-- The payload of a NaN converted between formats (R139): binary64 to binary32 keeps the high 22 bits; a
payload that does not fit the target is a free value (log entry 20). -/
def convPayload (src dst : FFmt) (p : Nat) : Nat :=
  match src, dst with
  | .b64, .b32 => p / 2 ^ 29
  | .b32, .b64 => p * 2 ^ 29
  | _, d =>
    let lim := if d.dec then 10 ^ (d.prec - 1) else 2 ^ (d.prec - 2)
    if p < lim then p else Config.freeNaNPayload p % lim

/-- FCVT between formats (R139, R140, R143). The preferred exponent of a decimal result is the operand's for a
decimal operand and 0 for a binary one (PRESUMED for binary: log entry 22). -/
def convV (src dst : FFmt) (mode : Nat) (a : FVal) : FRes :=
  match a with
  | .nan s sig p => if sig then invalid else fres (.nan s false (convPayload src dst p))
  | .inf s => fres (.inf s)
  | .fin s c q =>
    let (num, den) := asFrac src.radix c q
    roundRat dst mode s num den (if src.dec then q else 0)

/-- FCVT.G and FCVTZ.G: the signed 64-bit integer and the flags (R142). -/
def toIntV (f : FFmt) (mode : Nat) (a : FVal) : Word × Nat :=
  match a with
  | .nan _ _ _ => (0x8000000000000000#64, flagFI)
  | .inf s => (if s then 0x8000000000000000#64 else 0x7FFFFFFFFFFFFFFF#64, flagFI)
  | .fin s c q =>
    let (num, den) := asFrac f.radix c q
    let (n, inexact) := roundAt f.radix mode s num den 0
    let v : Int := if s then -(n : Int) else n
    if 2 ^ 63 ≤ v then (0x7FFFFFFFFFFFFFFF#64, flagFI)
    else if v < -(2 ^ 63) then (0x8000000000000000#64, flagFI)
    else (BitVec.ofInt 64 v, if inexact then flagFX else 0)

/-- FCVT.F and FCVTU.F: an integer converted to a format, preferred exponent 0 (R101, R143). -/
def ofIntV (f : FFmt) (mode : Nat) (v : Int) : FRes := roundSigned f mode v 1 false 0

/-- The comparisons of R102: MIN selects the relation; the signalling forms raise FI for any NaN. -/
def fcmpV (f : FFmt) (minor : Nat) (a b : FVal) : Bool × Nat :=
  let un := isNaN a || isNaN b
  let signalling := minor = 1 ∨ minor = 2 ∨ minor = 6
  let fi := if isSNaN a || isSNaN b || (signalling && un) then flagFI else 0
  let o := fcompare f.radix a b
  let r := match minor with
    | 0 => !un && o == .eq
    | 1 => !un && o == .lt
    | 2 => !un && (o == .lt || o == .eq)
    | 3 => un
    | 4 => !un && o == .lt
    | 5 => !un && (o == .lt || o == .eq)
    | _ => !un && o == .eq
  (r, fi)

/-! ### Division and square root by steps -/

/-- The state of a step sequence: fq and fr as R147 lays them out. -/
structure StepState where
  sign : Bool
  cls : Nat
  steps : Nat
  q : Nat
  exp : Int
  r : Nat
  deriving DecidableEq, Repr

/-- Reads fq and fr (R147). -/
def stepOf (fq fr : Wide) : StepState :=
  { sign := bit fq.toNat 127, cls := bits fq.toNat 126 124, steps := bits fq.toNat 123 113,
    q := bits fq.toNat 112 0, exp := toSigned 15 (bits fr.toNat 127 113), r := bits fr.toNat 112 0 }

/-- Writes fq (R147). -/
def stepQ (s : StepState) : Wide :=
  BitVec.ofNat 128 (bnat s.sign * 2 ^ 127 + s.cls % 8 * 2 ^ 124 + s.steps % 2 ^ 11 * 2 ^ 113 + s.q % 2 ^ 113)

/-- Writes fr (R147). -/
def stepR (s : StepState) : Wide :=
  BitVec.ofNat 128 (ofSigned 15 s.exp * 2 ^ 113 + s.r % 2 ^ 113)

/-- fq and fr of a special result (R147, R148): CLASS from the flag, the result in fr. -/
def special (f : FFmt) (r : FRes) : Wide × Wide :=
  let cls := if r.flags = flagFI then 2 else if r.flags = flagFZ then 3 else 1
  (stepQ ⟨fsign r.val, cls, 0, 0, 0, 0⟩, fencode f r.val)

/-- A non-zero finite binary value as an integer in [2^(p-1), 2^p) and the exponent of its leading bit. -/
def normalised (f : FFmt) (c : Nat) (q : Int) : Nat × Int :=
  (c * 2 ^ (f.prec - bitLength c), q + bitLength c - 1)

/-- The cases of a quotient that R139 to R141 decide (R148); a zero dividend is one of them (log entry 23). -/
def divSpecial (f : FFmt) (a b : FVal) : Option FRes :=
  match nanOf [a, b] with
  | some r => some r
  | none =>
    let s := fsign a ^^ fsign b
    match a, b with
    | .inf _, .inf _ => some invalid
    | .inf _, _ => some (fres (.inf s))
    | _, .inf _ => some (fres (.fin s 0 f.qmin))
    | .fin _ ca qa, .fin _ cb qb =>
      if cb = 0 then (if ca = 0 then some invalid else some (fres (.inf s) flagFZ))
      else if ca = 0 then
        some (fres (.fin s 0 (if f.dec then max f.qmin (min f.qmax (qa - qb)) else f.qmin)))
      else none
    | _, _ => some invalid

/-- FDIV.P and XDIV.P (R148). -/
def divPrepV (f : FFmt) (a b : FVal) : Wide × Wide :=
  match divSpecial f a b with
  | some r => special f r
  | none =>
    match a, b with
    | .fin sa ca qa, .fin sb cb qb =>
      let st : StepState :=
        if f.dec then ⟨sa ^^ sb, 0, 0, ca / cb, qa - qb, ca % cb⟩
        else
          let (ma, ea) := normalised f ca qa
          let (mb, eb) := normalised f cb qb
          if ma < mb then ⟨sa ^^ sb, 0, 0, 1, ea - eb - 1, 2 * ma - mb⟩
          else ⟨sa ^^ sb, 0, 0, 1, ea - eb, ma - mb⟩
      (stepQ st, stepR st)
    | _, _ => special f invalid

/-- The significand of the divisor, formed again at every step (R149); 0 when fdv holds no non-zero number. -/
def divisorSig (f : FFmt) (b : FVal) : Nat :=
  match b with
  | .fin _ c q => if f.dec then c else if c = 0 then 0 else (normalised f c q).1
  | _ => 0

/-- The radicand as the integer N of R148 and its even exponent. -/
def radicand (f : FFmt) (b : FVal) : Nat × Int :=
  match b with
  | .fin _ c q =>
    if c = 0 then (0, 0)
    else
      let sh := 2 * f.prec - bitLength c
      let sh := if (q - sh) % 2 = 0 then sh else sh - 1
      (c * 2 ^ sh, q - sh)
  | _ => (0, 0)

/-- FSQRT.P (R148). -/
def sqrtPrepV (f : FFmt) (b : FVal) : Wide × Wide :=
  match nanOf [b] with
  | some r => special f r
  | none =>
    match b with
    | .inf s => if s then special f invalid else special f (fres b)
    | .fin s c _ =>
      if c = 0 then special f (fres b)
      else if s then special f invalid
      else
        let (n, k) := radicand f b
        let t := n / 2 ^ (2 * f.prec - 2)
        let st : StepState := ⟨false, 0, 0, 1, (k + 2 * f.prec - 2) / 2, t - 1⟩
        (stepQ st, stepR st)
    | _ => special f invalid

/-- The number of steps of a sequence (R149). -/
def divSteps (f : FFmt) : Nat := if f = .b32 then 13 else 27
/-- Steps of a square root (R149). -/
def sqrtSteps (f : FFmt) : Nat := if f = .b32 then 25 else 54

/-- FDSTEP (R149). -/
def fdStepV (f : FFmt) (fq fr : Wide) (b : FVal) : Wide × Wide :=
  let s := stepOf fq fr
  if s.cls ≠ 0 ∨ s.steps = divSteps f then (fq, fr)
  else
    let mb := divisorSig f b
    let r := 4 * s.r
    let k := if 3 * mb ≤ r then 3 else if 2 * mb ≤ r then 2 else if mb ≤ r then 1 else 0
    let t := { s with r := r - k * mb, q := 4 * s.q + k, steps := s.steps + 1 }
    (stepQ t, stepR t)

/-- FRSTEP (R149). -/
def frStepV (f : FFmt) (fq fr : Wide) (b : FVal) : Wide × Wide :=
  let s := stepOf fq fr
  if s.cls ≠ 0 ∨ s.steps = sqrtSteps f then (fq, fr)
  else
    let n := (radicand f b).1
    let pair := if s.steps + 2 ≤ f.prec then n / 2 ^ (2 * (f.prec - 2 - s.steps)) % 4 else 0
    let r := 4 * s.r + pair
    let d := 4 * s.q + 1
    let t :=
      if d ≤ r then { s with r := r - d, q := 2 * s.q + 1, steps := s.steps + 1 }
      else { s with r := r, q := 2 * s.q, steps := s.steps + 1 }
    (stepQ t, stepR t)

/-- XDSTEP (R149). -/
def xdStepV (f : FFmt) (fq fr : Wide) (b : FVal) : Wide × Wide :=
  let s := stepOf fq fr
  if s.cls ≠ 0 ∨ 10 ^ (f.prec - 1) ≤ s.q then (fq, fr)
  else
    let cb := divisorSig f b
    let r := 10 * s.r
    let k := r / cb
    let t := { s with r := r - k * cb, q := 10 * s.q + k, exp := s.exp - 1, steps := s.steps + 1 }
    (stepQ t, stepR t)

/-- The result a FIN step takes from CLASS 0b001 to 0b111 (R150). -/
def finSpecial (f : FFmt) (cls : Nat) (fr : Wide) : FRes :=
  if cls = 1 then fres (fdecode f fr.toNat)
  else if cls = 2 then fres (fdecode f fr.toNat) flagFI
  else if cls = 3 then fres (fdecode f fr.toNat) flagFZ
  else invalid

/-- FDFIN and FRFIN: rounds SIGN, EXP and Q with R ≠ 0 as the sticky part; missing bits count as zero (R150).
`per` is the number of bits a step adds. -/
def binFinV (f : FFmt) (mode per count : Nat) (fq fr : Wide) : FRes :=
  let s := stepOf fq fr
  if s.cls ≠ 0 then finSpecial f s.cls fr
  else
    let pad := per * (count - s.steps)
    let num := 2 * (s.q * 2 ^ pad) + (if s.r = 0 then 0 else 1)
    let (n, d) := asFrac 2 num (s.exp - per * s.steps - pad - 1)
    roundRat f mode s.sign n d 0

/-- A quotient of which no digit but zeros was formed, with a remainder: 0 or 1 at the last missing digit (R150, log entry
24). -/
def zeroQuotient (f : FFmt) (mode : Nat) (s : StepState) : FRes :=
  let q := s.exp - (2 * f.prec - 1 - s.steps : Nat)
  ⟨.fin s.sign (bnat (roundUp mode s.sign false 1 4)) (max f.qmin (min f.qmax q)), flagFX ||| (if q < f.emin then flagFU else 0), false⟩

/-- XDFIN: rounds Q with R over cb as the rest; missing digits count as zero (R150). -/
def xdFinV (f : FFmt) (mode : Nat) (fq fr : Wide) (b : FVal) : FRes :=
  let s := stepOf fq fr
  if s.cls ≠ 0 then finSpecial f s.cls fr
  else if s.q = 0 ∧ s.r ≠ 0 then zeroQuotient f mode s
  else
    let cb := divisorSig f b
    let short := decide (s.q < 10 ^ (f.prec - 1)) && s.r != 0
    let (num, den, q) : Nat × Nat × Int :=
      if short then
        let pad := f.prec - digits10 s.q
        (4 * (s.q * 10 ^ pad) + 1, 4, s.exp - pad)
      else if cb = 0 then (s.q, 1, s.exp) else (s.q * cb + s.r, cb, s.exp)
    let (n, d) := if 0 ≤ q then (num * 10 ^ q.toNat, den) else (num, den * 10 ^ (-q).toNat)
    roundRat f mode s.sign n d (s.exp + s.steps)

end Sys2Proof.Machine
end

