-- ==== Sys2Proof/Machine/TableInterp.lean ====
section
/-! DEFINITION. Table interpolation: descriptor, search, extrapolation and the three formulas (02, R116 to R119; 03, R152 to R156). -/

namespace Sys2Proof.Machine

/-- The three table instructions. -/
inductive TblKind | flat | lin | log
  deriving DecidableEq, Repr

/-- The METHOD value of an instruction (R117). -/
def TblKind.method : TblKind → Nat
  | .flat => 0 | .lin => 1 | .log => 2

/-- The term k of the cycle count (R35). -/
def TblKind.extraCycles : TblKind → Nat
  | .flat => 1 | .lin => 4 | .log => 12

/-- N of a descriptor (R117). -/
def descN (d : Wide) : Nat := bits d.toNat 116 104
/-- TADDR of a descriptor. -/
def descAddr (d : Wide) : Word := d.setWidth 64
/-- EXTRAP of a descriptor. -/
def descExtrap (d : Wide) : Nat := bits d.toNat 123 122
/-- FMT of a descriptor: binary64 or decimal64. -/
def descFmt (d : Wide) : FFmt := if bits d.toNat 127 126 = 1 then .d64 else .b64

/-- The cycle count of the bundle (R35). -/
def tblCycles (k : TblKind) (d : Wide) : Nat := 4 + clog2 (descN d) + k.extraCycles

/-- The table-placement faults found on the descriptor alone (R81, R119). -/
def descBad (k : TblKind) (d : Wide) : Bool :=
  let v := d.toNat
  decide (2 ≤ bits v 127 126) || decide (bits v 125 124 = 3) || decide (descExtrap d = 3)
  || decide (bits v 121 117 ≠ 0) || decide (bits v 103 64 ≠ 0)
  || decide (descN d < 2) || decide (4096 < descN d)
  || decide (bits v 125 124 ≠ k.method)
  || (decide (k = .log) && decide (bits v 127 126 = 1))
  || decide (bits v 3 0 ≠ 0)

/-- A knot: its abscissa and ordinate words (R118). -/
structure Knot where
  x : Nat
  y : Nat
  deriving DecidableEq, Repr

/-- The knot a list holds at an index, zeros beyond its end. -/
def knotAt (ks : List Knot) (i : Nat) : Knot := (ks[i]?).getD ⟨0, 0⟩

/-- `a ≤ b` by value; false when either is a NaN (03, before R152). -/
def fle (r : Nat) (a b : FVal) : Bool :=
  !isNaN a && !isNaN b && (fcompare r a b == .lt || fcompare r a b == .eq)
/-- `a < b` by value. -/
def flt (r : Nat) (a b : FVal) : Bool := !isNaN a && !isNaN b && fcompare r a b == .lt
/-- `a = b` by value. -/
def feq (r : Nat) (a b : FVal) : Bool := !isNaN a && !isNaN b && fcompare r a b == .eq

/-- The search of R152. -/
def tblSearch (f : FFmt) (ks : List Knot) (x : FVal) : Nat → Nat → Nat → Nat
  | 0, lo, _ => lo
  | n + 1, lo, hi =>
    if 1 < hi - lo then
      let mid := (lo + hi) / 2
      if fle f.radix (fdecode f (knotAt ks mid).x) x then tblSearch f ks x n mid hi
      else tblSearch f ks x n lo mid
    else tblSearch f ks x n lo hi

/-- The interval of R152. -/
def tblInterval (f : FFmt) (ks : List Knot) (x : FVal) (n : Nat) : Nat :=
  tblSearch f ks x (clog2 n) 0 (n - 1)

/-- An exact number, an infinity, or no number. -/
inductive XNum
  | bad
  | inf (sign : Bool)
  | rat (num : Int) (den : Nat)
  deriving DecidableEq, Repr

/-- The exact number of a floating value. -/
def xof (r : Nat) : FVal → XNum
  | .nan _ _ _ => .bad
  | .inf s => .inf s
  | .fin s c q => let (n, d) := asFrac r c q; .rat (if s then -(n : Int) else n) d

/-- Negation. -/
def xneg : XNum → XNum
  | .bad => .bad
  | .inf s => .inf (!s)
  | .rat n d => .rat (-n) d

/-- Sum; ∞ − ∞ is no number (R140). -/
def xadd : XNum → XNum → XNum
  | .rat a b, .rat c d => .rat (a * d + c * b) (b * d)
  | .inf s, .inf t => if s = t then .inf s else .bad
  | .inf s, .rat _ _ => .inf s
  | .rat _ _, .inf s => .inf s
  | _, _ => .bad

/-- Product; 0 × ∞ is no number (R140). -/
def xmul : XNum → XNum → XNum
  | .rat a b, .rat c d => .rat (a * c) (b * d)
  | .inf s, .inf t => .inf (s ^^ t)
  | .inf s, .rat a _ => if a = 0 then .bad else .inf (s ^^ decide (a < 0))
  | .rat a _, .inf s => if a = 0 then .bad else .inf (s ^^ decide (a < 0))
  | _, _ => .bad

/-- Quotient by a positive divisor; ∞ ÷ ∞ is no number. -/
def xdivPos : XNum → XNum → XNum
  | .rat a b, .rat c d => if 0 < c then .rat (a * d) (b * c.toNat) else .bad
  | .inf s, .rat c _ => if 0 < c then .inf s else .bad
  | .rat _ _, .inf false => .rat 0 1
  | _, _ => .bad

/-- Whether an exact number is positive. -/
def xpos : XNum → Bool
  | .rat a _ => decide (0 < a)
  | .inf s => !s
  | .bad => false

/-- An exact number rounded once; a number that is none is the default NaN with FI. -/
def xround (f : FFmt) (mode : Nat) (pref : Int) : XNum → FRes
  | .bad => invalid
  | .inf s => fres (.inf s)
  | .rat n d => roundSigned f mode n d (decide (mode = 3)) pref

/-- Bits of the binary logarithm of a number of [1, 2) that lies between lo/2^p and hi/2^p: its square is compared with 2, bit
after bit. Bounds of `k` more bits after the bits `acc`; fewer are found where the bounds part. -/
def log2Bits (p : Nat) : Nat → Nat → Nat → Nat → Nat × Nat
  | 0, acc, _, _ => (acc, acc + 1)
  | k + 1, acc, lo, hi =>
    let l := lo * lo / 2 ^ p
    let h := hi * hi / 2 ^ p + 1
    if 2 ^ (p + 1) ≤ l then log2Bits p k (2 * acc + 1) (l / 2) (h / 2 + 1)
    else if h < 2 ^ (p + 1) then log2Bits p k (2 * acc) l h
    else (acc * 2 ^ (k + 1), (acc + 1) * 2 ^ (k + 1))

/-- Integers between which 2^k times the binary logarithm of a/b lies, both positive. -/
def log2Bounds (k a b : Nat) : Int × Int :=
  let e0 : Int := (Nat.log2 a : Int) - Nat.log2 b
  let x := scaleQ 2 a b e0
  let e := if x.1 < x.2 then e0 - 1 else e0
  let y := scaleQ 2 a b e
  let p := 2 * k + 16
  let m := y.1 * 2 ^ p / y.2
  let r := log2Bits p k 0 m (m + 1)
  (e * 2 ^ k + r.1, e * 2 ^ k + r.2)

/-- How y0·(a/b)^(n/d) compares with u/v, all positive, where `k` bits of the logarithms decide it. -/
def logQuick (k y0n y0d a b : Nat) (n : Int) (d u v : Nat) : Option Ordering :=
  let x := log2Bounds k (u * y0d) (v * y0n)
  let w := log2Bounds k a b
  if (d : Int) * x.2 < min (n * w.1) (n * w.2) then some .gt
  else if max (n * w.1) (n * w.2) < d * x.1 then some .lt
  else none

/-- How y0·(a/b)^(n/d) compares with u/v, all positive: (u/v ÷ y0)^d against (a/b)^n, n negative turning the
ratio over (R154). The powers are formed only where the ratio is not 1 and the logarithms do not decide. -/
def logCompare (y0n y0d a b : Nat) (n : Int) (d u v : Nat) : Ordering :=
  if a = b then compare (v * y0n) (u * y0d)
  else match (logQuick 160 y0n y0d a b n d u v).orElse fun _ => if d ≤ 4096 then none else logQuick 2400 y0n y0d a b n d u v with
    | some o => o
    | none =>
      let (an, bn) := if 0 ≤ n then (a, b) else (b, a)
      compare (an ^ n.natAbs * (v * y0n) ^ d) ((u * y0d) ^ d * bn ^ n.natAbs)

/-- The largest integer m below 2^k with m·2^e at most the value that `atLeast` describes. -/
def floorSearch (atLeast : Nat → Bool) : Nat → Nat → Nat
  | 0, m => m
  | k + 1, m => if atLeast (m + 2 ^ k) then floorSearch atLeast k (m + 2 ^ k) else floorSearch atLeast k m

/-- The greatest e in [base, base + 2^k) with 2^e at most the value, by halving. -/
def expSearch (atLeast : Int → Bool) : Nat → Int → Int
  | 0, e => e
  | k + 1, e => if atLeast (e + 2 ^ k) then expSearch atLeast k (e + 2 ^ k) else expSearch atLeast k e

/-- y0·(a/b)^(n/d) in binary64, correctly rounded (R154): its leading bit is found, then 60 bits and a
sticky bit, which decide the rounding. -/
def logLinear (mode : Nat) (y0 ratio : Nat × Nat) (n : Int) (d : Nat) : FRes :=
  let cmp (u v : Nat) := logCompare y0.1 y0.2 ratio.1 ratio.2 n d u v
  let ge (e : Int) (m : Nat) : Bool := let (u, v) := asFrac 2 m e; cmp u v != .lt
  if !ge (-1300) 1 then roundRat .b64 mode false 1 (2 ^ 1300) 0
  else
    let e := expSearch (fun e => ge e 1) 12 (-1300)
    let m := floorSearch (ge (e - 60)) 61 0
    let (u, v) := asFrac 2 m (e - 60)
    let sticky := cmp u v != .eq
    let (num, den) := asFrac 2 (2 * m + (if sticky then 1 else 0)) (e - 61)
    roundRat .b64 mode false num den 0

/-- A stored ordinate, bit for bit, or made quiet with FI when signalling (R153 rule 3). -/
def storedOrdinate (f : FFmt) (y : Nat) : Wide × Nat :=
  let v := fdecode f y
  if isSNaN v then (fencode f (quietNaN v), flagFI) else (BitVec.ofNat 128 (y % 2 ^ 64), 0)

/-- The outcome of an interpolation: the result, its flags, whether it is tiny and exact, and whether it traps
with TX (R155). -/
structure TblRes where
  val : Wide
  flags : Nat
  tinyExact : Bool
  tx : Bool
  deriving DecidableEq, Repr

/-- A result of the formulas as a register value. -/
def tblOf (f : FFmt) (r : FRes) : TblRes := ⟨fencode f r.val, r.flags, r.tinyExact, false⟩
/-- A stored ordinate as an outcome. -/
def tblStored (f : FFmt) (y : Nat) : TblRes :=
  let (v, fl) := storedOrdinate f y; ⟨v, fl, false, false⟩

/-- A positive finite value as a fraction. -/
def posFin (r : Nat) : FVal → Option (Nat × Nat)
  | .fin false c q => if c = 0 then none else some (asFrac r c q)
  | _ => none

/-- The formula of R154 on the interval between two knots; an infinite x outside the table gives the limit of
R155. -/
def tblFormula (k : TblKind) (f : FFmt) (mode : Nat) (x : FVal) (a b : Knot) : TblRes :=
  let r := f.radix
  let x0 := fdecode f a.x
  let x1 := fdecode f b.x
  let y0 := fdecode f a.y
  let y1 := fdecode f b.y
  match k with
  | .flat => tblStored f a.y
  | .lin =>
    match nanOf [y0, y1] with
    | some q => tblOf f q
    | none =>
      let dx := xadd (xof r x1) (xneg (xof r x0))
      if !xpos dx then tblOf f invalid
      else
        let dy := xadd (xof r y1) (xneg (xof r y0))
        match x with
        | .inf s =>
          (match dy with
           | .rat n _ => if n = 0 then tblStored f (if s then a.y else b.y)
                         else tblOf f (fres (.inf (s ^^ decide (n < 0))))
           | .inf t => tblOf f (xround f mode 0 (xadd (xof r y0) (.inf (s ^^ t))))
           | .bad => tblOf f invalid)
        | _ =>
          let w := xdivPos (xadd (xof r x) (xneg (xof r x0))) dx
          tblOf f (xround f mode (min (fexp y0) (fexp y1)) (xadd (xof r y0) (xmul w dy)))
  | .log =>
    match nanOf [y0, y1] with
    | some q => tblOf f q
    | none =>
      let dx := xadd (xof r x1) (xneg (xof r x0))
      if !xpos dx then tblOf f invalid
      else
        match posFin r y0, posFin r y1 with
        | some p0, some p1 =>
          let ratio := (p1.1 * p0.2, p1.2 * p0.1)
          (match x with
           | .inf s =>
             if ratio.1 = ratio.2 then tblStored f (if s then a.y else b.y)
             else if decide (ratio.2 < ratio.1) ^^ s then tblOf f (fres (.inf false))
             else tblOf f (fres (.fin false 0 f.qmin))
           | _ =>
             match xdivPos (xadd (xof r x) (xneg (xof r x0))) dx with
             | .rat n d =>
               let g := Nat.gcd n.natAbs d
               tblOf f (logLinear mode p0 ratio (n / (g : Int)) (d / g))
             | _ => tblOf f invalid)
        | _, _ => tblOf f invalid

/-- The result of a table instruction, decided by the first rule of R153 that applies. -/
def tblEval (k : TblKind) (m : Mood) (d xr : Wide) (ks : List Knot) : TblRes :=
  let f := descFmt d
  let n := descN d
  let mode := modeFor m f
  let x := fdecode f xr.toNat
  let r := f.radix
  let x0 := fdecode f (knotAt ks 0).x
  let xn := fdecode f (knotAt ks (n - 1)).x
  if isNaN x then tblOf f (fres (quietNaN x) (if isSNaN x then flagFI else 0))
  else
    let below := flt r x x0
    let above := flt r xn x
    if below || above then
      let i := if below then 0 else n - 2
      match descExtrap d with
      | 0 => tblStored f (knotAt ks (if below then 0 else n - 1)).y
      | 1 =>
        if k = .flat then tblStored f (knotAt ks (if below then 0 else n - 1)).y
        else tblFormula k f mode x (knotAt ks i) (knotAt ks (i + 1))
      | _ => ⟨0, 0, false, true⟩
    else
      let i := tblInterval f ks x n
      let a := knotAt ks i
      let b := knotAt ks (i + 1)
      if feq r x (fdecode f a.x) then tblStored f a.y
      else if feq r x (fdecode f b.x) then tblStored f b.y
      else tblFormula k f mode x a b

end Sys2Proof.Machine
end

