-- ==== Sys2Proof/Machine/Mem.lean ====
section
/-! DEFINITION. The memory operations of slot 2 and table interpolation: loads, stores, atomics, store release, cache maintenance, SUBMIT, TLFL, TLIN and TLLG (02, R94 to R98, R106, R116 to R119; 04, R174 to R190). -/

namespace Sys2Proof.Machine

open Sys2Proof

/-! ### Addresses and machine checks -/

/-- The address of an access: base plus the scaled offset; base 0 is sp of the current level (R76, R94). -/
def Arch.vaOf (a : Arch) (base : BitVec 6) (off : BitVec 8) (z : Nat) : Nat :=
  ((if base = 0 then a.cr (spKey a.pl) else a.rg base.toNat) + sext 8 off * BitVec.ofNat 64 z).toNat

/-- Whether an access based on sp fails the stack bound of its level (R87). -/
def Arch.spFails (a : Arch) (base : BitVec 6) (va size : Nat) : Bool := base == 0 && !a.stackOk a.pl va size

/-- The stack-bound fault (R87). -/
def stackExc (va : Nat) : Exc := { vector := 6, detail := 0, info := va }

/-- The machine check of a poisoned line (R638). -/
def lineMcheck (line : Nat) : MCheck := mcheckOf 2 0 (line * 64)

/-- The bytes of a load as the value of its register (R94). -/
def Need.value (nd : Need) : Wide :=
  let bs := nd.segs.flatMap fun g => g.data.getD []
  let v := ofBytes bs
  BitVec.ofNat 128 (if nd.signed then ofSigned 64 (toSigned (8 * bs.length) v) else v)

/-- Whether every half of a load has arrived. -/
def Need.arrived (nd : Need) : Bool := nd.segs.all fun g => g.data.isSome

/-- A flight whose load data has arrived: its register write, or the machine check of a poisoned line. -/
def Flight.fill (f : Flight) : Flight :=
  match f.need with
  | none => f
  | some nd =>
    if nd.arrived then
      let bad := (nd.segs.find? fun g => g.poison).map fun g => lineMcheck (g.pa / 64)
      { f with writes := [⟨nd.dest, nd.value⟩], mcheck := f.mcheck.orElse fun _ => bad }
    else f

/-! ### L1 caches (R183) -/

/-- Whether a core's L1D is enabled (R114). -/
def Core.den (c : Core) : Bool := flag (c.arch.cr 9) 1
/-- Whether its L1I is enabled. -/
def Core.ien (c : Core) : Bool := flag (c.arch.cr 9) 0

/-- An L1 array with a line installed: in a free way of its set of 8, else in the way `w` names. -/
def l1Put (t : Tbl L1Line) (line w : Nat) (d : BitVec 512) : Tbl L1Line :=
  let key := fun (x : Nat) => line % 128 * 8 + x
  let way := ((List.range 8).find? fun x => (tfind t (key x)).isNone).getD (w % 8)
  tins (t.filter fun x => x.2.line != line) (key way) { line := line, data := d }

/-- A line installed in a core's L1D, where that is enabled, its fold cache allocates and no maintenance has
overtaken the fill (R183, R185, R230, R233). -/
def State.l1dPut (s : State) (n line : Nat) (d : BitVec 512) : State :=
  let c := s.core n
  if c.den && decide (s.fcState (foldOf n) = 1) && !c.barred.contains line then
    (s.setCore n { c with l1d := l1Put c.l1d line (Config.freeL1Way s.freeCtr) d }).drawn
  else s

/-- A line installed in a core's L1I. -/
def State.l1iPut (s : State) (n line : Nat) (d : BitVec 512) : State :=
  let c := s.core n
  if c.ien && decide (s.fcState (foldOf n) = 1) then
    (s.setCore n { c with l1i := l1Put c.l1i line (Config.freeL1Way s.freeCtr) d }).drawn
  else s

/-- The core as its bundle began to issue, with the held entries it has now: what a load of the bundle sees of the
store path (R179: the check is made at the boundary before the bundle). -/
def State.boundaryCore (s : State) (n : Nat) : Core :=
  let c := s.core n
  let sv := (tfind s.saved n).getD c
  { c with merge := sv.merge, l1d := c.l1d.map fun x =>
      match sv.l1d.find? fun y => y.2.line == x.2.line with
      | some y => (x.1, y.2)
      | none => x }

/-! ### The fold cache read by a core (R200, R201, R224, R227 to R230) -/

/-- The drain of a fold cache visits a line ahead of its walk (R229). -/
def State.drainAhead (s : State) (f line : Nat) : State :=
  if s.fcState f = 2 then
    match s.cfind f line with
    | some (_, l) =>
      let s := if l.st == .m then s.memWriteLine line l.data l.poison else s
      (s.cdrop f line).dirRemove line f
    | none => s
  else s

/-- The allotment class of a core's fills: that of its role (R220, R277). -/
def State.classOf (s : State) (n : Nat) : Nat :=
  let c := (s.roleOf n).getD (n % 9)
  s.rfld .fcClass (foldOf n) 0 (4 * c + 3) (4 * c)

/-- A core waits for a line at its fold cache: it shares the fill of the line, or begins one (R201). -/
def State.awaitLine (s : State) (f n line : Nat) (fetch : Bool) (kind : FillKind) : State :=
  let mine := fun (x : Fill) => x.fold == f && x.line == line
  let new : Fill := { fold := f, line := line, kind := kind, cls := s.classOf n, sent := none, waiters := [(n, fetch)], served := none, install := true }
  s.modCa fun c =>
    if c.fills.any mine then { c with fills := updFirst mine (fun x => { x with waiters := (n, fetch) :: x.waiters }) c.fills }
    else { c with fills := c.fills ++ [new] }

/-- A miss of a core in its fold cache (R201, R245). -/
def State.missLine (s : State) (f n line : Nat) (fetch : Bool) : State := (s.bump .fcMisses f).awaitLine f n line fetch .shared

/-- A line of a disabled way leaves the cache once an access to it has been served (R224). -/
def State.leaveWay (s : State) (k line w : Nat) : State :=
  if s.wayOn k w then s
  else match s.cway k line w with
  | some l =>
    let o : OutLine := { src := k, line := l.line, st := l.st, data := l.data, cls := l.cls, hit := l.hit, poison := l.poison }
    (s.cdrop k line).sendHome o
  | none => s

/-- A core's read of a line at its fold cache: the line and whether it is poisoned, or none where a fill is in
flight. Where the cache is not ENABLED the home agent serves the read, that of another module by a message (R209, R227,
R229). -/
def State.foldRead (s : State) (n line : Nat) (fetch : Bool) (err : ArrayErr) : State × Option (BitVec 512 × Bool) :=
  let f := foldOf n
  if s.fcState f ≠ 1 then
    let s := s.drainAhead f line
    if lineHome line ≠ s.ownModule ∧ (s.copyHere line).isNone then (s.awaitLine f n line fetch .uncached, none)
    else (s, some (s.cohLine line))
  else
    match s.lookup f line err with
    | (s, some (w, l)) =>
      (((((s.cset f line w { l with hit := true }).plruUse f line w).bump .fcHits f).leaveWay f line w), some (l.data, l.poison))
    | (s, none) => (s.missLine f n line fetch, none)

/-! ### Loads -/

/-- What one half of a load has met: its bytes where they are known, whether they are there at the latency, and a
machine check. -/
structure Got where
  seg : Seg
  fast : Bool
  mcheck : Option MCheck
  deriving DecidableEq, Repr

/-- One half of a cacheable load that overlaps no store: the L1D, else the fold cache (R179, R183, R280). -/
def State.cacheHalf (s : State) (n : Nat) (h : Half) (err : ArrayErr) : State × Got :=
  let line := h.pa / 64
  let seg : Seg := { pa := h.pa, len := h.len, data := none, poison := false }
  match s.unbacked h.pa with
  | some wh => (s, ⟨{ seg with data := some [] }, true, some (mcheckOf 1 wh h.pa)⟩)
  | none =>
    let c := s.boundaryCore n
    let hit := if c.den then c.l1d.find? fun x => x.2.line == line else none
    match hit, err with
    | some x, .none => (s, ⟨{ seg with data := some (lineBytes x.2.data (h.pa % 64) h.len) }, true, none⟩)
    | _, _ =>
      let s := if hit.isSome then (s.modCore n fun c => c.dropL1d line).strike 0 n else s
      match s.foldRead n line false (if hit.isSome then .none else err) with
      | (s, some (d, p)) =>
        (if p then s else s.l1dPut n line d, ⟨{ seg with data := some (lineBytes d (h.pa % 64) h.len), poison := p }, false, none⟩)
      | (s, none) => (s, ⟨seg, false, none⟩)

/-- The halves of a cacheable load, lowest first: forwarded from the store path, or read (R179, R188). -/
def State.cacheHalves (s : State) (n : Nat) (err : ArrayErr) : List Half → State × List Got
  | [] => (s, [])
  | h :: hs =>
    let (s, g) := match (s.boundaryCore n).forward h.pa h.len with
      | .all bs => (s, ({ seg := { pa := h.pa, len := h.len, data := some bs, poison := false }, fast := true, mcheck := none } : Got))
      | _ => s.cacheHalf n h err
    let (s, gs) := s.cacheHalves n err hs
    (s, g :: gs)

/-- The halves of an own-scratchpad load: the bank's words with the store path's bytes over them (R180, R297). -/
def State.ownHalves (s : State) (n : Nat) (err : WordErr) : List Half → State × List Got
  | [] => (s, [])
  | h :: hs =>
    let seg : Seg := { pa := h.pa, len := h.len, data := none, poison := false }
    let (s, g) : State × Got := match s.spRead (bankAgent n) h.pa h.len err with
      | (s, .data bs) => (s, ⟨{ seg with data := some (overlay (s.boundaryCore n).path h.pa bs) }, true, none⟩)
      | (s, .poison word) => (s, ⟨{ seg with data := some [] }, true, some (s.spMcheck word)⟩)
    let (s, gs) := s.ownHalves n err hs
    (s, g :: gs)

/-- A load flies with what its halves have met (R36, R43, R188); its queue entry is reserved (R256). -/
def State.flyLoad (s : State) (x : Slot) (w : OpWord) (va lat : Nat) (dest : Dest) (signed : Bool) (gs : List Got) : State :=
  let c := s.core x.core
  let mc := gs.findSome? Got.mcheck
  let f := c.flight x w lat nores
  let f := { f with need := some { segs := gs.map Got.seg, signed := signed, dest := dest }, mcheck := mc,
                    ready := gs.all Got.fast, sigPost := [BitVec.ofNat 64 va], lvq := true }
  let f := if f.ready then f.fill else f
  let s := s.lvPush x.core { num := f.num, slot := x.slot, kind := .load, idx := lat, data := none, bad := false, kept := false }
  s.setCore x.core ((c.fly f).issued)

/-- A held access issues: every OPEN merging entry closes and a gather falls due at the boundary after its bundle
(R181); its value, where it has one, arrives later. -/
def State.flyHeld (s : State) (x : Slot) (w : OpWord) (h : HeldAcc) (post : List Word) (valued : Bool) : State :=
  let c := (s.core x.core).closeAll
  let lat := if valued then 3 else 1
  let f := c.flight x w lat nores
  let f := { f with ready := !valued, held := true, lvq := valued, sigPost := post,
                    subm := match h.kind with
                      | .submit t => some t
                      | _ => none }
  let kind := match h.kind with
    | .submit _ => LvKind.submit
    | _ => .load
  let s := if valued then s.lvPush x.core { num := f.num, slot := x.slot, kind := kind, idx := 0, data := none, bad := false, kept := false } else s
  s.setCore x.core ((c.fly f).issued.hold { h with num := f.num, slot := x.slot })

/-- A held access of a core: what every kind has in common. -/
def heldOf (kind : HKind) (hs : List Half) (va size data pl : Nat) (isF : Bool) (dest : Nat) : HeldAcc :=
  { kind := kind, num := 0, slot := 0, va := va, pa := (hs.head?.map Half.pa).getD 0, halves := hs.map (fun h => (h.pa, h.len)),
    size := size, data := data, isF := isF, dest := dest, phase := .issued, left := [], value := 0, mcheck := none, pl := pl }

/-- The shadow's part of a load: the value comes from the queue at the same latency (R178, R256). -/
def State.shadowLoad (s : State) (x : Slot) (w : OpWord) (va : Nat) (dest : Dest) : State :=
  s.lvTake x.core x.slot .load fun e s =>
    s.modCore x.core fun c =>
      let f := c.flight x w e.idx nores
      let f := if e.bad then f else { f with writes := [⟨dest, e.data.getD 0⟩], sigPost := [BitVec.ofNat 64 va] }
      (c.fly f).issued

/-- The shadow's part of a held access: its value comes from the queue at its landing (R256, R261). -/
def State.shadowHeld (s : State) (x : Slot) (w : OpWord) (post : List Word) (dest : Option Dest) (subm : Option Nat) : State :=
  s.modCore x.core fun c =>
    let f := c.flight x w (if dest.isSome then 3 else 1) nores
    (c.fly { f with ready := dest.isNone, held := true, sigPost := post, subm := subm,
                    need := dest.map fun d => { segs := [], signed := false, dest := d } }).issued

/-- Whether the queue's head for the shadow's load is that of an access it cannot tell from its word: a load to an
uncached or I/O target has an entry with latency 0 (log entry 30). -/
def State.shadowLoadHeld (s : State) (n : Nat) : Bool :=
  match (s.pair (s.pairOf n)).lvq.find? fun e => !(s.core n).awaits e with
  | some e => e.idx == 0
  | none => false

/-- A load: stack bound, translation, and the target's way of answering (R87, R159, R179, R180, R181). -/
def State.loadOp (s : State) (x : Slot) (w : OpWord) (base : BitVec 6) (z : Nat) (h : BitVec 1) (off : BitVec 8) (ch : Chance)
    (dest : Dest) (signed isF : Bool) (rd : Nat) : State :=
  let n := x.core
  let a := (s.core n).arch
  let va := a.vaOf base off z
  if a.spFails base va z then s.opFault n (stackExc va) false
  else if s.part n = .shadow then
    if s.shadowLoadHeld n then s.shadowHeld x w [BitVec.ofNat 64 va] (some dest) none else s.shadowLoad x w va dest
  else match s.dataXlate n a.pl va z .load (h == 1) (opInfo x.slot w) with
  | .fault f => s.accessFault n f
  | .poison l => s.opMcheck n (lineMcheck l)
  | .ok hs tlb hur => s.withQueue n 1 fun s =>
    let s := s.keep n tlb hur
    match (hs.head?.map Half.tgt).getD .io with
    | .own =>
      let (s, gs) := s.ownHalves n ch.word hs
      s.flyLoad x w va 4 dest signed gs
    | .cache =>
      let c := s.boundaryCore n
      if hs.any fun h => c.forward h.pa h.len = .part then
        let s := s.opFreeze n .partialOverlap
        s.modCore n fun c => { hs.foldl (fun c h => c.closeOverlap h.pa h.len) c with gdue := some (c.gdue.getD .overlap) }
      else
        let (s, gs) := s.cacheHalves n ch.array hs
        s.flyLoad x w va 3 dest signed gs
    | _ => s.flyHeld x w (heldOf (.load signed) hs va z 0 a.pl isF rd) [BitVec.ofNat 64 va] true

/-- LD: zero-extending load (R94). -/
def execLd (x : Slot) (rd base : BitVec 6) (w : BitVec 3) (h : BitVec 1) (off : BitVec 8) (ch : Chance) (s : State) : Out :=
  .next (opAct x (encode (.ld x rd base w h off ch)) (fun s =>
    s.loadOp x (encode (.ld x rd base w h off ch)) base (sizeOfW w) h off ch (.g rd.toNat) false false rd.toNat) s)

/-- LDS: sign-extending load (R94). -/
def execLds (x : Slot) (rd base : BitVec 6) (w : BitVec 3) (h : BitVec 1) (off : BitVec 8) (ch : Chance) (s : State) : Out :=
  .next (opAct x (encode (.lds x rd base w h off ch)) (fun s =>
    s.loadOp x (encode (.lds x rd base w h off ch)) base (sizeOfW w) h off ch (.g rd.toNat) true false rd.toNat) s)

/-- LDF: load of a floating register (R94). -/
def execLdf (x : Slot) (rd base : BitVec 6) (w : BitVec 3) (h : BitVec 1) (off : BitVec 8) (ch : Chance) (s : State) : Out :=
  .next (opAct x (encode (.ldf x rd base w h off ch)) (fun s =>
    s.loadOp x (encode (.ldf x rd base w h off ch)) base (sizeOfW w) h off ch (.f rd.toNat) false true rd.toNat) s)

/-! ### Stores -/

/-- The words a store folds after its address: its data, low word first (R261, item 4). -/
def dataWords (z data : Nat) : List Word :=
  if z ≤ 8 then [BitVec.ofNat 64 data] else [BitVec.ofNat 64 data, BitVec.ofNat 64 (data / 2 ^ 64)]

/-- A store of the low `z` bytes of `data` (R94, R174, R181); `rel` makes it a release (R97, R177). -/
def State.storeOp (s : State) (x : Slot) (w : OpWord) (base : BitVec 6) (z : Nat) (h : BitVec 1) (off : BitVec 8) (data : Nat)
    (rel : Bool) : State :=
  let n := x.core
  let a := (s.core n).arch
  let va := a.vaOf base off z
  let data := data % 2 ^ (8 * z)
  let post := BitVec.ofNat 64 va :: dataWords z data
  let fly := fun (s : State) => s.modCore n fun c => (c.fly { c.flight x w 1 nores with sigPost := post }).issued
  let begin_ := fun (s : State) => if rel then s.modCore n fun c => { c.closeAll with epoch := c.epoch + 1 } else s
  if a.spFails base va z then s.opFault n (stackExc va) false
  else if s.part n = .shadow then fly s
  else match s.dataXlate n a.pl va z .store (h == 1) (opInfo x.slot w) with
  | .fault f => s.accessFault n f
  | .poison l => s.opMcheck n (lineMcheck l)
  | .ok hs tlb hur =>
    let s := begin_ (s.keep n tlb hur)
    match (hs.head?.map Half.tgt).getD .io with
    | .own => s.pathStore n (splitBytes hs (toBytes z data)) fly
    | .cache => s.pathStore n (splitBytes hs (toBytes z data)) fly
    | _ => s.flyHeld x w (heldOf .store hs va z data a.pl false 0) post false

/-- ST (R94). -/
def execSt (x : Slot) (rs base : BitVec 6) (w : BitVec 3) (h : BitVec 1) (off : BitVec 8) (s : State) : Out :=
  .next (opAct x (encode (.st x rs base w h off)) (fun s =>
    s.storeOp x (encode (.st x rs base w h off)) base (sizeOfW w) h off ((s.core x.core).arch.rg rs.toNat).toNat false) s)

/-- STF: store of a floating register (R94). -/
def execStf (x : Slot) (rs base : BitVec 6) (w : BitVec 3) (h : BitVec 1) (off : BitVec 8) (s : State) : Out :=
  .next (opAct x (encode (.stf x rs base w h off)) (fun s =>
    s.storeOp x (encode (.stf x rs base w h off)) base (sizeOfW w) h off ((s.core x.core).arch.rf rs.toNat).toNat false) s)

/-- STREL: store with release order (R97, R191 case 6). -/
def execStrel (x : Slot) (rs base : BitVec 6) (w : BitVec 3) (s : State) : Out :=
  .next (opAct x (encode (.strel x rs base w)) (fun s =>
    s.storeOp x (encode (.strel x rs base w)) base (sizeOfW w) 0 0 ((s.core x.core).arch.rg rs.toNat).toNat true) s)

/-! ### Atomics (R96, R189) -/

/-- An atomic: alignment, stack bound, both stages of translation, then a held access (R81, R181). -/
def State.atomOp (s : State) (x : Slot) (w : OpWord) (kind : Nat → HKind) (base rd rs : BitVec 6) (wf : BitVec 2) (cas : Bool) : State :=
  let n := x.core
  let a := (s.core n).arch
  let z := 2 ^ wf.toNat
  let va := a.vaOf base 0 z
  let data := (a.rg rs.toNat).toNat % 2 ^ (8 * z)
  let cmp := (a.rg rd.toNat).toNat % 2 ^ (8 * z)
  let post := [BitVec.ofNat 64 va, BitVec.ofNat 64 data] ++ (if cas then [BitVec.ofNat 64 cmp] else [])
  if va % z ≠ 0 then s.opFault n { vector := 5, detail := 0, info := va } false
  else if a.spFails base va z then s.opFault n (stackExc va) false
  else if s.part n = .shadow then s.shadowHeld x w post (some (.g rd.toNat)) none
  else match s.dataXlate n a.pl va z .atomic false (opInfo x.slot w) with
  | .fault f => s.accessFault n f
  | .poison l => s.opMcheck n (lineMcheck l)
  | .ok hs tlb hur => s.withQueue n 1 fun s =>
    (s.keep n tlb hur).flyHeld x w (heldOf (kind cmp) hs va z data a.pl false rd.toNat) post true

/-- SWAP (R96). -/
def execSwap (x : Slot) (rd base rs : BitVec 6) (w : BitVec 2) (s : State) : Out :=
  .next (opAct x (encode (.swap x rd base rs w)) (fun s =>
    s.atomOp x (encode (.swap x rd base rs w)) (fun _ => .swap) base rd rs w false) s)

/-- FADD on memory (R96). -/
def execAtomicFadd (x : Slot) (rd base rs : BitVec 6) (w : BitVec 2) (s : State) : Out :=
  .next (opAct x (encode (.atomicFadd x rd base rs w)) (fun s =>
    s.atomOp x (encode (.atomicFadd x rd base rs w)) (fun _ => .fadd) base rd rs w false) s)

/-- CAS (R96). -/
def execCas (x : Slot) (rd base rs : BitVec 6) (w : BitVec 2) (s : State) : Out :=
  .next (opAct x (encode (.cas x rd base rs w)) (fun s =>
    s.atomOp x (encode (.cas x rd base rs w)) .cas base rd rs w true) s)

/-! ### Cache maintenance (R97, R98, R231) -/

/-- The address a maintenance operation names, translated; a fault is reported as for a load or, for DZL, a store. -/
def State.maintOp (s : State) (x : Slot) (w : OpWord) (base : BitVec 6) (kind : AKind)
    (k : Nat → Half → State → State) : State :=
  let n := x.core
  let a := (s.core n).arch
  let va := a.vaOf base 0 1
  if s.part n = .shadow then
    s.modCore n fun c => (c.fly { c.flight x w 1 nores with sigPost := [BitVec.ofNat 64 va] }).issued
  else match s.halfXlate n a.pl kind false (opInfo x.slot w) (va, 1) with
  | .fault f => s.accessFault n f
  | .poison l => s.opMcheck n (lineMcheck l)
  | .ok hs tlb hur =>
    match hs with
    | h :: _ => k va h (s.keep n tlb hur)
    | [] => s

/-- Maintenance of the core's own L1s, performed at the landing. -/
def State.flyMaint (s : State) (x : Slot) (w : OpWord) (post : List Word) (m : Maint) : State :=
  s.modCore x.core fun c => (c.fly { c.flight x w 1 nores with sigPost := post, act := some m }).issued

/-- DCI (R97). -/
def execDci (x : Slot) (base : BitVec 6) (s : State) : Out :=
  .next (opAct x (encode (.dci x base)) (fun s => s.maintOp x (encode (.dci x base)) base .maint fun va h s =>
    s.flyMaint x (encode (.dci x base)) [BitVec.ofNat 64 va] (.dci (h.pa / 64))) s)

/-- ICI (R97). -/
def execIci (x : Slot) (base : BitVec 6) (s : State) : Out :=
  .next (opAct x (encode (.ici x base)) (fun s => s.maintOp x (encode (.ici x base)) base .maint fun va h s =>
    s.flyMaint x (encode (.ici x base)) [BitVec.ofNat 64 va] (.ici (h.pa / 64))) s)

/-- A maintenance operation that is a held access (R181). -/
def State.heldMaint (s : State) (x : Slot) (w : OpWord) (kind : HKind) (va : Nat) (h : Half) : State :=
  s.flyHeld x w (heldOf kind [h] va 64 0 (s.core x.core).arch.pl false 0) [BitVec.ofNat 64 va] false

/-- DCF (R97, R231). -/
def execDcf (x : Slot) (base : BitVec 6) (s : State) : Out :=
  .next (opAct x (encode (.dcf x base)) (fun s => s.maintOp x (encode (.dcf x base)) base .maint fun va h s =>
    s.heldMaint x (encode (.dcf x base)) .dcf va h) s)

/-- DCFI (R97, R231). -/
def execDcfi (x : Slot) (base : BitVec 6) (s : State) : Out :=
  .next (opAct x (encode (.dcfi x base)) (fun s => s.maintOp x (encode (.dcfi x base)) base .maint fun va h s =>
    s.heldMaint x (encode (.dcfi x base)) .dcfi va h) s)

/-- DZL (R97, R231). -/
def execDzl (x : Slot) (base : BitVec 6) (s : State) : Out :=
  .next (opAct x (encode (.dzl x base)) (fun s => s.maintOp x (encode (.dzl x base)) base .dzl fun va h s =>
    s.heldMaint x (encode (.dzl x base)) .dzl va h) s)

/-- The privilege fault of an operation below its least level (R82). -/
def State.privFault (s : State) (x : Slot) (w : OpWord) : State :=
  s.opFault x.core { vector := 2, detail := 0, info := opInfo x.slot w } false

/-- DCIA (R97). -/
def execDcia (x : Slot) (s : State) : Out :=
  .next (opAct x (encode (.dcia x)) (fun s =>
    if (s.core x.core).arch.pl = 0 then s.privFault x (encode (.dcia x)) else s.flyMaint x (encode (.dcia x)) [] .dcia) s)

/-- ICIA (R97). -/
def execIcia (x : Slot) (s : State) : Out :=
  .next (opAct x (encode (.icia x)) (fun s =>
    if (s.core x.core).arch.pl = 0 then s.privFault x (encode (.icia x)) else s.flyMaint x (encode (.icia x)) [] .icia) s)

/-! ### SUBMIT (R51, R106) -/

/-- Whether SUBMIT finds its tally busy: PENDING, or named by an earlier SUBMIT that has not landed (R51). -/
def Core.tallyBusy (c : Core) (t : Nat) : Bool :=
  c.arch.rt t == tallyPending || c.flights.any fun f => f.subm == some t

/-- SUBMIT: TALLY_BUSY at once, else the descriptor's address is translated and a held access carries the request
(R51, R106, R181). -/
def execSubmit (x : Slot) (gd ga : BitVec 6) (tn : BitVec 4) (s : State) : Out :=
  let w := encode (.submit x gd ga tn)
  .next (opAct x w (fun s =>
    let n := x.core
    let c := s.core n
    let a := c.arch
    let va := (a.rg ga.toNat).toNat
    let post := [BitVec.ofNat 64 va]
    if c.tallyBusy tn.toNat then s.withQueue n 1 fun s =>
      let f := c.flight x w 3 (gres gd 1)
      let s := s.lvPush n { num := f.num, slot := x.slot, kind := .submit, idx := 3, data := none, bad := false, kept := false }
      if s.part n = .shadow then
        s.lvTake n x.slot .submit fun e s => s.modCore n fun c =>
          (c.fly { c.flight x w 3 ⟨[⟨.g gd.toNat, e.data.getD 0⟩], 0, none⟩ with sigPost := post }).issued
      else s.setCore n (c.fly { f with sigPost := post, lvq := true }).issued
    else if s.part n = .shadow then s.shadowHeld x w post (some (.g gd.toNat)) (some tn.toNat)
    else match s.dataXlate n a.pl va 8 .hdr false (opInfo x.slot w) with
    | .fault f => s.accessFault n f
    | .poison l => s.opMcheck n (lineMcheck l)
    | .ok hs tlb hur => s.withQueue n 1 fun s =>
      (s.keep n tlb hur).flyHeld x w (heldOf (.submit tn.toNat) hs va 8 0 a.pl false gd.toNat) post true) s)

/-! ### Table interpolation (R116 to R119, R152 to R156) -/

/-- The probes of the search of R152, in order. -/
def tblProbes (f : FFmt) (ks : List Knot) (x : FVal) : Nat → Nat → Nat → List Nat
  | 0, _, _ => []
  | k + 1, lo, hi =>
    if 1 < hi - lo then
      let mid := (lo + hi) / 2
      if fle f.radix (fdecode f (knotAt ks mid).x) x then mid :: tblProbes f ks x k mid hi
      else mid :: tblProbes f ks x k lo mid
    else []

/-- The knots a table instruction reads, each once (R156). -/
def tblUsed (d xr : Wide) (ks : List Knot) : List Nat :=
  let f := descFmt d
  let n := descN d
  let x := fdecode f xr.toNat
  let i := tblInterval f ks x n
  ([0, n - 1] ++ tblProbes f ks x (clog2 n) 0 (n - 1) ++ [i, i + 1]).foldl (fun l k => if l.contains k then l else l ++ [k]) []

/-- The level of the first-stage page that maps an address, none where the stage is disabled. -/
def State.pageLevel (s : State) (n pl va : Nat) : Option TlbE :=
  let l := s.logical n
  let root := if pl = 2 then s.rget .fcXroot2 (l / 9) (l % 9) else s.rget .fcXroot1 (l / 9) (l % 9)
  if !flag root 63 then none
  else (s.core n).tlb.find? fun t =>
    t.p2 == (pl == 2) && (t.p2 || t.glob || t.space == fld root 59 48) && va / 2 ^ (12 + 9 * t.lvl) == t.vpn

/-- The level of the hurdle grain that maps a partition-real address. -/
def State.grainOf (s : State) (n pra : Nat) : Option HurdleE :=
  let part := s.partId (s.curOf (s.logical n))
  (s.core n).hcache.find? fun e => e.part == part && pra / 2 ^ (12 + 9 * e.lvl) == e.prn

/-- Whether `size` bytes at `va` lie in one page of the first stage and one hurdle grain (R119). -/
def State.inOnePage (s : State) (n pl va size : Nat) : Bool :=
  let last := va + size - 1
  let page := s.pageLevel n pl va
  let ok1 := match page with
    | some t => va / 2 ^ (12 + 9 * t.lvl) == last / 2 ^ (12 + 9 * t.lvl)
    | none => true
  let pra := match page with
    | some t => t.out + va % 2 ^ (12 + 9 * t.lvl)
    | none => va
  let ok2 := if pl = 2 then true
    else match s.grainOf n pra with
      | some e => pra / 2 ^ (12 + 9 * e.lvl) == (pra + size - 1) / 2 ^ (12 + 9 * e.lvl)
      | none => true
  ok1 && ok2

/-- The outcome of a table instruction's operands. -/
def Arch.tblRes (a : Arch) (k : TblKind) (fd : BitVec 5) (d xr : Wide) (ks : List Knot) (free : Wide) : OpRes :=
  let r := tblEval k a.mood d xr ks
  let v : Wide := if r.tx then free else BitVec.ofNat 128 (r.val.toNat % 2 ^ 64)
  { writes := [⟨.f fd.toNat, v⟩], flags := r.flags,
    trap := if r.tx then some txTrap else fpTrap a.mood r.flags r.tinyExact }

/-- The table-placement fault (R119). -/
def tblExc (d : Wide) : Exc := { vector := 0x0C, detail := 0, info := (descAddr d).toNat }

/-- The knots of a table in the own scratchpad, with the store path's bytes over them. -/
def State.knots (s : State) (n pa count : Nat) : List Knot :=
  let path := (s.boundaryCore n).path
  (List.range count).map fun i =>
    let bs := overlay path (pa + 16 * i) (s.bytes (pa + 16 * i) 16)
    { x := ofBytes (bs.take 8), y := ofBytes (bs.drop 8) }

/-- The used knots read at the bank: the state after, and the first poisoned or refused word (R300, R303). -/
def State.readKnots (s : State) (n pa : Nat) (err : WordErr) : List Nat → State × Option Nat
  | [] => (s, none)
  | i :: is =>
    match s.spRead (bankAgent n) (pa + 16 * i) 16 err with
    | (s, .poison w) => (s, some w)
    | (s, .data _) => s.readKnots n pa .none is

/-- A knot as a queue entry holds it (R256). -/
def Knot.pack (k : Knot) : Wide := BitVec.ofNat 128 (k.y * 2 ^ 64 + k.x)

/-- The shadow's part of a table instruction: its knots come from the queue (R256). -/
def State.shadowTable (s : State) (x : Slot) (w : OpWord) (k : TblKind) (fd : BitVec 5) (xr d : Wide) : State :=
  let n := x.core
  let num := match (s.core n).bundle with
    | some b => b.num
    | none => 0
  let mine := (s.pair (s.pairOf n)).lvq.filter fun e => e.num == num && e.slot == x.slot && e.kind == .knot
  let ks := (List.range (descN d)).map fun i =>
    match mine.find? fun e => e.idx == i with
    | some e => ({ x := bits (e.data.getD 0).toNat 63 0, y := bits (e.data.getD 0).toNat 127 64 } : Knot)
    | none => { x := 0, y := 0 }
  if mine.map (fun e => e.idx) = tblUsed d xr ks then
    let s := s.modPair (s.pairOf n) fun p => { p with lvq := p.lvq.filter fun e => !mine.contains e }
    let bad := mine.any fun e => e.bad
    (s.modCore n fun c =>
      let r := c.arch.tblRes k fd d xr ks (Config.freeTableDefault s.freeCtr)
      let c := { c with popped := c.popped ++ mine }
      c.issueRes x w (tblCycles k d) (if bad then nores else r)).drawn
  else s.mismatch n 1

/-- A table instruction (R116, R119, R156). -/
def State.tableOp (s : State) (x : Slot) (w : OpWord) (k : TblKind) (fd fx fdesc : BitVec 5) (ch : Chance) : State :=
  let n := x.core
  let c := s.core n
  let a := c.arch
  let d := a.rf fdesc.toNat
  let xr := a.rf fx.toNat
  let va := (descAddr d).toNat
  let size := 16 * descN d
  let lat := tblCycles k d
  if s.part n = .shadow then (if descBad k d then s else s.shadowTable x w k fd xr d)
  else if descBad k d then s.opFault n (tblExc d) true
  else match s.translate n a.pl va .load with
  | .fault f => s.accessFault n f
  | .poison l => s.opMcheck n (lineMcheck l)
  | .ok pa _ tlb hur =>
    let s := s.keep n tlb hur
    if a.pl = 0 && s.guardedPage pa then s.opFault n { vector := 2, detail := 0, info := opInfo x.slot w } true
    else if s.inKeep pa || s.inKeep (pa + size - 1) then s.opFault n { vector := 0x0D, detail := 0, info := va } true
    else if !(s.inOnePage n a.pl va size) || s.tgt n pa 0 ≠ .own || s.tgt n (pa + size - 1) 0 ≠ .own then s.opFault n (tblExc d) true
    else
      let ks := s.knots n pa (descN d)
      let used := tblUsed d xr ks
      s.withQueue n used.length fun s =>
      let num := match c.bundle with
        | some b => b.num
        | none => 0
      let (s, bad) := s.readKnots n pa ch.word used
      let s := used.foldl (fun s i => s.lvPush n { num := num, slot := x.slot, kind := .knot, idx := i,
                                                   data := some (knotAt ks i).pack, bad := bad.isSome, kept := false }) s
      (s.modCore n fun c =>
        let f := c.flight x w lat (a.tblRes k fd d xr ks (Config.freeTableDefault s.freeCtr))
        (c.fly { f with mcheck := bad.map s.spMcheck }).issued).drawn

/-- TLFL (R116). -/
def execTlfl (x : Slot) (fd fx fdesc : BitVec 5) (ch : Chance) (s : State) : Out :=
  .next (opAct x (encode (.tlfl x fd fx fdesc ch)) (fun s => s.tableOp x (encode (.tlfl x fd fx fdesc ch)) .flat fd fx fdesc ch) s)

/-- TLIN (R116). -/
def execTlin (x : Slot) (fd fx fdesc : BitVec 5) (ch : Chance) (s : State) : Out :=
  .next (opAct x (encode (.tlin x fd fx fdesc ch)) (fun s => s.tableOp x (encode (.tlin x fd fx fdesc ch)) .lin fd fx fdesc ch) s)

/-- TLLG (R116). -/
def execTllg (x : Slot) (fd fx fdesc : BitVec 5) (ch : Chance) (s : State) : Out :=
  .next (opAct x (encode (.tllg x fd fx fdesc ch)) (fun s => s.tableOp x (encode (.tllg x fd fx fdesc ch)) .log fd fx fdesc ch) s)

end Sys2Proof.Machine
end

