-- ==== Sys2Proof/Machine/Sys.lean ====
section
/-! DEFINITION. System operations, repeat prefixes, branches and CALL (02, R83 to R89, R110 to R115; 01, R46 to R54, R69, R70). -/

namespace Sys2Proof.Machine

open Sys2Proof

/-- NOP (R83). -/
def execNop (x : Slot) (s : State) : Out := .next (opReg x (encode (.nop x)) 1 (fun _ => nores) s)

/-- An operation that flies without a result and leaves a note in its bundle. -/
def State.noteOp (s : State) (x : Slot) (w : OpWord) (note : Bundle → Bundle) : State :=
  s.modCore x.core fun c => (c.issueRes x w 1 nores).modBundle note

/-- SYSCALL: the call is taken at the boundary after the bundle (R59, R83). -/
def execSyscall (x : Slot) (code : BitVec 18) (s : State) : Out :=
  let w := encode (.syscall x code)
  .next (opAct x w (fun s => s.noteOp x w fun b => { b with call := some { vector := 0x0A, detail := 0, info := opInfo x.slot w } }) s)

/-- MGRCALL, from P1 up (R83). -/
def execMgrcall (x : Slot) (code : BitVec 18) (s : State) : Out :=
  let w := encode (.mgrcall x code)
  .next (opAct x w (fun s =>
    if (s.core x.core).arch.pl = 0 then s.privFault x w
    else s.noteOp x w fun b => { b with call := some { vector := 0x0B, detail := 0, info := opInfo x.slot w } }) s)

/-- FENCE.S: every OPEN merging entry closes and a new epoch begins (R176, R177, R191 case 5). -/
def execFenceS (x : Slot) (s : State) : Out :=
  let w := encode (.fenceS x)
  .next (opAct x w (fun s =>
    s.modCore x.core fun c => { (c.issueRes x w 1 nores).closeAll with epoch := c.epoch + 1 }) s)

/-- FENCE.F: every OPEN merging entry closes and a waiting gather falls due after the bundle (R176, R191 case 7,
R263). -/
def execFenceF (x : Slot) (s : State) : Out :=
  let w := encode (.fenceF x)
  .next (opAct x w (fun s =>
    s.modCore x.core fun c => ((c.issueRes x w 1 nores).closeAll).modBundle fun b => { b with fence := true }) s)

/-- GATH: a gather at the boundary after the bundle (R83, R263). -/
def execGath (x : Slot) (s : State) : Out :=
  let w := encode (.gath x)
  .next (opAct x w (fun s => s.noteOp x w fun b => { b with gath := true }) s)

/-- WFE, from P1 up: after its bundle and a waiting gather the core is clock-gated; for the shadow it is a NOP
(R83, R255, R263). -/
def execWfe (x : Slot) (s : State) : Out :=
  let w := encode (.wfe x)
  .next (opAct x w (fun s =>
    if (s.core x.core).arch.pl = 0 then s.privFault x w
    else s.noteOp x w fun b => { b with wfe := s.part x.core != .shadow }) s)

/-! ### Core control registers (R110 to R115) -/

/-- The least level a CRD (`wr` false) or CWR (`wr` true) of a register needs (R110). -/
def cregLevel (wr : Bool) (r : Nat) : Nat :=
  match r with
  | 2 | 3 | 4 | 5 => 1
  | 6 | 7 => if wr then 1 else 0
  | 9 => if wr then 2 else 1
  | _ => 0

/-- Whether a CRD or CWR raises the privilege fault: a bank above the current level, or a level too low (R111). -/
def cregPriv (wr : Bool) (pl creg : Nat) : Bool :=
  decide (pl + 1 < creg / 64) || decide (pl < cregLevel wr (creg % 64))

/-- The value a CRD reads (R110, R115). -/
def Core.cregRead (c : Core) (creg : Nat) : Word :=
  let a := c.arch
  match creg % 64 with
  | 8 => BitVec.ofNat 64 (bnat a.rn * 2 ^ 16 + a.rcount)
  | 0x0A => c.timebase
  | _ => a.cr (cregKey a.pl creg)

/-- CRD: read of a core control register; TIMEBASE reaches the shadow through the queue (R110, R115, R256). -/
def execCrd (x : Slot) (rd : BitVec 6) (creg : BitVec 8) (s : State) : Out :=
  let w := encode (.crd x rd creg)
  .next (opAct x w (fun s =>
    let n := x.core
    let c := s.core n
    if cregPriv false c.arch.pl creg.toNat then s.privFault x w
    else if creg.toNat % 64 = 0x0A then
      if s.part n = .shadow then
        s.lvTake n x.slot .time fun e s => s.modCore n fun c => c.issueRes x w 2 ⟨[⟨.g rd.toNat, e.data.getD 0⟩], 0, none⟩
      else s.withQueue n 1 fun s =>
        let f := c.flight x w 2 (gres rd c.timebase)
        let s := s.lvPush n { num := f.num, slot := x.slot, kind := .time, idx := 0, data := none, bad := false, kept := false }
        s.setCore n (c.fly { f with lvq := true }).issued
    else s.setCore n (c.issueRes x w 2 (gres rd (c.cregRead creg.toNat)))) s)

/-- The write of a core control register: its checks of level at issue, its effect at the landing (R110 to R115). -/
def State.cwrOp (s : State) (x : Slot) (w : OpWord) (creg : Nat) (v : Word) : State :=
  let n := x.core
  let c := s.core n
  let a := c.arch
  let mood := decide (creg % 64 = 0) && (decide (fld v 23 22 ≠ a.pl) || (decide (a.pl = 0) && flag v 21 != flag (a.cr 0) 21))
  if cregPriv true a.pl creg || mood then s.privFault x w
  else if creg % 64 = 0x0B then
    s.setCore n (c.issueRes x w 2 ⟨[⟨.sp (cregKey a.pl creg / 64 - 1), v.setWidth 128⟩], 0, none⟩)
  else s.setCore n (c.fly { c.flight x w 2 nores with cwr := some (creg, v) }).issued

/-- CWR (R83, R110 to R112). -/
def execCwr (x : Slot) (creg : BitVec 8) (rs : BitVec 6) (s : State) : Out :=
  let w := encode (.cwr x creg rs)
  .next (opAct x w (fun s => s.cwrOp x w creg.toNat ((s.core x.core).arch.rg rs.toNat)) s)

/-- CWR of CCTL (R114, R184, R185). -/
def execCctlWrite (x : Slot) (rs : BitVec 6) (s : State) : Out :=
  let w := encode (.cctlWrite x rs)
  .next (opAct x w (fun s => s.cwrOp x w 9 ((s.core x.core).arch.rg rs.toNat)) s)

/-- The merging entries a cleared DEN waits for have moved: DEN and DINV become 0 and the L1D is no longer used
(R185). -/
def execDenDisableDrained (c : Nat) (s : State) : Out :=
  let k := s.core c
  match k.denDrain with
  | some v =>
    .next (if k.merge.isEmpty then
      s.setCore c { k with denDrain := none, freeze := none, l1d := [],
                           arch := k.arch.setCr 9 (setFlag (setFlag v 1 false) 3 false) }
    else s)
  | none => .next s

/-- TRD (R53). -/
def execTrd (x : Slot) (rd : BitVec 6) (tn : BitVec 4) (s : State) : Out :=
  .next (opReg x (encode (.trd x rd tn)) 1 (fun a => gres rd (a.rt tn.toNat)) s)

/-- TWAIT, whose bundle has waited until the tally is no longer PENDING (R54). -/
def execTwait (x : Slot) (rd : BitVec 6) (tn : BitVec 4) (s : State) : Out :=
  .next (opReg x (encode (.twait x rd tn)) 1 (fun a => gres rd (a.rt tn.toNat)) s)

/-! ### Repeat prefixes and branches -/

/-- REPI (R69). -/
def execRepi (x : Slot) (n : BitVec 16) (s : State) : Out :=
  let w := encode (.repi x n)
  .next (opAct x w (fun s => s.noteOp x w fun b => { b with rep := some (n.toNat, false) }) s)

/-- REPN (R70). -/
def execRepn (x : Slot) (n : BitVec 7) (s : State) : Out :=
  let w := encode (.repn x n)
  .next (opAct x w (fun s => s.noteOp x w fun b => { b with rep := some (n.toNat, true) }) s)

/-- A branch that may be taken (R46, R85). -/
def State.branchOp (s : State) (x : Slot) (w : OpWord) (taken : Bool) (target : Nat) : State :=
  s.noteOp x w fun b => { b with branch := if taken then some (target % 2 ^ 64) else none }

/-- The address of the bundle that issues (R85). -/
def Core.here (c : Core) : Nat :=
  match c.bundle with
  | some b => b.addr
  | none => c.arch.pc

/-- A target `disp` bundles from the branch bundle (R85). -/
def relTarget (a : Nat) (n : Nat) (disp : BitVec n) : Nat := (BitVec.ofNat 64 a + sext n disp * 16).toNat

/-- BT (R85). -/
def execBt (x : Slot) (pc : BitVec 3) (disp : BitVec 20) (s : State) : Out :=
  let w := encode (.bt x pc disp)
  .next (opAct x w (fun s =>
    s.branchOp x w ((s.core x.core).arch.rp pc.toNat) (relTarget (s.core x.core).here 20 disp)) s)

/-- BF (R85). -/
def execBf (x : Slot) (pc : BitVec 3) (disp : BitVec 20) (s : State) : Out :=
  let w := encode (.bf x pc disp)
  .next (opAct x w (fun s =>
    s.branchOp x w (!(s.core x.core).arch.rp pc.toNat) (relTarget (s.core x.core).here 20 disp)) s)

/-- A register target with bits [3:0] taken as 0 (R85). -/
def regTarget (v : Word) : Nat := v.toNat / 16 * 16

/-- BRI (R85). -/
def execBri (x : Slot) (ra : BitVec 6) (s : State) : Out :=
  let w := encode (.bri x ra)
  .next (opAct x w (fun s => s.branchOp x w true (regTarget ((s.core x.core).arch.rg ra.toNat))) s)

/-- The return address of a call: that of its delay bundle plus 16 (R48). -/
def Core.returnAddr (c : Core) : Word :=
  BitVec.ofNat 64 ((if c.arch.dv then c.arch.dpc else c.here + 16) + 16)

/-- CALL and CALLI: the return address is pushed, sp falls by 8 and the branch is taken (R48, R86, R87). -/
def State.callOp (s : State) (x : Slot) (w : OpWord) (target : Nat) : State :=
  let n := x.core
  let c := s.core n
  let a := c.arch
  let sp := a.cr (spKey a.pl) - 8
  let va := sp.toNat
  let res : OpRes := ⟨[⟨.sp a.pl, sp.setWidth 128⟩], 0, none⟩
  let fly := fun (s : State) => s.modCore n fun c => (c.issueRes x w 1 res).modBundle fun b => { b with branch := some target }
  if !a.stackOk a.pl va 8 then s.opFault n (stackExc va) false
  else if s.part n = .shadow then fly s
  else match s.dataXlate n a.pl va 8 .store false (opInfo x.slot w) with
  | .fault f => s.accessFault n f
  | .poison l => s.opMcheck n (lineMcheck l)
  | .ok hs tlb hur =>
    let s := s.keep n tlb hur
    let bytes := splitBytes hs (toBytes 8 c.returnAddr.toNat)
    match (hs.head?.map Half.tgt).getD .io with
    | .own => s.pathStore n bytes fly
    | .cache => s.pathStore n bytes fly
    | _ =>
      let s := fly s
      s.modCore n fun c =>
        c.closeAll.hold { heldOf .store hs va 8 c.returnAddr.toNat a.pl false 0 with
          num := (c.bundle.map Bundle.num).getD 0, slot := x.slot }

/-- CALL (R85). -/
def execCall (x : Slot) (disp : BitVec 24) (s : State) : Out :=
  let w := encode (.call x disp)
  .next (opAct x w (fun s => s.callOp x w (relTarget (s.core x.core).here 24 disp)) s)

/-- CALLI (R85). -/
def execCalli (x : Slot) (ra : BitVec 6) (s : State) : Out :=
  let w := encode (.calli x ra)
  .next (opAct x w (fun s => s.callOp x w (regTarget ((s.core x.core).arch.rg ra.toNat))) s)

end Sys2Proof.Machine
end

