-- ==== Sys2Proof/Machine/Bound.lean ====
section
/-! DEFINITION. What happens at bundle boundaries: fetch, the issue cycle, arrival of load data, taking an exception or an event, completions, WFE (01, R35 to R71; 06, R256 to R260; 04, R164, R197). -/

namespace Sys2Proof.Machine

open Sys2Proof

/-! ### Fetch -/

/-- Whether a core has an exception to take at this boundary. -/
def Core.excDue (c : Core) : Bool :=
  c.fault.isSome || c.call.isSome || !c.traps.isEmpty || !c.mchecks.isEmpty || !c.smchecks.isEmpty

/-- The completions that can be applied: those whose tally has become PENDING (R52). -/
def Core.applicable (c : Core) : List (Nat × Word) := c.arrived.filter fun x => c.arch.rt x.1 == tallyPending

/-- The queue entry the shadow has to deal with at the boundary before bundle `num` (R256). -/
def State.boundaryEntry (s : State) (n : Nat) : Option LvEntry :=
  match (s.pair (s.pairOf n)).lvq.find? fun e => !(s.core n).awaits e with
  | some e => if e.num = (s.core n).bnum ∧ 4 ≤ e.slot then some e else none
  | none => none

/-- Whether the shadow is to mark at this boundary (R264). -/
def State.shadowMarkDue (s : State) (n : Nat) : Bool :=
  s.part n == .shadow && (s.core n).mark.isNone &&
    match (s.coresOf (s.logical n)).head? with
    | some b => (match (s.core b).mark with
      | some m => m.num == (s.core n).bnum
      | none => false)
    | none => false

/-- The bundles by which the shadow trails the bellwether (R254). -/
def State.lagOf (s : State) (l : Nat) : Nat :=
  match s.coresOf l with
  | [b, d] => (s.core b).bnum - (s.core d).bnum
  | _ => 0

/-- The cycle count of a bundle: that of its table instruction, whatever its guard, else 1 (R33, R35). -/
def Arch.cyclesOf (a : Arch) (words : List OpWord) : Nat :=
  match words[3]? with
  | some w =>
    let v := w.toNat
    if bits v 28 24 = 0x1C then
      tblCycles (match bits v 1 0 with | 0 => .flat | 1 => .lin | _ => .log) (a.rf (bits v 13 9))
    else 1
  | none => 1

/-- The PENDING tally that a bundle's TWAIT names (R54). -/
def Arch.waitsFor (a : Arch) (words : List OpWord) : Option Nat :=
  match words.head? with
  | some w =>
    let v := w.toNat
    if bits v 28 24 = 1 ∧ bits v 5 0 = 0xB ∧ a.rp (bits v 31 29) ∧ a.rt (bits v 13 10) = tallyPending then some (bits v 13 10)
    else none
  | none => none

/-- A bundle's words are at hand: the reserved-encoding check, the wait of a TWAIT, then issue begins, with the
core as it is kept for R59 (R35, R54, R71, R79, R81). -/
def State.beginBundle (s : State) (n : Nat) (words : List OpWord) : State :=
  let c := s.core n
  let a := c.arch
  let bad := fun (i : Nat) (w : OpWord) => opReserved i w || (decide (a.rcount ≠ 0) && repForbidden a.rn w)
  let b : Bundle := { Bundle.none with addr := a.pc, words := words, num := c.bnum, cycles := a.cyclesOf words }
  match firstSlot bad 0 words with
  | some (i, w) =>
    let s := s.setCore n { c with bundle := some b }
    { s with saved := tins s.saved n c }.opFault n { vector := 1, detail := 0, info := opInfo i w } false
  | none =>
    match (if s.part n = .shadow then none else a.waitsFor words) with
    | some t =>
      if c.twaited then s.setCore n { c with freeze := some (.tally t) }
      else s.setCore n { c with gdue := some (c.gdue.getD .twait) }
    | none =>
      { s with saved := tins s.saved n { c with twaited := false } }.setCore n { c with bundle := some b, twaited := false, popped := [] }

/-- The words of 16 bytes of a line. -/
def wordsOfLine (d : BitVec 512) (pa : Nat) : List OpWord := bundleWords (lineBytes d (pa % 64) 16)

/-- A fetch from main memory: the L1I, a line that has arrived for it, or the fold cache (R164, R183, R185, R692). -/
def State.fetchLine (s : State) (n pa attr : Nat) (err : ArrayErr) : State :=
  let c := s.core n
  let line := pa / 64
  let got := fun (s : State) (d : BitVec 512) (p : Bool) =>
    if p then s.opMcheck n (lineMcheck line) else s.beginBundle n (wordsOfLine d pa)
  match c.fbuf with
  | some (l, d, p) =>
    if l = line then got (s.setCore n { c with fbuf := none }) d p
    else s.setCore n { c with fbuf := none }
  | none =>
    let hit := if c.ien && attr == 0 then c.l1i.find? fun x => x.2.line == line else none
    match hit, err with
    | some x, .none => got s x.2.data false
    | _, _ =>
      let s := if hit.isSome then (s.setCore n { c with l1i := c.l1i.filter fun x => x.2.line != line }).strike 0 n else s
      if attr ≠ 0 then
        if lineHome line ≠ s.ownModule ∧ (s.copyHere line).isNone then
          (s.awaitLine (foldOf n) n line true .uncached).modCore n fun c => { c with freeze := some .fetch }
        else
          let (d, p) := s.cohLine line
          got s d p
      else match s.foldRead n line true (if hit.isSome then .none else err) with
      | (s, some (d, p)) => got (if p then s else s.l1iPut n line d) d p
      | (s, none) => s.modCore n fun c => { c with freeze := some .fetch }

/-- The bellwether's or a single core's fetch of the bundle at PC (R157, R158, R164, R296, R692). -/
def State.fetch (s : State) (n : Nat) (ch : Chance) : State :=
  let c := s.core n
  let va := c.arch.pc
  match s.translate n c.arch.pl va .fetch with
  | .fault f => s.accessFault n f
  | .poison l => s.opMcheck n (lineMcheck l)
  | .ok pa attr tlb hur =>
    let s := s.keep n tlb hur
    match ctlModule pa with
    | some m =>
      -- a control space serves 8-byte loads alone: the fetch reads 0 and is rejected (R15, R691)
      (s.reject (if m = s.ownModule then 2 else 3) pa 0).beginBundle n [0, 0, 0, 0]
    | none =>
      if inMemRange pa && inSpRange (memOff pa) && (s.scratch pa).isSome then
        if s.tgt n pa 0 ≠ .own || s.inKeep pa then s.opFault n { vector := 0x0D, detail := 0, info := va } true
        else match s.spRead (bankAgent n) pa 16 ch.word with
        | (s, .data bs) =>
          ((s.bump .fcCntf (foldOf n) ((s.roleOf n).getD 8) 3).modCore n fun c => { c with timebase := c.timebase + 3 }).beginBundle n (bundleWords bs)
        | (s, .poison w) => s.opMcheck n (s.spMcheck w)
      else match s.unbacked pa with
      | some wh => s.opMcheck n (mcheckOf 1 wh pa)
      | none => s.fetchLine n pa attr ch.array

/-- The value of a held access reaches the shadow's flight from the queue (R256). -/
def State.shadowFill (s : State) (n : Nat) (f : Flight) : Option State :=
  match (s.pair (s.pairOf n)).lvq.find? fun e => e.num == f.num && e.slot == f.slot && decide (e.slot < 4) with
  | some e =>
    match e.data with
    | some v =>
      let dest := match f.need with
        | some nd => nd.dest
        | none => .g 0
      let tw := match f.subm with
        | some t => if v = 0 then [⟨.tally t, tallyPending.setWidth 128⟩] else []
        | none => []
      let g := { f with ready := true, writes := if e.bad then [] else ⟨dest, v⟩ :: tw }
      let s := s.modPair (s.pairOf n) fun p => { p with lvq := delFirst (fun x => x == e) p.lvq }
      some (s.modCore n fun c => { c with flights := updFirst (fun x => x == f) (fun _ => g) c.flights })
    | none => none
  | none => none

/-- A held access whose latency has elapsed keeps its core from issuing until its value is there (R181, R43); the
shadow takes the value from the queue. -/
def State.lateFlight (s : State) (n : Nat) : State :=
  let c := s.core n
  if s.part n = .shadow then
    match c.flights.find? fun f => !f.ready && decide (f.due < c.cyc) with
    | some f =>
      (match s.shadowFill n f with
       | some t => t.landAt n f.due
       | none => s)
    | none => s
  else s.setCore n { c with freeze := some .data }

/-- A drain that waits for data: the core freezes; the shadow takes from the queue what is there (R41, R43). -/
def State.awaitData (s : State) (n : Nat) : State :=
  if s.part n = .shadow then
    (s.core n).flights.foldl (fun s f => if f.ready then s else (s.shadowFill n f).getD s) s
  else s.modCore n fun k => { k with freeze := some .data }

/-- BUNDLE_FETCH: a core that is at a boundary with nothing due there fetches its next bundle; a bellwether whose
lag would grow too large freezes (R164, R257). The shadow takes the bundle the bellwether issued, or the fault in its
place (R254, R256). -/
def execBundleFetch (c : Nat) (ch : Chance) (s : State) : Out :=
  let k := s.core c
  if !s.live c || k.bundle.isSome || k.excDue || k.gdue.isSome || !k.applicable.isEmpty then .next s
  else if k.flights.any fun f => !f.ready && decide (f.due < k.cyc) then .next (s.lateFlight c)
  else if s.part c = .shadow then
    if s.shadowMarkDue c then .next s
    else match s.boundaryEntry c, (s.pair (s.pairOf c)).fetched with
    | some e, _ =>
      if e.kind = .fault ∧ e.slot = 4 then
        .next ((s.lvPop c).modCore c fun k => { k with fault := e.data.map unpackExc, popped := [] })
      else .next s
    | none, b :: rest =>
      if b.1 = k.bnum then
        .next ((s.modPair (s.pairOf c) fun p => { p with fetched := rest }).beginBundle c b.2.2)
      else .next (s.mismatch c 1)
    | none, [] => .next s
  else if s.part c = .bell && decide (64 * (s.pair (s.pairOf c)).lag < s.lagOf (s.logical c) + 1) then
    .next (s.modCore c fun k => { k with freeze := some .queue })
  else .next (s.fetch c ch)

/-! ### The issue cycle -/

/-- Where issue goes after a bundle: the repeat, the pending target, or the next bundle; a taken branch makes the
next bundle its delay bundle (R46, R47, R69). -/
def Arch.advance (a : Arch) (b : Bundle) : Arch :=
  if 1 < a.rcount then { a with rcount := a.rcount - 1 }
  else
    let a := { a with pc := if a.dv then a.dpc else (a.pc + 16) % 2 ^ 64, dv := b.branch.isSome, dpc := b.branch.getD 0,
                      rcount := 0, rn := false }
    match b.rep with
    | some (n, hold) => { a with rcount := n, rn := hold }
    | none => a

/-- The gather that falls due at the boundary after a bundle (R263): a waiting one before another. -/
def gatherDue (c : Core) (b : Bundle) (givl : Nat) : Option GCause :=
  if b.wfe then some .wfe else if c.heldWaits then some .held else if b.fence then some .fence
  else match c.gdue with
    | some g => some g
    | none => if b.gath then some .gath else if 2 ^ givl ≤ c.bcnt then some .interval else none

/-- The registers an IRET restores from its frame at address `fa` (R66). -/
def Arch.iret (a : Arch) (fr : List Word) : Arch :=
  let old := a.pl
  let fa := a.cr (spKey old)
  let mood := lget 0 fr 2 &&& cregMask 0
  let w := lget 0 fr 4
  let a := (a.setCr 0 mood).setCr 1 (lget 0 fr 3 &&& cregMask 1)
  let new := a.pl
  let a := a.setCr (spKey new) (lget 0 fr 7)
  let a := if new = old then a else a.setCr (spKey old) (fa + 64)
  { a with p := fld w 23 16 / 2 * 2 + 1, pc := (lget 0 fr 0).toNat / 16 * 16, dv := flag w 63,
           dpc := if flag w 63 then (lget 0 fr 1).toNat / 16 * 16 else 0, rn := flag w 62 && decide (fld w 15 0 ≠ 0),
           rcount := fld w 15 0 }

/-- The bundle ends: issue moves on, the bundle counts, and what it asked for falls due. -/
def State.endBundle (s : State) (n : Nat) (b : Bundle) : State :=
  let shadow := s.part n == .shadow
  let s := s.handOn n b
  let s := match b.iret with
    | some fr => (s.drain n).modCore n fun c => { c with arch := c.arch.iret fr, timebase := c.timebase + 4 }
    | none => s.modCore n fun c => { c with arch := c.arch.advance b }
  let givl := (s.pair (s.pairOf n)).givl
  let s := s.modCore n fun c =>
    let c := { c with bundle := none, bnum := c.bnum + 1, bcnt := c.bcnt + 1, call := b.call, popped := [] }
    { c with gdue := if shadow then none else gatherDue c b givl }
  let s := { s with saved := tdel s.saved n }
  if shadow then
    match (s.coresOf (s.logical n)).head? with
    | some m => s.modCore m fun c => if c.freeze = some .queue then { c with freeze := none } else c
    | none => s
  else s

/-- OPERATION_LAND: the end of an issue cycle. The operations due land; a core whose data is not there freezes; the
last cycle of a bundle ends it (R35, R36, R40, R43, R44). -/
def execOperationLand (c : Nat) (s : State) : Out :=
  let k := s.core c
  let ok := s.live c || (s.part c == .shadow && k.freeze == some .queue && decide (s.lstate (s.logical c) = 0))
  match k.bundle with
  | none => .next s
  | some b =>
    if !ok || b.next < 4 then .next s
    else
      let last := decide (b.cycles ≤ b.spent + 1)
      let blocking := k.flights.find? fun f =>
        !f.ready && !(f.held && f.num == b.num) && (decide (f.due ≤ k.cyc) || (last && b.iret.isSome))
      match blocking with
      | some f =>
        if s.part c = .shadow then
          match s.shadowFill c f with
          | some t => .next (t.modCore c fun k => { k with freeze := none })
          | none => .next (s.modCore c fun k => { k with freeze := some .queue })
        else .next (s.modCore c fun k => { k with freeze := some .data })
      | none =>
        let s := (s.bump .fcCnti (foldOf c) ((s.roleOf c).getD 8)).landAt c k.cyc
        let s := s.modCore c fun k => { k with cyc := k.cyc + 1, timebase := k.timebase + 1, bundle := some { b with spent := b.spent + 1 },
                                               freeze := if k.freeze = some .queue then none else k.freeze }
        .next (if last then s.endBundle c b else s)

/-- Freeze cycles of a core, in its counter and TIMEBASE (R44, R245). -/
def State.freezeCycles (s : State) (n cycles : Nat) : State :=
  (s.bump .fcCntf (foldOf n) ((s.roleOf n).getD 8) cycles).modCore n fun c =>
    { c with timebase := c.timebase + BitVec.ofNat 64 cycles }

/-- LOAD_DATA_ARRIVAL: the data of loads is there; a freeze for it ends (R43). -/
def execLoadDataArrival (c : Nat) (cycles : Nat) (s : State) : Out :=
  let k := s.core c
  let here := fun (f : Flight) => !f.ready && !f.held && (match f.need with
    | some nd => nd.arrived
    | none => false)
  if (k.freeze = none ∨ k.freeze = some .data) ∧ k.flights.any here then
    let frozen := k.freeze == some .data
    let give := fun (f : Flight) => if here f then { f.fill with ready := true } else f
    let s := s.setCore c { k with flights := k.flights.map give, freeze := none }
    .next (if frozen then s.freezeCycles c cycles else s)
  else .next s

/-- FREEZE_LIMIT: a memory freeze that reaches 2 ms ends in a machine check; the access's destination is not written
(R197, R638). -/
def execFreezeLimit (c : Nat) (s : State) : Out :=
  let k := s.core c
  match k.freeze with
  | none => .next s
  | some (.tally _) => .next s
  | some .data =>
    let late := fun (f : Flight) => !f.ready && f.due == k.cyc
    let paOf := fun (f : Flight) =>
      match f.need with
      | some nd => (match nd.segs.find? fun g => g.data.isNone with
        | some g => g.pa
        | none => 0)
      | none => (match k.hacc with
        | some h => h.pa
        | none => 0)
    let lines := (k.flights.filter late).flatMap fun f => match f.need with
      | some nd => nd.segs.map fun g => g.pa / 64
      | none => []
    let give := fun (f : Flight) => if late f then { f with ready := true, mcheck := some (mcheckOf 5 0 (paOf f)) } else f
    let drop := fun (x : Fill) =>
      if x.fold = foldOf c && lines.contains x.line then { x with waiters := x.waiters.filter fun w => w != (c, false) } else x
    let s := s.setCore c { k with freeze := none, flights := k.flights.map give }
    .next (s.modCa fun a => { a with fills := a.fills.map drop })
  | some fz =>
    let pa := match fz with
      | .fetch => (match s.translate c k.arch.pl k.arch.pc .fetch with
        | .ok pa _ _ _ => pa
        | _ => 0)
      | .gather => (match k.rel.head? with
        | some h => h.line * 64
        | none => 0)
      | .maint line => line * 64
      | _ => 0
    let s := s.opMcheck c (mcheckOf 5 0 pa)
    .next (s.modCore c fun k => { k with freeze := none })

/-! ### Taking an exception (R58 to R65) -/

/-- The level a vector is taken at from a current level (R58); an event's level is given. -/
def takenAt (vector evLvl pl : Nat) : Nat :=
  max pl (match vector with | 0x04 | 0x0B | 0x1F => 2 | 0x10 => evLvl | _ => 1)

/-- The exception frame (R62). -/
def Arch.frame (a : Arch) (xcause xinfo : Word) : List Word :=
  let w := bnat a.dv * 2 ^ 63 + bnat (a.rn && decide (a.rcount ≠ 0)) * 2 ^ 62 + (a.p / 2 * 2 + 1) % 256 * 2 ^ 16 + a.rcount % 2 ^ 16
  [BitVec.ofNat 64 a.pc, BitVec.ofNat 64 (if a.dv then a.dpc else 0), a.cr 0, a.cr 1, BitVec.ofNat 64 w, xcause, xinfo, a.cr (spKey a.pl)]

/-- The bytes of a frame. -/
def frameBytes (fr : List Word) : List Byte := fr.flatMap fun w => toBytes 8 w.toNat

/-- The registers after an exception entry at `lvl` (R61, steps 3 and 4). -/
def Arch.enter (a : Arch) (lvl vector : Nat) (xcause xinfo : Word) : Arch :=
  let pc := a.pc
  let a := a.setCr (spKey lvl) (a.cr (spKey lvl) - 64)
  let a := a.setCr 0 (setFlag (setFld (a.cr 0) 23 22 lvl) 21 false)
  let a := ((a.setCr (bankKey lvl 3) (BitVec.ofNat 64 (pc / 16 * 16))).setCr (bankKey lvl 4) xcause).setCr (bankKey lvl 5) xinfo
  { a with rcount := 0, rn := false, dv := false, dpc := 0, pc := ((a.cr (bankKey lvl 2)).toNat + 64 * vector) % 2 ^ 64 }

/-- What the frame push of an entry meets. -/
inductive Push
  | done (s : State)
  | full (s : State)
  | faulted (s : State) (queued : Bool)
  | poison (line : Nat)

/-- The frame pushed onto the stack of `lvl` (R61 step 3, R65, R87). The shadow's push only follows the
bellwether's (R256). -/
def State.pushFrame (s : State) (n lvl : Nat) (fr : List Word) : Push :=
  let a := (s.core n).arch
  let va := (a.cr (spKey lvl) - 64).toNat
  if !a.stackOk lvl va 64 then .faulted s false
  else if s.part n = .shadow then
    match s.boundaryEntry n with
    | some e => if e.kind = .fault ∧ e.slot = 4 + lvl then .faulted ((s.lvPop n).modCore n fun c => { c with popped := [] }) true else .done s
    | none => .done s
  else match s.dataXlate n lvl va 64 .store false 0 with
  | .fault _ => .faulted s true
  | .poison l => .poison l
  | .ok hs tlb hur =>
    let s := s.keep n tlb hur
    let parts := splitBytes hs (frameBytes fr)
    let path := match (s.core n).mergeAll parts with
      | some c => Push.done (s.setCore n c)
      | none => Push.full (s.modCore n fun c => { c.closeOldest with freeze := some .mergeFull })
    match (hs.head?.map Half.tgt).getD .io with
    | .own => path
    | .cache => path
    | _ =>
      .done (s.modCore n fun c =>
        c.closeAll.hold { heldOf .store hs va 64 (ofBytes (frameBytes fr)) lvl false 0 with num := c.bnum, slot := 4 })

/-- XCAUSE (R63). -/
def xcauseOf (e : Exc) (nest multi cpend : Bool) : Word :=
  BitVec.ofNat 64 (e.detail % 2 ^ 32 * 2 ^ 32 + bnat nest * 2 ^ 15 + bnat multi * 2 ^ 14 + bnat cpend * 2 ^ 13 + e.vector)

/-- What an entry leads to. -/
inductive Entry
  | taken (s : State)
  | again (s : State)     -- not taken now: the core waits, or a machine check came in its place
  | stopped (s : State)   -- R65

/-- The core enters a handler (R61, R65): the frame, the registers, the folded word (R261). -/
def State.enterAt (s : State) (n lvl : Nat) (e : Exc) (nest multi cpend : Bool) : Entry :=
  let c := s.core n
  let xc := xcauseOf e nest multi cpend
  let xi := BitVec.ofNat 64 e.info
  match s.pushFrame n lvl (c.arch.frame xc xi) with
  | .full s => .again s
  | .poison l => .again ((s.modCore n fun c => { c with mchecks := lineMcheck l :: c.mchecks }).lvPush n (mcEntry c.bnum (lineMcheck l)))
  | .done s =>
    let fold : Word := BitVec.ofNat 64 (c.arch.pc / 16 * 16 ||| e.vector)
    let sg := s.signs n
    .taken (s.modCore n fun c =>
      ({ c with arch := c.arch.enter lvl e.vector xc xi, timebase := c.timebase + 4, twaited := false, freeze := none } : Core).sign
        sg c.bnum 0 [fold])
  | .faulted s queued =>
    let tell := fun (s : State) => if queued then s.lvPush n { num := c.bnum, slot := 4 + lvl, kind := .fault, idx := 0, data := some e.pack, bad := false, kept := false } else s
    .stopped (tell s)

/-- An entry at the level an exception is due; where its push would fault at P1, at P2 with NEST (R65). -/
def State.enter (s : State) (n evLvl : Nat) (e : Exc) (multi cpend : Bool) : Entry :=
  let lvl := takenAt e.vector evLvl (s.core n).arch.pl
  match s.enterAt n lvl e false multi cpend with
  | .stopped t => if lvl = 1 then t.enterAt n 2 e true multi cpend else .stopped t
  | x => x

/-- The core stops under R65; a gather is due at the point of the stop (R263). -/
def State.stopCore (s : State) (n : Nat) : State :=
  s.modCore n fun c => { c with stopped := true, freeze := none, gdue := some .stop }

/-- Everything in flight can land: nothing waits for data. -/
def Core.canDrain (c : Core) : Bool := c.allReady

/-- The words of a trapped operation, folded once it is known whether its results are written (R261). -/
def trapWords (t : Flight) (written : Bool) : List Word :=
  t.sigPre ++ (if written then t.writes.flatMap resultWords else []) ++ t.sigPost ++ (if t.flags = 0 then [] else [BitVec.ofNat 64 t.flags])

/-- Traps dealt with at an entry: those not chosen write their default results (R61); all are folded. -/
def State.settleTraps (s : State) (n : Nat) (chosen : Option Flight) : State :=
  let sg := s.signs n
  let s := (s.core n).traps.foldl (fun s t =>
    let written := decide (chosen ≠ some t.1)
    s.modCore n fun c =>
      ({ c with arch := if written then t.1.writes.foldl Arch.write c.arch else c.arch } : Core).sign sg t.1.num (t.1.slot + 1) (trapWords t.1 written)) s
  s.modCore n fun c => { c with traps := [] }

/-- The trap that is chosen: earliest issued, then lowest slot (R61). -/
def firstTrap (l : List (Flight × Trap)) : Option (Flight × Trap) :=
  l.foldl (fun acc t => match acc with
    | none => some t
    | some b => if t.1.num < b.1.num ∨ (t.1.num = b.1.num ∧ t.1.slot < b.1.slot) then some t else some b) none

/-- XINFO of an arithmetic trap (R64). -/
def trapInfo (f : Flight) : Nat := f.addr / 16 * 16 + f.slot % 4

/-- MCHK entries of this boundary reach the shadow (R256). -/
def State.shadowMchecks (s : State) (n : Nat) : Nat → State
  | 0 => s
  | k + 1 =>
    match s.boundaryEntry n with
    | some e =>
      if e.kind = .mchk then
        let x := unpackExc (e.data.getD 0)
        let m : MCheck := { code := bits x.detail 31 24, store := bit x.detail 23, async := bit x.detail 22, place := bits x.detail 15 0, info := x.info }
        ((s.lvPop n).modCore n fun c => { c with mchecks := c.mchecks ++ [m], popped := [] }).shadowMchecks n k
      else s
    | none => s

/-- Machine checks of released stores join those of the boundary, for the shadow too (R59, R256). -/
def State.storeMchecks (s : State) (n : Nat) : State :=
  let c := s.core n
  if c.bundle.isSome then s
  else c.smchecks.foldl (fun s m => s.lvPush n (mcEntry c.bnum m)) (s.setCore n { c with mchecks := c.mchecks ++ c.smchecks, smchecks := [] })

/-- EXCEPTION_ENTRY: at a boundary where an exception is due, the core drains and takes one (R61). -/
def execExceptionEntry (c : Nat) (s : State) : Out :=
  let s0 := s
  let s := if s.part c = .shadow then s.shadowMchecks c 256 else s.storeMchecks c
  let k := s.core c
  if !s.live c || k.bundle.isSome || !(k.gdue == none || k.gdue == some .command) || !k.applicable.isEmpty || s.shadowMarkDue c || !k.excDue then .next s0
  else if !k.canDrain then .next (s.awaitData c)
  else
    let s := s.drain c
    let k := s.core c
    let record := fun (s : State) (m : MCheck) => if s.part c = .shadow || m.async then s else s.recordMc m c
    let keep := fun (t : State) => t.modCore c fun q => { q with arch := k.arch, traps := k.traps, sigq := k.sigq }
    let finish := fun (e : Entry) (ok : State → State) => match e with
      | .taken t => Host.Outcome.next (ok t)
      | .again t => .next (keep t)
      | .stopped t => .next ((keep t).stopCore c)
    match k.mchecks, k.call, firstTrap k.traps, k.fault with
    | m :: rest, call, _, _ =>
      let multi := !k.traps.isEmpty
      let e : Exc := { vector := 0x1F, detail := m.detail, info := m.info }
      finish ((s.settleTraps c none).enter c 2 e multi call.isSome) fun t =>
        record (t.modCore c fun k => { k with mchecks := rest, call := none, fault := none }) m
    | [], some e, _, _ =>
      let multi := !k.traps.isEmpty
      finish ((s.settleTraps c none).enter c 1 e multi false) fun t => t.modCore c fun k => { k with call := none, fault := none }
    | [], none, some (f, t), _ =>
      let multi := decide (1 < k.traps.length)
      let e : Exc := { vector := t.vector, detail := t.detail, info := trapInfo f }
      finish ((s.settleTraps c (some f)).enter c 1 e multi false) fun t => t.modCore c fun k => { k with fault := none }
    | [], none, none, some e =>
      finish (s.enter c 1 e false false) fun t => t.modCore c fun k => { k with fault := none }
    | [], none, none, none => .next s

/-! ### Events and completions -/

/-- Whether a core is at a boundary where completions and events are dealt with: at work, or frozen by a TWAIT
alone (R45, R52, R54). -/
def State.atBoundary (s : State) (n : Nat) : Bool :=
  let c := s.core n
  let waiting := match c.freeze with
    | some (.tally _) => true
    | _ => false
  c.bundle.isNone && c.gdue.isNone && !s.shadowMarkDue n &&
    (s.live n || (waiting && s.part n != .idle && decide (s.lstate (s.logical n) = 0) && !c.gated && !c.stopped))

/-- The conditions of R67 other than the priority rule. -/
def Core.takesEvents (c : Core) : Bool := flag (c.arch.cr 0) 21 && !(c.arch.rn && decide (c.arch.rcount ≠ 0))

/-- EVENT_ACCEPT: the core accepts the source the router chooses, and enters its handler (R61, R67, R259, R571,
R572). -/
def execEventAccept (c : Nat) (source : Nat) (s : State) : Out :=
  let k := s.core c
  let l := s.logical c
  if !s.atBoundary c || !k.applicable.isEmpty || k.call.isSome || !k.traps.isEmpty || !k.mchecks.isEmpty || !k.smchecks.isEmpty then .next s
  else if s.part c = .shadow then
    match s.boundaryEntry c with
    | some e =>
      if e.kind ≠ .event ∨ bits (e.data.getD 0).toNat 10 0 ≠ source then .next s
      else if !k.canDrain then .next (s.awaitData c)
      else
        let t := s.drain c
        let lvl := bits (e.data.getD 0).toNat 17 16
        match ((t.lvPop c).modCore c fun k => { k with popped := [], fault := none }).enter c lvl { vector := 0x10, detail := 0, info := source } false false with
        | .taken u => .next u
        | .again u => .next u
        | .stopped u => .next (u.stopCore c)
    | none => .next s
  else if !k.takesEvents || s.evChoose l k.arch.pl ≠ some source || s.lvFull c 1 then .next s
  else if !k.canDrain then .next (s.awaitData c)
  else
    let s := s.drain c
    let k := s.core c
    if !k.traps.isEmpty || !k.mchecks.isEmpty then .next s
    else
      let lvl := s.evLevel source
      let count := s.rfld .evStat source 0 15 0
      let s := s.lvPush c { num := k.bnum, slot := 4, kind := .event, idx := 0, data := some (BitVec.ofNat 128 (lvl * 2 ^ 16 + source)), bad := false, kept := false }
      match s.enter c lvl { vector := 0x10, detail := 0, info := source } false false with
      | .taken t =>
        .next ((t.evTake l source).modCore c fun k => { k with fault := none, events := k.events ++ [(k.interval, source, count)] })
      | .again t => .next (t.modPair (t.pairOf c) fun p => { p with lvq := p.lvq.filter fun e => !(e.kind == .event && e.num == k.bnum) })
      | .stopped t => .next (t.stopCore c)

/-- The shadow's completions of this boundary, from the queue (R256). -/
def State.shadowCompl (s : State) (n : Nat) : Nat → State
  | 0 => s
  | k + 1 =>
    match s.boundaryEntry n with
    | some e =>
      if e.kind = .compl then
        ((s.lvPop n).modCore n fun c =>
          { c with popped := [], arch := c.arch.write ⟨.tally e.idx, e.data.getD 0⟩ }).shadowCompl n k
      else s
    | none => s

/-- COMPLETION_APPLY: all completions that have reached the boundary are applied together; a TWAIT whose tally is
DONE goes on (R52, R54, R260, R269). -/
def execCompletionApply (c : Nat) (s : State) : Out :=
  let k := s.core c
  if !s.atBoundary c then .next s
  else if s.part c = .shadow then .next (s.shadowCompl c 16)
  else
    let app := k.applicable
    if app.isEmpty || s.lvFull c app.length then .next s
    else
      let a := app.foldl (fun (a : Arch) x => a.write ⟨.tally x.1, x.2.setWidth 128⟩) k.arch
      let fz := match k.freeze with
        | some (.tally t) => if a.rt t = tallyPending then some (Freeze.tally t) else none
        | f => f
      let s := s.setCore c { k with arch := a, freeze := fz, arrived := k.arrived.filter fun x => !app.contains x,
                                    applied := k.applied ++ app.map fun x => (k.interval, x.1, x.2) }
      .next (app.foldl (fun s x => s.lvPush c { num := k.bnum, slot := 4, kind := .compl, idx := x.1, data := some (x.2.setWidth 128), bad := false, kept := false }) s)

/-- WFE_WAKE: an event presented to a clock-gated core, whether or not it may be accepted, or a completion for one
of its tallies, ends the gating (R83). -/
def execWfeWake (c : Nat) (s : State) : Out :=
  let k := s.core c
  .next (if k.gated ∧ (s.anyPresented (s.logical c) ∨ k.arrived ≠ []) ∧ s.lstate (s.logical c) = 0 ∧ s.foldRuns (foldOf c) then
    s.setCore c { k with gated := false } else s)

/-- The confirmed snapshot of a logical core. -/
def State.snap (s : State) (l : Nat) : Arch := tget Arch.reset s.snapC l

/-- A completion word reaches logical core `l`: it waits at the core for a boundary; where the logical core is
interrupted or stopped it goes into the confirmed snapshot's tally, if that reads PENDING (R52, R276, R282). -/
def State.deliver (s : State) (l tally : Nat) (word : Word) : State :=
  let a := s.snap l
  if s.lstate l ≠ 0 ∧ a.rt tally = tallyPending then { s with snapC := tins s.snapC l (a.write ⟨.tally tally, word.setWidth 128⟩) }
  else match s.coresOf l with
    | n :: _ => s.modCore n fun c => { c with arrived := c.arrived ++ [(tally, word)] }
    | [] => s

/-- Completions that wait at the cores of a logical core that does not run go into its snapshot (R276, R282). -/
def State.park (s : State) (l : Nat) : State :=
  match s.coresOf l with
  | n :: _ =>
    let words := (s.core n).arrived
    words.foldl (fun s x => s.deliver l x.1 x.2) (s.modCore n fun c => { c with arrived := [] })
  | [] => s

/-- A request completes: its word is delivered and the partition's count of requests in flight falls (R52, R525). -/
def State.complete (s : State) (r : Request) (status detail : Nat) : State :=
  let s := s.rmod .ptInfl r.res 0 fun v => BitVec.ofNat 64 (v.toNat - 1)
  s.deliver r.core r.tally (BitVec.ofNat 64 (status * 2 ^ 48 + detail % 2 ^ 48))

/-- RESERVED_FIELD_COMPLETION: a descriptor accepted in spite of a reserved value completes with STATUS
RESERVED_FIELD (R108). -/
def execReservedFieldCompletion (c : Nat) (tn : Nat) (s : State) : Out :=
  match s.rfield.find? fun (r : Request) => decide (r.core = c) && decide (r.tally = tn) with
  | some r => .next (({ s with rfield := delFirst (fun x => x == r) s.rfield }).complete r 1 0)
  | none => .next s

/-! ### Cached translations removed (R168, R169) -/

/-- The cores whose cached translations a write to the pages of core `n` concerns (R173, R277). -/
def State.xinvCores (s : State) (n : Nat) : List Nat := n :: (s.coresOf (s.pageOf n)).filter fun m => m != n

/-- Cached first-stage translations removed from the cores of a page. -/
def State.xinv (s : State) (n : Nat) (p : TlbE → Bool) : State :=
  (s.xinvCores n).foldl (fun s m => s.modCore m fun c => { c with tlb := c.tlb.filter fun t => !p t }) s

/-- FC_XINVA1 and FC_XINVA2 take effect (R168). -/
def State.xinva (s : State) (n : Nat) (p2 : Bool) (v : Word) : State :=
  let va := fld v 47 12 * 4096
  s.xinv n fun t => t.p2 == p2 && decide (va / 2 ^ (12 + 9 * t.lvl) = t.vpn) && (p2 || t.glob || flag v 63 || decide (t.space = fld v 59 48))

/-- FC_XINVALL1 and FC_XINVALL2 take effect (R169). -/
def State.xinvall (s : State) (n : Nat) (p2 : Bool) (v : Word) : State :=
  let scope := fld v 1 0
  s.xinv n fun t =>
    if p2 then (if scope = 1 then t.p2 else true)
    else !t.p2 && (if scope = 1 then !t.glob && decide (t.space = fld v 59 48) else if scope = 2 then !t.glob else true)

end Sys2Proof.Machine
end

