-- ==== Sys2Proof/Machine/Gather.lean ====
section
/-! DEFINITION. Merging entries that close and move, gathers (mark and confirm), and the release of held entries (04, R174 to R182; 06, R263 to R269). -/

namespace Sys2Proof.Machine

open Sys2Proof

/-! ### Merging entries -/

/-- MERGE_ENTRY_TIMEOUT: an OPEN entry closes after 16 issue cycles without a store to it (R176). -/
def execMergeEntryTimeout (c k : Nat) (s : State) : Out :=
  let x := s.core c
  match x.merge[k]? with
  | some e =>
    if e.closed.isNone ∧ e.age + 16 ≤ x.cyc then
      .next (s.setCore c { x with merge := x.merge.set k { e with closed := some x.closes }, closes := x.closes + 1 })
    else .next s
  | none => .next s

/-- A move is under way only between bundles or once the whole bundle has issued: a fault at issue takes no move
back (R59). -/
def Core.mayMove (c : Core) : Bool :=
  match c.bundle with
  | some b => decide (4 ≤ b.next)
  | none => true

/-- A freeze for the moves ends when they are done (R175, R98, R232). -/
def Core.moved (c : Core) : Core :=
  match c.freeze with
  | some .mergeFull => if c.merge.length < mergeSize then { c with freeze := none } else c
  | some (.maint line) => if c.merge.any (fun e => e.line == line) then c else { c with freeze := none }
  | _ => c

/-- MERGE_ENTRY_MOVE: the oldest CLOSED entry moves into the held entries in 2 cycles (R175). -/
def execMergeEntryMove (c : Nat) (s : State) : Out :=
  let x := s.core c
  if !x.mayMove || s.power.trip || (oldestClosed x.merge).isNone then .next s
  else
    let t := s.moveOne c
    let t := if x.freeze.isSome then t.freezeCycles c 2 else t
    .next (t.modCore c Core.moved)

/-! ### The mark (R263, R264) -/

/-- Whether a flight is that of a held access of the bundle before this boundary, which the mark precedes (R181). -/
def Core.heldNow (c : Core) (f : Flight) : Bool := f.held && f.num + 1 == c.bnum

/-- The words of a held access still in flight, folded at the mark: the comparison covers its address and data
(R181). -/
def Core.signHeld (c : Core) (sg : Bool) : Core :=
  let rest := c.flights.filter fun f => f.held
  let q := rest.foldl (fun q f => if sg then sigIns f.num (f.slot + 1) (f.sigPre ++ f.sigPost) q else q) c.sigq
  let quiet := fun (f : Flight) => if f.held then { f with sigPre := [], sigPost := [] } else f
  { c with sigq := q, flights := c.flights.map quiet }

/-- The conditions due at a core's boundary. -/
def Core.due (c : Core) : Due := { call := c.call, traps := c.traps, mchecks := c.mchecks }

/-- The signature captured and reset, the bundle count with it, and the next interval begun (R264, step 4). -/
def Core.capture (c : Core) (cause : GCause) (ev : List Word) : Core :=
  { c with mark := some { cause := cause, num := c.bnum, interval := c.interval, closes := c.closes, sig := sigOf c.sigq,
                          due := c.due, ev := ev },
           sigq := [], bcnt := 0, interval := c.interval + 1,
           gdue := if c.hnext.isEmpty then none else some .held }

/-- What the snapshot of a core's registers holds: no held access is recorded with a new gather (R182, R268). -/
def Core.snapshot (c : Core) : Arch := { c.arch with hrec := 0, hval := 0 }

/-- Whether a core may take its mark now: at a boundary, its state that of a RUNNING logical core, and no other
freeze under way than one that the gather itself ends or that a boundary interrupts. -/
def Core.markable (c : Core) : Bool :=
  c.bundle.isNone && c.mark.isNone && (match c.freeze with
    | some .cctlDrain => false
    | some (.maint _) => false
    | _ => true)

/-- The mark of the bellwether or of a single core (R264). -/
def State.markLead (s : State) (n : Nat) (cause : GCause) : State :=
  let l := s.logical n
  let s := (s.drain n).modCore n Core.closeAll
  let s := s.moveAll n mergeSize
  let c := (s.core n).signHeld (s.signs n)
  let ev := s.evNow l
  let c := { c.capture cause ev with freeze := if cause.waits then some .gather else none }
  { s.setCore n c with snapP := tins s.snapP l c.snapshot }

/-- The mark of the shadow: it drains and captures its signature (R264). -/
def State.markShadow (s : State) (n : Nat) : State :=
  let s := (s.core n).flights.foldl (fun s f => if f.ready then s else (s.shadowFill n f).getD s) s
  let late := (s.core n).flights.any fun f => !f.ready && !(s.core n).heldNow f
  if late then s
  else
    let s := s.drain n
    s.modCore n fun c => { (c.signHeld (s.signs n)).capture .interval [] with freeze := none }

/-- The next held access of a core, once the one before it is answered. -/
def Core.promote (c : Core) : Core :=
  match c.hnext with
  | h :: hs => if c.heldBusy then c else { c with hacc := some h, hnext := hs }
  | [] => c

/-- Whether a held access waits for one that is being performed: its gather waits too (R181). -/
def Core.heldAhead (c : Core) : Bool :=
  !c.hnext.isEmpty && c.heldBusy && (match c.hacc with
    | some h => h.phase != .issued && h.phase != .next
    | none => false)

/-- GATHER_MARK: where a gather is due at this boundary the core takes its mark; where an earlier gather is not
confirmed or still releases, or data has not arrived, the core freezes (R264, R266). -/
def execGatherMark (c : Nat) (s : State) : Out :=
  let x := s.core c
  if s.lstate (s.logical c) ≠ 0 then .next s
  else match s.part c with
  | .idle => .next s
  | .shadow => if s.shadowMarkDue c && x.bundle.isNone then .next (s.markShadow c) else .next s
  | _ =>
    match x.gdue with
    | none => .next s
    | some cause =>
      let x := x.promote
      if x.bundle.isSome || (cause == .command && x.excDue) then .next s
      else if !x.markable || !x.rel.isEmpty || x.heldAhead then
        .next (if x.freeze.isNone then s.setCore c { x with freeze := some .gather } else s)
      else if x.flights.any fun f => !f.ready && !x.heldNow f then .next (s.setCore c { x with freeze := some .data })
      else .next ((s.setCore c x).markLead c cause)

/-! ### Release of held entries (R177, R204, R221, R224, R227, R303) -/

/-- A machine check of a released store (R638). -/
def storeMcheck (code place info : Nat) : MCheck :=
  { code := code, store := true, async := false, place := place, info := info }

/-- A line of a fold cache held M or E takes a released entry: the line becomes M, and a whole line clears its
poison (R202, R204); the other cores' L1D copies go. -/
def State.foldStore (s : State) (n f w : Nat) (l : CLine) (d : BitVec 512) (m : BitVec 64) : State :=
  let l' := { l with st := .m, data := lineMerge l.data d m, hit := true, poison := l.poison && decide (m ≠ fullMask) }
  let s := (s.cset f l.line w l').plruUse f l.line w
  let s := s.mapCores (fun k => k / 9 == f && k != n) (fun c => c.dropL1d l.line)
  s.leaveWay f l.line w

/-- A fill with ownership begun for core `n`, where none of the line is in flight in its fold (R204, R206). -/
def State.wantOwn (s : State) (n line : Nat) (m : BitVec 64) : State :=
  let f := foldOf n
  if s.caches.fills.any (fun x => x.fold == f && x.line == line) then s
  else
    let held := (s.cfind f line).isSome
    let new : Fill := { fold := f, line := line, cls := s.classOf n, sent := none, waiters := [], served := none, install := true,
                        kind := if held then .upgrade else if m = fullMask then .ownNoData else .own }
    s.modCa fun c => { c with fills := c.fills ++ [new] }

/-- Whether a fold cache holds a line with write permission. -/
def State.owns (s : State) (f line : Nat) : Option (Nat × CLine) :=
  match s.cfind f line with
  | some (w, l) => if l.st == .s then none else some (w, l)
  | none => none

/-- The lowest byte that a mask of a line selects: where the stores of a released entry begin. -/
def maskLow (m : BitVec 64) : Nat := ((List.range 64).find? fun i => m.getLsbD i).getD 0

/-- The first entry of a core's release goes to its target (R177); false where it waits for ownership of its line. -/
def State.releaseOne (s : State) (n : Nat) (h : HEntry) : State × Bool :=
  let pa := h.line * 64 + maskLow h.mask
  let f := foldOf n
  match s.scratch pa with
  | some (k, b, _) =>
    let r := s.spWriteMask (bankAgent n) h.line h.data h.mask
    (if r.2 then r.1.modCore n fun c => { c with smchecks := c.smchecks ++ [storeMcheck 4 (16 * k + b) pa] } else r.1, true)
  | none =>
    match s.unbacked pa with
    | some wh => (s.modCore n fun c => { c with smchecks := c.smchecks ++ [storeMcheck 1 wh pa] }, true)
    | none =>
      if s.fcState f ≠ 1 then ((s.drainAhead f h.line).cohWriteMask h.line h.data h.mask, true)
      else match s.owns f h.line with
        | some (w, l) => ((s.foldStore n f w l h.data h.mask).bump .fcHits f, true)
        | none => (s.wantOwn n h.line h.mask, false)

/-- The release goes on as far as it can (R177, R266). -/
def State.pump (s : State) (n : Nat) : Nat → State
  | 0 => s
  | k + 1 =>
    match (s.core n).rel with
    | [] => s
    | h :: rest =>
      match s.releaseOne n h with
      | (s, true) => (s.modCore n fun c => { c with rel := rest }).pump n k
      | (s, false) => s

/-- The whole release of a core, as far as it can go. -/
def State.pumpAll (s : State) (n : Nat) : State := s.pump n ((s.core n).rel.length + 1)

/-- A core releases as soon as its release begins; a miss counts once (R245). -/
def State.startRelease (s : State) (n : Nat) : State :=
  let f := foldOf n
  let miss := (s.core n).rel.filter fun h => (s.scratch (h.line * 64)).isNone && s.fcState f == 1 && (s.owns f h.line).isNone
  (s.bump .fcMisses f 0 miss.length).pumpAll n

/-! ### The confirm (R265) -/

/-- Whether a held access issued before a mark; that of a frame push has the number of the bundle after it. -/
def HeldAcc.before (h : HeldAcc) (m : Mark) : Bool := decide (h.num < m.num) || (h.num == m.num && h.slot == 4)

/-- A core's part of a confirm: what was done before the mark is final. -/
def Core.confirm (c : Core) (m : Mark) : Core :=
  let left := (c.merge.filter fun e => decide (e.closed.getD m.closes < m.closes)).map fun e =>
    ({ line := e.line, epoch := e.epoch, data := e.data, mask := e.mask, interval := m.interval } : HEntry)
  { c with mark := none, kept := m.due, errs := 0,
           rel := c.rel ++ c.held.filter (fun h => decide (h.interval ≤ m.interval)) ++ left,
           held := c.held.filter (fun h => decide (m.interval < h.interval)),
           merge := c.merge.filter fun e => decide (m.closes ≤ e.closed.getD m.closes),
           events := c.events.filter (fun e => decide (m.interval < e.1)),
           applied := c.applied.filter (fun e => decide (m.interval < e.1)),
           waitRel := if m.cause.waits then some m.cause else none,
           hacc := match c.hacc with
             | some h => if h.phase = .issued ∨ h.phase = .next then (if h.before m then some { h with phase := .checked } else some h)
                 else if h.phase = .answered then none else some h
             | none => none,
           hnext := c.hnext.map fun h => if h.before m then { h with phase := .next } else h }

/-- GATHER_CONFIRM: the pair compares the captured signatures, or the check window of a single core ends. A confirmed
gather makes its snapshot the confirmed one and begins the release; signatures that differ are a mismatch (R258,
R265). -/
def execGatherConfirm (c : Nat) (s : State) : Out :=
  let l := s.logical c
  let x := s.core c
  let p := s.pairOf c
  if s.lstate l ≠ 0 ∨ s.power.trip ∨ (s.part c ≠ .bell ∧ s.part c ≠ .single) then .next s
  else match x.mark with
  | none => .next s
  | some m =>
    let other := (s.coresOf l).drop 1
    let marks := other.map fun d => (s.core d).mark
    if marks.any fun y => y.isNone || y.map Mark.num != some m.num then .next s
    else if marks.any fun y => y.map Mark.sig != some m.sig then
      .next (s.startRollback l 0 15 m.sig ((marks.findSome? fun y => y.map Mark.sig).getD 0))
    else
      let cfg := s.rget .pxCfg (p / 4) (p % 4)
      let s := { s with snapC := tins s.snapC l (tget Arch.reset s.snapP l) }
      let s := (c :: other).foldl (fun s n => s.modCore n fun k => match k.mark with
        | some y => k.confirm y
        | none => k) s
      let s := s.modCore l fun k => { k with evBase := m.ev }
      let s := s.modPair p fun q => { q with retried := false, givl := fld cfg 12 8, lag := fld cfg 4 0 }
      .next ((s.bump .pxGathers (p / 4) (p % 4)).startRelease c)

end Sys2Proof.Machine
end

