-- ==== Sys2Proof/Machine/Pairs.lean ====
section
/-! DEFINITION. Retry, self-test, spare substitution, the safe state, and the commands of the pair registers (06, R266, R270 to R291, R693). -/

namespace Sys2Proof.Machine

open Sys2Proof

/-! ### Ends of sequences -/

/-- A detection's sequence ends: PX_LOG records it under the first-record rule (R290). -/
def State.logEnd (s : State) (l result : Nat) : State :=
  let q := s.seq l
  match q.cause with
  | none => s
  | some cause =>
    let f := foldOf l
    let free := !s.rbit .pxLog f 0 63
    let s := s.record .pxLog f 0 (l % 9 / 2 * 2 ^ 60 + cause * 2 ^ 57 + q.named * 2 ^ 53 + result * 2 ^ 50)
    let s := if free then
        ((s.rset .pxLogpc f 0 (BitVec.ofNat 64 ((s.snap l).pc / 16 * 16))).rset .pxLogsigB f 0 (if cause = 0 then q.sigB else 0)).rset
          .pxLogsigS f 0 (if cause = 0 then q.sigS else 0)
      else s
    s.modSeq l fun q => { q with cause := none, named := 15, sigB := 0, sigS := 0 }

/-- A logical core leaves what it was doing: its cores issue nothing, and completions go to its snapshot (R276,
R282). -/
def State.halt (s : State) (l v : Nat) : State :=
  let s := (s.coresOf l).foldl (fun s n => s.modCore n Core.abandon) s
  let s := s.modPair (4 * foldOf l + l % 9 / 2) fun q => if s.paired (4 * foldOf l + l % 9 / 2) then { q with lvq := [], fetched := [] } else q
  (s.setLstate l v).park l

/-- The safe state (R282). -/
def State.enterSafe (s : State) (l : Nat) : State :=
  let s := (s.halt l 5).raise (1602 + 8 * foldOf l)
  (s.modSeq l fun q => { q with copy := none, test := none, cmds := [] }).logEnd l 3

/-- A double-bit error found in a confirmed snapshot at an offset of its slot (R693). -/
def State.snapFails (s : State) (l off : Nat) : State :=
  let p := 4 * foldOf l + l % 9 / 2
  let s := s.modPair p fun q => { q with snapBad := (l, off / 8 * 8) :: q.snapBad.filter fun x => x != (l, off / 8 * 8) }
  let s := s.modSeq l fun q => { q with cause := some 3, named := 15, sigB := 0, sigS := 0 }
  (s.enterSafe l).strike 1 p

/-- A core loaded with a snapshot's registers: nothing in flight, caches and translations empty, DINV and IINV 1
(R277, steps 2 and 3). -/
def Core.load (c : Core) (a : Arch) : Core :=
  { Core.reset with arch := a.setCr 9 (setFlag (setFlag (a.cr 9) 3 true) 2 true), cyc := c.cyc, timebase := c.timebase,
                    bnum := c.bnum, interval := c.interval, rel := c.rel, smchecks := c.smchecks, arrived := c.arrived,
                    hacc := c.hacc, hnext := c.hnext, kept := c.kept, evBase := c.evBase, lstate := c.lstate, tested := c.tested }

/-- The destination of a held access. -/
def HeldAcc.destOf (h : HeldAcc) : Dest := if h.isF then .f h.dest else .g h.dest

/-- Whether a held access returns a value. -/
def HKind.valued : HKind → Bool
  | .load _ | .swap | .fadd | .cas _ | .submit _ => true
  | _ => false

/-- What a held access writes when its value is there: the register, and a tally that becomes PENDING where a SUBMIT
was accepted (R51). -/
def HeldAcc.writes (h : HeldAcc) : List RegWrite :=
  ⟨h.destOf, BitVec.ofNat 128 h.value⟩ :: (match h.kind with
    | .submit t => if h.value = 0 then [⟨.tally t, tallyPending.setWidth 128⟩] else []
    | _ => [])

/-- HREC of a held access whose value has arrived (R291). -/
def HeldAcc.record (h : HeldAcc) : Word :=
  let (tv, t) : Bool × Nat := match h.kind with
    | .submit t => (decide (h.value = 0), if h.value = 0 then t else 0)
    | _ => (false, 0)
  BitVec.ofNat 64 (2 ^ 63 + bnat h.isF * 2 ^ 62 + h.dest % 64 * 2 ^ 56 + bnat tv * 2 ^ 55 + t * 2 ^ 51)

/-- The writes that a recorded value stands for. -/
def Arch.recorded (a : Arch) : List RegWrite :=
  if flag a.hrec 63 then
    ⟨if flag a.hrec 62 then .f (fld a.hrec 61 56) else .g (fld a.hrec 61 56), a.hval⟩
      :: (if flag a.hrec 55 then [⟨.tally (fld a.hrec 54 51), tallyPending.setWidth 128⟩] else [])
  else []

/-- The flight of a held access after a rollback: its value lands at its latency after issue resumes (R271). -/
def Core.recall (c : Core) (ws : List RegWrite) (ready lvq : Bool) (dest : Dest) (subm : Option Nat) : Core :=
  let f : Flight :=
    { num := c.bnum - 1, addr := 0, slot := 2, due := c.cyc + 2, writes := ws, flags := 0, trap := none, mcheck := none,
      ready := ready, cwr := none, need := some { segs := [], signed := false, dest := dest }, sigPre := [], sigPost := [],
      held := true, lvq := lvq, act := none, subm := subm }
  { c with flights := [f] }

/-- The held access that a rolled-back logical core has performed, or is performing, in flight again (R182, R271). -/
def State.recallHeld (s : State) (l : Nat) : State :=
  match s.coresOf l with
  | [] => s
  | n :: others =>
    let c := s.core n
    let paired := !others.isEmpty
    let kind : LvKind := .load
    let again := fun (s : State) (ws : List RegWrite) (ready : Bool) (dest : Dest) (subm : Option Nat) (slot : Nat) =>
      let set := fun (k : Core) => { k with flights := k.flights.map fun f => { f with slot := slot } }
      let s := s.modCore n fun k => set (k.recall ws ready paired dest subm)
      let s := others.foldl (fun s d => s.modCore d fun k => set (k.recall [] false false dest subm)) s
      s.lvPush n { num := c.bnum - 1, slot := slot, kind := kind, idx := 0, data := none, bad := false, kept := false }
    match (s.snap l).recorded, c.hacc with
    | w :: ws, _ => again s (w :: ws) true w.dest (match ws with
        | ⟨.tally t, _⟩ :: _ => some t
        | _ => none) 2
    | [], some h =>
      if h.kind.valued then
        again s [] false h.destOf (match h.kind with
          | .submit t => some t
          | _ => none) h.slot
      else s
    | [], none => s

/-- A logical core restored from its confirmed snapshot by a rollback (R270, steps 4 to 6; R61; R575). -/
def State.restore (s : State) (l : Nat) : State :=
  let a := s.snap l
  let ns := s.coresOf l
  let num := (ns.head?.map fun n => (s.core n).bnum).getD 0
  let back := fun (c : Core) =>
    { c with arch := { a with hrec := 0, hval := 0 }, bnum := num, arrived := c.applied.map (fun x => (x.2.1, x.2.2)) ++ c.arrived, applied := [], events := [],
             call := c.kept.call, traps := c.kept.traps, mchecks := c.kept.mchecks, interval := c.interval + 1 }
  let evs := (ns.head?.map fun n => (s.core n).events.map fun e => (e.2.1, e.2.2)).getD []
  let s := ns.foldl (fun s n => s.modCore n back) s
  let s := s.evRestore l evs
  match ns with
  | n :: _ => (s.core n).mchecks.foldl (fun s m => s.lvPush n (mcEntry num m)) s
  | [] => s

/-- Issue resumes from the confirmed gather (R273, R281). -/
def State.resume (s : State) (l result : Nat) : State :=
  let s := (s.modSeq l fun q => { q with copy := none, test := none }).logEnd l result
  let s := (s.setLstate l 0).recallHeld l
  match s.coresOf l with
  | n :: _ =>
    let s := s.modCore n fun c => if c.heldWaits then { c with gdue := some .held } else c
    if (s.seq l).cmds.isEmpty then s else s.armCommands l
  | [] => s

/-- A core that failed its self-test: a strike, and lame if it is not already (R630, R643). -/
def State.testFails (s : State) (n : Nat) : State :=
  let s := s.strike 0 n
  let s := s.modCore n fun c => { c with tested := false }
  if s.lame n then s
  else
    let s := s.rput .ftCnt 0 n 63 63 1
    (s.rmod .ftStat 0 0 fun w => setFld w 15 0 (fld w 15 0 + 1)).raise 33

/-- A paired logical core goes on with one core out of action: the spare takes its role, or the pair degrades, or it
enters the safe state (R273, R632); `result` of the log only for a detection. -/
def State.replaceCore (s : State) (l role : Nat) : State :=
  let f := foldOf l
  let p := 4 * f + role / 2
  if s.spareFree f then s.startCopy l { role := role, ret := false, mgr := false, stopped := false }
  else if s.paired p then
    if s.degraded p ∨ s.rbit .pxCfg f (role / 2) 17 then s.enterSafe l
    else
      let s := (s.rput .pxStat f (role / 2) 60 60 1).modPair p fun q => { q with alone := some (1 - role % 2), lvq := [], fetched := [], retried := false }
      (s.raise (1601 + 8 * f)).resume l 2
  else s.enterSafe l

/-- The self-test of a struck pair is over: LEVEL, WARNED and the accumulator return to 0 (R631, R632). -/
def State.unstrike (s : State) (p : Nat) : State :=
  if (s.pair p).struck then
    let s := s.modPair p fun q => { q with struck := false }
    let s := s.rmod .ftCnt 1 p fun v => setFlag (setFld v 31 0 0) 62 false
    { s with strikeAcc := tdel s.strikeAcc (65536 + p) }
  else s

/-! ### The end of a release (R266, R288, R632) -/

/-- A STOPPED logical core with something left to do: a substitution or a return that R288 allows there too, or the
self-test of R632. -/
def State.afterStop (s : State) (l : Nat) : State :=
  let f := foldOf l
  let q := (s.seq l).cmds
  let s := s.modSeq l fun q => { q with cmds := [] }
  let copy := fun (role : Nat) (ret : Bool) => s.startCopy l { role := role, ret := ret, mgr := true, stopped := true }
  if q.contains 3 && s.spareFree f then copy (l % 9 / 2 * 2) false
  else if q.contains 4 && s.spareFree f then copy (l % 9 / 2 * 2 + 1) false
  else if q.contains 5 && (s.spareFor f).isSome then copy ((s.spareFor f).getD 0) true
  else if q.contains 6 then (s.modSeq l fun q => { q with test := some 4 }).setLstate l 2
  else s

/-- What is left to do after one of them: a gather falls due for it where the logical core runs (R288, R632). -/
def State.goOn (s : State) (l : Nat) : State :=
  if (s.seq l).cmds.isEmpty then s
  else if s.lstate l = 0 then s.armCommands l
  else if s.lstate l = 4 then s.afterStop l
  else s

/-- What a command's gather leads to, once it is confirmed and released. -/
def State.afterGather (s : State) (l cmd : Nat) : State :=
  let f := foldOf l
  let role := match s.spareFor f with
    | some c => c
    | none => 0
  match cmd with
  | 1 => (s.halt l 4).raise (1603 + 8 * f)
  | 3 => if s.spareFree f then s.startCopy l { role := l % 9 / 2 * 2, ret := false, mgr := true, stopped := false } else s
  | 4 => if s.spareFree f then s.startCopy l { role := l % 9 / 2 * 2 + 1, ret := false, mgr := true, stopped := false } else s
  | 5 => if (s.spareFor f).isSome then s.startCopy l { role := role, ret := true, mgr := true, stopped := false } else s
  | 6 => (s.modSeq l fun q => { q with test := some 0 }).setLstate l 2
  | 7 =>
    match (s.coresOf l).find? s.lame with
    | some n =>
      if s.spareFree f ∨ s.paired (4 * f + l % 9 / 2) then s.replaceCore l ((s.roleOf n).getD 0) else s
    | none => s
  | _ => s

/-- RELEASE_ACKNOWLEDGED: every released entry is acknowledged; the core of a waiting gather goes on, after `cycles`
of freeze, and the core of a WFE is gated where no exception is due at its boundary (R61, R65, R83, R181, R263, R266). -/
def execReleaseAcknowledged (c cycles : Nat) (s : State) : Out :=
  let x := s.core c
  match x.waitRel with
  | none => .next s
  | some cause =>
    if !x.rel.isEmpty ∨ x.mark.isSome then .next s
    else
      let l := s.logical c
      let f := foldOf c
      let s := s.freezeCycles c cycles
      let s := s.modCore c fun k => { k with waitRel := none, freeze := if k.freeze = some .gather then none else k.freeze,
                                             twaited := k.twaited || cause == .twait, gated := k.gated || (cause == .wfe && !k.excDue && k.smchecks.isEmpty) }
      if cause = .stop then .next (((s.halt l 4).raise (1603 + 8 * f)).goOn l)
      else match (s.seq l).cmds with
      | [] => .next s
      | cmd :: rest =>
        let idle := !x.heldBusy && x.hnext.isEmpty
        if idle && x.kept == Due.none then .next (((s.modSeq l fun q => { q with cmds := rest }).afterGather l cmd).goOn l)
        else .next (s.modCore c fun k => { k with gdue := some (k.gdue.getD .command) })

/-- HELD_ACCESS_RESPONSE: the value of a held access arrives; it is recorded for retries and its flight completes
(R181, R182, R43). -/
def execHeldAccessResponse (c cycles : Nat) (s : State) : Out :=
  let x := s.core c
  match x.hacc with
  | none => .next s
  | some h =>
    if h.phase ≠ .done then .next s
    else
      let l := s.logical c
      let mine := fun (f : Flight) => f.held && f.num == h.num && f.slot == h.slot
      let give := fun (f : Flight) => { f with ready := true, mcheck := h.mcheck, writes := if h.mcheck.isSome then [] else h.writes }
      let late := x.flights.find? fun f => mine f && decide (f.due < x.cyc)
      let k := { x with hacc := some { h with phase := .answered }, flights := updFirst mine give x.flights,
                        kept := match h.mcheck with
                          | some m => { x.kept with mchecks := x.kept.mchecks ++ [m] }
                          | none => x.kept,
                        freeze := if x.freeze = some .data then none else x.freeze }
      let s := s.setCore c k
      let s := if h.mcheck.isSome || !h.kind.valued then s
        else { s with snapC := tins s.snapC l { s.snap l with hrec := h.record, hval := BitVec.ofNat 128 h.value } }
      let s := if x.freeze = some .data then s.freezeCycles c cycles else s
      .next (match late with
        | some f => s.landAt c f.due
        | none => s)

/-! ### Detections -/

/-- STALL_DETECT: the shadow of a pair has issued nothing for 4,096 fold cycles while it lags (R258). -/
def execStallDetect (f j : Nat) (s : State) : Out :=
  let p := 4 * f + j
  let l := 9 * f + 2 * j
  .next (if s.paired p ∧ ¬ s.degraded p ∧ s.lstate l = 0 ∧ 0 < s.lagOf l ∧ f < 24 ∧ j < 4 then s.startRollback l 2 15 0 0 else s)

/-- CHECKER_ERROR: a checker of physical core `c` reports an error (R275, R280, R281). -/
def execCheckerError (c : Nat) (s : State) : Out :=
  let l := s.logical c
  if s.part c = .idle ∨ s.lstate l ≠ 0 ∨ 216 ≤ c then .next s
  else
    let s := s.modCore c fun k => { k with errs := k.errs + 1 }
    .next (s.startRollback l 3 (c % 9) 0 0)

/-! ### Ends of rollback, self-test and copy -/

/-- ROLLBACK_COMPLETE of logical core `l`; `dbe` names a snapshot word found with a double-bit error (R270, R273,
R274, R281, R693). -/
def execRollbackComplete (l : Nat) (dbe : Option Nat) (s : State) : Out :=
  if s.lstate l ≠ 1 then .next s
  else
    let f := foldOf l
    let p := 4 * f + l % 9 / 2
    let s := s.bump .pxRollbacks f (l % 9 / 2)
    match dbe with
    | some off => .next (s.snapFails l off)
    | none =>
      let s := s.restore l
      let q := s.pair p
      let halts := s.rbit .pxCfg f (l % 9 / 2) 18
      let test := fun (s : State) => (s.modSeq l fun q => { q with test := some 0 }).setLstate l 2
      if s.paired p && !s.degraded p then
        .next (if q.struck then test s else if halts || q.retried then s.enterSafe l else test s)
      else
        let errs := ((s.coresOf l).head?.map fun n => (s.core n).errs).getD 0
        .next (if 3 ≤ errs then s.enterSafe l
          else if q.struck then test s
          else if errs ≤ 1 then s.resume l 4
          else if halts then s.enterSafe l else test s)

/-- The outcome of the self-test of one single-mode logical core, or of a pair's one core (R281, R632). -/
def State.testedAlone (s : State) (l n : Nat) (pass : Bool) : State :=
  if pass then s.resume l 0
  else
    let s := s.testFails n
    let s := s.modSeq l fun q => { q with named := if q.cause = some 3 then q.named else n % 9 }
    s.replaceCore l ((s.roleOf n).getD (n % 9))

/-- SELFTEST_COMPLETE of pair j of fold f: what the tests of its two cores decide (R273, R281, R288, R632). -/
def execSelftestComplete (f j : Nat) (passA passB : Bool) (s : State) : Out :=
  let p := 4 * f + j
  let ls := (s.logicalsOf p).filter fun l => s.lstate l = 2
  let nA := s.physOf f (2 * j)
  let passOf := fun (n : Nat) => if n = nA then passA else passB
  if ls.isEmpty ∨ (s.logicalsOf p).any (fun l => (s.coresOf l).any fun _ => (s.seq l).cmds.contains 6) then .next s
  else
    let one := fun (s : State) (l : Nat) =>
      let ns := s.coresOf l
      let bad := ns.filter fun n => !s.lame n && !passOf n
      match (s.seq l).test with
      | some 0 =>
        (match ns with
         | [a, b] =>
           let fails := [a, b].filter fun n => !passOf n
           (match fails with
            | [] =>
              let hit := (s.seq l).cause.isSome
              (s.modPair p fun q => { q with retried := q.retried || hit }).resume l 0
            | [n] =>
              let s := s.testFails n
              let s := s.modSeq l fun q => { q with named := if q.cause = some 3 then q.named else n % 9 }
              s.replaceCore l ((s.roleOf n).getD 0)
            | _ =>
              let s := (s.testFails a).testFails b
              (s.modSeq l fun q => { q with named := if q.cause = some 3 then q.named else min (a % 9) (b % 9) }).enterSafe l)
         | n :: _ => s.testedAlone l n (passOf n)
         | [] => s)
      | some 6 => ((bad.foldl State.testFails s).modSeq l fun q => { q with test := none }).setLstate l 4
      | some st => ((bad.foldl State.testFails s).modSeq l fun q => { q with test := none }).setLstate l st
      | none => s
    let manual := ls.any fun l => (s.seq l).test = some 6
    let s := (ls.foldl one s).unstrike p
    .next (if manual then s.raise (1603 + 8 * f) else s)

/-- SPARE_STATE_COPY_COMPLETE of logical core `l`: the spare, or the core handed back to, has been loaded from the
confirmed snapshot and takes the role (R277, R279, R693). -/
def execSpareStateCopyComplete (l : Nat) (dbe : Option Nat) (s : State) : Out :=
  match (s.seq l).copy with
  | none => .next s
  | some cp =>
    let f := foldOf l
    let old := s.physOf f cp.role
    let new := if cp.ret then 9 * f + cp.role else 9 * f + 8
    if s.lstate l ≠ 3 ∨ !(s.core old).rel.isEmpty then .next s
    else match dbe with
    | some off => .next (s.snapFails l off)
    | none =>
      let a := s.snap l
      let lead := cp.role = ((s.coresOf l).head?.bind s.roleOf).getD cp.role
      let oldCore := s.core old
      let others := (s.coresOf l).filter fun n => n != old
      let cur := s.rfld .ptCore old 0 24 16
      let s := s.rset .pxSpare f 0 (if cp.ret then 0 else BitVec.ofNat 64 (2 ^ 63 + bnat cp.mgr * 2 ^ 61 + cp.role))
      let s := s.rput .ptCore new 0 24 16 cur
      let s := s.modCore new fun c =>
        let k := { c with rel := [], hacc := if lead then oldCore.hacc else none,
                          hnext := if lead then oldCore.hnext else [], arrived := if lead then oldCore.arrived else [],
                          kept := oldCore.kept, smchecks := oldCore.smchecks, bnum := oldCore.bnum, interval := oldCore.interval }
        { k.load { a with hrec := 0, hval := 0 } with call := oldCore.kept.call, traps := oldCore.kept.traps, mchecks := oldCore.kept.mchecks }
      let s := s.modCore old fun c => { c.load c.arch with hacc := none, hnext := [], arrived := [], kept := Due.none, smchecks := [] }
      let s := others.foldl (fun s n => s.modCore n fun c => { c with arch := { a with hrec := 0, hval := 0 } }) s
      let p := 4 * f + cp.role / 2
      let s := if s.degraded p ∧ (s.pair p).alone ≠ some (cp.role % 2) then
          (s.rput .pxStat f (cp.role / 2) 60 60 0).modPair p fun q => { q with alone := none }
        else s
      let s := s.raise (1601 + 8 * f)
      .next (if cp.stopped then ((s.modSeq l fun q => { q with copy := none }).setLstate l 4) else s.resume l 1)

/-! ### PX_CTL (R286, R288) -/

/-- Whether FT_CTEST runs its test on a core (R643). -/
def State.ctestOn (s : State) (n : Nat) : Bool := s.rbit .ftCtstat 0 0 63 && decide (s.rfld .ftCtstat 0 0 7 0 = n)

/-- START of a logical core: its cores are loaded from the confirmed snapshot, their partition is latched, and it
runs (R277, R285, R288, R526, R576, R643). -/
def State.startLogical (s : State) (l : Nat) : State :=
  let f := foldOf l
  let j := l % 9 / 2
  let p := 4 * f + j
  let rejoin := s.paired p && s.degraded p &&
    !s.lame (s.physOf f (2 * j + (1 - (s.pair p).alone.getD 0)))
  let s := if rejoin then (s.rput .pxStat f j 60 60 0).modPair p fun q => { q with alone := none } else s
  let a := s.snap l
  let ns := s.coresOf l
  let num := (ns.head?.map fun n => (s.core n).bnum).getD 0
  let s := ns.foldl (fun s n => s.modCore n fun c =>
    { c.load { a with hrec := 0, hval := 0 } with hacc := none, hnext := [], kept := Due.none, arrived := [], bnum := num }) s
  let n0 := s.physOf f (l % 9)
  let s := s.rput .ptCore n0 0 24 16 (s.rfld .ptCore n0 0 8 0)
  let cfg := s.rget .pxCfg f j
  let s := s.modPair p fun q => if s.paired p then { q with lvq := [], fetched := [], retried := false, givl := fld cfg 12 8, lag := fld cfg 4 0 }
    else { q with givl := fld cfg 12 8, lag := fld cfg 4 0 }
  ((s.modSeq l fun q => { q with cmds := [] }).evStart l).setLstate l 0

/-- A command written to PX_CTL of pair j of fold f (R288). -/
def State.pxCommand (s : State) (f j cmd : Nat) : State :=
  let p := 4 * f + j
  let ls := s.logicalsOf p
  let rej := s.rput .pxStat f j 55 55 1
  let ok := s.rput .pxStat f j 55 55 0
  let subst := fun (role : Nat) =>
    let l := s.logicalOf f role
    if !s.spareFree f || s.ctestOn (9 * f + 8) then rej
    else if s.lstate l = 0 then ok.commandDue l (3 + role % 2)
    else if s.lstate l = 4 then ok.startCopy l { role := role, ret := false, mgr := true, stopped := true }
    else rej
  match cmd with
  | 0 => ok
  | 1 =>
    let run := ls.filter fun l => s.lstate l = 0
    if run.isEmpty then rej else run.foldl (fun s l => s.commandDue l 1) ok
  | 2 =>
    let may := ls.filter fun l => (s.lstate l = 4 || s.lstate l = 5) && !(s.pair p).snapBad.any (fun x => x.1 == l) && !(s.coresOf l).any s.ctestOn
    if may.isEmpty then rej else may.foldl State.startLogical ok
  | 3 => subst (2 * j)
  | 4 => subst (2 * j + 1)
  | 5 =>
    (match s.spareFor f with
     | some c =>
       let l := s.logicalOf f c
       if c / 2 ≠ j || s.lame (9 * f + c) || s.ctestOn (9 * f + c) then rej
       else if s.lstate l = 0 then ok.commandDue l 5
       else if s.lstate l = 4 then ok.startCopy l { role := c, ret := true, mgr := true, stopped := true }
       else rej
     | none => rej)
  | 6 =>
    if ls.all fun l => s.lstate l = 4 then
      ls.foldl (fun s l => (s.modSeq l fun q => { q with test := some 6 }).setLstate l 2) ok
    else rej
  | _ => s

/-- PX_LOG written with 1 in VLD: VLD, OVF and the four records are cleared (R290). -/
def State.pxLogClear (s : State) (f : Nat) : State :=
  (((s.rset .pxLog f 0 0).rset .pxLogpc f 0 0).rset .pxLogsigB f 0 0).rset .pxLogsigS f 0 0

/-- PX_STAT as it reads (R287). -/
def State.pxStatView (s : State) (f j : Nat) : Word :=
  let p := 4 * f + j
  let l0 := 9 * f + 2 * j
  let st := if s.paired p || s.lstate l0 ≠ 0 then s.lstate l0 else s.lstate (l0 + 1)
  let lame := fun (c : Nat) => s.lame (9 * f + c)
  let v := s.rget .pxStat f j
  let two := s.paired p && !s.degraded p
  let lead := ((s.coresOf l0).head?.map fun n => (s.core n).bcnt).getD 0
  BitVec.ofNat 64 (st * 2 ^ 61 + bnat (flag v 60) * 2 ^ 60 + bnat (decide (s.spareFor f = some (2 * j))) * 2 ^ 59
    + bnat (decide (s.spareFor f = some (2 * j + 1))) * 2 ^ 58 + bnat (lame (2 * j)) * 2 ^ 57 + bnat (lame (2 * j + 1)) * 2 ^ 56
    + bnat (flag v 55) * 2 ^ 55 + (if two then (s.pair p).lvq.length % 512 * 2 ^ 40 + s.lagOf l0 % 2048 * 2 ^ 29 else 0) + lead % 2 ^ 17)

/-- The commit of the four drafts of a fold (R285, R286); none where the agreement check fails. -/
def State.pxCommit (s : State) (f : Nat) : Option State :=
  let ok := fun (j : Nat) =>
    let v := s.rget .pxCfgD f j
    let usable := fun (c : Nat) => !s.lame (9 * f + c) || s.spareFor f == some c
    let stopped := (s.logicalsOf (4 * f + j)).all fun l => s.lstate l = 4
    (flag v 19 == flag (s.rget .pxCfg f j) 19 || stopped)
      && (!flag v 19 || (usable (2 * j) && usable (2 * j + 1))) && decide (64 * fld v 4 0 ≤ 2 ^ fld v 12 8)
  if [0, 1, 2, 3].all ok then
    some ([0, 1, 2, 3].foldl (fun s j =>
      let v := s.rget .pxCfgD f j
      let l1 := 9 * f + 2 * j + 1
      let changes := flag v 19 != flag (s.rget .pxCfg f j) 19
      let s := s.rset .pxCfg f j v
      if changes then
        let s := { s with snapC := tdel s.snapC l1 }
        let s := s.modPair (4 * f + j) fun q => { q with alone := none, retried := false, lvq := [], fetched := [], snapBad := q.snapBad.filter fun x => x.1 != l1 }
        (s.rput .pxStat f j 60 60 0).setLstate l1 4
      else s) s)
  else none

/-! ### PX_SNAP (R291, R693) -/

/-- What a slot's word at an offset is: its reader, its writer and whether it carries a reserved value. -/
structure SnapWord where
  get : Word
  set : Word → Arch
  bad : Word → Bool

/-- CTLW (R62). -/
def Arch.ctlw (a : Arch) : Word :=
  BitVec.ofNat 64 (bnat a.dv * 2 ^ 63 + bnat a.rn * 2 ^ 62 + (a.p / 2 * 2 + 1) % 256 * 2 ^ 16 + a.rcount % 2 ^ 16)

/-- A control register's word of a slot, with the bits it keeps. -/
def Arch.snapCr (a : Arch) (k : Nat) (mask : Word) (bad : Word → Bool := fun _ => false) : SnapWord :=
  ⟨a.cr k, fun v => a.setCr k (v &&& mask), bad⟩

/-- The word of a snapshot at an offset of its slot, none where nothing is assigned (R291). -/
def Arch.snapWord (a : Arch) (off : Nat) : Option SnapWord :=
  let ok : Word → Bool := fun _ => false
  let half := fun (v : Wide) (hi : Bool) (x : Word) => if hi then BitVec.ofNat 128 (v.toNat % 2 ^ 64 + x.toNat * 2 ^ 64)
    else BitVec.ofNat 128 (v.toNat / 2 ^ 64 * 2 ^ 64 + x.toNat)
  let part := fun (v : Wide) (hi : Bool) => if hi then (v >>> 64).setWidth 64 else v.setWidth 64
  if off % 8 ≠ 0 then none
  else if off < 0x200 then
    let n := off / 8
    some ⟨a.rg n, fun v => a.write ⟨.g n, v.setWidth 128⟩, ok⟩
  else if off < 0x400 then
    let n := (off - 0x200) / 16
    let hi := decide (off % 16 = 8)
    some ⟨part (a.rf n) hi, fun v => a.write ⟨.f n, half (a.rf n) hi v⟩, ok⟩
  else if 0x500 ≤ off ∧ off < 0x580 then
    let n := (off - 0x500) / 8
    some ⟨a.rt n, fun v => a.write ⟨.tally n, v.setWidth 128⟩, ok⟩
  else match off with
  | 0x400 => some ⟨BitVec.ofNat 64 a.pc, fun v => { a with pc := v.toNat / 16 * 16 }, ok⟩
  | 0x408 => some ⟨BitVec.ofNat 64 a.dpc, fun v => { a with dpc := v.toNat / 16 * 16 }, ok⟩
  | 0x410 => some ⟨a.ctlw, fun v => { a with dv := flag v 63, rn := flag v 62, p := fld v 23 16 / 2 * 2 + 1, rcount := fld v 15 0 },
      fun v => flag v 63 && decide (fld v 15 0 ≠ 0)⟩
  | 0x418 => some (a.snapCr 0 (cregMask 0) fun v => decide (fld v 23 22 = 3) || decide (5 ≤ fld v 12 10))
  | 0x420 => some (a.snapCr 1 (cregMask 1))
  | 0x428 => some (a.snapCr (spKey 0) (~~~0#64)) | 0x430 => some (a.snapCr (spKey 1) (~~~0#64)) | 0x438 => some (a.snapCr (spKey 2) (~~~0#64))
  | 0x440 => some (a.snapCr (bankKey 0 6) (cregMask 6)) | 0x448 => some (a.snapCr (bankKey 1 6) (cregMask 6))
  | 0x450 => some (a.snapCr (bankKey 2 6) (cregMask 6))
  | 0x458 => some (a.snapCr (bankKey 0 7) (cregMask 7)) | 0x460 => some (a.snapCr (bankKey 1 7) (cregMask 7))
  | 0x468 => some (a.snapCr (bankKey 2 7) (cregMask 7))
  | 0x470 => some (a.snapCr (bankKey 1 2) (cregMask 2)) | 0x478 => some (a.snapCr (bankKey 2 2) (cregMask 2))
  | 0x480 => some (a.snapCr (bankKey 1 3) (cregMask 3)) | 0x488 => some (a.snapCr (bankKey 2 3) (cregMask 3))
  | 0x490 => some (a.snapCr (bankKey 1 4) (cregMask 4)) | 0x498 => some (a.snapCr (bankKey 2 4) (cregMask 4))
  | 0x4A0 => some (a.snapCr (bankKey 1 5) (cregMask 5)) | 0x4A8 => some (a.snapCr (bankKey 2 5) (cregMask 5))
  | 0x4B0 => some (a.snapCr 9 0xF)
  | 0x4B8 => some ⟨a.hrec, fun v => { a with hrec := v &&& 0xFFF8000000000000 }, fun v => flag v 62 && decide (31 < fld v 61 56)⟩
  | 0x4C0 => some ⟨part a.hval false, fun v => { a with hval := half a.hval false v }, ok⟩
  | 0x4C8 => some ⟨part a.hval true, fun v => { a with hval := half a.hval true v }, ok⟩
  | _ => none

/-- The logical core whose slot `c` of a fold is, where the slot is assigned now: that logical core STOPPED or SAFE
(R286, R291). -/
def State.snapSlot (s : State) (f c : Nat) : Option Nat :=
  let l := 9 * f + c
  if 8 ≤ c then none
  else if s.paired (4 * f + c / 2) && decide (c % 2 = 1) then none
  else if 4 ≤ s.lstate l then some l else none

/-- A slot's word written, its error gone (R291, R693). -/
def State.snapSet (s : State) (l off : Nat) (a : Arch) : State :=
  ({ s with snapC := tins s.snapC l a }).modPair (4 * foldOf l + l % 9 / 2) fun q =>
    { q with snapBad := q.snapBad.filter fun x => x != (l, off) }

/-- A read of a slot's word finds a double-bit error there (R693). -/
def State.snapError (s : State) (l off : Nat) : State :=
  if (s.pair (4 * foldOf l + l % 9 / 2)).snapBad.contains (l, off / 8 * 8) then s else s.snapFails l off

end Sys2Proof.Machine
end

