-- ==== Sys2Proof/Machine/Caches.lean ====
section
/-! DEFINITION. Fold and tile caches and the home agents: requests and snoops, fills, victims, drains and walks, and uncached accesses (05, R198 to R251). -/

namespace Sys2Proof.Machine

open Sys2Proof

/-! ### Messages to other modules (R415, R416) -/

/-- A line from its words. -/
def wordsLine (ws : List Word) : BitVec 512 := BitVec.ofNat 512 (ofBytes (ws.flatMap fun w => toBytes 8 w.toNat))

/-- DATA's STATE of a line state (R416). -/
def LState.code : LState → Nat
  | .s => 1 | .e => 2 | .m => 3

/-! ### What caches hold -/

/-- The tile of a fold (R4). -/
def tileOf (f : Nat) : Nat := f / 6

/-- Lines that have left fold or tile cache `k`'s array and are still on their way. -/
def State.inTransit (s : State) (k line : Nat) : Option OutLine :=
  let c := s.caches
  let mine := fun (o : OutLine) => o.src == k && o.line == line
  let buf := if k < 24 then c.victims.find? mine else c.evict.find? fun o => tileOf o.src == k - 24 && o.line == line
  buf.orElse fun _ => c.out.find? mine

/-- The state without such a line. -/
def State.dropTransit (s : State) (k line : Nat) : State :=
  let mine := fun (o : OutLine) => o.src == k && o.line == line
  s.modCa fun c =>
    { c with victims := if k < 24 then c.victims.filter fun o => !mine o else c.victims,
             evict := if k < 24 then c.evict else c.evict.filter fun o => !(tileOf o.src == k - 24 && o.line == line),
             out := c.out.filter fun o => !mine o }

/-- A copy of a line at holder `k`, wherever it is. -/
def State.copyAt (s : State) (k line : Nat) : Option OutLine :=
  match s.cfind k line with
  | some (_, l) => some { src := k, line := line, st := l.st, data := l.data, cls := l.cls, hit := l.hit, poison := l.poison }
  | none => s.inTransit k line

/-- The state without holder `k`'s copy. -/
def State.dropCopy (s : State) (k line : Nat) : State := (s.cdrop k line).dropTransit k line

/-- An invalidation bars the fill of its line in flight from installing (R233). -/
def State.barFill (s : State) (f line : Nat) : State :=
  let bar := fun (x : Fill) => if x.fold = f && x.line == line then { x with install := false } else x
  s.modCa fun c => { c with fills := c.fills.map bar }

/-! ### The home agent (R203 to R209) -/

/-- A request is answered: a fold's fill is served, or a message goes to the requesting module (R206, R207). -/
def State.grant (s : State) (req tid line : Nat) (st : LState) (d : BitVec 512) (poison noData : Bool) : State :=
  if req < 24 then
    let mine := fun (x : Fill) => x.fold == req && x.line == line && x.served.isNone
    s.modCa fun c => { c with fills := updFirst mine (fun x => { x with served := some (d, st, poison) }) c.fills }
  else if noData then s.send 0x18 (req - 28) tid (line * 64) (st.code * 2 ^ 49) []
  else s.send 0x20 (req - 28) tid (line * 64) (st.code * 2 ^ 49 + bnat poison * 2 ^ 48) (lineWords d)

/-- Ownership is granted once no other holder is left (R206). -/
def State.grantOwn (s : State) (req tid line : Nat) (kind : FillKind) : State :=
  let noData := kind == .ownNoData
  let d : BitVec 512 := if noData then 0 else s.memLine line
  let p := !noData && s.memPoisoned line
  (s.grant req tid line .e d p (noData || kind == .upgrade)).putDir line { owned := true, holders := [req] }

/-- The home agent serves a request of holder `req` (R206), one at a time for a line and 1,280 in all (R210); snoops of other
modules leave at once. -/
def State.serve (s : State) (req tid line : Nat) (kind : FillKind) (pe : PieceErr) : State :=
  let busy := (s.caches.txns.filter fun t => homeAgent t.line == homeAgent line).length
  if (s.caches.txns.any fun t => t.line == line) || decide (1280 ≤ busy) then
    (if req < 24 then s
     else s.modCa fun c => { c with homeq := c.homeq ++ [{ req := req, tid := tid, line := line, kind := kind, waits := [], data := none }] })
  else match s.dirOf line with
  | none =>
    if kind = .shared then
      let s := s.pieceError line pe
      (s.grant req tid line .e (s.memLine line) (s.memPoisoned line) false).putDir line { owned := true, holders := [req] }
    else (if kind = .ownNoData then s else s.pieceError line pe).grantOwn req tid line (if kind = .upgrade then .own else kind)
  | some e =>
    if !e.owned && kind == .shared then
      let s := s.pieceError line pe
      (s.grant req tid line .s (s.memLine line) (s.memPoisoned line) false).setDir line
        (some { e with holders := e.holders.filter (fun h => h != req) ++ [req] })
    else
      let kind := if kind = .upgrade && !(e.holders.contains req && !e.owned) then .own else kind
      let others := if e.owned then e.holders else e.holders.filter fun h => h != req
      if e.owned && req < 24 && e.holders.contains req then s
      else if others.isEmpty then s.grantOwn req tid line kind
      else
        let s := s.modCa fun c => { c with txns := c.txns ++ [{ req := req, tid := tid, line := line, kind := kind, waits := others, data := none }] }
        let reqmod := if req < 24 then s.ownModule else req - 28
        (others.filter fun h => decide (28 ≤ h)).foldl (fun s h =>
          if !e.owned then s.send 0x12 (h - 28) tid (line * 64) 0 []
          else s.send (if kind = .shared then 0x10 else 0x11) (h - 28) tid (line * 64) (reqmod * 2 ^ 48) []) s

/-- The next request of another module for a line whose transaction has ended is served, else the next whose line has
none. -/
def State.homeNext (s : State) (line : Nat) : State :=
  let free := fun (t : Txn) => !(s.caches.txns.any fun x => x.line == t.line)
  match (s.caches.homeq.find? fun t => t.line == line).orElse fun _ => s.caches.homeq.find? free with
  | some t =>
    let s := s.modCa fun c => { c with homeq := delFirst (fun x => x == t) c.homeq }
    s.serve t.req t.tid t.line t.kind .none
  | none => s

/-- A fold's request reaches the home agent of its line, or leaves for the home module (R203, R206). A line still on
its way out of the fold, or held by the fold's tile cache, is not asked for; a miss beyond the fold's 96 fill handlers is held
(R210). -/
def State.request (s : State) (f line : Nat) (pe : PieceErr) (p : FillKind → Bool) : State :=
  match s.caches.fills.find? fun x => x.fold == f && x.line == line && x.served.isNone && p x.kind with
  | none => s
  | some x =>
    let busy := ((s.caches.fills.takeWhile fun y => y != x).filter fun y => y.fold == f).length
    if (s.inTransit f line).isSome || (s.copyAt (24 + tileOf f) line).isSome || decide (96 ≤ busy) then s
    else if lineHome line = s.ownModule then s.serve f 0 line x.kind pe
    else if x.sent.isSome then s
    else
      let mark := fun (y : Fill) => { y with sent := some s.tid }
      let s := s.modCa fun c => { c with fills := updFirst (fun y => y == x) mark c.fills }
      match x.kind with
      | .shared => s.ask 0x08 (lineHome line) (line * 64) 0 []
      | .own => s.ask 0x09 (lineHome line) (line * 64) 0 []
      | .ownNoData => s.ask 0x09 (lineHome line) (line * 64) (2 ^ 50) []
      | .upgrade => s.ask 0x0A (lineHome line) (line * 64) 0 []
      | .uncached => s.ask 0x0B (lineHome line) (line * 64) 0 []

/-- READ_SHARED (R206); with it the reads of a cache that is not ENABLED leave for another home (R227). -/
def execReadShared (f line : Nat) (pe : PieceErr) (s : State) : Out :=
  .next (s.request f line pe fun k => k == .shared || k == .uncached)

/-- READ_WITH_OWNERSHIP (R206). -/
def execReadWithOwnership (f line : Nat) (pe : PieceErr) (s : State) : Out :=
  .next (s.request f line pe fun k => k == .own || k == .ownNoData)

/-- UPGRADE (R206). -/
def execUpgrade (f line : Nat) (pe : PieceErr) (s : State) : Out := .next (s.request f line pe fun k => k == .upgrade)

/-- A holder has answered an invalidation (R206). -/
def State.invDone (s : State) (k line : Nat) : State :=
  match s.caches.txns.find? fun t => t.line == line && t.waits.contains k with
  | none => s
  | some t =>
    let s := s.dirRemove line k
    let rest := t.waits.filter fun h => h != k
    if rest.isEmpty then
      ((s.modCa fun c => { c with txns := c.txns.filter fun x => x.line != line }).grantOwn t.req t.tid line t.kind).homeNext line
    else s.modCa fun c => { c with txns := updFirst (fun x => x.line == line) (fun x => { x with waits := rest }) c.txns }

/-- SNOOP_INVALIDATE: a cache of this module drops a line at the home's word and acknowledges (R199, R206, R213, R233). -/
def execSnoopInvalidate (k line : Nat) (s : State) : Out :=
  match s.caches.txns.find? fun t => t.line == line && t.waits.contains k, s.dirOf line with
  | some _, some e =>
    if e.owned ∨ 28 ≤ k then .next s
    else .next (((s.dropCopy k line).barFill k line).invDone k line)
  | _, _ => .next s

/-- The owner has answered a forward: `data` is what it passes, none where it no longer holds the line; `keeps`
whether it keeps a shared copy; `sup` whether it supplied the requester itself (R206, R416). -/
def State.fwdDone (s : State) (k line : Nat) (data : Option (BitVec 512 × LState × Bool)) (keeps sup : Bool) : State :=
  match s.caches.txns.find? fun t => t.line == line && t.waits.contains k with
  | none => s
  | some t =>
    let s := s.modCa fun c => { c with txns := c.txns.filter fun x => x.line != line }
    let dirty : Bool := match data with
      | some (_, st, _) => st == LState.m
      | none => false
    let s := match data with
      | some (d, _, p) => if dirty && t.kind == FillKind.shared then s.memWriteLine line d p else s
      | none => s
    let (d, p) : BitVec 512 × Bool := match data with
      | some (d, _, p) => (d, p)
      | none => (s.memLine line, s.memPoisoned line)
    if t.kind = .shared then
      let holders := (if keeps then [k] else []) ++ [t.req]
      let s := if sup then s else s.grant t.req t.tid line .s d p false
      (s.setDir line (some { owned := false, holders := if keeps && k == t.req then [k] else holders })).homeNext line
    else
      let s := if sup then s else s.grant t.req t.tid line (if dirty then .m else .e) d p false
      (s.setDir line (some { owned := true, holders := [t.req] })).homeNext line

/-- SNOOP_FORWARD: a cache of this module supplies the line it owns: it keeps S for a read, and passes it on for
ownership (R206, R202). -/
def execSnoopForward (k line : Nat) (err : ArrayErr) (s : State) : Out :=
  match s.caches.txns.find? fun t => t.line == line && t.waits.contains k, s.dirOf line with
  | some t, some e =>
    if !e.owned ∨ 28 ≤ k then .next s
    else
      let (s, hit) := s.lookup k line err
      match hit with
      | some (w, l) =>
        let data := some (l.data, l.st, l.poison)
        if t.kind = .shared then .next ((s.cset k line w { l with st := .s }).fwdDone k line data true false)
        else .next (((s.dropCopy k line).barFill k line).fwdDone k line data false false)
      | none =>
        let data := (s.inTransit k line).map fun o => (o.data, o.st, o.poison)
        .next (((s.dropTransit k line).barFill k line).fwdDone k line data false false)
  | _, _ => .next s

/-! ### Lines that leave a cache (R206, R207, R211 to R214) -/

/-- A holder gives up a line: the home's own memory and directory, or the guest directory and a message (R206, R207). -/
def State.giveUp (s : State) (k line : Nat) (st : LState) (d : BitVec 512) (poison : Bool) : State :=
  let own := decide (lineHome line = s.ownModule)
  if st = .m then
    let s := if own then s.memWriteLine line d poison else s.ask 0x0D (lineHome line) (line * 64) (bnat poison * 2 ^ 48) (lineWords d)
    s.setDir line none
  else
    let s := s.dirRemove line k
    if !own && (s.dirOf line).isNone then s.ask 0x0E (lineHome line) (line * 64) 0 [] else s

/-- A line on its way home from cache `k` leaves. -/
def State.sendOut (s : State) (k line : Nat) (dirty : Bool) : State :=
  match s.caches.out.find? fun o => o.src == k && o.line == line && (o.st == .m) == dirty with
  | none => s
  | some o => (s.modCa fun c => { c with out := delFirst (fun x => x == o) c.out }).giveUp k line o.st o.data o.poison

/-- WRITE_BACK_OF_M (R206). -/
def execWriteBackOfM (k line : Nat) (s : State) : Out := .next (s.sendOut k line true)

/-- CLEAN_EVICTION_NOTICE (R206). -/
def execCleanEvictionNotice (k line : Nat) (s : State) : Out := .next (s.sendOut k line false)

/-- The resident entry whose cores FC_CLASS maps to a class of a fold: the owner of its victims, 0 where none or
several do (R546). -/
def State.classOwner (s : State) (f cls : Nat) : Nat :=
  let cores := (List.range 9).filter fun c => s.rfld .fcClass f 0 (4 * c + 3) (4 * c) = cls
  match (cores.map fun c => s.curOf (s.logicalOf f c)).eraseDups with
  | [r] => r
  | _ => 0

/-- Whether resident entry `r`'s stint in a meter is exhausted (R542). -/
def State.stintOut (s : State) (m r : Nat) : Bool :=
  let x := tget Meter.reset s.meters m
  let n := match x.counts.find? fun c => c.1 == r with
    | some c => c.2
    | none => 0
  decide (n ≤ tget 0 x.passed r)

/-- Whether the tile cache declines a clean victim in native mode (R212). -/
def State.declines (s : State) (t : Nat) (o : OutLine) (mask : Nat) : Bool :=
  let k := 24 + t
  let lr := s.rbit .tcCtl t 0 2 && !o.hit
  let st := s.rbit .tcCtl t 0 3 &&
    (let cands := s.candidates k mask
     !cands.isEmpty &&
       (match (s.stepLfsr k).cway k o.line ((s.stepLfsr k).chooseWay k o.line cands) with
        | some x => x.st == .m && s.ownLine x.line && s.stintOut (s.linePlace x.line).1 (s.classOwner o.src o.cls)
        | none => false))
  lr || st

/-- A victim installed in tile cache `t` under its tile class, in its state; displaced lines go home (R211, R220, R221). -/
def State.tileInstall (s : State) (t : Nat) (o : OutLine) (from_ : Nat) : State :=
  let k := 24 + t
  let tc := s.rfld .fcAllot o.src o.cls 53 48
  let mask := s.rfld .tcAllot t tc 23 0
  match s.cfind k o.line with
  | some _ => if from_ = k then s else s.dirRemove o.line from_
  | none =>
    let l : CLine := { line := o.line, st := o.st, data := o.data, cls := tc, hit := false, poison := o.poison }
    match s.install k mask l with
    | (s, true) => if from_ = k then s else s.dirMove o.line from_ k
    | (s, false) => s.sendHome { o with src := from_ }

/-- Whether a request of fold `f` for a line is with its home agent or answered. -/
def State.requested (s : State) (f line : Nat) : Bool :=
  (s.caches.fills.any fun x => x.fold == f && x.line == line && (x.served.isSome || x.sent.isSome))
    || s.caches.txns.any fun x => x.req == f && x.line == line

/-- VICTIM_MOVED: the oldest victim of fold `f` is offered to its tile cache (R211 to R214); a copy whose upgrade is under way
waits for it. -/
def execVictimMoved (f : Nat) (s : State) : Out :=
  match s.caches.victims.find? fun o => o.src == f && !s.requested f o.line with
  | none => .next s
  | some o =>
    let t := tileOf f
    let buf := s.caches.evict.filter fun x => tileOf x.src == t
    let rest := s.modCa fun c => { c with victims := delFirst (fun x => x == o) c.victims }
    let tc := s.rfld .fcAllot f o.cls 53 48
    match s.tileMode t with
    | 0 =>
      if o.st != .m && s.declines t o (s.rfld .tcAllot t tc 23 0) then .next ((rest.bump .tcDeclines t).sendHome o)
      else .next (rest.tileInstall t o f)
    | 1 =>
      if 64 ≤ buf.length then .next s
      else if buf.any fun x => x.line == o.line then .next (rest.dirRemove o.line f)
      else .next ((rest.modCa fun c => { c with evict := c.evict ++ [o] }).dirMove o.line f (24 + t))
    | _ => .next (rest.sendHome o)

/-- EVICTION_BUFFER_INSTALL: the head of a tile's eviction buffer is installed (R213). -/
def execEvictionBufferInstall (t : Nat) (s : State) : Out :=
  match s.caches.evict.find? fun o => tileOf o.src == t with
  | none => .next s
  | some o => .next ((s.modCa fun c => { c with evict := delFirst (fun x => x == o) c.evict }).tileInstall t o (24 + t))

/-- TILE_CACHE_HIT_MOVED: a fold's miss finds its line in its tile cache or eviction buffer and takes it (R202, R206,
R213). -/
def execTileCacheHitMoved (f line : Nat) (err : ArrayErr) (s : State) : Out :=
  let t := tileOf f
  let k := 24 + t
  let waits := s.caches.fills.any fun x => x.fold == f && x.line == line && x.served.isNone
  if !waits ∨ (s.caches.txns.any fun x => x.line == line) then .next s
  else
    let take := fun (s : State) (d : BitVec 512) (st : LState) (p : Bool) =>
      let mine := fun (x : Fill) => x.fold == f && x.line == line && x.served.isNone
      let s := s.modCa fun c => { c with fills := updFirst mine (fun x => { x with served := some (d, st, p) }) c.fills }
      (s.bump .tcHits t).dirMove line k f
    match s.caches.evict.find? fun o => tileOf o.src == t && o.line == line with
    | some o => .next (take (s.modCa fun c => { c with evict := delFirst (fun x => x == o) c.evict }) o.data o.st o.poison)
    | none =>
      match s.lookup k line err with
      | (s, some (w, l)) => .next (take ((s.plruUse k line w).cclear k line w) l.data l.st l.poison)
      | (s, none) => .next s

/-! ### Fills (R201, R216, R221, R230, R233) -/

/-- A fill's data reaches the loads of a core that wait for it. -/
def Core.fillLoads (c : Core) (line : Nat) (d : BitVec 512) (p : Bool) : Core :=
  let seg := fun (g : Seg) => if g.data.isNone && g.pa / 64 == line then { g with data := some (lineBytes d (g.pa % 64) g.len), poison := p } else g
  let fl := fun (f : Flight) => { f with need := f.need.map fun n => { n with segs := n.segs.map seg } }
  { c with flights := c.flights.map fl }

/-- A fill's data reaches its waiting cores; their L1s take the line where the fold cache has (R199, R201). -/
def State.fillDeliver (s : State) (x : Fill) (d : BitVec 512) (p installed : Bool) : State :=
  let loads := (x.waiters.filter fun w => !w.2).map fun w => w.1
  let fetches := (x.waiters.filter fun w => w.2).map fun w => w.1
  let s := loads.eraseDups.foldl (fun s n =>
    let s := s.modCore n fun c => c.fillLoads x.line d p
    let s := if installed && !p then s.l1dPut n x.line d else s
    s.modCore n fun c => { c with barred := c.barred.filter fun l => l != x.line }) s
  fetches.eraseDups.foldl (fun s n =>
    let s := if installed && !p then s.l1iPut n x.line d else s
    s.modCore n fun c => if c.freeze = some .fetch then { c with freeze := none, fbuf := some (x.line, d, p) } else c) s

/-- Released entries for a line that no way may hold go to memory (R221). -/
def State.releaseAround (s : State) (f line : Nat) : State :=
  (rangeFrom (9 * f) 9).foldl (fun s n =>
    match (s.core n).rel with
    | h :: rest =>
      if h.line = line then (s.cohWriteMask line h.data h.mask).modCore n fun c => { c with rel := rest } else s
    | [] => s) s

/-- Whether a fill that must evict is held: its tile's eviction buffer is full (R213). -/
def State.fillHeld (s : State) (x : Fill) : Bool :=
  let t := tileOf x.fold
  let cands := s.candidates x.fold (s.rfld .fcAllot x.fold x.cls 15 0)
  x.install && x.kind != .uncached && decide (s.fcState x.fold = 1) && decide (s.tileMode t = 1) && (s.cfind x.fold x.line).isNone
    && !cands.isEmpty && (cands.all fun w => (s.cway x.fold x.line w).isSome)
    && decide (64 ≤ ((s.caches.evict ++ s.caches.victims).filter fun o => tileOf o.src == t).length)

/-- FILL_LAND: a served fill arrives, unless it is held (R201, R213, R216, R221, R233). -/
def execFillLand (f line : Nat) (s : State) : Out :=
  match s.caches.fills.find? fun x => x.fold == f && x.line == line && x.served.isSome with
  | none => .next s
  | some x =>
    match x.served with
    | none => .next s
    | some (d, st, p) =>
      if s.fillHeld x then .next s else
      let s := s.modCa fun c => { c with fills := delFirst (fun y => y == x) c.fills }
      let own := x.kind != .shared && x.kind != .uncached
      let (s, ok) : State × Bool :=
        if x.install && x.kind != .uncached && decide (s.fcState f = 1) then
          match s.cfind f line with
          | some (w, l) => (s.cset f line w { l with st := st }, true)
          | none => (s.dropTransit f line).install f (s.rfld .fcAllot f x.cls 15 0) { line := line, st := st, data := d, cls := x.cls, hit := false, poison := p }
        else (s, false)
      let s := if own && !ok then s.dropCopy f line else s
      let s := if ok || x.kind == .uncached then s
        else if x.kind = .ownNoData then s.dirRemove line f
        else s.giveUp f line st d p
      let s := s.fillDeliver x d p ok
      let s := if own && !ok && decide (s.fcState f = 1) then s.releaseAround f line else s
      .next ((rangeFrom (9 * f) 9).foldl (fun s n => if (s.core n).rel.isEmpty then s else s.pumpAll n) s)

/-! ### Drains and walks (R214, R224 to R229, R241) -/

/-- A line flushed from a cache: written back if M, its holder removed, L1 copies gone (R199, R228). -/
def State.flushLine (s : State) (k : Nat) (l : CLine) : State :=
  (s.cdrop k l.line).giveUp k l.line l.st l.data l.poison

/-- The lines of a cache that satisfy a check on their way. -/
def State.linesIn (s : State) (k : Nat) (p : Nat → Bool) : List CLine :=
  let per := if k < 24 then 16 else 32
  let lo := if k < 24 then k * 8192 * 16 else (k - 24) * 65536 * 32
  let hi := lo + cacheSets k * per
  (s.caches.arr k).filterMap fun x => if lo ≤ x.1 ∧ x.1 < hi ∧ p (x.1 % per) then some x.2 else none

/-- Lines flushed one after another. -/
def State.flushAll (s : State) (k : Nat) (p : Nat → Bool) : State := (s.linesIn k p).foldl (fun s l => s.flushLine k l) s

/-- EN written to FC_CTL (R227, R233). -/
def State.fcControl (s : State) (f : Nat) (en : Bool) : State :=
  match s.fcState f, en with
  | 0, true => s.rput .fcCtl f 0 9 8 1
  | 1, false =>
    let bar := fun (x : Fill) => if x.fold = f then { x with install := false } else x
    (s.rput .fcCtl f 0 9 8 2).modCa fun c => { c with fills := c.fills.map bar }
  | 2, e => s.rput .fcCtl f 0 1 1 (bnat e)
  | _, _ => s

/-- FC_CTL as it reads (R238). -/
def State.fcCtlView (s : State) (f : Nat) : Word := setFlag (s.rget .fcCtl f) 0 (decide (s.fcState f ≠ 0))

/-- FC_DRAIN_COMPLETE: every line has been written back and invalidated; the cache is DISABLED, or ENABLED empty where
an enable was pending (R227, R228, R233). -/
def execFcDrainComplete (f : Nat) (s : State) : Out :=
  if s.fcState f ≠ 2 ∨ (s.caches.fills.any fun x => x.fold == f) then .next s
  else
    let s := s.flushAll f (fun _ => true)
    let pend := s.rbit .fcCtl f 0 1
    .next (((s.rput .fcCtl f 0 9 8 (bnat pend)).rput .fcCtl f 0 1 1 0).raise (cacheSrc f 3))

/-- WAY_WALK_COMPLETE: the walk's ways are empty, and DONE is raised (R224, R225, R241). -/
def execWayWalkComplete (k : Nat) (s : State) : Out :=
  match s.caches.walks.find? fun w => w.cache == k with
  | none => .next s
  | some w =>
    let s := s.flushAll k fun i => w.ways.testBit i
    let s := s.modCa fun c => { c with walks := c.walks.filter fun x => x.cache != k }
    .next ((if k < 24 then s.rput .fcCtl k 0 4 4 0 else s).raise (cacheSrc k 3))

/-- BYPASS_WALK_COMPLETE: the tile cache is empty; TC_DONE (R214). -/
def execBypassWalkComplete (t : Nat) (s : State) : Out :=
  if s.caches.bypass.contains t then
    .next (((s.flushAll (24 + t) (fun _ => true)).modCa fun c => { c with bypass := c.bypass.filter fun x => x != t }).raise (cacheSrc (24 + t) 3))
  else .next s

/-- TC_MODE_TAKE_EFFECT: a committed MODE comes into force, from Ferrex mode once the buffer is empty, from bypass mode
once its walk is over; bypass mode begins its walk (R214, R215). -/
def execTcModeTakeEffect (t : Nat) (s : State) : Out :=
  let want := s.rfld .tcCtl t 0 1 0
  let now := s.tileMode t
  let ready := match now with
    | 1 => !(s.caches.evict.any fun o => tileOf o.src == t)
    | 2 => !s.caches.bypass.contains t
    | _ => true
  if 4 ≤ t ∨ want = now ∨ !ready then .next s
  else .next (s.modCa fun c => { c with modeNow := tput 0 c.modeNow t want, bypass := if want = 2 then t :: c.bypass else c.bypass })

/-! ### Their registers (R219, R222, R225, R239 to R250) -/

/-- A write to a cache's REPL: the seed is loaded, PLRU is set, a 1 in FALLBACK clears it, and the check is repeated
(R219, R239). -/
def State.replWrite (s : State) (k : Nat) (v : Word) : State :=
  let old := s.repl k
  let seed := fld v 15 0
  let new := setFld (setFld (setFlag old 62 (flag v 62)) 15 0 seed) 47 32 seed
  let new := if flag v 63 then setFlag new 63 false else new
  ((s.setRepl k new).modCa fun c => { c with lfsr2 := tins c.lfsr2 k seed }).checkLfsr k

/-- A lame declaration cleared: LAME, LEVEL, WARNED and the accumulator go to 0, TOTAL is kept (R633). -/
def State.clearLame (s : State) (c i : Nat) : State :=
  if s.rbit .ftCnt c i 63 then
    let s := s.rmod .ftCnt c i fun v => setFlag (setFlag (setFld v 31 0 0) 63 false) 62 false
    let s := s.rmod .ftStat 0 0 fun w => setFld w 15 0 (fld w 15 0 - 1)
    { s with strikeAcc := tdel s.strikeAcc (65536 * c + i) }
  else s

/-- The strike class and index of a way. -/
def wayCounter (k w : Nat) : Nat × Nat := if k < 24 then (2, 16 * k + w) else (3, 24 * (k - 24) + w)

/-- A write to a cache's WAYDIS: HW bits written 1 re-enable their ways, SW bits set disable theirs after a flush
(R224 to R226, R240, R633). -/
def State.waydisWrite (s : State) (k : Nat) (hw sw : Nat) : State :=
  let clear := (List.range (cacheWays k)).filter fun w => hw.testBit w && (s.waydisHw k).testBit w
  let s := clear.foldl (fun s w => s.clearLame (wayCounter k w).1 (wayCounter k w).2) s
  let s := s.setWaydisHw k (clear.foldl (fun v w => v - 2 ^ w) (s.waydisHw k))
  let fresh := ((List.range (cacheWays k)).filter fun w => sw.testBit w && !(s.waydisSw k).testBit w).foldl (fun v w => v + 2 ^ w) 0
  let s := s.setWaydisSw k sw
  if fresh = 0 then s else (s.startWalk k fresh).wayThreshold k

/-- The commit of a fold's allotments (R222). -/
def State.fcCommit (s : State) (f : Nat) : Option State :=
  let clsOf := fun (c : Nat) => s.rfld .fcClassD f 0 (4 * c + 3) (4 * c)
  let named := ((List.range 9).map clsOf).eraseDups
  let mask := fun (k : Nat) => s.rfld .fcAllotD f k 15 0
  let ok := named.all fun k => decide (mask k ≠ 0) &&
    (!s.rbit .fcAllotD f k 63 || named.all fun j => j == k || mask k &&& mask j == 0)
  if ok then
    some ((List.range 16).foldl (fun s k => s.rset .fcAllot f k (s.rget .fcAllotD f k)) (s.rset .fcClass f 0 (s.rget .fcClassD f)))
  else none

/-- The commit of a tile's allotments and mode (R215, R222). -/
def State.tcCommit (s : State) (t : Nat) : Option State :=
  let mask := fun (k : Nat) => s.rfld .tcAllotD t k 23 0
  let all := (List.range 64).filter fun k => mask k ≠ 0
  let ok := all.all fun k => !s.rbit .tcAllotD t k 63 || all.all fun j => j == k || mask k &&& mask j == 0
  if ok then
    some ((List.range 64).foldl (fun s k => s.rset .tcAllot t k (s.rget .tcAllotD t k)) (s.rset .tcCtl t 0 (s.rget .tcCtlD t)))
  else none

/-! ### Uncached accesses (R209) -/

/-- The parts of a held access with their places in its value. -/
def HeldAcc.parts (h : HeldAcc) : List (Nat × Nat × Nat) :=
  (h.halves.foldl (fun (acc : List (Nat × Nat × Nat) × Nat) x => (acc.1 ++ [(x.1, x.2, acc.2)], acc.2 + x.2)) ([], 0)).1

/-- Bytes of a value as a load returns them (R94). -/
def HeldAcc.loaded (h : HeldAcc) (v : Nat) : Nat :=
  match h.kind with
  | .load true => ofSigned 64 (toSigned (8 * h.size) v)
  | _ => v

/-- UNCACHED_LOAD: the home agent returns the current value and changes no cache state (R209); another module is
asked. -/
def execUncachedLoad (c : Nat) (pe : PieceErr) (s : State) : Out :=
  match (s.core c).hacc with
  | none => .next s
  | some h =>
    match h.phase, h.kind with
    | .atHome, .load _ =>
      let step := fun (acc : State × HeldAcc) (x : Nat × Nat × Nat) =>
        let (s, h) := acc
        let line := x.1 / 64
        if lineHome line = s.ownModule then
          let s := if (s.dirtyCopy line).isSome then s else s.pieceError line pe
          let (d, p) := s.cohLine line
          (s, { h with value := h.value + ofBytes (lineBytes d (x.1 % 64) x.2.1) * 2 ^ (8 * x.2.2),
                       mcheck := h.mcheck.orElse fun _ => if p then some (lineMcheck line) else none })
        else (s.ask 0x0B (lineHome line) (line * 64) 0 [], { h with left := h.left ++ [(x.1, x.2.1, x.2.2, s.tid)] })
      let (s, h) := h.parts.foldl step (s, h)
      let h := if h.left.isEmpty then { h with phase := .done, value := h.loaded h.value } else { h with phase := .remote }
      .next (s.modCore c fun k => { k with hacc := some h })
    | _, _ => .next s

/-- UNCACHED_STORE: every copy is invalidated, a dirty one written back, and memory is written (R209); another module
is sent the bytes. -/
def execUncachedStore (c : Nat) (s : State) : Out :=
  match (s.core c).hacc with
  | none => .next s
  | some h =>
    match h.phase, h.kind with
    | .atHome, .store =>
      let step := fun (acc : State × HeldAcc) (x : Nat × Nat × Nat) =>
        let (s, h) := acc
        let bs := toBytes x.2.1 (h.data / 2 ^ (8 * x.2.2))
        let line := x.1 / 64
        if lineHome line = s.ownModule then (s.cohWrite x.1 bs, h)
        else
          let (d, m) := Machine.linePlace (x.1 % 64) bs
          (s.ask 0x0C (lineHome line) (line * 64) 0 (m :: 0 :: lineWords d), { h with left := h.left ++ [(x.1, x.2.1, x.2.2, s.tid)] })
      let (s, h) := h.parts.foldl step (s, h)
      .next (s.modCore c fun k => { k with hacc := some { h with phase := if h.left.isEmpty then .answered else .remote } })
    | _, _ => .next s

end Sys2Proof.Machine
end

