-- ==== Sys2Proof/Machine/Die.lean ====
section
/-! DEFINITION. What the agents of the base die share: buffers of a partition through its hurdle, reads and writes of main memory and scratchpads by an engine, a drover or a device (12, R527 to R532; 07, R298; 15, R692). -/

namespace Sys2Proof.Machine

open Sys2Proof

/-- The resident entry of a partition ID: none where the partition is not resident (R523). -/
def State.resOf (s : State) (part : Nat) : Option Nat :=
  (List.range 257).find? fun r => decide (s.resState r ≠ 0) && decide (s.partId r = part)

/-- Bytes from an address cut at 4 KiB boundaries, `k` pieces at most. -/
def pagesOf : Nat → Nat → Nat → List (Nat × Nat)
  | 0, _, _ => []
  | k + 1, a, n =>
    if n = 0 then []
    else
      let room := 4096 - a % 4096
      if n ≤ room then [(a, n)] else (a, room) :: pagesOf k (a + room) (n - room)

/-- Why an agent's access is refused: by the hurdle, or because its walk met poison (R531, R692). -/
inductive DieErr | hurdle | poison (line : Nat)
  deriving DecidableEq, Repr

/-- A translation of the base die's hurdle cache: found there, or walked for and kept (R528 to R532). Physical addresses
for partition 0. -/
def State.dieXlate (s : State) (r : Option Nat) (a : Nat) (kind : AKind) (secure : Bool) : State × Except DieErr Nat :=
  match r with
  | none => (s, .ok a)
  | some r =>
    match s.hurdle s.hurdles r a kind secure with
    | .ok pa _ e => (if s.hurdles.contains e then s else { s with hurdles := e :: s.hurdles }, .ok pa)
    | .refused .. => (s, .error .hurdle)
    | .poison l => (s, .error (.poison l))

/-- The pieces of a buffer, translated in rising order up to the first that is refused. -/
def State.diePieces (s : State) (r : Option Nat) (kind : AKind) (secure : Bool) : List (Nat × Nat) → State × List (Nat × Nat) × Option DieErr
  | [] => (s, [], none)
  | (a, n) :: rest =>
    match s.dieXlate r a kind secure with
    | (s, .error e) => (s, [], some e)
    | (s, .ok pa) =>
      let x := s.diePieces r kind secure rest
      (x.1, (pa, n) :: x.2.1, x.2.2)

/-- The pieces of a buffer of `n` bytes from an address. -/
def State.dieBuf (s : State) (r : Option Nat) (a n : Nat) (kind : AKind) (secure : Bool) : State × List (Nat × Nat) × Option DieErr :=
  s.diePieces r kind secure (pagesOf (n / 4096 + 2) a n)

/-- The agent a request acts for: physical addresses for a SUBMIT at P2, else the resident entry (R535). -/
def Request.agent (q : Request) : Option Nat := if q.pl = 2 then none else some q.res

/-- Whether a physical address is memory an agent may reach: main memory of a present module or a scratchpad bank
other than a keep bank (R409). -/
def State.reachable (s : State) (pa : Nat) : Bool := s.mainMem pa || ((s.scratch pa).isSome && !s.inKeep pa)

/-- What a read by an agent of the base die answers: the bytes, or the address of poison it met. -/
def State.dieRead (s : State) (agent pa n : Nat) : State × Except Nat (List Byte) :=
  if (s.scratch pa).isSome then
    match s.spRead agent pa n .none with
    | (s, .data bs) => (s, .ok bs)
    | (s, .poison w) => (s, .error w)
  else match s.cohPoison pa n with
    | some l => (s, .error (l * 64))
    | none => (s, .ok (s.cohBytes pa n))

/-- A write by an agent of the base die; false where a bank refuses it. -/
def State.dieWrite (s : State) (agent pa : Nat) (bs : List Byte) : State × Bool :=
  if (s.scratch pa).isSome then
    match s.spWrite agent pa bs with
    | (s, r) => (s, !r)
  else (s.cohWrite pa bs, true)

/-- Bytes written into translated pieces, in order. -/
def State.dieWrites (s : State) (agent : Nat) : List (Nat × Nat) → List Byte → State
  | [], _ => s
  | (pa, n) :: rest, bs => (s.dieWrite agent pa (bs.take n)).1.dieWrites agent rest (bs.drop n)

/-- An 8-byte word of main memory, as an agent reads it. -/
def State.memWord (s : State) (pa : Nat) : Word := BitVec.ofNat 64 (ofBytes (s.cohBytes pa 8))

/-- `n` 8-byte words of main memory. -/
def State.memWords (s : State) (pa n : Nat) : List Word := (List.range n).map fun i => s.memWord (pa + 8 * i)

/-- Bytes of 8-byte words, lowest first. -/
def wordsBytes (ws : List Word) : List Byte := ws.flatMap fun w => toBytes 8 w.toNat

/-! ### Stints (R542) -/

/-- Whether work of resident entry `r` waits at a meter: it is a guest without a share there (R549), or it is sealed and
its own opportunities are spent (R542). -/
def State.heldBack (s : State) (m r : Nat) : Bool :=
  (r != 0 && !(tget Meter.reset s.meters m).counts.any fun c => c.1 == r) || (s.sealedNow.contains r && s.stintOut m r)

end Sys2Proof.Machine
end

