-- ==== Sys2Proof/Machine/Engine.lean ====
section
/-! DEFINITION. What the cipher and compression engines share: their troughs, and reads and writes of buffers with the engine's own ports (10, R444 to R447; 11; 12, R535). -/

namespace Sys2Proof.Machine

open Sys2Proof

/-- Whether PT_TROUGH_t is a valid trough of an engine (R535, R560). -/
def State.troughIs (s : State) (unit k t : Nat) : Bool :=
  let v := s.rget .ptTrough t
  flag v 63 && fld v 62 60 == unit && fld v 59 56 == k

/-- The troughs of an engine that hold entries, by index. -/
def State.engineTroughs (s : State) (unit k : Nat) : List Nat :=
  (s.troughs.filter fun x => !x.2.isEmpty && s.troughIs unit k x.1).map fun x => x.1

/-- The trough whose turn it is, round-robin from index `start` (R444). -/
def State.nextTrough (s : State) (unit k start : Nat) : Option Nat :=
  let ts := s.engineTroughs unit k
  match ts.find? fun t => decide (start ≤ t) with
  | some t => some t
  | none => ts.head?

/-- The head of an engine's next trough, where it asks for operation `op`: the trough, the request and the rest. -/
def State.engineHead (s : State) (unit k start op : Nat) : Option (Nat × Request × List Request) :=
  match s.nextTrough unit k start with
  | none => none
  | some t => match tget [] s.troughs t with
    | q :: rest => if bits q.header 55 48 = op then some (t, q, rest) else none
    | [] => none

/-- The state with a trough's entries set. -/
def State.setTrough (s : State) (t : Nat) (l : List Request) : State := { s with troughs := tput [] s.troughs t l }

/-- The entries of an engine's troughs that `p` selects complete at once with a status. -/
def State.flushTroughs (s : State) (unit k : Nat) (p : Request → Bool) (status : Nat) (detail : State → Request → Nat) : State :=
  (s.engineTroughs unit k).foldl (fun s t =>
    let l := tget [] s.troughs t
    (l.filter p).foldl (fun s q => s.complete q status (detail s q)) (s.setTrough t (l.filter fun q => !p q))) s

/-- The agent an engine of flock `k` is at the bank of an address: itself in its own flock, else the fabric port (R303). -/
def State.engineAgent (s : State) (k own pa : Nat) : Nat :=
  match s.scratch pa with
  | some (f, _, _) => if f = k then own else 0x30
  | none => own

/-- Why an engine's access fails: its hurdle, bank or range, or poison. -/
inductive EngErr | hurdle | poison
  deriving DecidableEq, Repr

/-- A read of one translated piece by an engine. -/
def State.enginePiece (s : State) (k own pa n : Nat) : State × Except EngErr (List Byte) :=
  if !(s.mainMem pa || (s.scratch pa).isSome) then (s, .error .hurdle)
  else match s.dieRead (s.engineAgent k own pa) pa n with
    | (s, .ok bs) => (s, .ok bs)
    | (s, .error _) => (s, .error (if (s.scratch pa).any fun x => s.bankRefuses x.1 x.2.1 (s.engineAgent k own pa) != none then .hurdle else .poison))

/-- A read of pieces of a partition's buffer in rising order (R447); a cipher engine (agent 0x20) reaches secure grains, a
compression engine does not (R529, R530). -/
def State.enginePieces (s : State) (k own : Nat) (r : Option Nat) : List (Nat × Nat) → State × Except EngErr (List Byte)
  | [] => (s, .ok [])
  | (a, n) :: rest =>
    match s.dieXlate r a .load (decide (own = 0x20)) with
    | (s, .error .hurdle) => (s, .error .hurdle)
    | (s, .error (.poison _)) => (s, .error .poison)
    | (s, .ok pa) =>
      match s.enginePiece k own pa n with
      | (s, .error e) => (s, .error e)
      | (s, .ok bs) =>
        let x := s.enginePieces k own r rest
        (x.1, x.2.map (bs ++ ·))

/-- A read of `n` bytes of a partition's memory by an engine. -/
def State.engineRead (s : State) (k own : Nat) (r : Option Nat) (a n : Nat) : State × Except EngErr (List Byte) :=
  s.enginePieces k own r (pagesOf (n / 4096 + 2) a n)

/-- Translations of the pieces of a buffer to be written: none where one is refused or lies outside R447. -/
def State.engineXlate (s : State) (own : Nat) (r : Option Nat) : List (Nat × Nat) → State × Except EngErr (List (Nat × Nat))
  | [] => (s, .ok [])
  | (a, n) :: rest =>
    match s.dieXlate r a .store (decide (own = 0x20)) with
    | (s, .error .hurdle) => (s, .error .hurdle)
    | (s, .error (.poison _)) => (s, .error .poison)
    | (s, .ok pa) =>
      if s.mainMem pa || (s.scratch pa).isSome then
        let x := s.engineXlate own r rest
        (x.1, x.2.map ((pa, n) :: ·))
      else (s, .error .hurdle)

/-- Bytes written into translated pieces; false where a bank refuses one. -/
def State.enginePut (s : State) (k own : Nat) : List (Nat × Nat) → List Byte → State × Bool
  | [], _ => (s, true)
  | (pa, n) :: rest, bs =>
    match s.dieWrite (s.engineAgent k own pa) pa (bs.take n) with
    | (s, true) => s.enginePut k own rest (bs.drop n)
    | (s, false) => (s, false)

/-- The part of a chain of buffers (address, length) that holds its bytes from `off` on, `n` of them. -/
def chainRange : List (Nat × Nat) → Nat → Nat → List (Nat × Nat)
  | [], _, _ => []
  | (a, l) :: rest, off, n =>
    if n = 0 then []
    else if l ≤ off then chainRange rest (off - l) n
    else let m := min n (l - off); (a + off, m) :: chainRange rest 0 (n - m)

/-- The pages of a chain's range. -/
def chainPages (bufs : List (Nat × Nat)) (off n : Nat) : List (Nat × Nat) :=
  (chainRange bufs off n).flatMap fun x => pagesOf (x.2 / 4096 + 2) x.1 x.2

/-- Bytes written into a chain from `off` on: nothing is written where a page is refused (R447). -/
def State.engineWrite (s : State) (k own : Nat) (r : Option Nat) (bufs : List (Nat × Nat)) (off : Nat) (bs : List Byte) : State × Except EngErr Unit :=
  match s.engineXlate own r (chainPages bufs off bs.length) with
  | (s, .error e) => (s, .error e)
  | (s, .ok ps) => match s.enginePut k own ps bs with
    | (s, true) => (s, .ok ())
    | (s, false) => (s, .error .hurdle)

/-- The words of a request's descriptor, LEN × 32 bytes (R107). -/
def State.descriptor (s : State) (q : Request) : List Word := s.memWords q.desc (4 * bits q.header 31 24)

/-- Whether two ranges of bytes overlap. -/
def overlap (a n b m : Nat) : Bool := decide (a < b + m ∧ b < a + n ∧ 0 < n ∧ 0 < m)

/-- Whether a range of a list overlaps a later one. -/
def selfOverlap : List (Nat × Nat) → Bool
  | [] => false
  | (a, n) :: rest => rest.any (fun x => overlap a n x.1 x.2) || selfOverlap rest

end Sys2Proof.Machine
end

