-- ==== Sys2Proof/Machine/Cipher.lean ====
section
/-! DEFINITION. The cipher engines, their locks and the key slots (11). -/

namespace Sys2Proof.Machine

open Sys2Proof

/-! ### Engines, locks and the masking generator (R478 to R482, R507, R514, R515) -/

/-- A cipher engine. -/
def State.cyE (s : State) (k : Nat) : CyEngine := tget CyEngine.reset s.cy k

/-- The state with a cipher engine changed; JOBS follows its contexts (R515). -/
def State.modCy (s : State) (k : Nat) (f : CyEngine → CyEngine) : State :=
  let e := f (s.cyE k)
  { s with cy := tins s.cy k e }.rput .cyStat k 0 57 53 e.jobs.length

/-- STATE of an engine: 0 RUNNING, 1 WITHDRAWING, 2 WITHDRAWN, 3 TESTING, 4 LAME (R515). -/
def State.cyState (s : State) (k : Nat) : Nat := s.rfld .cyStat k 0 63 61

/-- STATE changes and CY_STATE is raised (R521). -/
def State.setCyState (s : State) (k v : Nat) : State :=
  if s.cyState k = v then s else (s.rput .cyStat k 0 63 61 v).raise (1408 + 4 * k)

/-- The lock: 0 FREE, 1 OWNED, 2 RELEASING, 3 WIPING (R478). -/
def State.cyLockState (s : State) (k : Nat) : Nat := s.rfld .cyLock k 0 63 61
/-- The partition that owns the lock. -/
def State.cyOwner (s : State) (k : Nat) : Nat := s.rfld .cyLock k 0 60 50
/-- Whether a partition holds the lock. -/
def State.cyHolds (s : State) (k p : Nat) : Bool := decide (s.cyLockState k = 1) && decide (s.cyOwner k = p)
/-- The lock's state set. -/
def State.setCyLock (s : State) (k st : Nat) : State := s.rput .cyLock k 0 63 61 st

/-- Whether the DRBG refuses a request: its reseed is due and both noise sources have failed (R596). -/
def State.drbgRefuses (s : State) : Bool :=
  let t := s.rfld .shHealth 0 0 63 62
  decide (t = 3) || (decide (2 ^ 20 ≤ s.drbg) && decide (t = 2))

/-- A generate request to the DRBG, which first reseeds where that is due (R596). -/
def State.drbgUse (s : State) : State := { s with drbg := if 2 ^ 20 ≤ s.drbg then 1 else s.drbg + 1 }

/-- Running jobs end withheld at once, and the jobs' contexts wait for OUTPUT_WITHHELD (R482, R488, R509). -/
def State.cyAbort (s : State) (k : Nat) (p : CyJob → Bool) (status : Nat) : State :=
  s.modCy k fun e => { e with jobs := e.jobs.map fun x =>
    (x.1, if p x.2 && x.2.fail.isNone then { x.2 with fail := some (status, 0, (lget 0 x.2.words 5).toNat / 2 ^ 24) } else x.2) }

/-- The state an engine out of service comes to rest in: LAME, WITHDRAWN, or RUNNING where WITHDRAW is 0 (R509, R514). -/
def State.cySettle (s : State) (k : Nat) : State :=
  s.setCyState k (if s.rbit .ftCnt 12 k 63 then 4 else if s.rbit .cyCtl k 0 0 then 2 else 0)

/-- The engine is withdrawn (R509). -/
def State.cyWithdraw (s : State) (k : Nat) : State :=
  let s := (s.setCyState k 1).cyAbort k (fun _ => true) 0x10B
  if (s.cyE k).jobs.isEmpty then s.cySettle k else s

/-- The engine is declared lame where the strike or the refusal before made its counter lame (R509, R632). -/
def State.cyLameFrom (s : State) (k : Nat) (was : Bool) : State :=
  if !was && s.rbit .ftCnt 12 k 63 then
    (if s.cyState k = 2 then s.setCyState k 4 else if s.cyState k = 3 then s else s.cyWithdraw k)
  else s

/-- A strike against engine `k` (R508, R510). -/
def State.cyStrike (s : State) (k : Nat) : State := (s.strike 12 k).cyLameFrom k (s.rbit .ftCnt 12 k 63)

/-- The masking generator is seeded from the DRBG, and the engine declared lame where that is refused (R507, R596). -/
def State.cySeed (s : State) (k : Nat) : State :=
  if s.drbgRefuses then (s.declare 12 k).cyLameFrom k (s.rbit .ftCnt 12 k 63)
  else s.drbgUse.modCy k fun e => { e with masked := 0 }

/-- What the end of a job brings about: the wipe of a lock that is released, the end of a withdrawal (R478, R509). -/
def State.cyAfter (s : State) (k : Nat) : State :=
  if (s.cyE k).jobs.isEmpty then
    let s := if s.cyLockState k = 2 then s.setCyLock k 3 else s
    if s.cyState k = 1 then (s.cySettle k).cySeed k else s
  else s

/-- A write of CY_LOCK by partition `p` (R479, R520). -/
def State.cyLockWrite (s : State) (k p : Nat) (v : Word) : State :=
  match fld v 33 32 with
  | 1 =>
    if s.cyLockState k = 0 then
      (s.rset .cyLock k 0 (BitVec.ofNat 64 (1 * 2 ^ 61 + p * 2 ^ 50))).modCy k fun e => { e with token := fld v 31 0 }
    else s
  | 2 =>
    if s.cyHolds k p ∧ (s.cyE k).token = fld v 31 0 then s.setCyLock k (if (s.cyE k).jobs.isEmpty then 3 else 2) else s
  | _ => s

/-- CY_LOCK as partition `p` reads it (R520). -/
def State.cyLockView (s : State) (k p : Nat) : Word := setFlag (s.rget .cyLock k) 49 (s.cyHolds k p)

/-- LOCK_WIPE_COMPLETE (R481). -/
def execLockWipeComplete (k : Nat) (s : State) : Out :=
  if s.cyLockState k = 3 ∧ (s.cyE k).jobs.isEmpty then
    let s := (s.rset .cyLock k 0 0).modCy k fun e => { e with token := 0 }
    .next ((s.cySeed k).raise (1409 + 4 * k))
  else .next s

/-- A write of CY_FORCE (R482, R517). -/
def State.cyForce (s : State) (k p : Nat) : State :=
  let quiescing := match s.resOf p with
    | some r => s.resState r == 2
    | none => false
  if decide (s.cyLockState k = 1 ∨ s.cyLockState k = 2) && decide (s.cyOwner k = p) && quiescing then
    ((s.rput .cyStat k 0 58 58 0).setCyLock k 3).cyAbort k (fun j => j.req.part == p) 0x100
  else s.rput .cyStat k 0 58 58 1

/-- A write of CY_CTL; a withdrawal with no job in a context and the start of a test wipe the engine (R509, R510, R514). -/
def State.cyControl (s : State) (k : Nat) (v : Word) : State :=
  let w := flag v 0
  let s := s.rset .cyCtl k 0 (BitVec.ofNat 64 (bnat w))
  let s := if flag v 1 then (if s.cyState k = 2 then (s.setCyState k 3).cySeed k else s.rput .cyStat k 0 60 59 3) else s
  if w ∧ s.cyState k = 0 then (if (s.cyE k).jobs.isEmpty then (s.cyWithdraw k).cySeed k else s.cyWithdraw k)
  else if !w ∧ s.cyState k = 2 then s.setCyState k 0
  else s

/-- CY_TEST_COMPLETE; the engine is wiped (R510). -/
def execCyTestComplete (k : Nat) (pass : Bool) (s : State) : Out :=
  if s.cyState k = 3 then
    let s := s.rput .cyStat k 0 60 59 (if pass then 1 else 2)
    let s := if pass then s else s.cyStrike k
    .next (((s.cySettle k).cySeed k).raise (1410 + 4 * k))
  else .next s

/-- MASKING_GENERATOR_RESEED: after 2^20 blocks (R507). -/
def execMaskingGeneratorReseed (k : Nat) (s : State) : Out :=
  if 2 ^ 20 ≤ (s.cyE k).masked then .next (s.cySeed k) else .next s

/-! ### Key slots (R483 to R492) -/

/-- A key slot. -/
def State.keySlot (s : State) (n : Nat) : KeySlot := tget KeySlot.reset s.keys n
/-- The state with a key slot set. -/
def State.setKey (s : State) (n : Nat) (k : KeySlot) : State := { s with keys := tput KeySlot.reset s.keys n k }

/-- A GCM invocation value of a slot, none where it is exhausted (R490). -/
def State.grantInvocation (s : State) (n : Nat) : State × Option Nat :=
  let k := s.keySlot n
  if k.state = 2 then (s, none)
  else if k.invoc = 2 ^ 64 - 1 then (s.setKey n { k with state := 2 }, none)
  else
    let hwm := if k.hwm ≤ k.invoc then min (k.invoc + 2 ^ 20) (2 ^ 64 - 1) else k.hwm
    (s.setKey n { k with hwm := hwm, invoc := k.invoc + 1 }, some k.invoc)

/-- The jobs that latched a slot are aborted with KEY_REVOKED (R488). -/
def State.cyRevoke (s : State) (n : Nat) : State :=
  (List.range 12).foldl (fun s k => if (s.cyE k).jobs.isEmpty then s else
    s.cyAbort k (fun j =>
      let m := bits (lget 0 j.words 1).toNat 63 52
      m == n || (j.slot.ktype == 4 && m + 1 == n)) 0x104) s

/-! ### Descriptors (R498 to R500) -/

/-- Word `i` of a job's descriptor. -/
def CyJob.w (j : CyJob) (i : Nat) : Nat := (lget 0 j.words i).toNat
/-- OP. -/
def CyJob.op (j : CyJob) : Nat := bits (j.w 0) 55 48
/-- KSLOT. -/
def CyJob.kslot (j : CyJob) : Nat := bits (j.w 1) 63 52
/-- TAGLEN. -/
def CyJob.taglen (j : CyJob) : Nat := bits (j.w 1) 45 40
/-- DUS. -/
def CyJob.dus (j : CyJob) : Nat := bits (j.w 1) 39 38
/-- SRC. -/
def CyJob.src (j : CyJob) : Nat := j.w 2
/-- DST. -/
def CyJob.dst (j : CyJob) : Nat := j.w 3
/-- AADADDR. -/
def CyJob.aad (j : CyJob) : Nat := j.w 4
/-- DLEN. -/
def CyJob.dlen (j : CyJob) : Nat := bits (j.w 5) 63 24
/-- AADLEN. -/
def CyJob.aadlen (j : CyJob) : Nat := bits (j.w 5) 23 0
/-- The IV field's bytes 0 to 15. -/
def CyJob.iv (j : CyJob) : List Byte := toBytes 8 (j.w 6) ++ toBytes 8 (j.w 7)
/-- TAGADDR. -/
def CyJob.tag (j : CyJob) : Nat := j.w 8

/-- Whether OP is one of GCM, XTS, CMAC, HMAC. -/
def CyJob.gcm (j : CyJob) : Bool := decide (j.op = 1 ∨ j.op = 2)
/-- XTS. -/
def CyJob.xts (j : CyJob) : Bool := decide (j.op = 3 ∨ j.op = 4)
/-- CMAC. -/
def CyJob.cmac (j : CyJob) : Bool := decide (j.op = 6 ∨ j.op = 7)
/-- HMAC. -/
def CyJob.hmac (j : CyJob) : Bool := decide (j.op = 8 ∨ j.op = 9)
/-- Whether the job writes a destination. -/
def CyJob.writes (j : CyJob) : Bool := decide (j.op ≤ 5)

/-- The bytes of an XTS data unit, 0 where the data is one unit. -/
def CyJob.unitLen (j : CyJob) : Nat := if j.dus = 1 then 512 else if j.dus = 2 then 4096 else 0

/-- Whether a descriptor holds a reserved value (R498, R499). -/
def CyJob.reserved (j : CyJob) : Bool :=
  let tagged := j.gcm || j.cmac || j.hmac
  let lo := if j.gcm then 12 else if j.cmac then 8 else 24
  let hi := if j.hmac then 48 else 16
  let len := if j.unitLen = 0 then decide (16 ≤ j.dlen ∧ j.dlen ≤ 2 ^ 24) else j.dlen != 0 && j.dlen % j.unitLen == 0
  bits (j.w 0) 31 24 != 3 || decide (j.op = 0) || decide (9 < j.op)
    || bits (j.w 1) 51 48 != 0 || bit (j.w 1) 46 || bits (j.w 1) 37 32 != 0
    || (if tagged then decide (j.taglen < lo ∨ hi < j.taglen) else j.taglen != 0)
    || (if j.xts then decide (j.dus = 3) else j.dus != 0)
    || (!j.gcm && (j.aad != 0 || j.aadlen != 0))
    || (if j.op = 2 then bits (j.w 7) 63 32 != 0 else if j.xts ∨ j.op = 5 then false else j.w 6 != 0 || j.w 7 != 0)
    || (!tagged && j.tag != 0) || (!j.writes && j.dst != 0) || (j.xts && !len)
    || j.w 9 != 0 || j.w 10 != 0 || j.w 11 != 0

/-- Whether its ranges overlap in a way R499 forbids. -/
def CyJob.overlaps (j : CyJob) : Bool :=
  let d := if j.writes then j.dlen else 0
  let ov := fun (a n : Nat) (others : List (Nat × Nat)) => others.any fun x => overlap a n x.1 x.2
  (ov j.dst d [(j.aad, j.aadlen), (j.tag, j.taglen)] || (overlap j.dst d j.src j.dlen && j.src != j.dst))
    || ov j.tag j.taglen [(j.src, j.dlen), (j.aad, j.aadlen)]

/-- The USE bit an OP needs (R483). -/
def CyJob.useBit (j : CyJob) : Nat :=
  if j.op = 1 then 0 else if j.op = 2 then 1 else if j.xts then 2 else if j.op = 5 then 3 else if j.cmac then 4 else 5

/-- Whether KTYPE fits the OP (R484). -/
def CyJob.ktypeFits (j : CyJob) (t : Nat) : Bool :=
  if j.hmac then t == 6 else if j.xts then t == 3 || t == 4 else t == 1 || t == 2

/-- The status of the first check that fails, up to row 7 (R500). -/
def State.cyRefusal (s : State) (k : Nat) (j : CyJob) : Option Nat :=
  let sl := s.keySlot j.kslot
  if !s.cyHolds k j.req.part then some 0x100
  else if s.cyState k ≠ 0 then some 0x10B
  else if j.reserved then some 1
  else if j.overlaps then some 0x108
  else if sl.state = 0 then some 0x101
  else if sl.owner ≠ j.req.part ∨ !sl.use.testBit j.useBit ∨ !j.ktypeFits sl.ktype then some 0x102
  else if bits (j.w 1) 31 0 ≠ sl.gen then some 0x103
  else if j.gcm ∧ (2 ^ 32 - 2) * 16 < j.dlen then some 0x106
  else none

/-- A job ends: its completion is written and its context is free (R501, R519). -/
def State.cyEnd (s : State) (k : Nat) (q : Request) (status detail : Nat) : State :=
  let s := (s.bump .cyJobs k).complete q status detail
  let s := if status = 0x107 then s.bump .cyTagfails k else s
  if status = 0x104 ∨ status = 0x105 then s.raise (1411 + 4 * k) else s

/-- The job at the head of the next trough of engine `k` takes a context with its key latched, or completes at once
(R486, R495, R500). -/
def State.cyBegin (s : State) (k op : Nat) : State :=
  let e := s.cyE k
  match (List.range 16).find? (fun c => (tfind e.jobs c).isNone), s.engineHead 1 k e.next op with
  | some c, some (t, q, rest) =>
    if !s.flockRuns k then s else
    let s := (s.setTrough t rest).modCy k fun e => { e with next := t + 1 }
    let ws := s.descriptor q
    let hd := s.rget .cyHard k
    let n := bits (lget 0 ws 1).toNat 63 52
    let sl := s.keySlot n
    let j : CyJob :=
      { req := q, words := ws, slot := sl, key2 := if sl.ktype = 4 then (s.keySlot (n + 1)).key else 0, invoc := 0,
        hard := bit (lget 0 ws 1).toNat 47 || flag hd 63, dummy := fld hd 2 0, errors := 0, fail := none }
    match s.cyRefusal k j with
    | some st => s.cyEnd k q st 0
    | none =>
      if op = 1 then
        match s.grantInvocation n with
        | (s, none) => s.cyEnd k q 0x105 0
        | (s, some v) => s.modCy k fun e => { e with jobs := tins e.jobs c { j with invoc := v } }
      else s.modCy k fun e => { e with jobs := tins e.jobs c j }
  | _, _ => s

/-- GCM_ENC (R490). -/
def execGcmEnc (k : Nat) (s : State) : Out := .next (s.cyBegin k 1)
/-- GCM_DEC (R501). -/
def execGcmDec (k : Nat) (s : State) : Out := .next (s.cyBegin k 2)
/-- XTS_ENC (R499). -/
def execXtsEnc (k : Nat) (s : State) : Out := .next (s.cyBegin k 3)
/-- XTS_DEC (R499). -/
def execXtsDec (k : Nat) (s : State) : Out := .next (s.cyBegin k 4)
/-- CTR (R477). -/
def execCtr (k : Nat) (s : State) : Out := .next (s.cyBegin k 5)
/-- CMAC_GEN (R501). -/
def execCmacGen (k : Nat) (s : State) : Out := .next (s.cyBegin k 6)
/-- CMAC_VER (R501). -/
def execCmacVer (k : Nat) (s : State) : Out := .next (s.cyBegin k 7)
/-- HMAC_GEN (R501). -/
def execHmacGen (k : Nat) (s : State) : Out := .next (s.cyBegin k 8)
/-- HMAC_VER (R501). -/
def execHmacVer (k : Nat) (s : State) : Out := .next (s.cyBegin k 9)

/-! ### The work of a job (R490, R499, R501) -/

/-- The bytes of a key of `n` bytes, lowest first. -/
def CyJob.keyBytes (j : CyJob) (n : Nat) : List Byte := toBytes n j.slot.key
/-- The key of an AES job other than XTS. -/
def CyJob.aesKey (j : CyJob) : List Byte := j.keyBytes (if j.slot.ktype = 1 then 16 else 32)
/-- Key1 and Key2 of an XTS job (R483). -/
def CyJob.xtsKeys (j : CyJob) : List Byte × List Byte :=
  if j.slot.ktype = 3 then (toBytes 16 (j.slot.key / 2 ^ 128), toBytes 16 j.slot.key) else (j.keyBytes 32, toBytes 32 j.key2)
/-- The IV of a GCM job: built by the hardware for encryption (R490), the descriptor's for decryption. -/
def CyJob.gcmIv (j : CyJob) : List Byte :=
  if j.op = 1 then toBytesBE 4 j.slot.fixed ++ toBytesBE 8 j.invoc else j.iv.take 12

/-- The destination bytes and the full tag of a job on its source and AAD. -/
def CyJob.work (j : CyJob) (src aad : List Byte) : List Byte × List Byte :=
  if j.gcm then
    let ks := roundKeys j.aesKey
    let out := gcmData ks j.gcmIv src
    (out, gcmTag ks j.gcmIv aad (if j.op = 1 then out else src))
  else if j.xts then
    let (k1, k2) := j.xtsKeys
    (Machine.xts k1 k2 (decide (j.op = 4)) (ofBytes j.iv) (if j.unitLen = 0 then j.dlen else j.unitLen) src, [])
  else if j.op = 5 then (ctr j.aesKey j.iv src, [])
  else if j.cmac then ([], Machine.cmac j.aesKey src)
  else ([], hmac384 (j.keyBytes 32) src)

/-- The AES blocks or SHA-384 compressions of a job (R519). -/
def CyJob.blocks (j : CyJob) : Nat :=
  let n := (j.dlen + 15) / 16
  if j.gcm then n + 2
  else if j.xts then n + (if j.unitLen = 0 then 1 else j.dlen / j.unitLen)
  else if j.op = 5 then n
  else if j.cmac then max 1 n + 1
  else (j.dlen + 17 + 127) / 128 + 3

/-- Blocks counted, with the dummy blocks of hardened mode, whose number the random choice of slots rounds either way
(R507, R519, log entry 11). -/
def State.cyCount (s : State) (k : Nat) (j : CyJob) (n : Nat) : State :=
  let s := s.bump .cyBlocks k 0 n
  if j.hard && !j.hmac then
    let d := (n * j.dummy + Config.freeNat s.freeCtr % (16 - j.dummy)) / (16 - j.dummy)
    (s.drawn.bump .cyDummies k 0 d).modCy k fun e => { e with masked := e.masked + n }
  else s

/-- Some of a job's blocks counted: how many an interrupted job has worked is left open (log entry 11). -/
def State.cyCountSome (s : State) (k : Nat) (j : CyJob) : State :=
  s.drawn.cyCount k j (Config.freeNat s.freeCtr % (j.blocks + 1))

/-- A job fails; its output is withheld, at least `lo` and at most `hi` of its destination bytes having been written. -/
def State.cyFail (s : State) (k c : Nat) (j : CyJob) (status lo hi : Nat) : State :=
  s.modCy k fun e => { e with jobs := tins e.jobs c { j with fail := some (status, lo, hi) } }

/-- The status of a failed access (R512). -/
def cyStatus : EngErr → Nat
  | .hurdle => 0x109
  | .poison => 0x10A

/-- The tag of a job written or compared, its destination being written, and the job's success (R501). -/
def State.cyTag (s : State) (k c : Nat) (j : CyJob) (tag : List Byte) : State :=
  let r := j.req.agent
  let n := if j.writes then j.dlen else 0
  let good := fun (s : State) => ((s.modCy k fun e => { e with jobs := tdel e.jobs c }).cyEnd k j.req 0 j.dlen).cyAfter k
  let t := tag.take j.taglen
  if j.op = 2 ∨ j.op = 7 ∨ j.op = 9 then
    match s.engineRead k 0x20 r j.tag j.taglen with
    | (s, .error e) => s.cyFail k c j (cyStatus e) n n
    | (s, .ok u) => if u = t then good s else s.cyFail k c j 0x107 n n
  else if j.taglen = 0 then good s
  else match s.engineWrite k 0x20 r [(j.tag, j.taglen)] 0 t with
    | (s, .error e) => s.cyFail k c j (cyStatus e) n n
    | (s, .ok _) =>
      good (if j.op = 1 then (s.dieWrite (s.engineAgent k 0x20 (j.req.desc + 0x30)) (j.req.desc + 0x30) j.gcmIv).1 else s)

/-- CIPHER_JOB_COMPLETE: the job in context `c` of engine `k` has read its data and writes its results (R501). -/
def execCipherJobComplete (k c : Nat) (s : State) : Out :=
  match tfind (s.cyE k).jobs c with
  | none => .next s
  | some j =>
    if j.fail.isSome || s.heldBack (164 + k) j.req.res || !s.flockRuns k then .next s
    else
      let r := j.req.agent
      match s.engineRead k 0x20 r j.aad j.aadlen with
      | (s, .error e) => .next ((s.cyCountSome k j).cyFail k c j (cyStatus e) 0 0)
      | (s, .ok aad) =>
        match s.engineRead k 0x20 r j.src j.dlen with
        | (s, .error e) => .next ((s.cyCountSome k j).cyFail k c j (cyStatus e) 0 (if j.writes then j.dlen else 0))
        | (s, .ok src) =>
          let (out, tag) := j.work src aad
          match s.engineWrite k 0x20 r [(j.dst, j.dlen)] 0 out with
          | (s, .error e) => .next ((s.cyCountSome k j).cyFail k c j (cyStatus e) 0 j.dlen)
          | (s, .ok _) => .next ((s.cyCount k j j.blocks).cyTag k c j tag)

/-- OUTPUT_WITHHELD: a failed job has overwritten with zeros the `n` destination bytes it had written, and completes
(R502). -/
def execOutputWithheld (k c n : Nat) (s : State) : Out :=
  match tfind (s.cyE k).jobs c with
  | none => .next s
  | some j => match j.fail with
    | none => .next s
    | some (st, lo, hi) =>
      let m := if j.writes then max lo (min n hi) else 0
      let s := (s.engineWrite k 0x20 j.req.agent [(j.dst, m)] 0 (List.replicate m 0)).1
      .next (((s.modCy k fun e => { e with jobs := tdel e.jobs c }).cyEnd k j.req st 0).cyAfter k)

/-- CIPHER_DATAPATH_ERROR: a detected error restarts the job in context `c`, or ends it; `kind` as in CY_ERRLOG (R508,
R518). -/
def execCipherDatapathError (k c kind : Nat) (s : State) : Out :=
  match tfind (s.cyE k).jobs c with
  | none => .next s
  | some j =>
    if j.fail.isSome then .next s
    else
      let final := decide (1 ≤ j.errors)
      let s := s.cyCountSome k j
      let s := (s.record .cyErrlog k 0 (kind % 4 * 2 ^ 60 + bnat final * 2 ^ 59 + j.req.part * 2 ^ 48 + j.kslot)).raise (1410 + 4 * k)
      let hi := if j.writes then j.dlen else 0
      let s := if final then s.cyFail k c j 0x10C 0 hi
        else if j.op = 1 then
          match s.grantInvocation j.kslot with
          | (s, none) => s.cyFail k c j 0x105 0 hi
          | (s, some v) => s.modCy k fun e => { e with jobs := tins e.jobs c { j with errors := 1, invoc := v } }
        else s.modCy k fun e => { e with jobs := tins e.jobs c { j with errors := 1 } }
      .next (s.cyStrike k)

end Sys2Proof.Machine
end

