-- ==== Sys2Proof/Machine/Crc.lean ====
section
/-! DEFINITION. Checksums: reflected CRCs of 32 bits, CRC-64 of ECMA-182 stands with the signatures, and Adler-32 (08, R381; 10, R450 to R462; RFC 1950, RFC 1952). -/

namespace Sys2Proof.Machine

open Sys2Proof

/-- One bit of a reflected CRC. -/
def crcBit (poly : BitVec 32) (c : BitVec 32) : BitVec 32 := if c.getLsbD 0 then (c >>> 1) ^^^ poly else c >>> 1

/-- One byte of a reflected CRC. -/
def crcByte (poly : BitVec 32) (c : BitVec 32) (b : Byte) : BitVec 32 :=
  (List.range 8).foldl (fun c _ => crcBit poly c) (c ^^^ b.setWidth 32)

/-- A reflected CRC carried on over bytes, from a value as a previous call gave it (0 at the start). -/
def crcUpdate (poly : BitVec 32) (c : BitVec 32) (bs : List Byte) : BitVec 32 :=
  ~~~ (bs.foldl (crcByte poly) (~~~ c))

/-- CRC-32C (Castagnoli). -/
def crc32c (c : BitVec 32) (bs : List Byte) : BitVec 32 := crcUpdate 0x82F63B78 c bs

/-- CRC-32 of gzip (RFC 1952). -/
def crc32 (c : BitVec 32) (bs : List Byte) : BitVec 32 := crcUpdate 0xEDB88320 c bs

/-- Adler-32 carried on over bytes, 1 at the start (RFC 1950). -/
def adler32 (a : Nat) (bs : List Byte) : Nat :=
  let r := bs.foldl (fun (x : Nat × Nat) b => let lo := (x.1 + b.toNat) % 65521; (lo, (x.2 + lo) % 65521)) (a % 65536, a / 65536)
  r.2 * 65536 + r.1

end Sys2Proof.Machine
end

