-- ==== Sys2Proof/Machine/Inflate.lean ====
section
/-! DEFINITION. DEFLATE as RFC 1951 has it: the decoding of a block with the errors of R459, and the stored and fixed forms a block is written in (10, R451 to R459). -/

namespace Sys2Proof.Machine

open Sys2Proof

/-- Bits in stream order. -/
abbrev Bits := List Bool

/-- The bits of bytes, least significant first. -/
def bytesBits (bs : List Byte) : Bits := bs.flatMap fun b => (List.range 8).map b.getLsbD

/-- A number from bits, the first the least significant. -/
def bitsNat : Bits → Nat
  | [] => 0
  | b :: bs => bnat b + 2 * bitsNat bs

/-- `n` bits of a number, least significant first. -/
def natBits (n v : Nat) : Bits := (List.range n).map v.testBit

/-- Whole bytes of bits, and the bits left over. -/
def bitsBytes : Nat → Bits → List Byte × Bits
  | 0, b => ([], b)
  | k + 1, b =>
    if b.length < 8 then ([], b)
    else
      let (bs, r) := bitsBytes k (b.drop 8)
      (BitVec.ofNat 8 (bitsNat (b.take 8)) :: bs, r)

/-- Why decoding stops: a violation of the format, or the end of the input. -/
inductive InfErr | format | ended
  deriving DecidableEq, Repr

/-- `n` bits of a stream as a number. -/
def takeBits (n : Nat) (b : Bits) : Except InfErr (Nat × Bits) :=
  if b.length < n then .error .ended else .ok (bitsNat (b.take n), b.drop n)

/-! ### Huffman codes -/

/-- Codes of a length. -/
def countLen (lens : List Nat) (l : Nat) : Nat := (lens.filter (· = l)).length

/-- The first code of a length (RFC 1951, 3.2.2). -/
def firstCode (lens : List Nat) : Nat → Nat
  | 0 => 0
  | l + 1 => (firstCode lens l + (if l = 0 then 0 else countLen lens l)) * 2

/-- The codes of a set of lengths: length, code, symbol. -/
def huffCodes (lens : List Nat) : List (Nat × Nat × Nat) :=
  let firsts := (List.range 16).map (firstCode lens)
  ((List.range lens.length).foldl (fun (acc : List (Nat × Nat × Nat) × List Nat) i =>
    let l := lget 0 lens i
    if l = 0 then acc else ((l, lget 0 acc.2 l, i) :: acc.1, acc.2.set l (lget 0 acc.2 l + 1))) ([], firsts)).1
where
  /-- Element or default. -/
  lget (d : Nat) (l : List Nat) (i : Nat) : Nat := (l[i]?).getD d

/-- The share of the code space a set of lengths takes, in 2^15ths. -/
def codeSpace (lens : List Nat) : Nat := lens.foldl (fun n l => if l = 0 then n else n + 2 ^ (15 - l)) 0

/-- The next symbol of a stream; bits that begin no code are a violation (R459, R461). -/
def nextSym (codes : List (Nat × Nat × Nat)) : Nat → Nat → Nat → Bits → Except InfErr (Nat × Bits)
  | 0, _, _, _ => .error .format
  | _ + 1, _, _, [] => .error .ended
  | k + 1, len, code, b :: bs =>
    let len := len + 1
    let code := code * 2 + bnat b
    match codes.find? fun c => c.1 == len && c.2.1 == code with
    | some c => .ok (c.2.2, bs)
    | none => if codes.any fun c => decide (len < c.1) && c.2.1 / 2 ^ (c.1 - len) == code then nextSym codes k len code bs else .error .format

/-- The next symbol under a set of codes. -/
def symbol (codes : List (Nat × Nat × Nat)) (b : Bits) : Except InfErr (Nat × Bits) := nextSym codes 15 0 0 b

/-- The first length of each length symbol from 257, and its extra bits (RFC 1951, 3.2.5). -/
def lengthBase : List (Nat × Nat) :=
  [(3, 0), (4, 0), (5, 0), (6, 0), (7, 0), (8, 0), (9, 0), (10, 0), (11, 1), (13, 1), (15, 1), (17, 1), (19, 2), (23, 2), (27, 2), (31, 2)]
    ++ [(35, 3), (43, 3), (51, 3), (59, 3), (67, 4), (83, 4), (99, 4), (115, 4), (131, 5), (163, 5), (195, 5), (227, 5), (258, 0)]

/-- The first distance of each distance symbol, and its extra bits. -/
def distBase : List (Nat × Nat) :=
  [(1, 0), (2, 0), (3, 0), (4, 0)] ++ (List.range 26).map fun i => ((2 + i % 2) * 2 ^ (i / 2 + 1) + 1, i / 2 + 1)

/-- The fixed literal/length code (RFC 1951, 3.2.6). -/
def fixedLit : List Nat := (List.range 288).map fun i => if i < 144 then 8 else if i < 256 then 9 else if i < 280 then 7 else 8
/-- The fixed distance code. -/
def fixedDist : List Nat := List.replicate 30 5

/-- `n` bytes copied from a distance back; the most recent byte stands first. -/
def copyBack (dist : Nat) : Nat → List Byte → Option (List Byte)
  | 0, out => some out
  | n + 1, out => match out[dist - 1]? with
    | some b => copyBack dist n (b :: out)
    | none => none

/-- The symbols of a block up to its end; `out` holds every byte so far, the most recent first (R459). -/
def inflateSyms (lit dist : List (Nat × Nat × Nat)) : Nat → List Byte → Bits → Except InfErr (List Byte × Bits)
  | 0, _, _ => .error .ended
  | fuel + 1, out, b =>
    match symbol lit b with
    | .error e => .error e
    | .ok (s, b) =>
      if s < 256 then inflateSyms lit dist fuel (BitVec.ofNat 8 s :: out) b
      else if s = 256 then .ok (out, b)
      else match lengthBase[s - 257]? with
      | none => .error .format
      | some (lb, le) =>
        match takeBits le b with
        | .error e => .error e
        | .ok (x, b) =>
          match symbol dist b with
          | .error e => .error e
          | .ok (ds, b) =>
            match distBase[ds]? with
            | none => .error .format
            | some (db, de) =>
              match takeBits de b with
              | .error e => .error e
              | .ok (y, b) =>
                match copyBack (db + y) (lb + x) out with
                | some out => inflateSyms lit dist fuel out b
                | none => .error .format

/-- The order of the code length code lengths. -/
def clOrder : List Nat := [16, 17, 18, 0, 8, 7, 9, 6, 10, 5, 11, 4, 12, 3, 13, 2, 14, 1, 15]

/-- `n` code lengths read under the code length code. -/
def readLens (cl : List (Nat × Nat × Nat)) (n : Nat) : Nat → List Nat → Bits → Except InfErr (List Nat × Bits)
  | 0, acc, b => .ok (acc, b)
  | fuel + 1, acc, b =>
    if n ≤ acc.length then (if acc.length = n then .ok (acc, b) else .error .format)
    else match symbol cl b with
    | .error e => .error e
    | .ok (s, b) =>
      if s < 16 then readLens cl n fuel (acc ++ [s]) b
      else
        let extra := if s = 16 then 2 else if s = 17 then 3 else 7
        match takeBits extra b with
        | .error e => .error e
        | .ok (x, b) =>
          if s = 16 then match acc.getLast? with
            | some l => readLens cl n fuel (acc ++ List.replicate (3 + x) l) b
            | none => .error .format
          else readLens cl n fuel (acc ++ List.replicate ((if s = 17 then 3 else 11) + x) 0) b

/-- The codes of a block with dynamic codes, with the checks of R459. -/
def dynamicCodes (b : Bits) : Except InfErr (List (Nat × Nat × Nat) × List (Nat × Nat × Nat) × Bits) :=
  match takeBits 14 b with
  | .error e => .error e
  | .ok (h, b) =>
    let hlit := h % 32 + 257
    let hdist := h / 32 % 32 + 1
    let hclen := h / 1024 + 4
    if b.length < 3 * hclen then .error .ended
    else
      let raw := (List.range hclen).map fun i => bitsNat ((b.drop (3 * i)).take 3)
      let lens := (List.range 19).map fun s => match (List.range hclen).find? fun i => clOrder[i]? == some s with
        | some i => (raw[i]?).getD 0
        | none => 0
      if 2 ^ 15 < codeSpace lens then .error .format
      else match readLens (huffCodes lens) (hlit + hdist) (hlit + hdist + 1) [] (b.drop (3 * hclen)) with
        | .error e => .error e
        | .ok (all, b) =>
          let lit := all.take hlit
          let dist := all.drop hlit
          let used := (dist.filter (· ≠ 0)).length
          if codeSpace lit ≠ 2 ^ 15 ∨ 2 ^ 15 < codeSpace dist ∨ (1 < used ∧ codeSpace dist ≠ 2 ^ 15) then .error .format
          else .ok (huffCodes lit, huffCodes dist, b)

/-- One block (RFC 1951): whether it is the last, and every byte so far, the most recent first. The stream ends at a byte
boundary. -/
def inflateBlock (out : List Byte) (b : Bits) : Except InfErr (Bool × List Byte × Bits) :=
  match takeBits 3 b with
  | .error e => .error e
  | .ok (h, b) =>
    let final := h % 2 == 1
    match h / 2 with
    | 0 =>
      let b := b.drop (b.length % 8)
      (match takeBits 32 b with
       | .error e => .error e
       | .ok (x, b) =>
         let len := x % 65536
         if x / 65536 ≠ 65535 - len then .error .format
         else if b.length < 8 * len then .error .ended
         else .ok (final, (bitsBytes len (b.take (8 * len))).1.reverse ++ out, b.drop (8 * len)))
    | 1 => (inflateSyms (huffCodes fixedLit) (huffCodes fixedDist) (b.length + 1) out b).map fun x => (final, x.1, x.2)
    | 2 =>
      (match dynamicCodes b with
       | .error e => .error e
       | .ok (lit, dist, b) => (inflateSyms lit dist (b.length + 1) out b).map fun x => (final, x.1, x.2))
    | _ => .error .format

/-! ### Writing -/

/-- A code of a set of lengths, most significant bit first. -/
def codeBits (codes : List (Nat × Nat × Nat)) (s : Nat) : Bits :=
  match codes.find? fun c => c.2.2 == s with
  | some c => (natBits c.1 c.2.1).reverse
  | none => []

/-- The last entry of a base table that does not lie above a value: its symbol, and the extra bits. -/
def baseSym (tbl : List (Nat × Nat)) (v : Nat) : Nat × Bits :=
  match ((List.range tbl.length).filter fun i => decide (((tbl[i]?).getD (0, 0)).1 ≤ v)).getLast? with
  | some i => let (b, e) := (tbl[i]?).getD (0, 0); (i, natBits e (v - b))
  | none => (0, [])

/-- The block with the fixed codes for a list of literals (0, byte) and matches (length, distance). -/
def fixedBlock (tokens : List (Nat × Nat)) (final : Bool) : Bits :=
  let lit := huffCodes fixedLit
  let dist := huffCodes fixedDist
  let one := fun (t : Nat × Nat) =>
    if t.1 = 0 then codeBits lit t.2
    else
      let l := baseSym lengthBase t.1
      let d := baseSym distBase t.2
      codeBits lit (257 + l.1) ++ l.2 ++ codeBits dist d.1 ++ d.2
  final :: true :: false :: (tokens.flatMap one ++ codeBits lit 256)

/-- A stored block that begins at bit `at` of a byte. -/
def storedBlock (at_ : Nat) (bs : List Byte) (final : Bool) : Bits :=
  let n := bs.length
  [final, false, false] ++ List.replicate ((16 - (at_ + 3) % 8) % 8) false ++ natBits 16 n ++ natBits 16 (65535 - n) ++ bytesBits bs

/-- The stored form of a unit of DEFLATE, zlib or gzip (R454). -/
def storedForm (at_ : Nat) (bs : List Byte) (final : Bool) : Bits :=
  if bs.length ≤ 32768 then storedBlock at_ bs final
  else
    let a := storedBlock at_ (bs.take 32768) false
    a ++ storedBlock ((at_ + a.length) % 8) (bs.drop 32768) final

end Sys2Proof.Machine
end

