-- ==== Sys2Proof/Machine/Compress.lean ====
section
/-! DEFINITION. The compression engines (10). -/

namespace Sys2Proof.Machine

open Sys2Proof

/-! ### Engines and contexts (R444, R465, R470, R471) -/

/-- A compression engine. -/
def State.czE (s : State) (k : Nat) : CzEngine := tget CzEngine.reset s.cz k

/-- The state with a compression engine changed; JOBS follows its contexts (R471). -/
def State.modCz (s : State) (k : Nat) (f : CzEngine → CzEngine) : State :=
  let e := f (s.czE k)
  { s with cz := tins s.cz k e }.rput .czStat k 0 50 48 e.jobs.length

/-- STATE of an engine: 0 RUNNING, 1 WITHDRAWING, 2 WITHDRAWN, 3 EMPTY, 4 LOADING, 5 LAME (R471). -/
def State.czState (s : State) (k : Nat) : Nat := s.rfld .czStat k 0 63 61

/-- STATE changes and CZ_STATE is raised (R475). -/
def State.setCzState (s : State) (k v : Nat) : State :=
  if s.czState k = v then s else (s.rput .czStat k 0 63 61 v).raise (1457 + 4 * k)

/-- The stops and the withdrawal that have no job left to wait for are complete (R465, R472). -/
def State.czAfter (s : State) (k : Nat) : State :=
  let e := s.czE k
  let busy := fun (p : Nat) => e.jobs.any fun x => x.2.req.part == p
  let s := if e.stopping.any fun p => !busy p then
    (s.modCz k fun e => { e with stopping := e.stopping.filter busy }).raise (1458 + 4 * k) else s
  if s.czState k = 1 ∧ e.jobs.isEmpty then s.setCzState k 2 else s

/-- The bytes a job in a trough has written so far: those its state words name (R468). -/
def State.czDetail (s : State) (q : Request) : Nat :=
  let w := s.memWord (q.desc + 0x20)
  if flag w 63 then fld w 47 0 + fld (s.memWord (q.desc + 0x28)) 47 0 else 0

/-- Jobs that have not begun complete WITHDRAWN (R465). -/
def State.czFlush (s : State) (k : Nat) (p : Request → Bool) (status : Nat) : State :=
  s.flushTroughs 2 k p status State.czDetail

/-- The engine is declared lame (R465, R632). -/
def State.czLame (s : State) (k : Nat) : State := (s.setCzState k 5).czFlush k (fun _ => true) 0x10A

/-- A strike against engine `k` (R453, R471, R630). -/
def State.czStrike (s : State) (k : Nat) : State :=
  let was := s.rbit .ftCnt 13 k 63
  let s := s.strike 13 k
  if !was && s.rbit .ftCnt 13 k 63 then s.czLame k else s

/-! ### Descriptors (R448 to R450) -/

/-- Word `i` of a job's descriptor. -/
def CzJob.w (j : CzJob) (i : Nat) : Nat := (lget 0 j.words i).toNat
/-- OP: 1 COMPRESS, 2 DECOMPRESS. -/
def CzJob.op (j : CzJob) : Nat := bits (j.w 0) 55 48
/-- FMT. -/
def CzJob.fmt (j : CzJob) : Nat := bits (j.w 1) 63 60
/-- LEVEL. -/
def CzJob.level (j : CzJob) : Nat := bits (j.w 1) 59 56
/-- LINK. -/
def CzJob.link (j : CzJob) : Bool := bit (j.w 1) 55
/-- NOUT. -/
def CzJob.nout (j : CzJob) : Nat := bits (j.w 1) 47 32
/-- MTIME. -/
def CzJob.mtime (j : CzJob) : Nat := bits (j.w 1) 31 0
/-- INADDR. -/
def CzJob.inaddr (j : CzJob) : Nat := j.w 2
/-- INLEN. -/
def CzJob.inlen (j : CzJob) : Nat := bits (j.w 3) 31 0
/-- The output buffers: address and length. -/
def CzJob.bufs (j : CzJob) : List (Nat × Nat) := (List.range j.nout).map fun i => (j.w (8 + 2 * i), bits (j.w (9 + 2 * i)) 31 0)
/-- The bytes the output buffers hold. -/
def CzJob.cap (j : CzJob) : Nat := j.bufs.foldl (fun n b => n + b.2) 0

/-- A job from its request and descriptor, with its state words (R449). -/
def czJob (q : Request) (ws : List Word) : CzJob :=
  let w := fun (i : Nat) => (lget 0 ws i).toNat
  let v := bit (w 4) 63
  let z := fun (n : Nat) => if v then n else 0
  { req := q, words := ws, outdone := z (bits (w 4) 47 0), skip := z (bits (w 5) 47 0), indone := z (bits (w 6) 31 0),
    cksum := if v then bits (w 6) 63 32 else if bits (w 1) 63 60 = 1 then 1 else 0, inbit := z (bits (w 7) 15 13),
    ncarry := z (bits (w 7) 12 10), carry := z (bits (w 7) 6 0), hist := [], head := none }

/-- Whether a descriptor holds a reserved value (R450). -/
def CzJob.reserved (j : CzJob) : Bool :=
  let v := bit (j.w 4) 63
  decide (3 < j.fmt) || (if j.op = 1 then decide (9 < j.level) else j.level != 0)
    || (j.link && !(decide (j.op = 1) && decide (j.fmt = 3))) || bits (j.w 1) 54 48 != 0
    || decide (j.nout = 0) || decide (252 < j.nout) || (j.mtime != 0 && !(decide (j.op = 1) && decide (j.fmt = 2)))
    || bits (j.w 3) 63 32 != 0 || bits (j.w 4) 62 48 != 0
    || (v && (bits (j.w 7) 63 16 != 0 || bits (j.w 7) 9 7 != 0))
    || bits (j.w 0) 31 24 != 2 + (j.nout + 1) / 2
    || (List.range j.nout).any (fun i => bits (j.w (9 + 2 * i)) 63 32 != 0 || bits (j.w (9 + 2 * i)) 31 0 == 0)
    || (decide (j.nout % 2 = 1) && (j.w (8 + 2 * j.nout) != 0 || j.w (9 + 2 * j.nout) != 0))

/-- The status with which a descriptor completes at once (R450, R464), for microcode version `ucv`. -/
def CzJob.refusal (j : CzJob) (ucv : Nat) : Option Nat :=
  let v := bit (j.w 4) 63
  if j.reserved then some 1
  else if !v then
    (if j.bufs.any (fun b => overlap j.inaddr j.inlen b.1 b.2) || selfOverlap j.bufs then some 0x107 else none)
  else if j.op = 1 ∧ j.skip ≠ 0 ∧ bits (j.w 5) 63 48 ≠ ucv then some 0x108
  else if j.inlen < j.indone ∨ j.cap < j.outdone + j.skip ∨ (j.ncarry ≠ 0 ∧ j.fmt = 3) ∨ (j.inbit ≠ 0 ∧ j.op = 1)
      ∨ 2 ^ j.ncarry ≤ j.carry then some 0x109
  else none

/-! ### The end of a job -/

/-- The state words of a job (R449). -/
def CzJob.stateWords (j : CzJob) (vld : Bool) (ucv : Nat) : List Word :=
  [BitVec.ofNat 64 (bnat vld * 2 ^ 63 + j.outdone % 2 ^ 48), BitVec.ofNat 64 (ucv * 2 ^ 48 + j.skip % 2 ^ 48),
   BitVec.ofNat 64 (j.cksum % 2 ^ 32 * 2 ^ 32 + j.indone % 2 ^ 32), BitVec.ofNat 64 (j.inbit * 2 ^ 13 + j.ncarry * 2 ^ 10 + j.carry)]

/-- A job ends: its state words and its completion are written and its context is cleared (R445, R449, R468). -/
def State.czFinish (s : State) (k c : Nat) (j : CzJob) (status : Nat) (vld : Bool) : State :=
  let pa := j.req.desc + 0x20
  let s := (s.dieWrite (s.engineAgent k 0x21 pa) pa (wordsBytes (j.stateWords vld (s.rfld .czStat k 0 15 0)))).1
  let s := s.complete j.req status (j.outdone + j.skip)
  (s.modCz k fun e => { e with jobs := tdel e.jobs c }).czAfter k

/-- The status of a failed access (R468). -/
def czStatus : EngErr → Nat
  | .hurdle => 0x105
  | .poison => 0x106

/-! ### Compressing (R451 to R458) -/

/-- Literals and matches spelled out after a history, most recent byte first; none where one is not valid (R451). -/
def spell : List (Nat × Nat) → List Byte → Option (List Byte)
  | [], out => some out
  | (l, d) :: ts, out =>
    if l = 0 then (if d < 256 then spell ts (BitVec.ofNat 8 d :: out) else none)
    else if 3 ≤ l ∧ l ≤ 258 ∧ 1 ≤ d ∧ d ≤ 32768 then match copyBack d l out with
      | some o => spell ts o
      | none => none
    else none

/-- The literals and matches of a unit: those the microcode finds (log entry 12). -/
def czTokens (ucv level : Nat) (hist unit : List Byte) : List (Nat × Nat) :=
  let t := Config.freeMatches ucv level hist unit
  if spell t hist = some (unit.reverse ++ hist) then t else unit.map fun b => (0, b.toNat)

/-- 0 bits up to a byte. -/
def padBits (b : Bits) : Bits := b ++ List.replicate ((8 - b.length % 8) % 8) false

/-- Whether a block with dynamic codes decodes to a unit after its history. -/
def dynamicOk (hist unit : List Byte) (final : Bool) (b : Bits) : Bool :=
  b.take 3 == [final, false, true] && (match inflateBlock hist (padBits b) with
    | .ok (f, out, rest) => f == final && out == unit.reverse ++ hist && rest.length == (padBits b).length - b.length
    | .error _ => false)

/-- The block of a unit: the one of fewer bits, fixed codes on a tie (R451). -/
def czBlock (ucv level : Nat) (hist unit : List Byte) (final : Bool) : Bits :=
  let ts := czTokens ucv level hist unit
  let f := fixedBlock ts final
  let d := Config.freeDynamicBlock ucv level ts final
  if d.length < f.length && dynamicOk hist unit final d then d else f

/-- What precedes the first unit (R455, R457). -/
def CzJob.header (j : CzJob) : List Byte :=
  let b := fun (l : List Nat) => l.map (BitVec.ofNat 8)
  match j.fmt with
  | 1 => b [0x78, if j.level ≤ 1 then 0x01 else if j.level ≤ 5 then 0x5E else if j.level = 6 then 0x9C else 0xDA]
  | 2 => b [0x1F, 0x8B, 0x08, 0x00] ++ toBytes 4 j.mtime ++ b [if j.level = 1 then 4 else if j.level = 9 then 2 else 0, 0xFF]
  | 3 => b [0x42, 0x47, 0x46, 0x31, 0x01, bnat j.link, 0, 0] ++ toBytes 8 j.inlen
  | _ => []

/-- What follows the last unit (R455). -/
def CzJob.trailer (j : CzJob) (cksum : Nat) : List Byte :=
  match j.fmt with
  | 1 => toBytesBE 4 cksum
  | 2 => toBytes 4 cksum ++ toBytes 4 j.inlen
  | _ => []

/-- The running checksum carried on (R449). -/
def czSum (fmt c : Nat) (bs : List Byte) : Nat :=
  match fmt with
  | 1 => adler32 c bs
  | 2 => (crc32 (BitVec.ofNat 32 c) bs).toNat
  | _ => (crc32c (BitVec.ofNat 32 c) bs).toNat

/-- A unit worked: its output, the job after it, and whether it was stored because it did not shrink (R453). -/
def CzJob.unit (j : CzJob) (ucv : Nat) (unit : List Byte) (final differs : Bool) : List Byte × CzJob × Bool :=
  let sum := czSum j.fmt j.cksum unit
  let hist := if j.fmt = 3 ∧ !j.link then [] else j.hist
  let pre := if j.indone = 0 then j.header else []
  let raw := decide (j.level = 0) || differs
  let after := fun (n c : Nat) => { j with cksum := sum, indone := j.indone + unit.length, hist := (unit.reverse ++ hist).take 32768, ncarry := n, carry := c }
  if j.fmt = 3 then
    let body := if raw then [] else (bitsBytes 65538 (padBits (czBlock ucv j.level hist unit true))).1
    let stored := raw || decide (unit.length ≤ body.length)
    let pay := if stored then unit else body
    (pre ++ toBytes 4 (bnat stored * 2 ^ 31 + bnat final * 2 ^ 30 + pay.length) ++ toBytes 4 (crc32c 0 unit).toNat ++ pay, after 0 0,
      stored && !raw)
  else
    let keep := storedForm j.ncarry unit final
    let block := if raw then keep else czBlock ucv j.level hist unit final
    let stored := raw || decide (keep.length ≤ block.length)
    let all := natBits j.ncarry j.carry ++ (if stored then keep else block)
    let all := if final then padBits all else all
    let (bs, rest) := bitsBytes (all.length / 8) all
    (pre ++ bs ++ (if final then j.trailer sum else []), after rest.length (bitsNat rest), stored && !raw)

/-- The output of a unit or block written: `old` is the job before it, `new` after it. The bytes already written are
discarded, and the job stops where the chain ends (R462, R463). Input is counted with the first bytes it gives (R474). -/
def State.czEmit (s : State) (k c : Nat) (old new : CzJob) (bs : List Byte) (fin : State → CzJob → State) : State :=
  let at_ := old.outdone + old.skip
  let rest := bs.drop old.skip
  let w := rest.take (old.cap - at_)
  match s.engineWrite k 0x21 old.req.agent old.bufs at_ w with
  | (s, .error e) => s.czFinish k c old (czStatus e) true
  | (s, .ok _) =>
    let s := s.bump .czOutbytes k 0 w.length
    let s := if old.skip = 0 ∧ (rest = [] ∨ at_ < old.cap) then s.bump .czInbytes k 0 (new.indone - old.indone) else s
    if w.length < rest.length then s.czFinish k c { old with skip := old.skip + w.length } 0x100 true
    else fin (s.bump .czUnits k) { new with outdone := old.outdone + bs.length, skip := 0 }

/-- At a unit boundary a job goes on, or stops because its engine is withdrawn or its partition is stopped (R465). -/
def State.czNext (s : State) (k c : Nat) (j : CzJob) : State :=
  if s.czState k ≠ 0 then s.czFinish k c j 0x10A true
  else if (s.czE k).stopping.contains j.req.part then s.czFinish k c j 0x10B true
  else s.modCz k fun e => { e with jobs := tins e.jobs c j }

/-- A verification mismatch (R453, R473). -/
def State.czMismatch (s : State) (k : Nat) (j : CzJob) (va vb : Bool) : State :=
  let s := s.record .czVerlog k 0 ((bnat va + 2 * bnat vb) * 2 ^ 60 + j.req.part * 2 ^ 47 + j.level * 2 ^ 43 + j.indone)
  ((s.bump .czVerfails k).raise (1456 + 4 * k)).czStrike k

/-- One unit of a COMPRESS job; `va` and `vb` say whether a verifier differs (R453). -/
def State.czCompress (s : State) (k c : Nat) (j : CzJob) (va vb : Bool) : State :=
  let len := min 65536 (j.inlen - j.indone)
  let final := decide (j.inlen ≤ j.indone + len)
  match s.engineRead k 0x21 j.req.agent (j.inaddr + j.indone) len with
  | (s, .error e) => s.czFinish k c j (czStatus e) true
  | (s, .ok unit) =>
    let differs := (va || vb) && j.level != 0
    let s := if differs then s.czMismatch k j va vb else s
    let (bs, new, raw) := j.unit (s.rfld .czStat k 0 15 0) unit final differs
    s.czEmit k c j new bs fun s new =>
      let s := if raw then s.bump .czRawunits k else s
      if final then s.czFinish k c new 0 false else s.czNext k c new

/-! ### Decompressing (R459 to R461) -/

/-- Why a stream does not decode. -/
inductive CzErr | ended | format | checksum | unsupported
  deriving DecidableEq, Repr

/-- Its status (R468). -/
def CzErr.status : CzErr → Nat
  | .ended => 0x103
  | .format => 0x101
  | .checksum => 0x102
  | .unsupported => 0x104

/-- Bytes checked in order. -/
def checkBytes : List (Nat → Bool) → List Byte → Except CzErr Unit
  | [], _ => .ok ()
  | _ :: _, [] => .error .ended
  | p :: ps, b :: bs => if p b.toNat then checkBytes ps bs else .error .format

/-- The index after a text that ends in a 0 byte. -/
def afterText (bs : List Byte) (i : Nat) : Except CzErr Nat :=
  match (bs.drop i).findIdx? (· == 0) with
  | some n => .ok (i + n + 1)
  | none => .error .ended

/-- The length of a gzip header (R459; RFC 1952). -/
def gzipHeader (bs : List Byte) : Except CzErr Nat := do
  let any := fun (_ : Nat) => true
  checkBytes [(· == 0x1F), (· == 0x8B), (· == 8), (· < 32), any, any, any, any, any, any] bs
  let flg := (lget 0 bs 3).toNat
  let i ← if bit flg 2 then
      (if bs.length < 12 then .error .ended
       else let n := 12 + ofBytes ((bs.drop 10).take 2); if bs.length < n then .error CzErr.ended else .ok n)
    else .ok 10
  let i ← if bit flg 3 then afterText bs i else .ok i
  let i ← if bit flg 4 then afterText bs i else .ok i
  if bit flg 1 then
    if bs.length < i + 2 then .error .ended
    else if ofBytes ((bs.drop i).take 2) = (crc32 0 (bs.take i)).toNat % 65536 then .ok (i + 2) else .error .checksum
  else .ok i

/-- The header of a stream: its length, and a frame's CONTENT and LINK (R457, R459). -/
def czHeader (fmt : Nat) (bs : List Byte) : Except CzErr (Nat × Option (Nat × Bool)) :=
  match fmt with
  | 1 =>
    let c := (lget 0 bs 0).toNat
    match checkBytes [fun b => b % 16 == 8 && b / 16 ≤ 7, fun b => (c * 256 + b) % 31 == 0] bs with
    | .error e => .error e
    | .ok _ => if bit (lget 0 bs 1).toNat 5 then .error .unsupported else .ok (2, none)
  | 2 => (gzipHeader bs).map fun n => (n, none)
  | 3 =>
    let any := fun (_ : Nat) => true
    match checkBytes [(· == 0x42), (· == 0x47), (· == 0x46), (· == 0x31), (· == 1), (· < 2), (· == 0), (· == 0),
      any, any, any, any, any, any, any, any] bs with
    | .error e => .error e
    | .ok _ => .ok (16, some (ofBytes ((bs.drop 8).take 8), (lget 0 bs 5) == 1))
  | _ => .ok (0, none)

/-- A block or chunk decoded: where it begins after INDONE, what the header said, its bytes, the bit after it, whether it is
the last, and the trailer: none, its length and whether it holds, or (with length 0) that it is missing. -/
structure CzPiece where
  start : Nat
  head : Option (Nat × Bool)
  out : List Byte
  stop : Nat
  final : Bool
  trail : Option (Nat × Bool)
  deriving DecidableEq, Repr

/-- The blocks of a chunk's payload, up to BFINAL. -/
def inflateAll : Nat → List Byte → Bits → Except InfErr (List Byte × Bits)
  | 0, _, _ => .error .format
  | n + 1, out, b =>
    match inflateBlock out b with
    | .error e => .error e
    | .ok (true, out, b) => .ok (out, b)
    | .ok (false, out, b) => inflateAll n out b

/-- A chunk of a frame (R458, R459): its bytes and its length in the stream. -/
def czChunk (j : CzJob) (content : Nat) (link : Bool) (bs : List Byte) : Except CzErr (List Byte × Nat × Bool) :=
  let len := min 65536 (content - j.outdone)
  let last := decide (content ≤ j.outdone + len)
  if bs.length < 8 then .error .ended
  else
    let w := ofBytes (bs.take 4)
    let plen := bits w 16 0
    let raw := bit w 31
    let hist := if link then j.hist else []
    if bits w 29 17 ≠ 0 ∨ 65536 < plen ∨ bit w 30 ≠ last ∨ (raw ∧ plen ≠ len) then .error .format
    else if bs.length < 8 + plen then .error .ended
    else
      let pay := (bs.drop 8).take plen
      let out := if raw then some pay else match inflateAll (8 * plen + 1) hist (bytesBits pay) with
        | .ok (o, rest) => if o.length = hist.length + len ∧ rest.length < 8 then some (o.take len).reverse else none
        | .error _ => none
      match out with
      | none => .error .format
      | some o => if ofBytes ((bs.drop 4).take 4) = (crc32c 0 o).toNat then .ok (o, 8 + plen, last) else .error .checksum

/-- The trailer of a stream at byte `p` (R455, R459). -/
def CzJob.checkTrailer (j : CzJob) (bs : List Byte) (p : Nat) (sum total : Nat) : Option (Nat × Bool) :=
  let t := bs.drop p
  match j.fmt with
  | 1 => some (if t.length < 4 then (0, false) else (4, decide (ofBytesBE (t.take 4) = sum)))
  | 2 => some (if t.length < 8 then (0, false)
      else (8, decide (ofBytes (t.take 4) = sum) && decide (ofBytes ((t.drop 4).take 4) = total % 2 ^ 32)))
  | _ => none

/-- The next block or chunk of a stream whose bytes from INDONE on are `bs`; where it fails, the byte the failing part
begins at. -/
def CzJob.parse (j : CzJob) (bs : List Byte) : Except (CzErr × Nat) CzPiece :=
  match (if j.indone = 0 ∧ j.inbit = 0 then czHeader j.fmt bs else .ok (0, j.head)) with
  | .error e => .error (e, 0)
  | .ok (start, head) =>
    match head with
    | some (content, link) =>
      (match czChunk j content link (bs.drop start) with
       | .error e => .error (e, start)
       | .ok (out, n, last) => .ok { start := start, head := head, out := out, stop := 8 * (start + n), final := last, trail := none })
    | none =>
      let all := (bytesBits (bs.drop start)).drop j.inbit
      match inflateBlock j.hist all with
      | .error .ended => .error (.ended, start)
      | .error .format => .error (.format, start)
      | .ok (final, o, rest) =>
        let out := (o.take (o.length - j.hist.length)).reverse
        let stop := 8 * start + j.inbit + (all.length - rest.length)
        .ok { start := start, head := none, out := out, stop := stop, final := final,
              trail := if final then j.checkTrailer bs ((stop + 7) / 8) (czSum j.fmt j.cksum out) (j.outdone + out.length) else none }

/-- What a stream's input yields: a decoded piece, a failure and where it begins, or a refused read. -/
inductive CzRes
  | piece (p : CzPiece)
  | bad (e : CzErr) (at_ : Nat)
  | stop (e : EngErr)
  deriving DecidableEq, Repr

/-- Input is read page by page until the next block or chunk decodes (R460). -/
def State.czFetch (s : State) (k : Nat) (j : CzJob) : List (Nat × Nat) → List Byte → State × CzRes
  | ps, acc =>
    let more := match j.parse acc with
      | .error (.ended, p) => (true, CzRes.bad .ended p)
      | .error (e, p) => (false, .bad e p)
      | .ok p => (p.trail == some (0, false), .piece p)
    match ps with
    | [] => (s, more.2)
    | (a, n) :: rest =>
      if !more.1 then (s, more.2)
      else match s.engineRead k 0x21 j.req.agent a n with
        | (s, .error e) => (s, .stop e)
        | (s, .ok bs) => s.czFetch k j rest (acc ++ bs)

/-- One block or chunk of a DECOMPRESS job (R459 to R462). -/
def State.czDecompress (s : State) (k c : Nat) (j : CzJob) : State :=
  let n := j.inlen - j.indone
  match s.czFetch k j (pagesOf (n / 4096 + 2) (j.inaddr + j.indone) n) [] with
  | (s, .stop e) => s.czFinish k c j (czStatus e) true
  | (s, .bad e p) => s.czFinish k c { j with indone := j.indone + p, inbit := if p = 0 then j.inbit else 0, skip := 0 } e.status false
  | (s, .piece p) =>
    let old := { j with indone := j.indone + p.start, head := p.head }
    let stop := if p.final then (p.stop + 7) / 8 else p.stop / 8
    let new := { old with indone := j.indone + stop, inbit := if p.final then 0 else p.stop % 8,
                          cksum := czSum j.fmt j.cksum p.out, hist := (p.out.reverse ++ j.hist).take 32768 }
    s.czEmit k c old new p.out fun s new =>
      if !p.final then s.czNext k c new
      else match p.trail with
        | none => s.czFinish k c new 0 false
        | some (t, true) => (s.bump .czInbytes k 0 t).czFinish k c { new with indone := new.indone + t } 0 false
        | some (0, false) => s.czFinish k c new 0x103 false
        | some (_, false) => s.czFinish k c new 0x102 false

/-! ### Commands -/

/-- The header of a frame whose decompression is resumed (R463). -/
def State.czHead (s : State) (k : Nat) (j : CzJob) : State × Except EngErr CzJob :=
  if j.op = 2 ∧ j.fmt = 3 ∧ j.indone ≠ 0 then
    match s.engineRead k 0x21 j.req.agent j.inaddr 16 with
    | (s, .error e) => (s, .error e)
    | (s, .ok h) => (s, .ok { j with head := some (ofBytes ((h.drop 8).take 8), (lget 0 h 5).getLsbD 0) })
  else (s, .ok j)

/-- Whether the next unit or block may refer to what stands before it (R451, R458). -/
def CzJob.refers (j : CzJob) : Bool :=
  j.fmt != 3 || (if j.op = 1 then j.link else match j.head with
    | some (_, l) => l
    | none => false)

/-- The history of a resumed job, from the input or from the output buffers (R463). -/
def State.czResume (s : State) (k : Nat) (j : CzJob) : State × Except EngErr CzJob :=
  match s.czHead k j with
  | (s, .error e) => (s, .error e)
  | (s, .ok j) =>
    let n := if j.refers then min 32768 (if j.op = 1 then j.indone else j.outdone) else 0
    let x := if j.op = 1 then s.engineRead k 0x21 j.req.agent (j.inaddr + j.indone - n) n
      else s.enginePieces k 0x21 j.req.agent (chainPages j.bufs (j.outdone - n) n)
    match x with
    | (s, .error e) => (s, .error e)
    | (s, .ok bs) => (s, .ok { j with hist := bs.reverse })

/-- The job at the head of engine `k`'s next trough takes a free context, or completes at once (R444, R450, R464). -/
def State.czBegin (s : State) (k op : Nat) : State :=
  let e := s.czE k
  match (List.range 4).find? (fun c => (tfind e.jobs c).isNone), s.engineHead 2 k e.next op with
  | some c, some (t, q, rest) =>
    if s.czState k ≠ 0 ∨ !s.flockRuns k then s
    else
      let s := (s.setTrough t rest).modCz k fun e => { e with next := t + 1 }
      let j := czJob q (s.descriptor q)
      match j.refusal (s.rfld .czStat k 0 15 0) with
      | some st => s.complete q st (j.outdone + j.skip)
      | none =>
        match s.czResume k j with
        | (s, .error e) => s.czFinish k c j (czStatus e) true
        | (s, .ok j) => s.modCz k fun e => { e with jobs := tins e.jobs c j }
  | _, _ => s

/-- COMPRESS (R451). -/
def execCompress (k : Nat) (s : State) : Out := .next (s.czBegin k 1)
/-- DECOMPRESS (R459). -/
def execDecompress (k : Nat) (s : State) : Out := .next (s.czBegin k 2)

/-- The context whose turn it is: contexts in rotation, but those whose partition waits for its stint (R444). -/
def State.czTurn (s : State) (k : Nat) : Option Nat :=
  let e := s.czE k
  ((List.range 4).map fun i => (e.turn + i) % 4).find? fun c => match tfind e.jobs c with
    | some j => !s.heldBack (176 + k) j.req.res && s.flockRuns k
    | none => false

/-- COMPRESSION_UNIT_COMPLETE: the next unit, block or chunk of engine `k` is worked and written (R444, R453). -/
def execCompressionUnitComplete (k : Nat) (va vb : Bool) (s : State) : Out :=
  match s.czTurn k with
  | none => .next s
  | some c =>
    match tfind (s.czE k).jobs c with
    | none => .next s
    | some j =>
      let s := s.modCz k fun e => { e with turn := (c + 1) % 4 }
      .next (if j.op = 1 then s.czCompress k c j va vb else s.czDecompress k c j)

/-- A write of CZ_CTL takes effect (R465, R466, R470). -/
def State.czControl (s : State) (k : Nat) (v : Word) : State :=
  let w := flag v 0
  let s := s.rset .czCtl k 0 (BitVec.ofNat 64 (bnat w))
  let s := if flag v 1 then
      (if s.czState k = 2 then s.modCz k fun e => { e with testing := true } else s.rput .czStat k 0 60 59 3) else s
  if w ∧ s.czState k = 0 then ((s.setCzState k 1).czFlush k (fun _ => true) 0x10A).czAfter k
  else if !w ∧ (s.czState k = 1 ∨ s.czState k = 2) then s.setCzState k 0
  else s

/-- CZ_TEST_COMPLETE (R470, R471). -/
def execCzTestComplete (k : Nat) (pass : Bool) (s : State) : Out :=
  if (s.czE k).testing then
    let s := s.modCz k fun e => { e with testing := false }
    let s := s.rput .czStat k 0 60 59 (if pass then 1 else 2)
    .next ((if pass then s else s.czStrike k).raise (1459 + 4 * k))
  else .next s

/-- A write of CZ_STOPPART takes effect (R465, R472). -/
def State.czStoppart (s : State) (k p : Nat) : State :=
  let s := s.czFlush k (fun q => q.part == p) 0x10B
  (s.modCz k fun e => { e with stopping := p :: e.stopping.filter fun x => x != p }).czAfter k

end Sys2Proof.Machine
end

