-- ==== Sys2Proof/Machine/Sentence.lean ====
section
/-! DEFINITION. Sentences and the ledger: clauses and their checks, ledger entries, completion words and context records, path choice, and the writing of commands to NVMe queues, descriptor rings and remote pens (08, R351 to R379). -/

namespace Sys2Proof.Machine

open Sys2Proof

/-! ### Clauses (R355, R356, R360) -/

/-- A clause: its four words. -/
abbrev Clause := List Nat

/-- CONJ: 0 END, 1 CMD, 2 DATA, 3 SKIP. -/
def conjOf (c : Clause) : Nat := bits (lget 0 c 0) 63 62
/-- Whether a clause is a command clause. -/
def isCmd (c : Clause) : Bool := bits (lget 0 c 0) 61 60 == 0
/-- OP of a command clause. -/
def opOf (c : Clause) : Nat := bits (lget 0 c 0) 55 48
/-- LEN of a clause. -/
def lenOf (c : Clause) : Nat := bits (lget 0 c 0) 31 0
/-- ADDR of a clause. -/
def addrOf (c : Clause) : Nat := lget 0 c 1
/-- NLB of a command clause. -/
def nlbOf (c : Clause) : Nat := bits (lget 0 c 2) 15 0

/-- Whether the operands of an operation hold a reserved value (R360). -/
def opOk (c : Clause) : Bool :=
  let a0 := lget 0 c 2
  let a1 := lget 0 c 3
  let noBuf := addrOf c == 0 && lenOf c == 0
  match opOf c with
  | 0x01 | 0x02 | 0x06 => decide (a0 < 2 ^ 17)
  | 0x03 => noBuf && a0 == 0 && a1 == 0
  | 0x04 => noBuf && decide (a0 < 2 ^ 17)
  | 0x05 => noBuf && decide (a0 < 2 ^ 16)
  | 0x07 => decide (a0 < 2 ^ 17) && decide (nlbOf c ≤ 255)
  | 0x08 => lenOf c == 64 && a0 == 0 && a1 == 0
  | 0x10 | 0x11 | 0x12 | 0x13 => true
  | _ => false

/-- Whether a clause's own fields are in order; `cmd` says that a command clause is due, `final` that it is the last of
its descriptor (R355, R356). -/
def clauseOk (cmd final : Bool) (c : Clause) : Bool :=
  let w := lget 0 c 0
  let skip := conjOf c == 3
  decide (bits w 61 60 ≤ 1) && bits w 58 56 == 0 && bits w 35 32 == 0 && isCmd c == cmd
    && (if skip then decide (1 ≤ bits w 47 41 ∧ bits w 47 41 ≤ 126) && decide (bits w 40 36 ≠ 0) else bits w 47 36 == 0)
    && (if final then conjOf c == 0 else conjOf c != 0)
    && (if cmd then opOk c else !bit w 59 && opOf c == 0 && lget 0 c 2 == 0 && lget 0 c 3 == 0)

/-- The first faulty clause from index `i` on; `cmds` are the command clauses of the sentence, `k` those before `i`. -/
def clauseFault (cmds : Nat) : List Clause → Bool → Nat → Nat → Option Nat
  | [], _, _, _ => none
  | c :: cs, cmd, i, k =>
    let k := if isCmd c then k + 1 else k
    let n := bits (lget 0 c 0) 47 41
    if !clauseOk cmd cs.isEmpty c || (conjOf c == 3 && decide (cmds < k + n + 1)) then some i
    else clauseFault cmds cs (conjOf c != 2) (i + 1) k

/-- The first faulty clause of a sentence (R356). -/
def sentenceFault (cs : List Clause) : Option Nat := clauseFault (cs.filter isCmd).length cs true 0 0

/-- Clause `i` of a request's descriptor, as memory holds it. -/
def State.clauseAt (s : State) (desc i : Nat) : Clause := (s.memWords (desc + 0x20 + 32 * i) 4).map BitVec.toNat

/-- The clauses of a descriptor whose header gives LEN (R351). -/
def Request.clauses (q : Request) : Nat := bits q.header 31 24 - 1

/-- Clause `i` of an entry's sentence, or of the command another module forwarded. -/
def State.entryClause (s : State) (e : Sent) (i : Nat) : Clause :=
  if e.owner.isSome then (List.range 4).map fun w => (lget 0 e.body (4 * i + w)).toNat else s.clauseAt e.req.desc i

/-- The number of clauses of an entry. -/
def Sent.count (e : Sent) : Nat := if e.owner.isSome then e.body.length / 4 else e.req.clauses

/-- The clauses of the current command of an entry. -/
def State.commandClauses (s : State) (e : Sent) : List Clause := (rangeFrom e.clause (e.last + 1 - e.clause)).map (s.entryClause e)

/-! ### The ledger (R370 to R372) -/

/-- A ledger entry in use. -/
def State.entry (s : State) (i : Nat) : Option Sent := tfind s.chans.sents i

/-- The state with a ledger entry written. -/
def State.setEntry (s : State) (i : Nat) (e : Sent) : State := s.modCh fun c => { c with sents := tins c.sents i e }

/-- Resends of the current command. -/
def Sent.reissues (e : Sent) : Nat := min 7 (e.sends - 1)

/-- The words of a ledger entry (R371); `state` 1 HELD, 2 SENT, 3 DONE. -/
def Sent.words (e : Sent) (state : Nat) : List Word :=
  let w0 := state * 2 ^ 61 + bnat e.once * 2 ^ 60 + e.path * 2 ^ 57 + e.reissues * 2 ^ 54 + e.pen * 2 ^ 32 + e.slot * 2 ^ 20
  let w1 := e.req.part * 2 ^ 53 + e.req.core % 256 * 2 ^ 45 + e.req.tally * 2 ^ 41 + e.clause * 2 ^ 34 + e.last * 2 ^ 27
  let w8 := e.tfirst % 2 ^ 32 * 2 ^ 32 + e.tlast % 2 ^ 32
  let w9 := e.status * 2 ^ 48 + e.dstat % 2 ^ 32
  let w10 := e.tried * 2 ^ 32 + e.bytes % 2 ^ 32
  [BitVec.ofNat 64 w0, BitVec.ofNat 64 w1, BitVec.ofNat 64 e.req.desc, e.tag] ++ (List.range 4).map (lget 0 e.cmd)
    ++ [BitVec.ofNat 64 w8, BitVec.ofNat 64 w9, BitVec.ofNat 64 w10, 0, 0, 0, 0, 0]

/-- Word `w` of ledger entry `i` as partition 0 reads it (R372); a FREE entry reads 0. -/
def State.ledgerWord (s : State) (i w : Nat) : Word :=
  match s.entry i with
  | some e => lget 0 (e.words (if e.sent then 2 else 1)) w
  | none => 0

/-- An asynchronous machine check arises (R640, R641). -/
def State.asyncArise (s : State) (code info : Nat) : State :=
  match s.asyncMc with
  | some _ =>
    let v := s.rget .ftMclog
    (if flag v 63 then s.rset .ftMclog 0 0 (setFlag v 62 true) else s).raise 34
  | none =>
    let m : MCheck := { code := code, store := false, async := true, place := 0, info := info }
    ({ s with asyncMc := some m }).recordMc m 0xFF |>.rput .ftStat 0 0 63 63 1

/-- What a read of ledger entry `i` meets (R372): CH_LEDGER, a strike for a correction, the machine check for words 0
and 1, the mark for another. True where the entry can still be used. -/
def State.ledgerRead (s : State) (i : Nat) (le : LedgerErr) : State × Bool :=
  match le with
  | .none => (s, true)
  | .corrected => ((s.strike 14 0).raise 54, true)
  | .lost w =>
    let s := s.raise 54
    if w < 2 then (s.asyncArise 6 i, false)
    else match s.entry i with
      | some e => (s.setEntry i { e with bad := true }, true)
      | none => (s, true)

/-! ### The end of a sentence (R358, R359, R378) -/

/-- The address of the context record (R351). -/
def State.ctxAddr (s : State) (q : Request) : Nat := (s.memWord (q.desc + 8)).toNat

/-- The agent number of drovers at a scratchpad bank (R331): the base die. -/
def dieAgent : Nat := 0x30

/-- The context record of a status that is neither success nor RESERVED_FIELD; false where the hurdle refuses it (R359). -/
def State.writeContext (s : State) (e : Sent) : State × Bool :=
  match s.dieBuf e.req.agent (s.ctxAddr e.req) 128 .store false with
  | (s, ps, none) =>
    if ps.all fun p => s.reachable p.1 then (s.dieWrites dieAgent ps (wordsBytes (e.words 3)), true) else (s, false)
  | (s, _, some _) => (s, false)

/-- A pen's count in flight and a partition's ledger use change. -/
def State.ledgerUse (s : State) (pen part : Nat) (up : Bool) : State :=
  let f := fun (hi : Nat) (v : Word) => setFld v hi 0 (if up then fld v hi 0 + 1 else fld v hi 0 - 1)
  (s.rmod .chPenstat pen 0 (f 12)).rmod .chLused part 0 (f 16)

/-- A sentence ends: the context record, the completion word (or PSTAT to the module that forwarded the command), the
entry FREE, and the pen's event (R358, R359, R368, R370, R344 EVT). -/
def State.endSentence (s : State) (i : Nat) (e : Sent) (status value : Nat) : State :=
  let s := (s.modCh fun c => { c with sents := tdel c.sents i }).ledgerUse e.pen e.req.part false
  match e.owner with
  | some (m, tid) => s.send 0x29 m tid 0 (status * 2 ^ 35 + value % 2 ^ 32 * 2 ^ 3) []
  | none =>
    let e := { e with status := status }
    let (s, wrote) := if status = 0 ∨ status = 1 then (s, true) else s.writeContext e
    let sent := decide (e.sends ≠ 0)
    let word := e.clause * 2 ^ 41 + (if sent then e.path else 0) * 2 ^ 38 + e.reissues * 2 ^ 35 + bnat (!wrote) * 2 ^ 34
      + bnat sent * 2 ^ 33 + value % 2 ^ 32
    let s := s.complete e.req status word
    if bit ((s.pen e.pen).word 0) 39 then
      let g := e.pen / 64
      (s.rput .chPev g 0 (e.pen % 64) (e.pen % 64) 1).raise (384 + g)
    else s

/-- The last clause of the command that begins at clause `i` (R355). -/
def State.lastOf (s : State) (e : Sent) (i : Nat) : Nat → Nat
  | 0 => i
  | k + 1 => if conjOf (s.entryClause e i) == 2 && decide (i + 1 < e.count) then s.lastOf e (i + 1) k else i

/-- Whether an operation has class ONCE (R360). -/
def onceOp (op : Nat) : Bool := op == 0x07 || op == 0x08 || op == 0x10 || op == 0x12

/-- The entry rewritten for the command at clause `i`, HELD (R370). -/
def State.commandEntry (s : State) (e : Sent) (i : Nat) : Sent :=
  let c := s.entryClause e i
  { e with sent := false, once := onceOp (opOf c) || bit (lget 0 c 0) 59, path := 0, port := 0, sends := 0, clause := i, last := s.lastOf e i 128,
           cmd := c.map fun x => BitVec.ofNat 64 x, tfirst := 0, tlast := 0, status := 0, dstat := 0, tried := 0, cw := (none, none), tid := 0 }

/-- The sentence's clauses, as memory holds them now, checked again; the first faulty one at or after the current
command (R356). -/
def State.faultNow (s : State) (e : Sent) : Option Nat :=
  if e.owner.isSome then none
  else (sentenceFault ((List.range e.count).map (s.entryClause e))).filter fun i => decide (e.clause ≤ i)

/-- The class of a status as a bit of SKIPMASK: OK, CMP, DEV, PATH, OTHER (R357). -/
def statusClass (status : Nat) : Nat :=
  match status with
  | 0 => 0
  | 0x103 => 1
  | 0x102 => 2
  | 0x100 | 0x101 => 3
  | _ => 4

/-- The first clause of the command that follows `n` commands after the command whose last clause is `i`. -/
def State.skipTo (s : State) (e : Sent) (i : Nat) : Nat → Nat
  | 0 => i + 1
  | n + 1 => s.skipTo e (s.lastOf e (i + 1) 128) n

/-- CH_PATHSTAT_n as it reads: 0 NONE, 1 UP, 2 DRAINING, 3 DOWN for each path (R350, R392). -/
def State.pathstat (s : State) (g : Nat) : Word :=
  BitVec.ofNat 64 ((List.range 8).foldl (fun v i =>
    let st := if s.pathValid g i then (if s.pathUp g i then 1 else 3)
      else if s.chans.sents.any fun x => x.2.sent && x.2.path == i && (s.pen x.2.pen).group == g then 2 else 0
    v + st * 2 ^ (8 * i)) 0)

/-- Paths of a group that have drained since `old`: each raises CH_PATH (R350, R398). -/
def State.drained (s old : State) (g : Nat) : State :=
  ((List.range 8).filter fun i => fld (old.pathstat g) (8 * i + 1) (8 * i) = 2 ∧ fld (s.pathstat g) (8 * i + 1) (8 * i) = 0).foldl (fun s _ => s.raise 51) s

/-- A command that has its status waits for ring space no more (R363). -/
def State.unwait (s : State) (i pen : Nat) : State :=
  if (s.pen pen).wait = some i then s.modPen pen fun p => { p with wait := none } else s

/-- A command's status is taken: the conjunction of its last clause ends the sentence or names the next command
(R357, R370). `moved` are the bytes a success moved, `value` what the completion word shows. -/
def State.closeCommand (s : State) (i : Nat) (e : Sent) (status dstat moved value : Nat) : State :=
  let status := if e.bad then 0x100 else status
  let e := { e with status := status, dstat := dstat, bytes := if status = 0 then e.bytes + moved else e.bytes }
  let value := if status = 0 then (if opOf (e.cmd.map BitVec.toNat) = 0x08 then value else e.bytes)
    else if status = 0x100 ∨ status = 0x101 then i else value
  if e.owner.isSome then s.endSentence i e status (if status = 0 then (if opOf (e.cmd.map BitVec.toNat) = 0x08 then value else moved) else value)
  else match s.faultNow e with
  | some j => s.endSentence i e 1 (0x20 + 32 * j)
  | none =>
    let c := s.entryClause e e.last
    let next := fun (n : Nat) => s.setEntry i (s.commandEntry e (s.skipTo e e.last n))
    let ends := s.endSentence i e status value
    if status = 0x107 ∨ status = 1 then ends
    else match conjOf c with
    | 1 => if status = 0 then next 0 else ends
    | 3 =>
      if bit (bits (lget 0 c 0) 40 36) (statusClass status) then next (bits (lget 0 c 0) 47 41)
      else if status = 0 then next 0 else ends
    | _ => ends

/-- A command's status is recorded: it waits no more, its sentence ends or goes on, and its path may have drained. -/
def State.recordStatus (s : State) (i : Nat) (e : Sent) (status dstat moved value : Nat) : State :=
  (((s.unwait i e.pen).closeCommand i e status dstat moved value).drained s (s.pen e.pen).group)

/-! ### Beginning a sentence (R353, R356) -/

/-- What is wrong with a descriptor of a drover request: a reserved value outside its clauses, or the offset of the first
faulty clause (R351, R356). -/
def State.descriptorFault (s : State) (q : Request) : Option (Option Nat) :=
  let ctx := s.ctxAddr q
  if bits q.header 55 48 ≠ 1 ∨ q.clauses = 0 ∨ ctx = 0 ∨ ctx % 128 ≠ 0 ∨ s.memWord (q.desc + 0x18) ≠ 0 then some none
  else (sentenceFault ((List.range q.clauses).map (s.clauseAt q.desc))).map fun i => some (0x20 + 32 * i)

/-- A ledger entry before its first command. -/
def entryOf (q : Request) (pen slot : Nat) (tag : Word) (owner : Option (Nat × Nat)) (body : List Word) : Sent :=
  { req := q, pen := pen, slot := slot, sent := false, once := false, path := 0, port := 0, sends := 0, clause := 0, last := 0, tag := tag, cmd := [],
    tfirst := 0, tlast := 0, status := 0, dstat := 0, tried := 0, bytes := 0, cw := (none, none), bad := false, owner := owner, tid := 0, body := body }

/-- Whether a ledger index and a pen slot are free (R361, R370). -/
def State.slotFree (s : State) (pen entry slot : Nat) : Bool :=
  decide (entry < 65536) && (s.entry entry).isNone && decide (slot + 1 < (s.pen pen).qsize)
    && !s.chans.sents.any fun x => x.2.pen == pen && x.2.slot == slot

/-- The ledger is frozen (R380). -/
def State.frozen (s : State) : Bool := s.rbit .chCtl 0 0 1

/-- Whether the drover of a pen serves it now: RUNNING, and the group not moving (R384, R395). -/
def State.served (s : State) (pen : Nat) : Bool :=
  s.rfld .chDrovstat (s.droverOf pen) 0 63 61 == 0 && !s.rbit .chPengrp (pen / 64) 0 63

/-- Whether a pen may begin a sentence of a partition (R353, R379). -/
def State.mayBegin (s : State) (pen part res : Nat) : Bool :=
  s.rbit .chCtl 0 0 0 && !s.frozen && s.served pen && s.penState pen == 1
    && decide (s.rfld .chPenstat pen 0 12 0 + 1 < (s.pen pen).qsize)
    && decide (s.rfld .chLused part 0 16 0 < s.rfld .chLcap part 0 16 0)
    && !s.heldBack (132 + s.droverOf pen) res

/-- RUN: a drover begins the sentence at the head of trough `t`, taking ledger entry `entry` and pen slot `slot`
(R353, R356, R370). -/
def execRun (t entry slot : Nat) (le : LedgerErr) (s : State) : Out :=
  match tget [] s.troughs t with
  | [] => .next s
  | q :: rest =>
    let pen := bits q.header 47 32
    if bits q.header 63 60 ≠ 3 ∨ !s.mayBegin pen q.part q.res ∨ !s.slotFree pen entry slot then .next s
    else
      let s := (s.ledgerRead entry le).1
      let s := { s with troughs := tput [] s.troughs t rest }
      match s.descriptorFault q with
      | some (some off) => .next (s.drawn.complete q 1 (Config.freeNat s.freeCtr % 128 * 2 ^ 41 + off))
      | some none => .next (s.drawn.complete q 1 (Config.freeNat s.freeCtr % 128 * 2 ^ 41 + Config.freeNat (s.freeCtr + 1) % 4096))
      | none =>
        let e := entryOf q pen slot (s.memWord (q.desc + 0x10)) none []
        .next ((s.setEntry entry (s.commandEntry e 0)).ledgerUse pen q.part true)

/-! ### The choice of a path (R373) -/

/-- Whether path i of a pen is a candidate for new commands (R373, R393). -/
def State.pathOk (s : State) (n i : Nat) : Bool := s.pathUp (s.pen n).group i && !s.pathFailed n i

/-- The candidate with the fewest commands of the pen sent on it, the lowest-numbered on a tie. -/
def leastOf (load : Nat → Nat) : List Nat → Option Nat
  | [] => none
  | i :: is => match leastOf load is with
    | some j => if load j < load i then some j else some i
    | none => some i

/-- The path a command is sent on (R373). -/
def State.choosePath (s : State) (e : Sent) : Option Nat :=
  let p := s.pen e.pen
  let cands := (List.range 8).filter fun i => s.pathOk e.pen i && !e.tried.testBit i
  match s.rfld .chPathpol p.group 0 1 0 with
  | 1 => match p.last with
    | some l => (cands.find? fun i => decide (l < i)).orElse fun _ => cands.head?
    | none => cands.head?
  | 2 => leastOf (fun i => (s.chans.sents.filter fun x => x.2.pen == e.pen && x.2.sent && x.2.path == i).length) cands
  | _ => cands.head?

/-! ### Doorbells (R404 to R407) -/

/-- The aperture of an address in the own control space, and the byte in it. -/
def State.apertureOf (s : State) (pa : Nat) : Option (Nat × Nat) :=
  let base := s.ctlPa 0x10800000
  if base ≤ pa ∧ pa < base + 512 * 0x4000 then some ((pa - base) / 0x4000, (pa - base) % 0x4000) else none

/-- LK_APT_k of aperture a = 4p + k. -/
def State.apt (s : State) (a : Nat) : Word := s.rget .lkApt (a / 4) (a % 4)

/-- The function-table entry behind an aperture (R440). -/
def State.aptFn (s : State) (a : Nat) : Word := s.rget .lkFn (s.lowPort (a / 4)) (fld (s.apt a) 61 54)

/-- Whether an aperture is mapped, its function's entry valid (R404, R440). -/
def State.aptOn (s : State) (a : Nat) : Bool := flag (s.apt a) 63 && flag (s.aptFn a) 63

/-- The bus address of a byte of an aperture (R404). -/
def State.aptBus (s : State) (a o : Nat) : Nat := fld (s.apt a) 53 14 * 2 ^ 14 + o

/-- A posted write leaves a root port. -/
def State.postBus (s : State) (p bus : Nat) (v : Word) : State := s.modCh fun c => { c with posted := tins c.posted (p * 2 ^ 64 + bus) v }

/-- A doorbell write of a drover: 4 bytes posted, or discarded with a record; false where it was discarded (R407). -/
def State.doorbell (s : State) (pa v rid : Nat) : State × Bool :=
  match s.apertureOf pa with
  | none => (s, false)
  | some (a, o) =>
    let p := s.lowPort (a / 4)
    if !s.aptOn a then (s.lkError p 0 rid (s.aptBus a o), false)
    else if s.linkState p ≠ 2 then (s.lkError p 8 rid (s.aptBus a o), false)
    else (s.postBus p (s.aptBus a o) (BitVec.ofNat 64 (v % 2 ^ 32)), true)

/-- RID of a pen's path. -/
def Pen.rid (p : Pen) (i : Nat) : Nat := bits (p.pathWord i 0) 63 48

/-! ### NVMe commands (R361 to R364) -/

/-- A buffer: address and length. -/
abbrev Buf := Nat × Nat

/-- The buffers of a command: its command clause and its data clauses (R364). -/
def buffersOf (cs : List Clause) : List Buf := cs.map fun c => (addrOf c, lenOf c)

/-- The bytes of a list of buffers. -/
def bufLen (bs : List Buf) : Nat := bs.foldl (fun n b => n + b.2) 0

/-- Whether an operation carries data buffers (R360). -/
def hasData (op : Nat) : Bool := op == 1 || op == 2 || op == 6 || op == 7 || decide (0x10 ≤ op)

/-- Whether the buffers of an NVMe command are in order (R364). -/
def nvmeForm (p : Pen) (cs : List Clause) : Bool :=
  let c := cs.headD []
  let op := opOf c
  let bs := buffersOf cs
  if !hasData op then cs.length == 1
  else
    let want := (nlbOf c + 1) * 2 ^ bits (p.word 0) 33 30 * (if op = 7 then 2 else 1)
    let page := !bit (p.word 0) 38
    let n := bs.length
    bufLen bs == want && decide (bufLen bs ≤ 2 ^ 21)
      && (List.range n).all fun i =>
        let b := lget (0, 0) bs i
        b.2 != 0 && b.1 % 4 == 0 && (!page || ((i == 0 || b.1 % 4096 == 0) && (i + 1 == n || (b.1 + b.2) % 4096 == 0)))

/-- Whether the clauses of a ring command are in order (R366). -/
def ringForm (p : Pen) (cs : List Clause) : Bool :=
  let bs := buffersOf cs
  decide (bufLen bs ≤ 2 ^ 21) && (bs.all fun b => b.2 != 0) && decide (cs.length < p.qsize)

/-- The part of a list of buffers from byte `a`, `n` bytes. -/
def bufSlice : List Buf → Nat → Nat → List Buf
  | [], _, _ => []
  | (x, l) :: bs, a, n =>
    if n = 0 then []
    else if l ≤ a then bufSlice bs (a - l) n
    else
      let k := min n (l - a)
      (x + a, k) :: bufSlice bs 0 (n - k)

/-- A data pointer and the list bytes it needs in the slot's page: PRP entries, or SGL data block descriptors with a last
segment (R361, R364); `pg` is where the list lies. -/
def dataPointer (sgl : Bool) (bs : List Buf) (pg : Nat) : Nat × Nat × List Byte :=
  if sgl then
    let desc := fun (a n ty : Nat) => (a, n + ty * 2 ^ 60)
    match bs with
    | [b] => let d := desc b.1 b.2 0; (d.1, d.2, [])
    | _ =>
      let d := desc pg (16 * bs.length) 3
      (d.1, d.2, bs.flatMap fun b => toBytes 8 (desc b.1 b.2 0).1 ++ toBytes 8 (desc b.1 b.2 0).2)
  else
    let pages := bs.flatMap fun b => (pagesOf (b.2 / 4096 + 2) b.1 b.2).map fun x => x.1
    match pages with
    | [] => (0, 0, [])
    | [a] => (a, 0, [])
    | [a, b] => (a, b, [])
    | a :: rest => (a, pg, rest.flatMap fun x => toBytes 8 x)

/-- A submission queue entry of the NVM command set: opcode, FUSE, CID, NSID, data pointer, CDW10 to CDW12. -/
def sqEntry (opc fuse psdt cid nsid d1 d2 cdw10 cdw11 cdw12 : Nat) : List Byte :=
  toBytes 4 (opc + fuse * 2 ^ 8 + psdt * 2 ^ 14 + cid * 2 ^ 16) ++ toBytes 4 nsid ++ List.replicate 16 0 ++ toBytes 8 d1 ++ toBytes 8 d2
    ++ toBytes 4 cdw10 ++ toBytes 4 cdw11 ++ toBytes 4 cdw12 ++ List.replicate 12 0

/-- The entries of a command and what it writes into its list page (R362, R363): the page's bytes by address. -/
def State.nvmeEntries (s : State) (p : Pen) (slot : Nat) (cs : List Clause) : List (List Byte) × List (Nat × List Byte) :=
  let c := cs.headD []
  let bs := buffersOf cs
  let sgl := bit (p.word 0) 38
  let pg := bits (p.word 2) 51 12 * 4096 + 4096 * slot
  let nsid := bits (p.word 1) 31 0
  let slba := lget 0 c 3
  let cdw12 := nlbOf c + bnat (bit (lget 0 c 2) 16) * 2 ^ 30
  let io := fun (opc fuse cid : Nat) (bs : List Buf) (pg : Nat) =>
    let (d1, d2, l) := dataPointer sgl bs pg
    (sqEntry opc fuse (bnat sgl) cid nsid d1 d2 (slba % 2 ^ 32) (slba / 2 ^ 32) cdw12, (pg, l))
  let one := fun (x : List Byte × Nat × List Byte) => ([x.1], [x.2])
  match opOf c with
  | 0x01 => one (io 0x02 0 slot bs pg)
  | 0x02 => one (io 0x01 0 slot bs pg)
  | 0x03 => ([sqEntry 0x00 0 0 slot nsid 0 0 0 0 0], [])
  | 0x04 => ([sqEntry 0x08 0 0 slot nsid 0 0 (slba % 2 ^ 32) (slba / 2 ^ 32) cdw12], [])
  | 0x05 =>
    ([sqEntry 0x09 0 0 slot nsid pg 0 0 4 0], [(pg, toBytes 4 0 ++ toBytes 4 (nlbOf c + 1) ++ toBytes 8 slba)])
  | 0x06 => one (io 0x05 0 slot bs pg)
  | 0x07 =>
    let half := bufLen bs / 2
    let x := io 0x05 1 slot (bufSlice bs 0 half) pg
    let y := io 0x01 2 (slot + 0x8000) (bufSlice bs half half) (pg + 2048)
    ([x.1, y.1], [x.2, y.2])
  | _ =>
    let image := s.cohBytes (addrOf c) 64
    ([image.take 2 ++ toBytes 2 slot ++ image.drop 4], [])

/-- The slots a ring command fills (R366). -/
def ringSlots (slot : Nat) (cs : List Clause) : List (List Byte) :=
  let op := opOf (cs.headD [])
  (List.range cs.length).map fun i =>
    let c := lget [] cs i
    let w0 := bnat (i + 1 != cs.length) * 2 ^ 63 + (op - 0x10) * 2 ^ 56 + slot * 2 ^ 40 + lenOf c
    toBytes 8 w0 ++ toBytes 8 (addrOf c) ++ toBytes 8 (if i = 0 then lget 0 c 2 else 0) ++ toBytes 8 (if i = 0 then lget 0 c 3 else 0)

/-- Free entries of a path's submission ring: NVMe counts from the device's reported head, a descriptor ring from the
slots of the commands sent (R363, R366). -/
def State.ringFree (s : State) (n i : Nat) : Nat :=
  let p := s.pen n
  let q := p.path i
  if p.kind = 3 then
    let used := (s.chans.sents.filter fun x => x.2.pen == n && x.2.sent && x.2.path == i).foldl (fun a x => a + (x.2.last + 1 - x.2.clause)) 0
    p.qsize - 1 - used
  else (q.sqHead + 2 * p.qsize - q.sqTail - 1) % p.qsize

/-- Entries written into a submission ring from its tail, of `size` bytes each. -/
def State.writeRing (s : State) (n i size : Nat) : List (List Byte) → State
  | [] => s
  | b :: bs =>
    let p := s.pen n
    let q := p.path i
    let s := s.cohWrite (p.pathWord i 2 + size * q.sqTail) b
    (s.modPen n fun p => { p with paths := tins p.paths i { q with sqTail := (q.sqTail + 1) % p.qsize } }).writeRing n i size bs

/-! ### Sending (R360, R373 to R376, R379) -/

/-- Whether an OP is valid for a KIND (R360). -/
def opFits (kind op : Nat) : Bool :=
  match kind with
  | 1 => decide (1 ≤ op ∧ op ≤ 7)
  | 2 => op == 8
  | 3 => decide (0x10 ≤ op ∧ op ≤ 0x13)
  | _ => true

/-- Whether the device fills the buffers of an operation (R360). -/
def fillsBuffers (op : Nat) : Bool := op == 1 || op == 0x11 || op == 0x13

/-- The buffers of a command through the partition's hurdle: the physical pieces by clause, none where it refuses one
(R360, R530). -/
def State.bufferCheck (s : State) (e : Sent) : List Clause → State × Option (List (List (Nat × Nat)))
  | [] => (s, some [])
  | c :: cs =>
    let kind := if fillsBuffers (opOf (e.cmd.map BitVec.toNat)) then AKind.store else .load
    match s.dieBuf e.req.agent (addrOf c) (lenOf c) kind false with
    | (s, ps, none) =>
      match s.bufferCheck e cs with
      | (s, some rest) => (s, some (ps :: rest))
      | x => x
    | (s, _, some _) => (s, none)

/-- Pieces that follow one another joined. -/
def joinPieces : List (Nat × Nat) → List (Nat × Nat)
  | [] => []
  | (a, n) :: rest => match joinPieces rest with
    | (b, m) :: r => if a + n = b then (a, n + m) :: r else (a, n) :: (b, m) :: r
    | [] => [(a, n)]

/-- The clauses forwarded to a remote pen, with physical addresses: one for each contiguous piece (R368, R416). -/
def forwardClauses (cs : List Clause) (pieces : List (List (Nat × Nat))) : List Word :=
  let c := cs.headD []
  let ps := pieces.flatMap joinPieces
  let ps := if ps.isEmpty then [(0, 0)] else ps
  let n := ps.length
  (List.range n).flatMap fun i =>
    let (a, l) := lget (0, 0) ps i
    let conj := if i + 1 = n then 0 else 2
    let w0 := conj * 2 ^ 62 + (if i = 0 then bits (lget 0 c 0) 59 59 * 2 ^ 59 + opOf c * 2 ^ 48 else 2 ^ 60) + l
    [BitVec.ofNat 64 w0, BitVec.ofNat 64 a, BitVec.ofNat 64 (if i = 0 then lget 0 c 2 else 0), BitVec.ofNat 64 (if i = 0 then lget 0 c 3 else 0)]

/-- Low 32 bits of the tick count. -/
def State.tick32 (s : State) : Nat := (s.rget .pwAotime).toNat % 2 ^ 32

/-- The entry of a command that has left on path `i` (R371, R375). -/
def State.sentEntry (s : State) (e : Sent) (i : Nat) : Sent :=
  { e with sent := true, path := i, port := s.pathPort (s.pen e.pen).group i, sends := e.sends + 1,
           tfirst := if e.sends = 0 then s.tick32 else e.tfirst, tlast := s.tick32, cw := (none, none) }

/-- The command is SENT before its doorbell; a discarded doorbell fails the path (R370, R374, R407). -/
def State.ringAndSend (s : State) (idx : Nat) (e : Sent) (i size : Nat) (es : List (List Byte)) : State :=
  let p := s.pen e.pen
  let s := s.writeRing e.pen i size es
  let s := (s.setEntry idx (s.sentEntry e i)).modPen e.pen fun p => { p with last := some i, wait := none }
  match s.doorbell (p.pathWord i 1) ((s.pen e.pen).path i).sqTail (p.rid i) with
  | (s, true) => s
  | (s, false) => s.failPath e.pen i

/-- send_command of R375, with the checks of R360, R364 and R366; a command waits for its ring, its stints and a link in
Recovery. -/
def State.sendCommand (s : State) (idx : Nat) (e : Sent) : State :=
  let p := s.pen e.pen
  let cs := s.commandClauses e
  let op := opOf (e.cmd.map BitVec.toNat)
  if (s.faultNow e).isSome then (s.unwait idx e.pen).endSentence idx e 1 (0x20 + 32 * (s.faultNow e).getD 0)
  else if !opFits p.kind op then s.recordStatus idx e 0x106 0 0 0
  else if (p.kind = 1 ∨ p.kind = 2) ∧ !nvmeForm p cs then s.recordStatus idx e 0x105 0 0 0
  else if p.kind = 3 ∧ !ringForm p cs then s.recordStatus idx e 0x105 0 0 0
  else
    let check := hasData op && e.owner.isNone
    match if check then s.bufferCheck e cs else (s, some (cs.map fun c => [(addrOf c, lenOf c)])) with
    | (s, none) => s.recordStatus idx e 0x104 0 0 0
    | (s, some pieces) =>
      match s.choosePath e with
      | none => s.recordStatus idx e 0x101 0 0 0
      | some i =>
        let port := s.pathPort p.group i
        if s.linkState port ≠ 2 then s
        else if e.sends = 0 && (s.heldBack (132 + s.droverOf e.pen) e.req.res || s.heldBack (4 + port) e.req.res) then s
        else if p.kind = 4 then
          let body := forwardClauses cs pieces
          if 127 * 4 < body.length then s.recordStatus idx e 0x105 0 0 0
          else
            let tid := s.tid
            let param := body.length / 4 * 2 ^ 44 + bnat e.once * 2 ^ 43
            let s := s.setEntry idx { s.sentEntry e i with tid := tid }
            let s := s.modPen e.pen fun p => { p with last := some i }
            s.ask 0x28 (bits (p.word 3) 58 56) (bits (p.word 3) 47 32 * 2 ^ 36) param body
        else if p.kind = 3 then
          if s.ringFree e.pen i < cs.length then s else s.ringAndSend idx e i 32 (ringSlots e.slot cs)
        else
          let (es, lists) := s.nvmeEntries p e.slot cs
          if s.ringFree e.pen i < es.length ∨ (p.wait.isSome ∧ p.wait ≠ some idx) then
            (if p.wait.isNone then s.modPen e.pen fun p => { p with wait := some idx } else s)
          else (lists.foldl (fun s x => if x.2.isEmpty then s else s.cohWrite x.1 x.2) s).ringAndSend idx e i 64 es

/-- Whether an entry may be sent now: HELD, served, not frozen; a command never sent only while its pen is ATTACHED (R347,
R384). -/
def State.maySend (s : State) (e : Sent) : Bool :=
  !e.sent && !s.frozen && s.served e.pen && (s.penState e.pen == 1 || decide (e.sends ≠ 0))

/-- A HELD command whose operation satisfies a check is sent. -/
def State.sendIf (s : State) (idx : Nat) (f : Pen → Nat → Bool) : State :=
  match s.entry idx with
  | some e => if s.maySend e && f (s.pen e.pen) (opOf (e.cmd.map BitVec.toNat)) then s.sendCommand idx e else s
  | none => s

/-- COMMAND_SEND: a HELD command of any kind is written to its path's queue, or forwarded, and the doorbell rung
(R373, R375). -/
def execCommandSend (entry : Nat) (s : State) : Out := .next (s.sendIf entry fun _ _ => true)
/-- READ (R362). -/
def execRead (entry : Nat) (s : State) : Out := .next (s.sendIf entry fun p op => p.kind == 1 && op == 0x01)
/-- WRITE (R362). -/
def execWrite (entry : Nat) (s : State) : Out := .next (s.sendIf entry fun p op => p.kind == 1 && op == 0x02)
/-- FLUSH (R362). -/
def execFlush (entry : Nat) (s : State) : Out := .next (s.sendIf entry fun p op => p.kind == 1 && op == 0x03)
/-- WRITE_ZEROES (R362). -/
def execWriteZeroes (entry : Nat) (s : State) : Out := .next (s.sendIf entry fun p op => p.kind == 1 && op == 0x04)
/-- DEALLOCATE (R362). -/
def execDeallocate (entry : Nat) (s : State) : Out := .next (s.sendIf entry fun p op => p.kind == 1 && op == 0x05)
/-- COMPARE (R362). -/
def execCompare (entry : Nat) (s : State) : Out := .next (s.sendIf entry fun p op => p.kind == 1 && op == 0x06)
/-- COMPARE_AND_WRITE (R362, R363). -/
def execCompareAndWrite (entry : Nat) (s : State) : Out := .next (s.sendIf entry fun p op => p.kind == 1 && op == 0x07)
/-- ADMIN (R362). -/
def execAdmin (entry : Nat) (s : State) : Out := .next (s.sendIf entry fun p op => p.kind == 2 && op == 0x08)
/-- RING_TX (R366). -/
def execRingTx (entry : Nat) (s : State) : Out := .next (s.sendIf entry fun p op => p.kind == 3 && op == 0x10)
/-- RING_RX (R366). -/
def execRingRx (entry : Nat) (s : State) : Out := .next (s.sendIf entry fun p op => p.kind == 3 && op == 0x11)
/-- RING_CMD (R366). -/
def execRingCmd (entry : Nat) (s : State) : Out := .next (s.sendIf entry fun p op => p.kind == 3 && op == 0x12)
/-- RING_QUERY (R366). -/
def execRingQuery (entry : Nat) (s : State) : Out := .next (s.sendIf entry fun p op => p.kind == 3 && op == 0x13)

end Sys2Proof.Machine
end

