-- ==== Sys2Proof/Machine/Channel.lean ====
section
/-! DEFINITION. Pens and their commands, completions, path failures, MSI-X, and the power-fail drain (08, R344 to R350, R361 to R397). -/

namespace Sys2Proof.Machine

open Sys2Proof

/-! ### Path failures (R374 to R376) -/

/-- PATH_FAILURE_REISSUE: every command of the pen SENT on a failed path is sent again on another or ends INDETERMINATE
(R375). -/
def execPathFailureReissue (pen path : Nat) (s : State) : Out :=
  if s.frozen ∨ !s.pathFailed pen path then .next s
  else
    let es := s.chans.sents.filter fun x => x.2.pen == pen && x.2.sent && x.2.path == path
    .next (es.foldl (fun s x =>
      let e := { x.2 with tried := x.2.tried ||| 2 ^ path, sent := false }
      if e.once then s.recordStatus x.1 e 0x100 0 0 0
      else ((s.setEntry x.1 e).drained s (s.pen pen).group).sendCommand x.1 e) s)

/-- COMMAND_TIMEOUT: TMO has passed since the latest send of a command: its path fails for the pen (R374). -/
def execCommandTimeout (entry : Nat) (s : State) : Out :=
  match s.entry entry with
  | some e =>
    if e.sent ∧ !s.frozen then
      let limit := bits ((s.pen e.pen).word 1) 63 48 * 25000
      let now := (s.rget .pwAotime).toNat
      let gone := (now + 2 ^ 32 - e.tlast) % 2 ^ 32
      let s := s.rset .pwAotime 0 0 (BitVec.ofNat 64 (now + (limit - gone)))
      .next (s.failPath e.pen e.path)
    else .next s
  | none => .next s

/-! ### Completions (R363, R365, R367) -/

/-- What a status field of an NVMe completion maps to (R365): success, compare failure, failure of the path, or a
device error. -/
inductive NvRes | ok | mismatch | path | dev
  deriving DecidableEq, Repr

/-- The mapping of R365 for dword 3 [31:17]. -/
def nvResult (sf : Nat) : NvRes :=
  let sct := bits sf 10 8
  let sc := bits sf 7 0
  if sct = 0 ∧ sc = 0 then .ok
  else if sct = 2 ∧ sc = 0x85 then .mismatch
  else if sct = 3 ∨ (sct = 0 ∧ (sc = 7 ∨ sc = 8)) then .path
  else .dev

/-- The status of a command by a status field that is no path failure: STATUS. -/
def NvRes.status : NvRes → Nat
  | .ok => 0 | .mismatch => 0x103 | .path => 0x100 | .dev => 0x102

/-- Bytes a successful NVMe command moved. -/
def State.movedBytes (s : State) (e : Sent) : Nat :=
  let cs := s.commandClauses e
  if hasData (opOf (cs.headD [])) then bufLen (buffersOf cs) else 0

/-- A completion entry whose status field is `sf` and dword 0 `dw0`, for the command with identifier `cid` (R363, R365). -/
def State.nvmeDone (s : State) (pen path cid sf dw0 : Nat) : State :=
  match s.chans.sents.find? fun x => x.2.pen == pen && x.2.sent && x.2.path == path && x.2.slot == cid % 0x8000 with
  | none => s
  | some (i, e) =>
    if nvResult sf = .path then s.failPath pen path
    else if opOf (e.cmd.map BitVec.toNat) = 7 then
      let cw := if cid < 0x8000 then (some sf, e.cw.2) else (e.cw.1, some sf)
      match cw with
      | (some c, some w) =>
        let pick := if nvResult c = .ok then w else c
        s.recordStatus i { e with cw := cw } (nvResult pick).status pick (s.movedBytes e) pick
      | _ => s.setEntry i { e with cw := cw }
    else if cid < 0x8000 then s.recordStatus i e (nvResult sf).status sf (s.movedBytes e) (if nvResult sf = .ok then dw0 else sf)
    else s

/-- A ring completion: DSTATUS and BYTES (R367). -/
def State.ringDone (s : State) (pen path cid dstatus moved : Nat) : State :=
  match s.chans.sents.find? fun x => x.2.pen == pen && x.2.sent && x.2.path == path && x.2.slot == cid with
  | none => s
  | some (i, e) =>
    if 0x80000000 ≤ dstatus ∧ dstatus ≤ 0x800000FF then s.failPath pen path
    else s.recordStatus i e (if dstatus = 0 then 0 else 0x102) dstatus moved dstatus

/-- One entry at the head of a path's completion ring, if its phase says it is new: the head moves on, the completion
doorbell is written, and the command's status recorded (R365, R367). True where an entry was taken. -/
def State.takeCompletion (s : State) (pen path : Nat) (le : LedgerErr) : State × Bool :=
  let p := s.pen pen
  let q := p.path path
  let pa := p.pathWord path 3 + 16 * q.cqHead
  let lo := (s.memWord pa).toNat
  let hi := (s.memWord (pa + 8)).toNat
  let nvme := decide (p.kind = 1 ∨ p.kind = 2)
  let phase := if nvme then bit hi 48 else bit lo 63
  if s.frozen ∨ s.penState pen = 0 ∨ p.kind = 4 ∨ !s.served pen ∨ s.pathFailed pen path ∨ phase ≠ q.phase then (s, false)
  else
    let head := (q.cqHead + 1) % p.qsize
    let q := { q with cqHead := head, phase := if head = 0 then !q.phase else q.phase, sqHead := if nvme then bits hi 15 0 else q.sqHead }
    let s := s.modPen pen fun p => { p with paths := tins p.paths path q }
    let s := match s.doorbell (p.pathWord path 1 + 4 * 2 ^ bits (p.word 0) 37 34) head (p.rid path) with
      | (s, true) => s
      | (s, false) => s.failPath pen path
    let cid := if nvme then bits hi 47 32 else bits lo 47 32
    let idx := ((s.chans.sents.find? fun x => x.2.pen == pen && x.2.sent && x.2.path == path && x.2.slot == cid % 0x8000).map fun x => x.1).getD 0
    match s.ledgerRead idx le with
    | (s, false) => (s, true)
    | (s, true) =>
      (if nvme then s.nvmeDone pen path cid (hi / 2 ^ 49) (lo % 2 ^ 32) else s.ringDone pen path cid (lo % 2 ^ 32) (hi % 2 ^ 32), true)

/-- NVME_COMPLETION_ENTRY (R365). -/
def execNvmeCompletionEntry (pen path : Nat) (le : LedgerErr) (s : State) : Out :=
  .next (if (s.pen pen).kind = 1 ∨ (s.pen pen).kind = 2 then (s.takeCompletion pen path le).1 else s)

/-- RING_COMPLETION_ENTRY (R367). -/
def execRingCompletionEntry (pen path : Nat) (le : LedgerErr) (s : State) : Out :=
  .next (if (s.pen pen).kind = 3 then (s.takeCompletion pen path le).1 else s)

/-- Every new entry of a path's completion ring. -/
def State.readRing (s : State) (pen path : Nat) : Nat → State
  | 0 => s
  | k + 1 => match s.takeCompletion pen path .none with
    | (s, true) => s.readRing pen path k
    | (s, false) => s

/-- A message discarded (R369). -/
def State.msiBad (s : State) : State := (s.bump .chMsibad).raise 53

/-- What the drover does with an MSI-X message of 4 bytes from `rid` on the link of port `p` (R369). -/
def State.absorbMsix (s : State) (p rid data : Nat) : State :=
  let n := data % 65536
  let i := bits data 18 16
  let pn := s.pen n
  if data / 2 ^ 19 ≠ 0 ∨ s.penState n = 0 ∨ !s.pathValid pn.group i ∨ s.pathFailed n i ∨ s.pathPort pn.group i ≠ p ∨ pn.rid i ≠ rid then s.msiBad
  else s.readRing n i pn.qsize

/-- MSIX_ABSORB (R369). -/
def execMsixAbsorb (p rid data : Nat) (s : State) : Out := .next (s.absorbMsix p rid data)

/-- COMPLETION_POLL: a pen with POLL ≠ 0 and commands sent has its completion rings read (R369). -/
def execCompletionPoll (pen : Nat) (s : State) : Out :=
  let p := s.pen pen
  if bits (p.word 1) 47 40 = 0 ∨ !(s.chans.sents.any fun x => x.2.pen == pen && x.2.sent) then .next s
  else .next ((List.range 8).foldl (fun s i => s.readRing pen i p.qsize) s)

/-! ### The pen record (R344 to R346) -/

/-- Whether a path entry is in order (R345). -/
def pathEntryOk (p : Pen) (valid : Bool) (i : Nat) : Bool :=
  let w := p.pathWord i
  if !valid || p.kind == 4 then (List.range 4).all fun k => w k == 0
  else
    let qid := bits (w 0) 47 32
    bits (w 0) 31 0 == 0 && (if p.kind = 1 then decide (1 ≤ qid ∧ qid ≤ 65534) else p.kind == 3 || qid == 0)
      && w 1 % 4 == 0 && w 2 % 4096 == 0 && w 3 % 4096 == 0

/-- Whether a record holds no reserved value, and 0 where it must (R344, R345). -/
def State.recordOk (s : State) (p : Pen) : Bool :=
  let w0 := p.word 0
  let nv := p.kind == 1
  let lba := bits w0 33 30
  let nsid := bits (p.word 1) 31 0
  let w3 := p.word 3
  decide (1 ≤ p.kind ∧ p.kind ≤ 4) && !bit w0 59 && p.part != 2047 && (nv || !bit w0 38)
    && (if nv then lba == 9 || lba == 12 else lba == 0) && bits w0 29 13 == 0 && decide (2 ≤ p.qsize ∧ p.qsize ≤ 4096)
    && bits (p.word 1) 63 48 != 0 && bits (p.word 1) 39 32 == 0
    && (if nv then decide (1 ≤ nsid ∧ nsid ≤ 0xFFFFFFFE) else nsid == 0)
    && bits (p.word 2) 63 52 == 0 && bits (p.word 2) 11 0 == 0 && (nv || p.kind == 2 || p.word 2 == 0)
    && bits w3 63 59 == 0 && bits w3 55 48 == 0 && bits w3 31 8 == 0
    && (if p.kind = 4 then bits w3 7 0 == 0 else bits w3 58 56 == 0 && bits w3 47 32 == 0)
    && (((rangeFrom 4 12) ++ rangeFrom 48 16).all fun k => p.word k == 0)
    && (List.range 8).all fun i => pathEntryOk p (s.pathValid p.group i) i

/-- The function-table entry of a requester ID on a link: the one valid entry that holds it (R403). -/
def State.functionOf (s : State) (p rid : Nat) : Option (Nat × Word) :=
  match (List.range 256).filterMap fun n =>
    let v := s.rget .lkFn p n
    if flag v 63 ∧ fld v 15 0 = rid then some (n, v) else none with
  | [x] => some x
  | _ => none

/-- The valid paths of a path group. -/
def State.validPaths (s : State) (g : Nat) : List Nat := (List.range 8).filter (s.pathValid g)

/-- Whether `n` bytes lie in this module's main memory. -/
def State.ownMemory (s : State) (pa n : Nat) : Bool :=
  s.mainMem pa && s.mainMem (pa + n - 1) && memModule pa == s.ownModule && memModule (pa + n - 1) == s.ownModule

/-- Whether SQDB lies in a BAR of the path's function (R407). -/
def State.sqdbOk (s : State) (p : Pen) (i : Nat) : Bool :=
  let db := p.pathWord i 1
  match s.apertureOf db with
  | none => false
  | some (a, o) =>
    decide (o + 4 * 2 ^ bits (p.word 0) 37 34 + 3 < 0x4000) && s.lowPort (a / 4) == s.pathPort p.group i
      && s.aptOn a && fld (s.aptFn a) 15 0 == p.rid i

/-- The RESULT of the checks of R346 on a record: 1 done, 3 RESERVED, 4 PART, 5 PATHGRP, 6 RANGE. -/
def State.checkRecord (s : State) (p : Pen) : Nat :=
  let paths := s.validPaths p.group
  let isFn := fun (i : Nat) => match s.functionOf (s.pathPort p.group i) (p.rid i) with
    | some (_, v) => fld v 60 50 == p.part
    | none => false
  let partOk := (s.resOf p.part).isSome && (!(p.kind == 1 || p.kind == 3) || paths.all isFn) && (p.kind != 2 || p.part == 0)
    && (bits (p.word 3) 7 0 == 0 || p.part == 0)
  let rmod := bits (p.word 3) 58 56
  let groupOk := !paths.isEmpty && paths.all fun i =>
    let q := s.pathPort p.group i
    if p.kind = 4 then s.linkRole q == 2 && s.groupPeer (q / 4) == rmod else s.linkRole q == 1
  let ringOk := fun (i : Nat) =>
    s.ownMemory (p.pathWord i 2) ((if p.kind = 3 then 32 else 64) * p.qsize) && s.ownMemory (p.pathWord i 3) (16 * p.qsize) && s.sqdbOk p i
  let rangeOk := if p.kind = 4 then s.present rmod && rmod != s.ownModule
    else paths.all ringOk && (p.kind == 3 || s.ownMemory (p.word 2) (4096 * p.qsize))
  if !s.recordOk p then 3 else if !partOk then 4 else if !groupOk then 5 else if !rangeOk then 6 else 1

/-- The record of pen n as memory holds it (R344). -/
def State.readRecord (s : State) (n : Nat) : List Word := s.memWords (s.rfld .chPenbase 0 0 51 25 * 2 ^ 25 + 512 * n) 64

/-! ### Pen commands (R347, R348, R389, R390) -/

/-- A pen command finishes with a RESULT (R348, R390). -/
def State.penDone (s : State) (result : Nat) : State :=
  (s.rmod .chPencmdstat 0 0 fun v => setFld (setFlag v 63 false) 55 52 result).raise 48

/-- The state of a pen set. -/
def State.setPenState (s : State) (n v : Nat) : State := s.rput .chPenstat n 0 63 61 v

/-- Paths in a mask. -/
def maskPaths (mask : Nat) : List Nat := (List.range 8).filter mask.testBit

/-- The sentences of a pen that wait in troughs, with their troughs. -/
def State.waitingFor (s : State) (pen : Nat) : List (Nat × Request) :=
  s.troughs.flatMap fun t => (t.2.filter fun q => bits q.header 63 60 == 3 && bits q.header 47 32 == pen).map fun q => (t.1, q)

/-- ABORT: sentences not begun, and commands never sent, complete ABORTED (R347, R378). -/
def State.penAbort (s : State) (pen : Nat) : State :=
  let s := (s.waitingFor pen).foldl (fun s x =>
    let s := { s with troughs := tput [] s.troughs x.1 (delFirst (fun q => q == x.2) (tget [] s.troughs x.1)) }
    s.complete x.2 0x107 (2 ^ 34)) s
  (s.chans.sents.filter fun x => x.2.pen == pen && !x.2.sent && x.2.sends == 0).foldl (fun s x => s.recordStatus x.1 x.2 0x107 0 0 0) s

/-- A record read again: paths, TMO, POLL and EVT take effect (R347). -/
def reloaded (old new : List Word) : List Word :=
  let mix := fun (w : Nat) (mask : Word) => (lget 0 old w &&& ~~~mask) ||| (lget 0 new w &&& mask)
  (List.range 64).map fun w =>
    if w = 0 then mix 0 (BitVec.ofNat 64 (2 ^ 39 + 255 * 2 ^ 40))
    else if w = 1 then mix 1 (BitVec.ofNat 64 (65535 * 2 ^ 48 + 255 * 2 ^ 40))
    else if 16 ≤ w ∧ w < 48 then lget 0 new w else lget 0 old w

/-- A pen command is carried out (R347, R377, R384). STOP ends when the pen is STOPPED, MOVE when the new drover goes on. -/
def State.runPen (s : State) (cmd arg pen : Nat) : State :=
  let st := s.penState pen
  let no := s.penDone 2
  match cmd with
  | 1 =>
    if st ≠ 0 then no
    else
      let p : Pen := { Pen.reset with recd := s.readRecord pen }
      let r := s.checkRecord p
      if r ≠ 1 then s.penDone r
      else (((s.modPen pen fun _ => p).rput .chPenstat pen 0 39 32 0).setPenState pen 1).penDone 1
  | 2 => if st ≠ 1 then no else s.setPenState pen 2
  | 3 => if st = 2 ∨ st = 3 then (s.setPenState pen 1).penDone 1 else no
  | 4 => if st = 2 ∨ st = 3 then (s.penAbort pen).penDone 1 else no
  | 5 =>
    if st ≠ 3 then no
    else if !(s.waitingFor pen).isEmpty then s.penDone 7
    else ((s.modCh fun c => { c with pens := tdel c.pens pen }).rmod .chPenstat pen 0 fun v => setFld (setFld v 63 61 0) 39 32 0).penDone 1
  | 6 =>
    if st ≠ 3 then no
    else
      let old := s.pen pen
      let p : Pen := { old with recd := s.readRecord pen }
      let r := s.checkRecord p
      if r ≠ 1 then s.penDone r
      else if p.kind ≠ old.kind ∨ p.part ≠ old.part then no
      else (s.modPen pen fun p => { p with recd := reloaded old.recd (s.readRecord pen) }).penDone 1
  | 7 =>
    if st = 0 then no
    else ((maskPaths arg).foldl (fun s i => (s.modPen pen fun p => { p with paths := tdel p.paths i }).rput .chPenstat pen 0 (32 + i) (32 + i) 0) s).penDone 1
  | 8 => if st = 0 then no else ((maskPaths arg).foldl (fun s i => s.failPath pen i) s).penDone 1
  | 9 =>
    if s.rfld .chDrovstat arg 0 63 61 ≠ 0 ∨ s.rbit .chDrovctl arg 0 0 then no
    else
      let g := pen / 64
      let s := (rangeFrom (64 * g) 64).foldl (fun s n => s.rput .chPenstat n 0 60 60 1) (s.rput .chPengrp g 0 63 63 1)
      s.modCh fun c => { c with waiting := some (BitVec.ofNat 64 arg) }
  | _ => s

/-- A performed write of CH_PENCMD: carried out, or left waiting while the ledger is frozen; one while BUSY sets REJ (R380,
R389, R390). -/
def State.penCommand (s : State) (v : Word) : State :=
  let st := s.rget .chPencmdstat
  if flag st 63 then s.rset .chPencmdstat 0 0 (setFlag st 62 true)
  else
    let cmd := fld v 59 56
    let pen := fld v 15 0
    if cmd = 0 then s.rset .chPencmdstat 0 0 (setFlag st 62 false)
    else
      let s := s.rset .chPencmdstat 0 0 (BitVec.ofNat 64 (2 ^ 63 + cmd * 2 ^ 56 + pen))
      if s.frozen then s.modCh fun c => { c with waiting := some v } else s.runPen cmd (fld v 55 48) pen

/-- PEN_STOPPED: a STOPPING pen with no command sent or to be sent again becomes STOPPED, and STOP finishes (R347, R348);
while the ledger is frozen it waits (R380). -/
def execPenStopped (pen : Nat) (s : State) : Out :=
  let busy := s.chans.sents.any fun x => x.2.pen == pen && (x.2.sent || x.2.sends != 0)
  if s.frozen ∨ s.penState pen ≠ 2 ∨ busy then .next s
  else
    let s := s.setPenState pen 3
    let st := s.rget .chPencmdstat
    .next (if flag st 63 ∧ fld st 59 56 = 2 ∧ fld st 15 0 = pen then s.penDone 1 else s)

/-- PEN_MOVE_COMPLETE: the new drover goes on from the ledger (R384). -/
def execPenMoveComplete (g : Nat) (s : State) : Out :=
  match s.chans.waiting with
  | some v =>
    if s.rbit .chPengrp g 0 63 ∧ !s.frozen then
      let s := (rangeFrom (64 * g) 64).foldl (fun s n => s.rput .chPenstat n 0 60 60 0) (s.rset .chPengrp g 0 (BitVec.ofNat 64 (v.toNat % 32)))
      .next ((s.modCh fun c => { c with waiting := none }).penDone 1)
    else .next s
  | none => .next s

/-! ### Path groups (R349, R350, R392) -/

/-- CH_PENSTAT_n with PATHOK (R393). -/
def State.penstatView (s : State) (n : Nat) : Word :=
  let ok := if s.penState n = 0 then 0 else (List.range 8).foldl (fun v i => v + bnat (s.pathOk n i) * 2 ^ i) 0
  setFld (s.rget .chPenstat n) 47 40 ok

/-- The agreement check of path group n (R349). -/
def State.pathGroupOk (s : State) (n : Nat) : Bool :=
  let d := s.rget .chPathgrpD n
  let valid := (List.range 8).filter fun i => flag d (8 * i + 7)
  let port := fun (i : Nat) => fld d (8 * i + 6) (8 * i)
  let ports := valid.map port
  let role := fun (p : Nat) => s.linkRole p
  let inUse := s.chans.pens.any fun x => s.penState x.1 != 0 && x.2.group == n
  let old := s.validPaths n
  decide (ports.eraseDups.length = ports.length) && (ports.all fun p => s.lowPort p == p && (role p == 1 || role p == 2))
    && decide ((ports.map role).eraseDups.length ≤ 1)
    && (!inUse || (!valid.isEmpty && decide ((ports.map role).head? = (old.map fun i => role (s.pathPort n i)).head? ∨ old.isEmpty)
      && old.all fun i => !valid.contains i || port i == s.pathPort n i))

/-- The commit of the path groups and policies: none where the check fails (R349, R350). -/
def State.chPathCommit (s : State) : Option State :=
  if (List.range 256).all s.pathGroupOk then
    some ((List.range 256).foldl (fun s n =>
      let before := s.pathstat n
      let s := (s.rset .chPathgrp n 0 (s.rget .chPathgrpD n)).rset .chPathpol n 0 (s.rget .chPathpolD n)
      let after := s.pathstat n
      ((List.range 8).filter fun i => fld before (8 * i + 1) (8 * i) ≠ fld after (8 * i + 1) (8 * i)).foldl (fun s _ => s.raise 51) s) s)
  else none

/-- GROUPS of CH_DROVSTAT_d (R395). -/
def State.drovstatView (s : State) (d : Nat) : Word :=
  setFld (s.rget .chDrovstat d) 10 0 ((List.range 1024).filter fun g => s.rfld .chPengrp g 0 4 0 = d).length

/-! ### Power-fail drain (R380 to R383, R396) -/

/-- The length of the drain layout (R381). -/
def drainBytes : Nat := 8392704

/-- The commit of the drain target: none where the check fails (R396). -/
def State.chDrainCommit (s : State) : Option State :=
  let c := s.rget .chDraincfgD
  let a := (s.rget .chDrainaddrD).toNat
  let n := fld c 15 0
  let m := memModule a
  let ok := if !flag c 63 then true
    else if !flag c 62 then s.penState n == 1 && (s.pen n).kind == 1 && (s.pen n).part == 0
    else a % 4096 == 0 && inMemRange a && m != s.ownModule && s.mainMem a && s.mainMem (a + drainBytes - 1) && memModule (a + drainBytes - 1) == m
  if ok then some ((s.rset .chDraincfg 0 0 c).rset .chDrainaddr 0 0 (s.rget .chDrainaddrD)) else none

/-- The ledger image (R381). -/
def State.ledgerImage (s : State) : List Byte :=
  (List.range 65536).flatMap fun i => wordsBytes ((List.range 16).map (s.ledgerWord i))

/-- The header of the drain layout, up to its reserved part (R381). -/
def State.drainHeader (s : State) (count crc : Nat) : List Byte :=
  toBytes 8 (0x4C444752 * 2 ^ 32 + 2 ^ 16 + s.ownModule) ++ toBytes 8 (s.rget .shBootseq).toNat ++ toBytes 8 (s.rget .pwAotime).toNat
    ++ toBytes 8 count ++ toBytes 8 crc

/-- The drain ends (R382, R383). -/
def State.drainEnd (s : State) (ok late : Bool) : State :=
  let s := s.modCh fun c => { c with drain := c.drain.map fun d => { d with ended := true } }
  (s.rmod .chDrainstat 0 0 fun v => setFlag (setFld v 63 61 (if ok then 2 else 3)) 60 (ok && late)).raise 52

/-- POWER_FAIL_DRAIN: PFW_N has been low at two ticks: the ledger is frozen and the drain begins, or joins the one that
runs; without a target, or with its pen not ATTACHED or without a path, it fails (R380, R383). -/
def execPowerFailDrain (s : State) : Out :=
  if s.power.held || (s.chans.drain.filter fun d => !d.ended).isSome then .next s
  else
    let count := s.chans.sents.length
    let cfg := s.rget .chDraincfg
    let n := fld cfg 15 0
    let kind1 := flag cfg 62
    let fails := !flag cfg 63 || (!kind1 && (s.penState n != 1 || !(List.range 8).any (s.pathOk n)))
    let s := (s.rput .chCtl 0 0 1 1 1).rset .chDrainstat 0 0 (BitVec.ofNat 64 (2 ^ 61 + count))
    let image := if fails then [] else s.ledgerImage
    let crc := (crc32c 0 image).toNat
    let s := s.modCh fun c => { c with drain := some { count := count, crc := crc, ended := false } }
    if fails then .next (s.drainEnd false false)
    else if kind1 then
      let a := (s.rget .chDrainaddr).toNat
      .next ((s.cohWrite (a + 4096) image).cohWrite a (s.drainHeader count crc ++ List.replicate 4056 0))
    else .next s

/-- DRAIN_COMPLETE: the drain's writes have their status, or no path remains (R382, R383). -/
def execDrainComplete (ok late : Bool) (s : State) : Out :=
  match s.chans.drain with
  | some d => .next (if d.ended then s else s.drainEnd ok late)
  | none => .next s

/-- LEDGER_THAW: the drain has ended and PFW_N is high: the drovers go on, and the pen command that waited is carried
out (R383). -/
def execLedgerThaw (s : State) : Out :=
  match s.chans.drain with
  | some d =>
    if !d.ended ∨ !s.frozen then .next s
    else
      let s := s.rput .chCtl 0 0 1 1 0
      match s.chans.waiting with
      | some v =>
        let st := s.rget .chPencmdstat
        if flag st 63 ∧ fld v 59 56 ≠ 0 then
          .next ((s.modCh fun c => { c with waiting := none }).runPen (fld v 59 56) (fld v 55 48) (fld v 15 0))
        else .next s
      | none => .next s
  | none => .next s

end Sys2Proof.Machine
end

