-- ==== Sys2Proof/Machine/Links.lean ====
section
/-! DEFINITION. Link service: training, LINK commands, margins, LK_DREQ, the requests of devices and their errors, apertures, and the commit of LK_CFG (09, R399 to R413, R428 to R441). -/

namespace Sys2Proof.Machine

open Sys2Proof

/-! ### LINK commands and margins (R429 to R431, R436, R437) -/

/-- Whether a link runs a LINK command or a margin measurement (R431). -/
def State.linkBusy (s : State) (p : Nat) : Bool := s.rbit .lkStat p 0 31 || s.rbit .lkMargin p 0 63

/-- The port records changed. -/
def State.modPorts (s : State) (f : PortOps → PortOps) : State := { s with ports := f s.ports }

/-- A LINK command (R412, R429, R431, R436): 1 RETRAIN, 2 REEQ, 3 RELEASE; CMDREJ where it is not performed. -/
def State.linkCommand (s : State) (p cmd : Nat) : State :=
  let st := s.linkState p
  let role := s.linkRole p
  let rej := s.rput .lkStat p 0 30 30 1
  if cmd = 0 then s
  else if s.linkBusy p ∨ role = 0 then rej
  else
    let go := (s.rmod .lkStat p 0 fun v => setFlag (setFlag v 30 false) 31 true).modPorts fun x => { x with cmd := tins x.cmd p cmd }
    match cmd with
    | 1 => if st = 4 then rej else go.setLink p (if st = 1 then 1 else 3)
    | 2 => if st ≠ 2 ∨ (role = 2 ∧ s.rfld .lkStat p 0 57 53 ≤ 1) then rej
      else if role = 1 then go.setLink p 3 else go
    | _ => if st = 4 then go.setLink p 1 else rej

/-- The LINK command of a link ends. -/
def State.linkCmdDone (s : State) (p : Nat) : State :=
  (s.rput .lkStat p 0 31 31 0).modPorts fun x => { x with cmd := tdel x.cmd p }

/-- LINK_REEQ_COMPLETE (R429, R443). -/
def execLinkReeqComplete (p : Nat) (s : State) : Out :=
  if tget 0 s.ports.cmd p ≠ 2 then .next s
  else
    let s := s.linkCmdDone p
    .next ((if s.linkState p = 3 then s.setLink p 2 else s).lkLink p)

/-- LK_MARGIN with GO (R430, R431, R437): refused while the link runs an operation, and on an Ngatra link of fewer than
two active lanes. -/
def State.marginGo (s : State) (p lane : Nat) (volt : Bool) : State :=
  let lanes := s.rfld .lkStat p 0 57 53
  let refuse := s.linkBusy p || (s.linkRole p == 2 && decide (lanes < 2))
  if refuse then s.rput .lkMargin p 0 62 60 2
  else
    let s := s.rset .lkMargin p 0 (BitVec.ofNat 64 (2 ^ 63 + lane % 16 * 2 ^ 56 + bnat volt * 2 ^ 55))
    if s.linkRole p = 2 then (s.rput .lkStat p 0 57 53 (lanes - 1)).modPorts fun x => { x with margin := tins x.margin p 1 } else s

/-- MARGIN_COMPLETE (R430, R437, R443). -/
def execMarginComplete (p steps : Nat) (s : State) : Out :=
  if !s.rbit .lkMargin p 0 63 then .next s
  else
    let s := s.rmod .lkMargin p 0 fun v => setFld (setFld (setFlag v 63 false) 62 60 1) 54 48 (min steps 127)
    let s := s.rmod .lkStat p 0 fun v => setFld v 57 53 (fld v 57 53 + tget 0 s.ports.margin p)
    .next ((s.modPorts fun x => { x with margin := tdel x.margin p }).lkLink p)

/-! ### Links up and down (R412, R420, R422 to R426, R435) -/

/-- LINK_UP: a link that trains comes up at a rate and with lanes its settings allow; an Ngatra link begins its protocol,
and a designated one is the active link (R399, R401, R423, R435). -/
def execLinkUp (p rate lanes : Nat) (flit : Bool) (s : State) : Out :=
  let st := s.linkState p
  let cfg := s.rget .lkCfg p
  if s.lowPort p ≠ p ∨ 128 ≤ p ∨ s.linkRole p = 0 ∨ (st ≠ 1 ∧ st ≠ 3) ∨ s.rbit .ftCnt 10 p 63 ∨ fld cfg 7 5 < rate ∨ lanes = 0
      ∨ 2 ^ (fld cfg 10 8 + 1) < lanes ∨ tget 0 s.ports.cmd p = 2 then .next s
  else
    let s := s.rmod .lkStat p 0 fun v => setFlag (setFld (setFld v 60 58 rate) 57 53 lanes) 52 flit
    let lame := ((List.range (2 ^ (fld cfg 10 8 + 1))).filter fun i => s.rbit .ftCnt 9 (2 * p + i) 63).foldl (fun n i => n + 2 ^ i) 0
    let s := s.rmod .lkStat p 0 fun v => setFlag (setFld v 47 32 lame) 51 (flag v 51 && decide (lame ≠ 0))
    let s := (s.setLink p 2).linkCmdDone p
    if s.linkRole p = 2 then
      let s := if st = 1 then s.modLnk p fun _ => LinkS.reset else s
      .next (if s.rbit .lkPstat 0 0 (31 + p / 4) then s.activate (p / 4) else s.updateRoutes)
    else
      .next ((List.range 256).foldl (fun s g => (s.validPaths g).foldl (fun s i => if s.pathPort g i = p ∧ st = 1 then s.raise 51 else s) s) s)

/-- LINK_DOWN: an Ngatra link loses signal or fails by a protocol error and goes DOWN; a PCIe port whose link goes down
unasked is CONTAINED (R412, R416, R420). -/
def execLinkDown (p : Nat) (protocol : Bool) (s : State) : Out :=
  let st := s.linkState p
  if s.lowPort p ≠ p ∨ 128 ≤ p ∨ (st ≠ 2 ∧ st ≠ 3) then .next s
  else if s.linkRole p = 2 then .next (((if protocol then s.lkError p 9 0 0 else s).linkDown p 1).linkCmdDone p)
  else .next (((s.lkError p 6 0 0).linkDown p 4).linkCmdDone p)

/-! ### LK_DREQ (R408, R439) -/

/-- A request of LK_DREQ ends with a RESULT, and LK_XFER is raised. -/
def State.dreqEnd (s : State) (p result : Nat) : State :=
  ((s.rmod .lkDstat p 0 fun v => setFld (setFlag v 63 false) 61 59 result).modPorts fun x => { x with dreq := tdel x.dreq p }).raise (129 + 2 * p)

/-- A performed write of LK_DREQ (R408): one while BUSY sets REJ; a memory write completes when it is sent. -/
def State.dreq (s : State) (p : Nat) (v : Word) : State :=
  let st := s.rget .lkDstat p
  if flag st 63 then s.rset .lkDstat p 0 (setFlag st 62 true)
  else
    let s := s.rset .lkDstat p 0 0
    if s.linkState p ≠ 2 ∨ s.linkRole p ≠ 1 then s.dreqEnd p 5
    else if fld v 63 62 = 1 then
      let d := s.rget .lkDwdata p
      (s.postBus p (fld v 53 0) (if flag v 61 then d else d &&& 0xFFFFFFFF)).dreqEnd p 1
    else (s.rput .lkDstat p 0 63 63 1).modPorts fun x => { x with dreq := tins x.dreq p v }

/-- DREQ_COMPLETE: a device's completion arrives: 1 success, 2 UR, 3 CA (R408, R439). -/
def execDreqComplete (p result data : Nat) (s : State) : Out :=
  match tfind s.ports.dreq p with
  | none => .next s
  | some v =>
    if result < 1 ∨ 3 < result then .next s
    else
      let s := if result = 1 ∧ (fld v 63 62 = 0 ∨ fld v 63 62 = 2) then
        s.rset .lkDrdata p 0 (BitVec.ofNat 64 (if flag v 61 then data else data % 2 ^ 32)) else s
      .next (s.dreqEnd p result)

/-- DREQ_TIMEOUT (R408, R438). -/
def execDreqTimeout (p : Nat) (s : State) : Out :=
  match tfind s.ports.dreq p with
  | none => .next s
  | some v => .next ((s.lkError p 5 0 (fld v 53 0)).dreqEnd p 4)

/-! ### Requests of devices (R403, R409 to R411) -/

/-- What a root port answers a device. -/
def State.answer (s : State) (p : Nat) (ok : Bool) (data : Nat) (ep : Bool) : State :=
  s.modPorts fun x => { x with answers := tins x.answers p { ok := ok, data := data, ep := ep } }

/-- A refusal: UR for a non-posted request, and the record (R409). -/
def State.refuseDev (s : State) (p cause : Nat) (r : DevReq) : State :=
  let s := s.lkError p cause r.rid r.addr
  if r.write then s else s.answer p false 0 false

/-- A request served at translated pieces of main memory or a scratchpad (R409): poison of a write covers its lines, poison
met by a read answers EP, and both are logged. -/
def State.serveDev (s : State) (p : Nat) (r : DevReq) (ps : List (Nat × Nat)) : State :=
  if r.write then
    let s := s.dieWrites dieAgent ps (toBytes r.len r.data)
    if r.ep then
      let lines := ps.flatMap fun x => linesOf x.1 x.2
      let s := lines.foldl (fun s l => if s.mainMem (l * 64) then (if s.ownLine l then s.poisonMem l else s) else { s with spPoison := ((rangeFrom (l * 4) 4).filter fun w => !s.spPoison.contains w) ++ s.spPoison }) s
      s.lkError p 4 r.rid r.addr
    else s
  else
    let step := fun (acc : State × List Byte × Bool) (x : Nat × Nat) =>
      match acc.1.dieRead dieAgent x.1 x.2 with
      | (s, .ok bs) => (s, acc.2.1 ++ bs, acc.2.2)
      | (s, .error _) => (s, acc.2.1 ++ List.replicate x.2 0, true)
    let (s, bs, bad) := ps.foldl step (s, [], false)
    let s := if bad then s.lkError p 4 r.rid r.addr else s
    s.answer p true (ofBytes bs) bad

/-- A request for a peer through an aperture (R410). -/
def State.forwardPeer (s : State) (p : Nat) (r : DevReq) (a o : Nat) : State :=
  if r.write then s.postBus (s.lowPort (a / 4)) (s.aptBus a o) (BitVec.ofNat 64 r.data) else s.answer p true r.data r.ep

/-- The root port's order of checks (R409); MSI-X writes are absorbed (R369). -/
def State.inbound (s : State) (p : Nat) (r : DevReq) (pe : PieceErr) : State :=
  match s.functionOf p r.rid with
  | none => s.refuseDev p 0 r
  | some (_, fn) =>
    if flag fn 61 then s.refuseDev p 0 r
    else if 0x200000000000 ≤ r.addr ∧ r.addr < 0x200000001000 then
      (if r.write && r.len == 4 && r.kind == .memory then s.absorbMsix p r.rid (r.data % 2 ^ 32) else s.refuseDev p 2 r)
    else if r.kind ≠ .memory then s.refuseDev p 2 r
    else
      let part := fld fn 60 50
      if part = 0 ∧ 2 ^ 52 ≤ r.addr then s.refuseDev p 2 r
      else
        let owner : Option (Option Nat) := if part = 0 then some none else (s.resOf part).map some
        match owner with
        | none => s.refuseDev p 1 r
        | some o =>
          match s.dieBuf o r.addr r.len (if r.write then .store else .load) false with
          | (s, _, some .hurdle) => s.refuseDev p 1 r
          | (s, _, some (.poison _)) => s.refuseDev p 4 r
          | (s, ps, none) =>
            let pa := (ps.headD (0, 0)).1
            let s := if s.mainMem pa && (s.dirtyCopy (pa / 64)).isNone && s.ownLine (pa / 64) && !r.write then s.pieceError (pa / 64) pe else s
            if ps.all fun x => s.reachable x.1 then s.serveDev p r ps
            else match s.apertureOf pa with
              | some (a, off) =>
                if s.aptOn a && fld (s.aptFn a) 60 50 == part then s.forwardPeer p r a off else s.refuseDev p 3 r
              | none => s.refuseDev p 2 r

/-- Whether a port is a PCIe link that is up. -/
def State.pcieUp (s : State) (p : Nat) : Bool := s.linkRole p == 1 && s.linkState p == 2 && s.lowPort p == p

/-- DEVICE_MEMORY_REQUEST (R409). -/
def execDeviceMemoryRequest (p : Nat) (req : DevReq) (pe : PieceErr) (s : State) : Out :=
  .next (if s.pcieUp p && req.len != 0 then s.inbound p req pe else s)

/-- ATS_TRANSLATION_REQUEST: the untranslated address with the read and write rights of the function's hurdle, in the
answer's bits 0 and 1 (R411, R530, R692). -/
def execAtsTranslationRequest (p rid addr : Nat) (s : State) : Out :=
  if !s.pcieUp p then .next s
  else
    let r : DevReq := { rid := rid, kind := .memory, write := false, addr := addr, len := 4096, data := 0, ep := false }
    match s.functionOf p rid with
    | none => .next (s.refuseDev p 0 r)
    | some (_, fn) =>
      if flag fn 61 || !flag fn 62 then .next (s.refuseDev p 0 r)
      else
        let part := fld fn 60 50
        let grain := addr / 4096 * 4096
        let ans := fun (s : State) (rd wr : Bool) => Host.Outcome.next (s.answer p true (grain + bnat rd + 2 * bnat wr) false)
        if part = 0 then ans s true true
        else match s.resOf part with
          | none => ans s false false
          | some res =>
            match s.dieXlate (some res) grain .load false with
            | (s, .error (.poison _)) => .next (s.refuseDev p 4 r)
            | (s, x) =>
              match s.dieXlate (some res) grain .store false with
              | (s, .error (.poison _)) => .next (s.refuseDev p 4 r)
              | (s, y) => ans s (match x with | .ok _ => true | .error _ => false) (match y with | .ok _ => true | .error _ => false)

/-- ATS_INVALIDATE_TIMEOUT: a function that has not completed its invalidation is blocked (R411). -/
def execAtsInvalidateTimeout (p fn : Nat) (s : State) : Out :=
  if s.ports.ats.contains (p, fn) then
    let s := (s.rput .lkFn p fn 61 61 1).rput .huInvstat 0 0 61 61 1
    let s := s.lkError p 7 (s.rfld .lkFn p fn 15 0) 0
    .next (s.modPorts fun x => { x with ats := x.ats.filter fun y => y != (p, fn) })
  else .next s

/-! ### Errors (R412) -/

/-- PCIE_CORRECTABLE_ERROR. -/
def execPcieCorrectableError (p : Nat) (s : State) : Out := .next (if s.pcieUp p then s.strike 10 p else s)

/-- PCIE_NONFATAL_ERROR: logged; a request of LK_DREQ it affects ends with UR or CA, a device's is refused. -/
def execPcieNonfatalError (p rid addr : Nat) (result : Option Nat) (s : State) : Out :=
  if !s.pcieUp p then .next s
  else
    let s := s.lkError p 6 rid addr
    match result with
    | some r => .next (if (tfind s.ports.dreq p).isSome ∧ (r = 2 ∨ r = 3) then s.dreqEnd p r else s)
    | none => .next (s.answer p false 0 false)

/-- PCIE_FATAL_ERROR: the port is CONTAINED. -/
def execPcieFatalError (p : Nat) (s : State) : Out :=
  .next (if s.linkRole p = 1 ∧ s.lowPort p = p ∧ (s.linkState p = 2 ∨ s.linkState p = 3) then
    ((s.lkError p 6 0 0).linkDown p 4).linkCmdDone p else s)

/-! ### Apertures (R404 to R406) -/

/-- A store of a core to an aperture that is mapped on a PCIe link: one posted write, discarded and recorded where the
link is not UP; none where the aperture acts as unassigned (R405, R406, R440). -/
def State.aptStore (s : State) (a o : Nat) (v : Word) : Option State :=
  let p := s.lowPort (a / 4)
  if !s.aptOn a ∨ s.linkRole p ≠ 1 then none
  else if s.linkState p ≠ 2 then some (s.lkError p 8 (fld (s.aptFn a) 15 0) (s.aptBus a o))
  else some (s.postBus p (s.aptBus a o) v)

/-! ### The commit of LK_CFG (R400, R433, R434) -/

/-- Whether a port's draft agrees (R399, R400, R434). -/
def State.lkDraftOk (s : State) (p : Nat) : Bool :=
  let d := s.rget .lkCfgD p
  let live := s.rget .lkCfg p
  let w := fld d 10 8
  let role := fld d 13 12
  let low := p - p % 2 ^ w
  let accepted := decide (fld live 13 12 = 2)
  ((rangeFrom low (2 ^ w)).all fun q => s.rget .lkCfgD q == d) && (role != 2 || accepted) && (!accepted || d == live)
    && (!flag d 4 || (role == 2 && decide (1 ≤ w)))

/-- Whether a live link whose ROLE, WIDTH or SECBUS a draft changes is in use: a valid function or a path of a group
(R434). -/
def State.lkInUse (s : State) (p : Nat) : Bool :=
  let f := fun (v : Word) => (fld v 23 16, fld v 13 12, fld v 10 8)
  let low := s.lowPort p
  decide (f (s.rget .lkCfg p) ≠ f (s.rget .lkCfgD p))
    && (((List.range 256).any fun n => s.rbit .lkFn low n 63)
      || (List.range 256).any fun g => (s.validPaths g).any fun i => s.pathPort g i == low)

/-- The commit of LK_CFG: none where the check fails; each changed link goes DOWN and trains (R434). -/
def State.lkCommit (s : State) : Option State :=
  let ports := List.range 128
  if !(ports.all s.lkDraftOk) ∨ ports.any s.lkInUse then none
  else
    let changed := ports.filter fun p => s.rget .lkCfg p != s.rget .lkCfgD p
    let s := (changed.map s.lowPort).eraseDups.foldl (fun s p => s.linkDown p 1) s
    let s := changed.foldl (fun s p => s.rset .lkCfg p 0 (s.rget .lkCfgD p)) s
    some (changed.foldl (fun s p =>
      let st := if s.lowPort p ≠ p then 5 else if s.linkRole p = 0 then 0 else 1
      let raise := s.linkState p ≠ st
      let s := (s.rset .lkStat p 0 (BitVec.ofNat 64 (st * 2 ^ 61))).modPorts fun x => { x with cmd := tdel x.cmd p }
      if raise ∧ st ≠ 5 then s.lkLink p else s) s)

end Sys2Proof.Machine
end

