-- ==== Sys2Proof/Machine/Partition.lean ====
section
/-! DEFINITION. Partitions: residence, cores, invalidation of hurdle translations, the commits of troughs and shares, and the stint meters (12). -/

namespace Sys2Proof.Machine

open Sys2Proof

/-! ### Residence (R522 to R526) -/

/-- What keeps partition `p` at entry `r` from being removed, PT_INFL apart (R524). -/
def State.partHeld (s : State) (r p : Nat) : Bool :=
  ((List.range 216).any fun n => s.rfld .ptCore n 0 24 16 == r || s.rfld .ptCore n 0 8 0 == r)
    || ((List.range 8192).any fun t => s.rbit .ptTrough t 0 63 && s.rfld .ptTrough t 0 40 32 == r)
    || ((List.range 192).any fun m => s.rfld .stShare m r 23 0 != 0)
    || s.rbit .huRoot r 0 63
    || (s.chans.pens.any fun x => s.penState x.1 != 0 && x.2.part == p)
    || ((List.range 128).any fun l => (List.range 256).any fun n => s.rbit .lkFn l n 63 && s.rfld .lkFn l n 60 50 == p)
    || ((List.range 12).any fun k => (s.cyLockState k == 1 || s.cyLockState k == 2) && s.cyOwner k == p)

/-- A PT_CTL command has ended with a RESULT (R558). -/
def State.ptResult (s : State) (cmd result r : Nat) : State :=
  s.rset .ptCtlstat 0 0 (BitVec.ofNat 64 (cmd * 2 ^ 60 + result * 2 ^ 56 + r))

/-- The state, sealed and ID of a resident entry set (R556). -/
def State.setRes (s : State) (r st sealed pid : Nat) : State :=
  s.rset .ptRes r 0 (BitVec.ofNat 64 (st * 2 ^ 62 + sealed * 2 ^ 61 + pid))

/-- A write of PT_CTL (R523, R524, R557). -/
def State.ptControl (s : State) (v : Word) : State :=
  let cmd := fld v 63 60
  let r := fld v 56 48
  let sealed := fld v 11 11
  let st := s.resState r
  let old := s.rfld .ptRes r 0 61 61
  let pid := s.partId r
  let done := fun (s : State) => s.ptResult cmd 1 r
  match cmd with
  | 1 =>
    if st ≠ 0 then s.ptResult cmd 2 r
    else if fld v 10 0 = 0 ∨ (s.resOf (fld v 10 0)).isSome then s.ptResult cmd 3 r
    else done (s.setRes r 1 sealed (fld v 10 0))
  | 2 => if st = 1 then done (s.setRes r 2 old pid) else s.ptResult cmd 2 r
  | 3 => if st = 2 then done (s.setRes r 1 old pid) else s.ptResult cmd 2 r
  | 4 =>
    if st ≠ 2 then s.ptResult cmd 2 r
    else if s.partHeld r pid then s.ptResult cmd 4 r
    else if s.rfld .ptInfl r 0 31 0 ≠ 0 then s.ptResult cmd 5 r
    else done (s.setRes r 0 0 0)
  | 5 => if st = 1 ∨ st = 2 then done (s.setRes r st sealed pid) else s.ptResult cmd 2 r
  | _ => s

/-- A write of PT_CORE_n sets NEXT, and CUR too where the core is not running (R526). -/
def State.ptCoreWrite (s : State) (n : Nat) (v : Word) : State :=
  let next := fld v 8 0
  let free := match s.roleOf n with
    | none => true
    | some c => decide (4 ≤ s.lstate (s.logicalOf (foldOf n) c))
  let s := s.rput .ptCore n 0 8 0 next
  if free then s.rput .ptCore n 0 24 16 next else s

/-! ### Invalidation (R533) -/

/-- The requests that SUBMIT has accepted and that have not completed. -/
def State.liveRequests (s : State) : List Request :=
  s.troughs.flatMap (fun x => x.2) ++ s.rfield ++ s.far.map (fun x => x.req) ++ s.chans.sents.map (fun x => x.2.req)
    ++ s.cz.flatMap (fun x => x.2.jobs.map fun y => y.2.req) ++ s.cy.flatMap (fun x => x.2.jobs.map fun y => y.2.req)

/-- Those of a partition, by ticket. -/
def State.liveTickets (s : State) (p : Nat) : List Nat := (s.liveRequests.filter fun q => q.part == p).map fun q => q.ticket

/-- Whether a hurdle translation is one an invalidation names (R533, R561). -/
def huNames (v : Word) (e : HurdleE) : Bool :=
  decide (e.part = fld v 58 48) && (flag v 63 || decide (fld v 47 12 * 4096 / 2 ^ (12 + 9 * e.lvl) = e.prn))

/-- A write of HU_INV: translations are removed, ATS invalidations sent, and BUSY set (R533). -/
def State.huInvalidate (s : State) (v : Word) : State :=
  if s.rbit .huInvstat 0 0 63 then s.rput .huInvstat 0 0 62 62 1
  else
    let p := fld v 58 48
    let s := { s with hurdles := s.hurdles.filter fun e => !huNames v e
                      cores := s.cores.map fun (x : Nat × Core) => (x.1, { x.2 with hcache := x.2.hcache.filter fun e => !huNames v e }) }
    let fns := (List.range 128).flatMap fun l => ((List.range 256).filter fun n =>
      s.rbit .lkFn l n 63 && s.rbit .lkFn l n 62 && s.rfld .lkFn l n 60 50 == p).map fun n => (l, n)
    let s := s.modPorts fun x => { x with ats := fns }
    { s.rset .huInvstat 0 0 (BitVec.ofNat 64 (2 ^ 63)) with huWait := s.liveTickets p }

/-- HU_INVDONE: the ATS invalidations that have not timed out complete, and BUSY clears (R533). -/
def execHuInvdone (s : State) : Out :=
  if s.rbit .huInvstat 0 0 63 && s.huWait.all fun t => !s.liveRequests.any fun q => q.ticket == t then
    .next ((({ s with huWait := [] }.modPorts fun x => { x with ats := [] }).rput .huInvstat 0 0 63 63 0).raise 60)
  else .next s

/-! ### Commits (R537, R548) -/

/-- The commit of the troughs; none where the check fails (R537). -/
def State.trCommit (s : State) : Option State :=
  let ds := (List.range 8192).filter fun t => s.rbit .ptTroughD t 0 63
  let d := fun (t : Nat) => s.rget .ptTroughD t
  let key := fun (v : Word) => (fld v 40 32, fld v 62 60, fld v 59 56, fld v 55 48)
  let ok := ds.all fun t => s.resState (fld (d t) 40 32) != 0 && (fld (d t) 62 60 < 3 || fld (d t) 59 56 == 0)
  let distinct := (ds.map fun t => key (d t)).Nodup
  let sum := ds.foldl (fun n t => n + fld (d t) 12 0) 0
  let keeps := (List.range 8192).all fun t =>
    if s.rbit .ptTrough t 0 63 then
      if s.rbit .ptTroughD t 0 63 then key (s.rget .ptTrough t) == key (d t) else (tget [] s.troughs t).isEmpty
    else true
  if ok && decide distinct && decide (sum ≤ 131072) && keeps then
    some ((List.range 8192).foldl (fun s t =>
      if s.rget .ptTrough t = s.rget .ptTroughD t then s else s.rset .ptTrough t 0 (s.rget .ptTroughD t)) s)
  else none

/-- PT_TRSTAT_n (R559). -/
def State.trstatView (s : State) (t : Nat) : Word := BitVec.ofNat 64 (tget [] s.troughs t).length

/-- The rate of a link in tenths of GT/s (R432). -/
def linkRate : Nat → Nat
  | 0 => 25 | 1 => 50 | 2 => 80 | 3 => 160 | 4 => 320 | 5 => 640
  | _ => 0

/-- The frequency of flock k's engines in MHz: FREQ under the thermal cap (R662, R663). -/
def State.engineMhz (s : State) (k : Nat) : Nat := min (s.rfld .pwFlock k 0 12 8) (tget 20 s.thermal (24 + k)) * 100

/-- The capacity of meter m for a period of `t` ticks (R538). -/
def State.meterCap (s : State) (m t : Nat) : Nat :=
  if m < 4 then
    let chans := rangeFrom (5 * m) 5
    if chans.all fun c => s.chState c = 0 then 0
    else
      let full := (4000 + 400 * s.rfld .mcCfg 0 0 55 52) * t / 40
      if chans.all fun c => s.chState c = 1 then full else full / 2
  else if m < 132 then
    let p := m - 4
    if s.linkState p = 2 then s.rfld .lkStat p 0 57 53 * linkRate (s.rfld .lkStat p 0 60 58) * t / 16 else 0
  else if m < 164 then (if s.rfld .chDrovstat (m - 132) 0 63 61 = 0 then 64 * t else 0)
  else if m < 176 then (if s.cyState (m - 164) = 0 then s.engineMhz (m - 164) * t / 25 else 0)
  else if m < 188 then (if s.czState (m - 176) = 0 then s.engineMhz (m - 176) * t / 25 else 0)
  else 0

/-- RECOVERY's part of a capacity: ⌈C / 20⌉ (R539). -/
def recoveryShare (c : Nat) : Nat := (c + 19) / 20

/-- The commit of shares and period; none where the check fails (R548). -/
def State.stCommit (s : State) : Option State :=
  let t := s.rfld .stPeriodD 0 0 14 0
  let caps := (List.range 192).map fun m => s.meterCap m t
  let ok := (List.range 192).all fun m =>
    let c := lget 0 caps m
    let sh := fun (r : Nat) => s.rfld .stShareD m r 23 0
    decide ((List.range 257).foldl (fun n r => n + sh r) 0 + recoveryShare c ≤ c)
      && ((List.range 257).all fun r => s.resState r != 0 || sh r == 0) && decide (sh 0 ≤ c)
  if ok then
    let s := s.rset .stPeriod 0 0 (BitVec.ofNat 64 t)
    let s := (List.range 192).foldl (fun s m => s.rput .stCap m 0 47 24 (lget 0 caps m)) s
    some ((List.range 192).foldl (fun s m => (List.range 257).foldl (fun s r =>
      if s.rget .stShare m r = s.rget .stShareD m r then s else s.rset .stShare m r (s.rget .stShareD m r)) s) s)
  else none

/-! ### Meters (R538 to R547) -/

/-- RECOVERY and UNASSIGNED among the owners. -/
def ownRecovery : Nat := 512
/-- UNASSIGNED. -/
def ownNone : Nat := 513

/-- The owners of a meter's opportunities and their counts for a capacity, RECOVERY first and UNASSIGNED last, and whether
shares are scaled (R539). -/
def State.meterCounts (s : State) (m c : Nat) : List (Nat × Nat) × Bool :=
  let shares := ((List.range 257).map fun r => (r, s.rfld .stShare m r 23 0)).filter fun x => x.2 != 0
  let sum := shares.foldl (fun n x => n + x.2) 0
  let rec_ := recoveryShare c
  let scaled := decide (c < sum + rec_)
  let ns := if scaled then shares.map fun x => (x.1, x.2 * (c - rec_) / sum) else shares
  let used := ns.foldl (fun n x => n + x.2) 0
  ((ownRecovery, rec_) :: ns ++ [(ownNone, c - rec_ - used)], scaled)

/-- A meter enters a new period (R538, R539, R541). -/
def State.meterBoundary (s : State) (m : Nat) : State :=
  let x := tget Meter.reset s.meters m
  let s := (List.range 257).foldl (fun s r =>
    let v := BitVec.ofNat 64 (tget 0 x.borrow r % 2 ^ 24 * 2 ^ 24 + tget 0 x.used r % 2 ^ 24)
    if s.rget .stUse m r = v then s else s.rset .stUse m r v) s
  let c := s.meterCap m (s.rfld .stPeriod 0 0 14 0)
  let (ns, scaled) := s.meterCounts m c
  let s := s.rset .stCap m 0 (setFld (setFlag (s.rget .stCap m) 63 scaled) 23 0 c)
  let s := if scaled then (s.rput .stStat 0 0 1 1 1).raise 61 else s
  let y : Meter :=
    { pos := 0, cap := c, counts := ns, credit := ns.map fun o => (o.1, 0), passed := [], used := [], borrow := [], last := x.last }
  { s with meters := tins s.meters m y }

/-- STINT_PERIOD_BOUNDARY: every meter enters a new period, modes committed apply, and so does a FREQ written to a flock (R523,
R538, R548, R663). -/
def execStintPeriodBoundary (s : State) : Out :=
  let freqs : Tbl Nat := (List.range 12).foldl (fun t k => tput 20 t k (s.rfld .pwFlock k 0 12 8)) []
  let s := { s with power := { s.power with flockFreq := freqs } }
  let s := (List.range 192).foldl State.meterBoundary s
  let s := { s with sealedNow := (List.range 257).filter fun r => s.resState r != 0 && s.rbit .ptRes r 0 61 }
  .next (s.rmod .stStat 0 0 fun v => setFld v 63 32 (fld v 63 32 + 1))

/-- The owner of the next opportunity and the credits after it (R540). -/
def Meter.turn (x : Meter) : Nat × List (Nat × Int) :=
  let cs : List (Nat × Int) := x.credit.map fun o => (o.1, o.2 + ((x.counts.find? fun n => n.1 == o.1).map fun n => (n.2 : Int)).getD 0)
  let best : Nat × Int := match cs with
    | [] => (ownNone, 0)
    | o :: os => os.foldl (fun (b : Nat × Int) o => if b.2 < o.2 then o else b) o
  (best.1, cs.map fun o => if o.1 = best.1 then (o.1, o.2 - x.cap) else o)

/-- The opportunities of an owner in the period. -/
def Meter.count (x : Meter) (o : Nat) : Nat := ((x.counts.find? fun n => n.1 == o).map fun n => n.2).getD 0

/-- The borrower of an opportunity: the next lending entry with a share and with work, after the last served (R541). -/
def Meter.borrower (x : Meter) (lends : Nat → Bool) (waiting : List Nat) : Option Nat :=
  let fit := fun (r : Nat) => waiting.contains r && lends r && (decide (r = 0) || x.counts.any fun n => n.1 == r && decide (n.1 ≤ 256))
  match (rangeFrom (x.last + 1) (256 - x.last)).find? fit with
  | some r => some r
  | none => (List.range (x.last + 1)).find? fit

/-- STINT_OPPORTUNITY: the next opportunity of meter m serves a unit of the work that waits, of the entries listed and of
RECOVERY (512) (R541, R547). -/
def execStintOpportunity (m : Nat) (waiting : List Nat) (s : State) : Out :=
  let x := tget Meter.reset s.meters m
  if x.cap ≤ x.pos then .next s
  else
    let (o, credit) := x.turn
    let takes := decide (x.count ownRecovery ≤ tget 0 x.passed ownRecovery) && decide (x.pos % 10 = 9) && waiting.contains ownRecovery
    let lends := fun (r : Nat) => s.resState r != 0 && !s.sealedNow.contains r
    let y := { x with pos := x.pos + 1, credit := credit, passed := tins x.passed o (tget 0 x.passed o + 1) }
    let s := if takes then (s.rput .stStat 0 0 0 0 1).raise 62 else s
    let y := if takes then y
      else if o ≤ 256 ∧ waiting.contains o then { y with used := tins y.used o (tget 0 y.used o + 1) }
      else if o = ownRecovery ∧ waiting.contains o then y
      else if o ≤ 256 ∧ s.sealedNow.contains o then y
      else match x.borrower lends waiting with
        | some b => { y with borrow := tins y.borrow b (tget 0 y.borrow b + 1), last := b }
        | none => y
    .next { s with meters := tins s.meters m y }

end Sys2Proof.Machine
end

