-- ==== Sys2Proof/Machine/Scratch.lean ====
section
/-! DEFINITION. The power states of scratchpad banks and the wipe of keep banks (07, R302 to R307, R326 to R331). -/

namespace Sys2Proof.Machine

open Sys2Proof

/-- The bytes of a bank become 0 with a valid code: what an OFF bank holds after its wake, and a wipe's result. -/
def State.zeroBank (s : State) (k b : Nat) : State :=
  let lo := s.spBase k + b * 2 ^ 20
  let out := fun (pa : Nat) => decide (pa < lo) || decide (lo + 2 ^ 20 ≤ pa)
  { s with mem := s.mem.filter fun c => out c.1, spPoison := s.spPoison.filter fun w => out (w * 16) }

/-- CUR, TGT and BUSY of a bank, and whether a wipe runs. -/
def State.bankCur (s : State) (k b : Nat) : Nat := s.rfld .sxBankstat k 0 (2 * b + 1) (2 * b)
/-- The target of a bank. -/
def State.bankTgt (s : State) (k b : Nat) : Nat := s.rfld .sxBankctl k 0 (2 * b + 1) (2 * b)
/-- Whether a bank is changing state. -/
def State.bankBusy (s : State) (k b : Nat) : Bool := s.rbit .sxBankstat k 0 (32 + b)
/-- Whether a keep-bank wipe runs. -/
def State.wiping (s : State) (k : Nat) : Bool := s.rbit .sxBankstat k 0 48

/-- A bank enters a state; SX_DONE where it is its target (R302, R304). -/
def State.bankEnter (s : State) (k b v : Nat) : State :=
  let s := if v = 2 ∨ s.bankCur k b = 2 then s.zeroBank k b else s
  let s := (s.rput .sxBankstat k 0 (2 * b + 1) (2 * b) v).rput .sxBankstat k 0 (32 + b) (32 + b) 0
  if s.bankTgt k b = v then s.raise (1504 + 2 * k) else s

/-- A bank whose state is not its target begins to change, unless a change or a wipe of it is under way; RETENTION to
OFF is immediate (R302, R304, R307). -/
def State.bankStart (s : State) (k b : Nat) : State :=
  let t := s.bankTgt k b
  if s.bankBusy k b || decide (s.bankCur k b = t) || (decide (b = 15) && s.wiping k) then s
  else if s.bankCur k b = 1 ∧ t = 2 then s.bankEnter k b 2
  else { s.rput .sxBankstat k 0 (32 + b) (32 + b) 1 with bankTo := tins s.bankTo (16 * k + b) t }

/-- New targets (R302, R304). -/
def State.bankTargets (s : State) (k : Nat) : State := (List.range 16).foldl (fun s b => s.bankStart k b) s

/-- BANK_STATE_CHANGE_COMPLETE (R302, R304). -/
def execBankStateChangeComplete (k b : Nat) (s : State) : Out :=
  if s.bankBusy k b ∧ b < 16 ∧ k < 12 then
    .next (({ s.bankEnter k b (tget 2 s.bankTo (16 * k + b)) with bankTo := tdel s.bankTo (16 * k + b) }).bankStart k b)
  else .next s

/-- The end of a wipe of flock k's keep bank (R306). -/
def State.wipeDone (s : State) (k : Nat) : State :=
  (((s.zeroBank k 15).rput .sxBankstat k 0 48 48 0).raise (1504 + 2 * k)).bankStart k 15

/-- A wipe of flock k's keep bank: merged with a running one; an OFF bank counts as wiped at once (R306, R307). -/
def State.wipeKeep (s : State) (k : Nat) : State :=
  if s.wiping k then s
  else if s.bankCur k 15 = 2 && !s.bankBusy k 15 then s.wipeDone k
  else s.rput .sxBankstat k 0 48 48 1

/-- The wipe of every keep bank (R306). -/
def State.wipeKeeps (s : State) : State := (List.range 12).foldl State.wipeKeep s

/-- KEEP_WIPE_COMPLETE (R306). -/
def execKeepWipeComplete (k : Nat) (s : State) : Out :=
  .next (if s.wiping k && !s.bankBusy k 15 then s.wipeDone k else s)

end Sys2Proof.Machine
end

