-- ==== Sys2Proof/Machine/Record.lean ====
section
/-! DEFINITION. The boot record: images, entries, the chain, seals and addenda, and the pieces that wait for the BMC (14, R598 to R614). -/

namespace Sys2Proof.Machine

open Sys2Proof

/-! ### The Shepherd's own state -/

/-- VERSION of a stored image (R598). -/
def imageVersion (b : List Byte) : Nat := ofBytes ((b.drop 12).take 4)
/-- SVN of a stored image. -/
def imageSvn (b : List Byte) : Nat := ofBytes ((b.drop 8).take 2)

/-- The registers that show the Shepherd's state (R628, R629). -/
def State.shepSync (s : State) : State :=
  let x := s.shep
  let s := s.rset .shLife 0 0 (BitVec.ofNat 64 (x.life * 2 ^ 61 + bnat x.ownerHash.isSome * 2 ^ 60 + bnat (x.idKeys.isSome && x.chains.isSome) * 2 ^ 59))
  let s := s.rmod .shRecstat 0 0 fun v =>
    setFld (setFld (setFld (setFlag v 63 x.sealed) 47 32 x.pieces.length) 31 16 x.addseq) 15 0 x.entries.length
  let s := s.rput .shTamper 0 0 63 32 x.trips
  s.rmod .shFwstat 0 0 fun v =>
    setFld (setFld (setFld (setFlag v 63 x.active) 47 32 x.minsvn) 31 16 (imageVersion x.bankA)) 15 0 (imageVersion x.bankB)

/-- The state with the Shepherd changed. -/
def State.modShep (s : State) (f : Shep → Shep) : State := { s with shep := f s.shep }.shepSync

/-- The running bank. -/
def Shep.bank (x : Shep) : List Byte := if x.active then x.bankB else x.bankA

/-- Ticks since power-up. -/
def State.now (s : State) : Nat := (s.rget .pwAotime).toNat

/-! ### Entries and the chain (R607 to R609) -/

/-- Words of bytes, `n` of them. -/
def bytesWords (n : Nat) (bs : List Byte) : List Word := (List.range n).map fun i => BitVec.ofNat 64 (ofBytes ((bs.drop (8 * i)).take 8))

/-- An entry of the record. -/
def recEntry (type seq version target length time addseq : Nat) (label digest : List Byte) : List Word :=
  [BitVec.ofNat 64 (type * 2 ^ 56 + seq % 65536 * 2 ^ 40 + version % 2 ^ 32), BitVec.ofNat 64 (target % 2 ^ 32 * 2 ^ 32 + length % 2 ^ 32),
   BitVec.ofNat 64 time, BitVec.ofNat 64 addseq] ++ bytesWords 4 (padTo 32 label) ++ bytesWords 6 (padTo 48 digest) ++ [0, 0]

/-- TYPE of an entry. -/
def entryType (e : List Word) : Nat := fld (lget 0 e 0) 63 56
/-- DIGEST of an entry. -/
def entryDigest (e : List Word) : List Byte := wordsBytes ((e.drop 8).take 6)

/-- The header of a boot's record (R607). -/
def recHeader (life module bootseq : Nat) (exhausted fallback late tamper : Bool) (idhash : List Byte) : List Word :=
  [BitVec.ofNat 64 (0x42524543 * 2 ^ 32 + 2 ^ 16 + life % 8 * 2 ^ 8 + module % 8), BitVec.ofNat 64 bootseq, BitVec.ofNat 64 Config.serial,
   BitVec.ofNat 64 (Config.romVersion % 65536 * 2 ^ 48 + bnat exhausted * 8 + bnat fallback * 4 + bnat late * 2 + bnat tamper)]
    ++ bytesWords 6 (padTo 48 idhash) ++ List.replicate 6 0

/-- The chain value after entries (R608). -/
def recordChain (header : List Word) (entries : List (List Word)) : List Byte :=
  entries.foldl (fun c e => sha384 (c ++ wordsBytes e)) (sha384 (wordsBytes header))

/-- The signature block of an entry (R609). -/
def Shep.signBlock (x : Shep) (e : List Word) : List Byte :=
  match x.idKeys with
  | some (k, l) => padTo 4736 ((Config.ecdsaSign k (wordsBytes e)).take 96 ++ (Config.mldsaSign l (wordsBytes e)).take 4627)
  | none => List.replicate 4736 0

/-- The bytes of the MRAM region of the record (R587). -/
def recordRegion : Nat := 1856 * 1024

/-- The record in the MRAM: the header and the boot part while unsealed, else the blobs kept (R612). -/
def Shep.copyBytes (x : Shep) : List Byte :=
  if x.sealed then x.copy.flatten else wordsBytes x.header ++ x.entries.flatMap wordsBytes

/-- The oldest addenda leave a copy that no longer fits; the boot part stays (R612). -/
def trimCopy : Nat → List (List Byte) → List (List Byte)
  | 0, c => c
  | n + 1, c =>
    if (c.foldl (fun k b => k + b.length) 0) ≤ recordRegion then c
    else match c with
      | b :: _ :: rest => trimCopy n (b :: rest)
      | _ => c

/-- A piece joins those that wait for the BMC; the first is offered at once (R613). -/
def State.queuePiece (s : State) (off : Nat) (data : List Byte) (bootseq : Nat) : State :=
  let s := if s.shep.pieces.isEmpty then { s with tense := { s.tense with offering := true } } else s
  s.modShep fun x => { x with pieces := x.pieces ++ [{ off := off, data := data, bootseq := bootseq }] }

/-- The bytes of a signed part added to the memory copy, as far as they fit (R614). -/
def State.recordMemory (s : State) (data : List Byte) : State :=
  match s.shep.recMem with
  | none => s
  | some (a, len, used) =>
    if s.rbit .shRecstat 0 0 62 then s
    else if len < used + data.length then s.rput .shRecstat 0 0 62 62 1
    else (s.cohWrite (a + used) data).modShep fun x => { x with recMem := some (a, len, used + data.length) }

/-! ### Events and addenda (R605, R610 to R612) -/

/-- SEQ and ADDSEQ the next event's entry takes: in the boot part before the seal; after it in the last addendum not yet being
signed, of at most 16 entries, or in a new one (R610). -/
def Shep.nextPlace (x : Shep) : Nat × Nat × Bool :=
  if !x.sealed then (x.entries.length, 0, false)
  else
    let sizes := x.journal.map fun g => g.length
    let open_ := decide (2 ≤ sizes.length) && decide (sizes.getLastD 0 < 16)
    let all := sizes.foldl (fun n k => n + k + 1) x.entries.length
    if open_ then (all - 1, x.addseq + sizes.length, true) else (all, x.addseq + sizes.length + 1, false)

/-- The entry of an event is journaled: in the boot part, or for an addendum; nothing where no record exists (R610). -/
def State.recordEvent (s : State) (type version target length : Nat) (label digest : List Byte) : State :=
  let x := s.shep
  if x.header.isEmpty then s
  else
    let (seq, add, open_) := x.nextPlace
    let e := recEntry type seq version target length s.now add label digest
    if !x.sealed then s.modShep fun x => { x with entries := x.entries ++ [e] }
    else if open_ then s.modShep fun x => { x with journal := x.journal.dropLast ++ [x.journal.getLastD [] ++ [e]] }
    else
      s.modShep fun x => { x with journal := x.journal ++ [[e]], formed := if x.journal.isEmpty then s.now else x.formed }

/-- The reply word of a LOAD or EXTEND: ADDSEQ and SEQ of its entry (R621). -/
def Shep.placeWord (x : Shep) : Word := BitVec.ofNat 64 (x.nextPlace.2.1 % 65536 * 2 ^ 32 + x.nextPlace.1 % 65536)

/-- The first addendum of the journal is formed, signed and appended, queued for the BMC and copied to memory (R610, R613,
R614). -/
def State.signAddendum (s : State) (late : Bool) : State :=
  let x := s.shep
  match x.journal with
  | [] => s
  | g :: rest =>
    let n := x.addseq + 1
    let all := x.entries ++ g
    let add := recEntry 0x11 all.length (bnat late) g.length 0 x.formed n [] (recordChain x.header all)
    let data := (g ++ [add]).flatMap wordsBytes ++ x.signBlock add
    let s := s.modShep fun x => { x with entries := all ++ [add], journal := rest, addseq := n, formed := s.now,
                                         copy := trimCopy x.copy.length (x.copy ++ [data]), size := x.size + data.length }
    (s.queuePiece x.size data x.bootseq).recordMemory data

/-- ADDENDUM_SIGNED (R610). -/
def execAddendumSigned (s : State) : Out :=
  if s.shep.journal.isEmpty ∨ s.shep.restart.isSome ∨ !s.shep.up then .next s
  else .next ((s.signAddendum false).raise 1)

/-- The boot part is closed: the SEAL entry, its signatures, and the first piece (R605, R613). -/
def State.sealRecord (s : State) : State :=
  let x := s.shep
  let e := recEntry 0x10 x.entries.length 0 x.entries.length 0 s.now 0 [] (recordChain x.header x.entries)
  let data := wordsBytes x.header ++ (x.entries ++ [e]).flatMap wordsBytes ++ x.signBlock e
  let s := s.modShep fun x => { x with entries := x.entries ++ [e], sealed := true, copy := [data], size := data.length, addseq := 0 }
  s.queuePiece 0 data x.bootseq

/-- AUTO_SEAL: no SEAL has arrived within 60 s of the start of core 0.0.0 (R605). -/
def execAutoSeal (s : State) : Out :=
  if s.shep.started && !s.shep.sealed && s.shep.up then .next (s.sealRecord.raise 1) else .next s

/-- A boot stops: BOOT_STOP with its reason, then SEAL (R604, R606). -/
def State.bootStop (s : State) (reason : Nat) : State :=
  ((s.recordEvent 0x12 0 reason 0 [] []).sealRecord).rput .shRecstat 0 0 61 61 1

/-! ### Images (R598 to R600) -/

/-- Whether a type of image carries a signature block (R598). -/
def imageHasBlock (type : Nat) : Bool := decide (type = 2 ∨ type = 4 ∨ type = 5 ∨ type = 6)

/-- The bytes an image's digest covers. -/
def imageBody (b : List Byte) : Nat := 0x80 + ofBytes ((b.drop 0x10).take 4)

/-- Whether an image of a type keeps to R598 and is as long as it says. -/
def imageWf (type : Nat) (b : List Byte) : Bool :=
  let w := fun (i : Nat) => ofBytes ((b.drop (8 * i)).take 8)
  decide (0x80 ≤ b.length) && decide (w 0 = 0x494D4731 * 2 ^ 32 + type * 2 ^ 24) && bits (w 1) 31 16 == 0 && bits (w 2) 63 32 == 0
    && w 3 == 0 && ((rangeFrom 8 8).all fun i => w i == 0)
    && decide (b.length = imageBody b + (if imageHasBlock type then 4736 else 0))

/-- An image checked: none where it breaks R598 or its signatures fail (R599). -/
def imageOk (type : Nat) (b : List Byte) : Bool := imageWf type b && (!imageHasBlock type || Config.imageSigned b)

/-- Its digest. -/
def imageDigest (b : List Byte) : List Byte := sha384 (b.take (imageBody b))
/-- Its LABEL. -/
def imageLabel (b : List Byte) : List Byte := (b.drop 0x20).take 32
/-- Its payload. -/
def imagePayload (b : List Byte) : List Byte := (b.take (imageBody b)).drop 0x80

/-- The image of a type that a flash directory names first (R600). -/
def flashImage (flash : List Byte) (type : Nat) : Option (List Byte) :=
  let ent := fun (i : Nat) => (flash.drop (16 * i)).take 16
  match (List.range 64).find? fun i => (lget 0 (ent i) 0).toNat == type with
  | none => none
  | some i =>
    let e := ent i
    let off := ofBytes ((e.drop 4).take 4)
    let len := ofBytes ((e.drop 8).take 4)
    if off % 4096 = 0 ∧ ofBytes ((e.drop 1).take 3) = 0 ∧ ofBytes ((e.drop 12).take 4) = 0 ∧ off + len ≤ flash.length then
      some ((flash.drop off).take len)
    else none

/-- Whether `n` bytes from an address lie in this module's main memory (R620, R623). -/
def State.ownMem (s : State) (a n : Nat) : Bool :=
  let l := a + (n - 1)
  s.mainMem a && s.mainMem l && memModule a == s.ownModule && memModule l == s.ownModule

/-- An image in memory, as long as its header says; none outside this module's main memory. -/
def State.memImage (s : State) (a type : Nat) : Option (List Byte) :=
  if !s.ownMem a 0x80 then none
  else
    let n := imageBody (s.cohBytes a 0x80) + (if imageHasBlock type then 4736 else 0)
    if s.ownMem a n then some (s.cohBytes a n) else none

end Sys2Proof.Machine
end

