-- ==== Sys2Proof/Machine/Shepherd.lean ====
section
/-! DEFINITION. The Shepherd: its mailbox, life cycle, key slots, tamper response and loads (14, R583 to R597, R619 to R625). -/

namespace Sys2Proof.Machine

open Sys2Proof

/-! ### The mailbox (R619, R620, R627) -/

/-- Whether `n` bytes from an address can hold a command or an image: in this module's main memory or, before memory is
trained, in its scratchpads (R620, log entry 14). -/
def State.mbMem (s : State) (a n : Nat) : Bool :=
  s.ownMem a n || (!s.shep.trained && (s.scratch a).isSome && (s.scratch (a + (n - 1))).isSome)

/-- The running command has ended: BUSY clears, STATUS and COUNT follow, event source 0 is raised (R620, R627). -/
def State.mbEnd (s : State) (status : Nat) : State :=
  let s := { s with shep := { s.shep with cmd := none } }
  (s.rmod .shMbstat 0 0 fun v => setFld (setFld (setFlag v 63 false) 47 32 status) 31 0 (fld v 31 0 + 1)).raise 0

/-- The reply of the command that runs: its status, and reply data from 0x88 on (R620). -/
def State.mbReply (s : State) (c : MbCmd) (status : Nat) (data : List Word) : State :=
  (s.cohWrite (c.addr + 0x80) (wordsBytes (BitVec.ofNat 64 (status * 2 ^ 48) :: data))).mbEnd status

/-- Word `i` of a command block. -/
def MbCmd.w (c : MbCmd) (i : Nat) : Word := lget 0 c.words i
/-- OP. -/
def MbCmd.op (c : MbCmd) : Nat := fld (c.w 0) 63 56

/-- Whether the mailbox has a command of an OP, and for LOAD of its TYPE (R621). -/
def MbCmd.known (c : MbCmd) : Bool :=
  [0x01, 0x02, 0x03, 0x10, 0x11, 0x12, 0x13, 0x21, 0x22, 0x30, 0x31, 0x41, 0x42, 0x43].contains c.op
    || (decide (c.op = 0x20) && [4, 5, 6, 7].contains (fld (c.w 1) 63 56))

/-- An unknown command ends with RESERVED_FIELD once the firmware serves it. -/
def State.mbUnknown (s : State) : State :=
  match s.shep.cmd with
  | some c => if s.shep.up && s.shep.restart.isNone && !c.known then s.mbReply c 0x0001 [] else s
  | none => s

/-- A write of SH_MBGO (R620). -/
def State.mbGo (s : State) (v : Word) : State :=
  if !flag v 0 then s
  else if s.rbit .shMbstat 0 0 63 then s.rput .shMbstat 0 0 62 62 1
  else
    let a := s.rfld .shMbaddr 0 0 51 8 * 256
    let s := s.rput .shMbstat 0 0 62 62 0
    if !s.mbMem a 256 then s.mbEnd 0x0105
    else
      let c : MbCmd := { addr := a, words := bytesWords 16 (s.cohBytes a 128), wiped := false }
      let s := { s with shep := { s.shep with cmd := some c } }
      (s.rmod .shMbstat 0 0 fun v => setFld (setFlag v 63 true) 55 48 c.op).mbUnknown

/-- The bits that arguments may set, word by word from 0x08 (R623: every other bit is a field shown as 0). -/
def MbCmd.fits (c : MbCmd) (masks : List Nat) : Bool :=
  (c.w 0).toNat % 2 ^ 56 == 0 && (List.range 15).all fun i => c.w (i + 1) &&& ~~~BitVec.ofNat 64 (lget 0 masks i) == 0

/-- All bits of a word. -/
def wordMask : Nat := 2 ^ 64 - 1

/-- The command of an OP, when the firmware serves it, its checks of reserved fields and of the life cycle passed (R621, R623);
`k` acts. -/
def State.mbServe (s : State) (op : Nat) (masks : List Nat) (life : List Nat) (k : State → MbCmd → State) : State :=
  match s.shep.cmd with
  | none => s
  | some c =>
    if c.op ≠ op ∨ !s.shep.up ∨ s.shep.restart.isSome ∨ s.shep.load.isSome then s
    else if !c.fits masks then s.mbReply c 0x0001 []
    else if !life.contains s.shep.life then s.mbReply c 0x0100 []
    else k s c

/-- The states in which most commands are allowed. -/
def lifeFull : List Nat := [1, 2, 3]

/-! ### Messages of RAW and VOID (R590) -/

/-- An answer on the I3C port. -/
def State.tell (s : State) (r : Reply) : State := { s with shep := { s.shep with reply := some r } }

/-- Whether the Shepherd serves a message in a life-cycle state. -/
def State.message (s : State) (life : Nat) : Bool := decide (s.shep.life = life) && s.shep.up && s.shep.restart.isNone

/-! ### Entropy (R596) -/

/-- A number from the DRBG (log entry 11). -/
def State.drbgNat (s : State) : State × Nat := (s.drawn.drbgUse, Config.freeNat s.freeCtr)

/-- SH_HEALTH.TRNG by the noise sources that fail. -/
def State.trngSync (s : State) : State :=
  let n := s.shep.noise
  s.rmod .shHealth 0 0 fun v => setFld v 63 62 (if n = 0 then 0 else if n = 3 then (if fld v 63 62 = 3 then 3 else 2) else 1)

/-- NOISE_SOURCE_FAILURE (R596). -/
def execNoiseSourceFailure (src : Nat) (s : State) : Out :=
  if s.power.held ∨ 2 ≤ src then .next s
  else .next (({ s with shep := { s.shep with noise := s.shep.noise ||| 2 ^ src } }.trngSync).strike 16 src)

/-- DRBG_RESEED: a reseed that is due takes place, or is impossible and the DRBG refuses from then on (R596). -/
def execDrbgReseed (s : State) : Out :=
  if s.drbg < 2 ^ 20 then .next s
  else if s.drbgRefuses then .next (s.rput .shHealth 0 0 63 62 3)
  else .next { s with drbg := 0 }

/-! ### The wipe of keep data (R592) -/

/-- Every key slot is emptied. -/
def State.wipeKeys (s : State) : State :=
  let s := { s with keys := (List.range 4096).map fun n =>
    let k := s.keySlot n
    (n, { k with key := 0, state := 0, gen := satAdd (2 ^ 32 - 1) k.gen 1 }) }
  (List.range 12).foldl (fun s k => if (s.cyE k).jobs.isEmpty then s else s.cyAbort k (fun _ => true) 0x104) s

/-- The wipe: KW, key slots, keep SRAM and keep banks; a KEY_WRITE or KEY_ERASE that runs is overtaken (R592, R624). -/
def State.keepWipe (s : State) : State :=
  let (s, kw) := s.drbgNat
  let cmd := s.shep.cmd.map fun c => { c with wiped := c.wiped || decide (c.op = 0x10 ∨ c.op = 0x11) }
  ({ s with shep := { s.shep with kw := kw % 2 ^ 256, keepSram := [], cmd := cmd } }).wipeKeys.wipeKeeps

/-! ### Tamper (R594, R595) -/

/-- The record of a tamper response and its event. -/
def State.tamperRecord (s : State) (sensor : Nat) : State :=
  if s.shep.life = 4 ∨ !s.shep.up then s else (s.recordEvent 0x21 0 (2 ^ sensor) 0 [] []).raise 2

/-- A tamper response (R595). -/
def State.tamper (s : State) (sensor : Nat) : State :=
  let s := s.keepWipe.modShep fun x =>
    { x with tripped := x.tripped ||| 2 ^ sensor, trips := satAdd (2 ^ 32 - 1) x.trips 1, latch := true }
  let s := s.rput .shTamper 0 0 sensor sensor 1
  if s.shep.restart.isSome then { s with shep := { s.shep with trippedDue := s.shep.trippedDue ++ [sensor] } }
  else s.tamperRecord sensor

/-- TAMPER_TRIP: a sensor that was clear trips (R594, R595). -/
def execTamperTrip (sensor : Nat) (s : State) : Out :=
  if s.power.held ∨ 4 ≤ sensor ∨ s.shep.tripped.testBit sensor then .next s else .next (s.tamper sensor)

/-- TAMPER_SENSOR_CLEAR (R595). -/
def execTamperSensorClear (sensor : Nat) (s : State) : Out :=
  if s.shep.tripped.testBit sensor ∧ sensor < 4 then
    .next { s with shep := { s.shep with tripped := s.shep.tripped ^^^ 2 ^ sensor } }
  else .next s

/-- MESH_CHECK: the lid mesh is checked, broken or whole (R594). -/
def execMeshCheck (broken : Bool) (s : State) : Out :=
  if broken then execTamperTrip 3 s else execTamperSensorClear 3 s

/-! ### Information (R590, R612, R621) -/

/-- GET_INFO, as a mailbox command or in VOID as a message. -/
def execGetInfo (via : Via) (s : State) : Out :=
  match via with
  | .mailbox => .next (s.mbServe 0x01 [] lifeFull fun s c =>
      if s.drbgRefuses then s.mbReply c 0x0109 []
      else
        let (s, n) := s.drbgNat
        let nonce := toBytes 32 (n % 2 ^ 256)
        let s := { s with shep := { s.shep with nonce := some nonce } }
        s.mbReply c 0 ([s.rget .shLife, s.rget .shBootseq, BitVec.ofNat 64 Config.serial] ++ bytesWords 4 nonce))
  | .message _ _ =>
    if s.message 4 then .next (s.tell (.words 0x01 0 [s.rget .shLife, s.rget .shBootseq, BitVec.ofNat 64 Config.serial, 0, 0, 0, 0] []))
    else .next s

/-- GET_RECORD, as a mailbox command or in VOID as a message. -/
def execGetRecord (via : Via) (s : State) : Out :=
  match via with
  | .mailbox => .next (s.mbServe 0x02 [wordMask, wordMask] lifeFull fun s c =>
      let data := s.shep.copyBytes
      let len := (c.w 2).toNat
      if len < data.length ∨ !s.ownMem (c.w 1).toNat (max len 1) then s.mbReply c 0x0105 []
      else (s.cohWrite (c.w 1).toNat data).mbReply c 0 [BitVec.ofNat 64 data.length, BitVec.ofNat 64 data.length])
  | .message words _ =>
    if s.message 4 then
      let data := s.shep.copyBytes
      let part := (data.drop (lget 0 words 0).toNat).take 1024
      .next (s.tell (.words 0x02 0 [BitVec.ofNat 64 part.length, BitVec.ofNat 64 data.length] part))
    else .next s

/-- GET_CERTS. -/
def execGetCerts (s : State) : Out :=
  .next (s.mbServe 0x03 [wordMask, wordMask] lifeFull fun s c =>
    let (a, b) := s.shep.chains.getD ([], [])
    let len := (c.w 2).toNat
    if len < a.length + b.length ∨ !s.ownMem (c.w 1).toNat (max len 1) then s.mbReply c 0x0105 []
    else (s.cohWrite (c.w 1).toNat (a ++ b)).mbReply c 0 [BitVec.ofNat 64 a.length, BitVec.ofNat 64 b.length])

/-! ### Key slots (R484, R485, R621, R622) -/

/-- Whether USE names one mode, GCM in either direction or both, that fits KTYPE (R484). -/
def keyUseOk (ktype use : Nat) : Bool :=
  match ktype with
  | 1 | 2 => [1, 2, 3, 8, 16].contains use
  | 3 | 4 => use == 4
  | 6 => use == 32
  | _ => false

/-- A slot as written (R485). -/
def KeySlot.written (k : KeySlot) (key ktype use owner fixed : Nat) : KeySlot :=
  { key := key, state := 1, ktype := ktype, use := use, owner := owner, gen := k.gen + 1, fixed := fixed, invoc := 0, hwm := 0 }

/-- A slot erased, and the jobs that latched it aborted (R485, R488). -/
def State.eraseSlot (s : State) (n : Nat) : State :=
  let k := s.keySlot n
  (s.setKey n { k with key := 0, state := 0, gen := satAdd (2 ^ 32 - 1) k.gen 1 }).cyRevoke n

/-- The slots erased with slot `n`: both of an XTS-AES-256 pair (R484). -/
def State.slotsWith (s : State) (n : Nat) : List Nat :=
  let t := (s.keySlot n).ktype
  if (s.keySlot n).state = 0 then [n]
  else if t = 4 ∧ n % 2 = 0 then [n, n + 1] else if t = 5 ∧ n % 2 = 1 then [n - 1, n] else [n]

/-- The key material of KEY_WRITE, or the status it ends with (R622). -/
def State.keyMaterial (s : State) (src wslot addr n : Nat) : State × Except Nat (List Byte) :=
  match src with
  | 0 => if !s.ownMem addr n then (s, .error 0x0105) else ((s.cohWrite addr (List.replicate n 0)), .ok (s.cohBytes addr n))
  | 1 =>
    if s.drbgRefuses then (s, .error 0x0109)
    else
      let (s, v) := s.drbgNat
      (s, .ok (toBytes n v))
  | _ =>
    let w := s.keySlot wslot
    if !(w.state == 1 && w.owner == 0 && w.ktype == 2 && w.use.testBit 1) then (s, .error 0x0107)
    else if !s.ownMem addr (n + 28) then (s, .error 0x0105)
    else
      let blob := s.cohBytes addr (n + 28)
      let iv := blob.take 12
      let ct := (blob.drop 12).take n
      let ks := roundKeys (toBytes 32 w.key)
      (s, if gcmTag ks iv [] ct = blob.drop (12 + n) then .ok (gcmData ks iv ct) else .error 0x010A)

/-- KEY_WRITE (R484, R485, R595, R622, R624). -/
def execKeyWrite (s : State) : Out :=
  .next (s.mbServe 0x10 [wordMask, 0xC000000000000FFF, wordMask] [2] fun s c =>
    let slot := fld (c.w 1) 63 52
    let ktype := fld (c.w 1) 51 49
    let use := fld (c.w 1) 48 43
    let src := fld (c.w 2) 63 62
    let pair := decide (ktype = 4)
    let slots := if pair then [slot, slot + 1] else [slot]
    if src = 3 ∨ ktype = 0 ∨ ktype = 7 then s.mbReply c 0x0001 []
    else if c.wiped ∨ s.shep.tripped ≠ 0 then s.mbReply c 0x010C []
    else if !keyUseOk ktype use ∨ (pair ∧ slot % 2 = 1) then s.mbReply c 0x0107 []
    else if slots.any fun n => (s.keySlot n).gen == 2 ^ 32 - 1 then s.mbReply c 0x0108 []
    else
      let (s, m) := s.keyMaterial src (fld (c.w 2) 11 0) (c.w 3).toNat (if pair then 64 else 32)
      match m with
      | .error e => s.mbReply c e []
      | .ok bs =>
        let owner := fld (c.w 1) 42 32
        let fixed := fld (c.w 1) 31 0
        let same := if pair then decide (bs.take 32 = bs.drop 32) else decide (ktype = 3) && decide (bs.take 16 = bs.drop 16)
        if same then s.mbReply c 0x0107 []
        else
          let s := s.setKey slot ((s.keySlot slot).written (ofBytes (bs.take 32)) ktype use owner fixed)
          let s := if pair then s.setKey (slot + 1) ((s.keySlot (slot + 1)).written (ofBytes (bs.drop 32)) 5 use owner fixed) else s
          s.mbReply c 0 [BitVec.ofNat 64 (s.keySlot slot).gen])

/-- KEY_ERASE (R485, R488, R624). -/
def execKeyErase (s : State) : Out :=
  .next (s.mbServe 0x11 [0xFFF0000000000000] [2] fun s c =>
    let slot := fld (c.w 1) 63 52
    if c.wiped then s.mbReply c 0x010C []
    else
      let s := (s.slotsWith slot).foldl State.eraseSlot s
      s.mbReply c 0 [BitVec.ofNat 64 (s.keySlot slot).gen])

/-- KEY_DESCRIBE. -/
def execKeyDescribe (s : State) : Out :=
  .next (s.mbServe 0x12 [0xFFF0000000000000] lifeFull fun s c =>
    let k := s.keySlot (fld (c.w 1) 63 52)
    s.mbReply c 0 [BitVec.ofNat 64 (k.state * 2 ^ 62 + k.ktype * 2 ^ 59 + k.use * 2 ^ 53 + k.owner * 2 ^ 42 + k.gen),
      BitVec.ofNat 64 k.fixed, BitVec.ofNat 64 k.invoc])

/-- KEY_ERASE_OWNER. -/
def execKeyEraseOwner (s : State) : Out :=
  .next (s.mbServe 0x13 [0x7FF] [2] fun s c =>
    let mine := (s.keys.filter fun x => x.2.state != 0 && x.2.owner == fld (c.w 1) 10 0).map fun x => x.1
    (mine.foldl State.eraseSlot s).mbReply c 0 [BitVec.ofNat 64 mine.length])

/-! ### Loads (R600, R603 to R605, R612, R621) -/

/-- The image a LOAD names: of the flash, or of memory (R600, R621). -/
def State.loadImage (s : State) (type src : Nat) (flash : Option (List Byte)) : Except Nat (List Byte) :=
  if src = 0 then
    match flash with
    | none => .error 0x010F
    | some f =>
      match flashImage f type with
      | none => .error 0x010F
      | some b => if imageOk type b then .ok b else .error 0x0102
  else if !s.mbMem src 0x80 then .error 0x0105
  else
    let n := imageBody (s.cohBytes src 0x80) + (if imageHasBlock type then 4736 else 0)
    if !s.mbMem src n then .error 0x0105
    else
      let b := s.cohBytes src n
      if imageOk type b then .ok b else .error 0x0102

/-- Drover `d` may take firmware (R385, R621). -/
def State.droverFree (s : State) (d : Nat) : Bool :=
  let v := s.rget .chDrovstat d
  let groups := ((List.range 1024).filter fun g => s.rfld .chPengrp g 0 4 0 == d).length
  decide (fld v 63 61 = 3) || (decide (fld v 63 61 = 0) && s.rbit .chDrovctl d 0 0 && decide (groups = 0))

/-- Whether the targets of a LOAD may take it (R621). -/
def State.loadFree (s : State) (type mask dst size : Nat) : Bool :=
  match type with
  | 4 => !s.shep.trained
  | 5 => (List.range 32).all fun d => !mask.testBit d || s.droverFree d
  | 6 => (List.range 12).all fun k => !mask.testBit k || s.czState k == 3 || s.czState k == 2
  | _ => decide (dst % 4096 = 0) && s.ownMem dst size

/-- A LOAD of a type (R621): its image checked, its entry journaled, its drovers or engines LOADING. -/
def State.load (s : State) (type : Nat) (flash : Option (List Byte)) : State :=
  match s.shep.cmd with
  | none => s
  | some c =>
    if fld (c.w 1) 63 56 ≠ type then s
    else
      let tmask := match type with
        | 5 => 0xFF000000FFFFFFFF
        | 6 => 0xFF00000000000FFF
        | _ => 0xFF00000000000000
      s.mbServe 0x20 [tmask, wordMask, if type = 7 then wordMask else 0] lifeFull fun s c =>
        let mask := fld (c.w 1) 31 0
        let src := (c.w 2).toNat
        let dst := (c.w 3).toNat
        if s.shep.sealed ∧ (type = 4 ∨ type = 7 ∨ src = 0) then s.mbReply c 0x0104 []
        else if !s.shep.sealed ∧ 200 ≤ s.shep.entries.length then s.mbReply c 0x010E []
        else if type ≠ 7 ∧ !s.loadFree type mask 0 0 then s.mbReply c 0x0106 []
        else
          match s.loadImage type src flash with
          | .error e => s.mbReply c e []
          | .ok b =>
            if type = 7 ∧ !s.loadFree 7 0 dst b.length then s.mbReply c 0x0106 []
            else
              let place := s.shep.placeWord
              let target := if type = 7 then dst / 4096 else mask
              let s := s.recordEvent type (imageVersion b) target (imageBody b) (imageLabel b) (imageDigest b)
              let l : Loading := { type := type, mask := mask, version := imageVersion b % 65536, seq := fld place 15 0,
                                   addseq := fld place 47 32, lost := false }
              match type with
              | 4 => { s with shep := { s.shep with load := some l, trained := true } }
              | 5 =>
                if mask = 0 then s.mbReply c 0 [place]
                else
                  let s := (List.range 32).foldl (fun s d => if mask.testBit d then s.rput .chDrovstat d 0 63 61 1 else s) s
                  { s with shep := { s.shep with load := some l } }
              | 6 =>
                if mask = 0 then s.mbReply c 0 [place]
                else
                  let s := (List.range 12).foldl (fun s k => if mask.testBit k then s.setCzState k 4 else s) s
                  { s with shep := { s.shep with load := some l } }
              | _ => (s.cohWrite dst b).mbReply c 0 [place]

/-- LOAD of memory-training firmware (R604). -/
def execLoadMemtrain (flash : Option (List Byte)) (s : State) : Out := .next (s.load 4 flash)
/-- LOAD of drover firmware. -/
def execLoadDroverFw (flash : Option (List Byte)) (s : State) : Out := .next (s.load 5 flash)
/-- LOAD of compression microcode. -/
def execLoadCzUcode (flash : Option (List Byte)) (s : State) : Out := .next (s.load 6 flash)
/-- LOAD of the manager loader. -/
def execLoadMloader (flash : Option (List Byte)) (s : State) : Out := .next (s.load 7 flash)

/-- The reply of the LOAD under way. -/
def State.loadEnds (s : State) (l : Loading) (status : Nat) : State :=
  let s := { s with shep := { s.shep with load := none } }
  match s.shep.cmd with
  | some c => s.mbReply c status (if status = 0 then [BitVec.ofNat 64 (l.addseq * 2 ^ 32 + l.seq)] else [])
  | none => s

/-- FIRMWARE_LOAD_COMPLETE: the image of drover or engine `u` of the LOAD under way runs, or the unit was declared lame
meanwhile (R621, R624). -/
def execFirmwareLoadComplete (u : Nat) (s : State) : Out :=
  match s.shep.load with
  | none => .next s
  | some l =>
    if !(l.type = 5 ∨ l.type = 6) ∨ !l.mask.testBit u ∨ s.shep.restart.isSome then .next s
    else
      let loading := if l.type = 5 then s.rfld .chDrovstat u 0 63 61 == 1 else s.czState u == 4
      let s :=
        if !loading then s
        else if l.type = 5 then (s.rmod .chDrovstat u 0 fun v => setFld (setFld v 63 61 0) 47 32 l.version).raise 50
        else ((s.setCzState u (if s.rbit .czCtl u 0 0 then 2 else 0)).rput .czStat u 0 15 0 l.version).raise (1459 + 4 * u)
      let l := { l with mask := l.mask ^^^ 2 ^ u, lost := l.lost || !loading }
      if l.mask = 0 then .next (s.loadEnds l (if l.lost then 0x0106 else 0))
      else .next { s with shep := { s.shep with load := some l } }

/-- The link ports are released, and the pasture begins to form (R424, R601, R672). -/
def State.releaseLinks (s : State) : State :=
  if s.rbit .tnStat 0 0 61 ∨ s.rfld .lkPstat 0 0 57 54 ≤ 1 then s else s.rput .lkPstat 0 0 63 61 1

/-- MEMTRAIN_COMPLETE (R309, R333, R604). -/
def execMemtrainComplete (o : TrainOutcome) (s : State) : Out :=
  match s.shep.load with
  | none => .next s
  | some l =>
    if l.type ≠ 4 ∨ s.shep.restart.isSome then .next s
    else
      let stop := fun (reason : Nat) =>
        let s := ((s.bootStop reason).raise 1).halt 0 4
        s.loadEnds l 0x010D
      match o with
      | .ok groups speed chcap dpc =>
        if 2 < groups ∨ 6 < speed ∨ chcap = 0 ∨ 32 < chcap then .next s
        else
          let n := 2 ^ groups
          let top := min (4 * n * chcap * 32) 0x3FFF
          let s := s.rset .mcCfg 0 0 (BitVec.ofNat 64 (2 ^ 63 + groups * 2 ^ 56 + speed * 2 ^ 52 + bnat dpc * 2 ^ 51 + chcap * 2 ^ 40 + top))
          let s := (List.range (5 * n)).foldl (fun s ch => s.setChState ch 1) s
          .next (s.releaseLinks.loadEnds l 0)
      | .population => .next (stop 1)
      | .failed => .next (stop 2)

/-- EXTEND (R605, R612, R621). -/
def execExtend (s : State) : Out :=
  .next (s.mbServe 0x21 (List.replicate 10 wordMask) lifeFull fun s c =>
    if !s.shep.sealed ∧ 200 ≤ s.shep.entries.length then s.mbReply c 0x010E []
    else
      let place := s.shep.placeWord
      (s.recordEvent 0x08 0 0 0 (wordsBytes ((c.words.drop 1).take 4)) (wordsBytes ((c.words.drop 5).take 6))).mbReply c 0 [place])

/-- SEAL (R605, R614, R621). -/
def execSeal (s : State) : Out :=
  .next (s.mbServe 0x22 [wordMask - 255, wordMask] lifeFull fun s c =>
    let a := (c.w 1).toNat
    let len := (c.w 2).toNat
    if s.shep.sealed then s.mbReply c 0x0104 []
    else if len < 128 * (s.shep.entries.length + 2) + 4736 ∨ !s.ownMem a len then s.mbReply c 0x0105 []
    else
      let s := { s with shep := { s.shep with recMem := some (a, len, 0) } }.sealRecord
      let s := (s.recordMemory s.shep.copy.flatten).raise 1
      s.mbReply c 0 [BitVec.ofNat 64 s.shep.entries.length])

/-! ### Firmware updates and restarts (R588, R625) -/

/-- SHEP_UPDATE as far as the restart (R625). -/
def execShepUpdate (s : State) : Out :=
  .next (s.mbServe 0x30 [wordMask] [1, 2] fun s c =>
    match s.memImage (c.w 1).toNat 2 with
    | none => s.mbReply c 0x0105 []
    | some b =>
      if !imageOk 2 b ∨ 768 * 1024 < b.length then s.mbReply c 0x0102 []
      else if imageSvn b < s.shep.minsvn then s.mbReply c 0x0103 []
      else
        let to_ := bnat (!s.shep.active)
        let l : Loading := { type := 2, mask := 0, version := imageVersion b % 65536, seq := fld s.shep.placeWord 15 0, addseq := 0, lost := false }
        let s := s.recordEvent 0x02 (imageVersion b) to_ (imageBody b) (imageLabel b) (imageDigest b)
        s.modShep fun x =>
          { x with bankA := if x.active then b else x.bankA, bankB := if x.active then x.bankB else b, active := !x.active,
                   restart := some .update, load := some l })

/-- SHEP_COMMIT (R625). -/
def execShepCommit (s : State) : Out :=
  .next (s.mbServe 0x31 [] [1, 2] fun s c =>
    let s := s.modShep fun x => { x with minsvn := max x.minsvn (imageSvn x.bank) }
    s.mbReply c 0 [BitVec.ofNat 64 (s.shep.minsvn % 65536)])

/-- SHEPHERD_LOCKSTEP_MISMATCH: the cores restart, with one strike; a piece in transfer ends early (R588, R673). -/
def execShepherdLockstepMismatch (s : State) : Out :=
  if s.power.held ∨ !s.shep.up then .next s
  else
    let s := { s with shep := { s.shep with restart := some (s.shep.restart.getD .mismatch) }, tense := { s.tense with transfer := none, offering := false } }
    let s := s.rmod .shHealth 0 0 fun v => setFld (setFlag v 61 true) 31 0 (fld v 31 0 + 1)
    .next (s.strike 15 0)

/-- SHEPHERD_RESTART_COMPLETE: the firmware of the active bank runs, or after three failed self-tests that of the other
bank (R588, R601, R625). -/
def execShepherdRestartComplete (ok : Bool) (s : State) : Out :=
  match s.shep.restart with
  | none => .next s
  | some r =>
    let back := !ok
    if back && !imageOk 2 (if s.shep.active then s.shep.bankA else s.shep.bankB) then .next s else
    let failed := bnat s.shep.active
    let s := s.modShep fun x => { x with restart := none, active := if back then !x.active else x.active }
    let s := s.rput .shFwstat 0 0 62 62 (bnat back)
    let s := if r = .update then s.rmod .shHealth 0 0 fun v => setFld v 31 0 (fld v 31 0 + 1) else s
    let s := if back then s.recordEvent 0x22 0 failed 0 [] [] else s
    let due := s.shep.trippedDue
    let s := due.foldl State.tamperRecord { s with shep := { s.shep with trippedDue := [] } }
    match s.shep.cmd, s.shep.load with
    | some c, some l =>
      if l.type = 2 then
        let s := { s with shep := { s.shep with load := none } }
        .next (if back then s.mbReply c 0x0102 [] else s.mbReply c 0 [BitVec.ofNat 64 l.seq])
      else .next s
    | some c, none => .next (if r = .mismatch then (if c.known then s.mbReply c (if c.wiped then 0x010C else 0x010B) [] else s.mbUnknown) else s.mbUnknown)
    | none, _ => .next s

/-! ### Life cycle (R589 to R593) -/

/-- A life-cycle transition: the wipe, the new state, and a LIFE entry where a record exists (R592). -/
def State.transition (s : State) (to_ : Nat) (digest : List Byte) : State :=
  let old := s.shep.life
  ((s.keepWipe.modShep fun x => { x with life := to_ }).recordEvent 0x20 0 (old * 16 + to_) 0 [] digest).raise 3

/-- The message an owner signs (R593). -/
def State.ownerMessage (s : State) (op : Nat) : List Byte :=
  toBytes 8 op ++ toBytes 8 (Config.serial % 2 ^ 64) ++ toBytes 8 s.shep.bootseq ++ s.shep.nonce.getD [] ++ List.replicate 8 0

/-- Whether the owner's signature of a command stands: the key supplied at ADDR, the nonce of the latest GET_INFO (R593). -/
def State.ownerSigned (s : State) (c : MbCmd) : Bool :=
  let key := s.cohBytes (c.w 1).toNat 97
  s.shep.nonce.isSome && s.shep.ownerHash == some (sha384 key)
    && Config.ecdsaVerify key (wordsBytes ((c.words.drop 2).take 12)) (s.ownerMessage c.op)

/-- OWN (R591). -/
def execOwn (s : State) : Out :=
  .next (s.mbServe 0x41 [wordMask] [1] fun s c =>
    if !s.ownMem (c.w 1).toNat 97 then s.mbReply c 0x0105 []
    else
      let h := sha384 (s.cohBytes (c.w 1).toNat 97)
      ((s.modShep fun x => { x with ownerHash := some h }).transition 2 h).mbReply c 0 [])

/-- RETURN (R591, R593). -/
def execReturn (s : State) : Out :=
  .next (s.mbServe 0x42 (List.replicate 13 wordMask) [2] fun s c =>
    if !s.ownMem (c.w 1).toNat 97 then s.mbReply c 0x0105 []
    else if !s.ownerSigned c then s.mbReply c 0x0101 []
    else ((s.modShep fun x => { x with ownerHash := none, nonce := none }).transition 3 []).mbReply c 0 [])

/-- The journal is signed, addendum by addendum. -/
def State.signAll (s : State) (late : Bool) : State :=
  s.shep.journal.foldl (fun s _ => s.signAddendum late) s

/-- The transition to VOID: its addendum is signed before the identity store is destroyed (R591, R592). -/
def State.toVoid (s : State) : State :=
  let s := { s with shep := { s.shep with nonce := none } }.transition 4 []
  let s := if s.shep.journal.isEmpty then s else (s.signAll false).raise 1
  s.modShep fun x => { x with idKeys := none, chains := none }

/-- VOID, as a mailbox command or in RAW as a factory message (R590, R591, R593). -/
def execVoid (via : Via) (s : State) : Out :=
  match via with
  | .mailbox =>
    let masks := if s.shep.life = 2 then List.replicate 13 wordMask else []
    .next (s.mbServe 0x43 masks lifeFull fun s c =>
      if s.shep.life = 2 ∧ !s.ownMem (c.w 1).toNat 97 then s.mbReply c 0x0105 []
      else if s.shep.life = 2 ∧ !s.ownerSigned c then s.mbReply c 0x0101 []
      else s.toVoid.mbReply c 0 [])
  | .message words sig =>
    if !s.message 0 then .next s
    else if !Config.factorySigned (words.map BitVec.toNat) [] sig then .next (s.tell (.words 0x43 0x0101 [] []))
    else .next (s.toVoid.tell (.words 0x43 0 [] []))

/-- PROVISION, a factory message of RAW: both identity key pairs (R591, R597). -/
def execProvision (sig : List Byte) (s : State) : Out :=
  if !s.message 0 then .next s
  else if !Config.factorySigned [] [] sig then .next (s.tell (.words 0 0x0101 [] []))
  else if s.drbgRefuses then .next (s.tell (.words 0 0x0109 [] []))
  else
    let (s, k) := s.drbgNat
    let (s, l) := s.drbgNat
    let s := s.modShep fun x => { x with idKeys := some (k, l), chains := none, trips := 0 }
    .next (s.tell (.words 0 0 [] (Config.ecdsaPublic k ++ Config.mldsaPublic l)))

/-- CERTIFY, a factory message of RAW: the two certificate chains, and the transition to PROVISIONED (R591, R597). -/
def execCertify (sig ecdsa mldsa : List Byte) (s : State) : Out :=
  if !s.message 0 then .next s
  else if !Config.factorySigned [] (ecdsa ++ mldsa) sig then .next (s.tell (.words 0 0x0101 [] []))
  else if s.shep.idKeys.isNone then .next (s.tell (.words 0 0x0100 [] []))
  else if 16384 < ecdsa.length ∨ 16384 < mldsa.length then .next (s.tell (.words 0 0x0001 [] []))
  else .next (((s.modShep fun x => { x with chains := some (ecdsa, mldsa) }).transition 1 []).tell (.words 0 0 [] []))

/-! ### The record's pieces (R613) -/

/-- RECORD_REOFFER: a piece not accepted is offered again (R613). -/
def execRecordReoffer (s : State) : Out :=
  if s.shep.pieces.isEmpty ∨ s.power.held ∨ s.shep.restart.isSome then .next s
  else .next { s with tense := { s.tense with offering := true } }

end Sys2Proof.Machine
end

