-- ==== Sys2Proof/Machine/Power.lean ====
section
/-! DEFINITION. Rails, temperature, clocks, sleep and wake (16, R653 to R670, R685 to R688). -/

namespace Sys2Proof.Machine

open Sys2Proof

/-! ### Blocks: fold f is block f, the engines of flock k are block 24 + k (R662, R669) -/

/-- A field of a block's PW register. -/
def State.blk (s : State) (b hi lo : Nat) : Nat := if b < 24 then s.rfld .pwFold b 0 hi lo else s.rfld .pwFlock (b - 24) 0 hi lo
/-- A field of it set. -/
def State.setBlk (s : State) (b hi lo v : Nat) : State :=
  if b < 24 then s.rput .pwFold b 0 hi lo v else s.rput .pwFlock (b - 24) 0 hi lo v
/-- A block's highest frequency in 100 MHz (R662). -/
def blkMax (b : Nat) : Nat := if b < 24 then 22 else 20
/-- Its thermal cap. -/
def State.blkCap (s : State) (b : Nat) : Nat := tget (blkMax b) s.thermal b
/-- The FREQ in force: a flock's is that of the latest period boundary (R663). -/
def State.blkFreq (s : State) (b : Nat) : Nat := if b < 24 then s.blk b 12 8 else tget 20 s.power.flockFreq (b - 24)

/-- THR follows the cap and FREQ, and TH_THROTTLE each change (R669, R687). -/
def State.thrSync (s : State) (b : Nat) : State :=
  let thr := bnat (decide (s.blkCap b < s.blk b 12 8))
  if s.blk b 60 60 = thr then s else (s.setBlk b 60 60 thr).raise 10

/-- A block's cap set. -/
def State.setCap (s : State) (b v : Nat) : State := { s with thermal := tput (blkMax b) s.thermal b v }.thrSync b

/-- The sensors that cap a block (R668, R669). -/
def capSensors (b : Nat) : List Nat := if b < 24 then [b, 36 + b / 6, 40, 41, 42, 43] else [b]

/-- A sensor's reading in quarters of a degree (R688). -/
def State.temp (s : State) (n : Nat) : Int := (BitVec.ofNat 16 (s.rfld .pwTemp n 0 15 0)).toInt

/-- PLL_STEP_COMPLETE: the block's clock has reached the lower of FREQ and its cap (R662). -/
def execPllStepComplete (b : Nat) (s : State) : Out :=
  if 36 ≤ b ∨ s.blk b 63 61 ≠ 0 then .next s else .next (s.setBlk b 52 48 (min (s.blkFreq b) (s.blkCap b)))

/-! ### Temperature (R668 to R670, R686) -/

/-- A thermal trip: THERMTRIP_N is driven until MRST_N is asserted, and every fold and flock clock stops (R670). -/
def State.thermTrip (s : State) : State := { s with power := { s.power with trip := true } }

/-- TEMPERATURE_SAMPLE: the 44 readings, in quarters of a degree as two's complement (R668 to R670). -/
def execTemperatureSample (temps : List Nat) (s : State) : Out :=
  if temps.length ≠ 44 ∨ s.power.held then .next s
  else
    let s := (List.range 44).foldl (fun s n => s.rset .pwTemp n 0 (BitVec.ofNat 64 (lget 0 temps n % 65536))) s
    let any := fun (t : Int) => (List.range 44).any fun n => decide (t ≤ s.temp n)
    let warn : Int := 4 * (s.rfld .pwTherm 0 0 7 0)
    let crit := any 420
    let s := if crit && !s.rbit .pwTherm 0 0 62 then s.raise 9 else s
    let s := if any warn && !s.power.warned then s.raise 8 else s
    let warned := any warn || (s.power.warned && any (warn - 8))
    let hot : Tbl Nat := (List.range 44).foldl (fun t n => tput 0 t n (if 440 ≤ s.temp n then tget 0 s.power.hot n + 1 else 0)) []
    let s := { s with power := { s.power with warned := warned, hot := hot } }
    let s := s.rmod .pwTherm 0 0 fun v => setFlag (setFlag v 63 (any warn)) 62 crit
    let s := (List.range 36).foldl (fun s b => if (capSensors b).any fun n => decide (420 ≤ s.temp n) then s.setCap b 4 else s) s
    .next (if any 460 || hot.any fun x => decide (100 ≤ x.2) then s.thermTrip else s)

/-- THERMAL_CAP_STEP of a block: 200 MHz down while a sensor that caps it is at THROT or above, 100 MHz up while every one is
below THROT − 3 °C and the cap limits FREQ (R669). -/
def execThermalCapStep (b : Nat) (s : State) : Out :=
  if 36 ≤ b then .next s
  else
    let throt : Int := 4 * (s.rfld .pwTherm 0 0 15 8)
    let cap := s.blkCap b
    if (capSensors b).any fun n => decide (throt ≤ s.temp n) then .next (s.setCap b (max 4 (cap - 2)))
    else if ((capSensors b).all fun n => decide (s.temp n < throt - 12)) && decide (cap < s.blk b 12 8) then .next (s.setCap b (cap + 1))
    else .next s

/-! ### Sleep and wake (R663 to R667) -/

/-- A block wakes: its clock runs, and PW_WAKE where the manager asked for it (R565, R665, R667). -/
def State.wake (s : State) (b : Nat) : State :=
  let asked := s.blk b 63 61 = 3
  let s := if b < 24 then s else { s with power := { s.power with flockFreq := tput 20 s.power.flockFreq (b - 24) (s.blk b 12 8) } }
  let s := (s.setBlk b 63 61 0).setBlk b 52 48 (min (s.blkFreq b) (s.blkCap b))
  if asked then s.raise 18 else s

/-- A block falls asleep. -/
def State.sleep (s : State) (b : Nat) : State := (s.setBlk b 63 61 2).setBlk b 52 48 0

/-- A write of a block's PW register: FREQ and SLEEP; SLEEP written to 0 begins a wake (R663, R665, R667). -/
def State.pwWrite (s : State) (b : Nat) (v : Word) : State :=
  let s := ((s.setBlk b 12 8 (fld v 12 8)).setBlk b 0 0 (fld v 0 0)).thrSync b
  if fld v 0 0 = 0 ∧ s.blk b 63 61 = 2 then s.setBlk b 63 61 3 else s

/-- The logical cores of fold f. -/
def State.foldLogicals (s : State) (f : Nat) : List Nat := (List.range 4).flatMap fun j => s.logicalsOf (4 * f + j)

/-- Whether every logical core of fold f is STOPPED, SAFE or clock-gated by WFE (R665). -/
def State.foldIdle (s : State) (f : Nat) : Bool :=
  (s.foldLogicals f).all fun l => decide (4 ≤ s.lstate l) || (decide (s.lstate l = 0) && (s.coresOf l).all fun n => (s.core n).gated)

/-- Whether something wakes fold f: an event presented to one of its logical cores, a completion for a core gated by WFE, or
work that a PX_CTL command began (R665). -/
def State.foldCalled (s : State) (f : Nat) : Bool :=
  !s.foldIdle f || (s.foldLogicals f).any fun l =>
    (decide (s.lstate l = 0) && (s.anyPresented l || (s.coresOf l).any fun n => !(s.core n).arrived.isEmpty))
      || !(s.seq l).cmds.isEmpty

/-- FOLD_SLEEP_ENTRY (R665, R667): a wake cause that is there already abandons the entry. -/
def execFoldSleepEntry (f : Nat) (s : State) : Out :=
  if f < 24 ∧ s.blk f 63 61 = 0 ∧ s.blk f 0 0 = 1 ∧ !s.foldCalled f then .next (s.sleep f) else .next s

/-- FOLD_WAKE (R665). -/
def execFoldWake (f : Nat) (s : State) : Out :=
  if f < 24 ∧ (s.blk f 63 61 = 3 ∨ (s.blk f 63 61 = 2 ∧ s.foldCalled f)) then .next (s.wake f) else .next s

/-- Whether the engines of flock k have nothing to do (R666). -/
def State.flockIdle (s : State) (k : Nat) : Bool :=
  (s.cyE k).jobs.isEmpty && (s.czE k).jobs.isEmpty && !(s.cyLockState k == 2 || s.cyLockState k == 3)
    && !(s.cyState k == 1 || s.cyState k == 3) && !(s.czState k == 1 || s.czState k == 4) && !(s.czE k).testing
    && (s.engineTroughs 1 k ++ s.engineTroughs 2 k).all fun t => (tget [] s.troughs t).isEmpty

/-- FLOCK_SLEEP_ENTRY (R666). -/
def execFlockSleepEntry (k : Nat) (s : State) : Out :=
  if k < 12 ∧ s.blk (24 + k) 63 61 = 0 ∧ s.blk (24 + k) 0 0 = 1 ∧ s.flockIdle k then .next (s.sleep (24 + k)) else .next s

/-- FLOCK_WAKE (R666). -/
def execFlockWake (k : Nat) (s : State) : Out :=
  if k < 12 ∧ (s.blk (24 + k) 63 61 = 3 ∨ (s.blk (24 + k) 63 61 = 2 ∧ !s.flockIdle k)) then .next (s.wake (24 + k)) else .next s

/-! ### Output pins (R670, R681) -/

/-- FAULT_N is low. -/
def State.faultLow (s : State) : Bool :=
  decide (s.rfld .ftStat 0 0 15 0 ≠ 0) || (List.range 216).any fun l => decide (s.lstate l = 5)
/-- ALERT_N is low. -/
def State.alertLow (s : State) : Bool :=
  s.rbit .ftMclog 0 0 63 || decide (s.rfld .pwStat 0 0 63 55 ≠ 0x1FF) || s.rbit .pwTherm 0 0 63

end Sys2Proof.Machine
end

