-- ==== Sys2Proof/Machine/Tense.lean ====
section
/-! DEFINITION. The tense port: tenses, record transfer, UART, trace and time sync (16, R671 to R681, R688 to R690). -/

namespace Sys2Proof.Machine

open Sys2Proof

/-- The current tense: 0 STRAP, 1 BOOT, 2 RECORD, 3 SERVICE (R688). -/
def State.tns (s : State) : Nat := s.rfld .tnStat 0 0 63 62

/-- The tense port changed. -/
def State.modTense (s : State) (f : Tense → Tense) : State := { s with tense := f s.tense }

/-- The port takes a tense, with TN_TENSE where it is another (R674). -/
def State.setTns (s : State) (v : Nat) : State := if s.tns = v then s else (s.rput .tnStat 0 0 63 62 v).raise 24

/-- The tense the rules call for: BOOT until the seal, then RECORD while a piece is offered, SERVICE otherwise; a restart of
the Shepherd keeps it (R673). -/
def State.wantTns (s : State) : Nat :=
  if s.power.held then 0
  else if s.tns = 0 ∨ s.shep.restart.isSome then s.tns
  else if s.tns = 1 ∧ !s.shep.sealed then 1
  else if s.tense.offering && !s.shep.pieces.isEmpty then 2
  else 3

/-- TENSE_CHANGE: the change that is due, once the activity of the current tense has ended (R674). -/
def execTenseChange (s : State) : Out :=
  if s.tense.transfer.isSome then .next s else .next (s.setTns s.wantTns)

/-! ### Record transfer (R613, R676, R677) -/

/-- The bytes of a transfer: its header, the piece and their CRC-32C. -/
def Piece.bytes (p : Piece) : List Byte :=
  let body := toBytes 4 p.data.length ++ toBytes 4 p.off ++ toBytes 8 p.bootseq ++ p.data
  body ++ toBytes 4 (crc32c 0 body).toNat

/-- RECORD_PIECE_SEND: the first piece that waits is sent, once RACK reads low (R676). -/
def execRecordPieceSend (s : State) : Out :=
  match s.shep.pieces with
  | [] => .next s
  | p :: _ =>
    if s.tns ≠ 2 ∨ s.tense.transfer.isSome ∨ !s.tense.offering ∨ s.shep.restart.isSome then .next s
    else .next (s.modTense fun t => { t with transfer := some p.bytes })

/-- RECORD_PIECE_ACCEPT: the BMC accepts the piece, and the next is offered (R677). -/
def execRecordPieceAccept (s : State) : Out :=
  if s.tense.transfer.isNone then .next s
  else
    let rest := s.shep.pieces.drop 1
    .next ((s.modShep fun x => { x with pieces := rest }).modTense fun t => { t with transfer := none, offering := !rest.isEmpty })

/-- The piece in transfer stays pending, to be offered again (R613, R677). -/
def State.pieceFails (s : State) : State :=
  if s.tense.transfer.isNone then s else s.modTense fun t => { t with transfer := none, offering := false }

/-- RECORD_PAUSE_TIMEOUT: a pause longer than 1 ms ends the piece early (R676). -/
def execRecordPauseTimeout (s : State) : Out := .next s.pieceFails
/-- RECORD_ACCEPT_TIMEOUT: no acceptance within 10 ms (R677). -/
def execRecordAcceptTimeout (s : State) : Out := .next s.pieceFails

/-! ### UART (R678, R689) -/

/-- TXCOUNT and RXCOUNT follow the queues. -/
def State.uartSync (s : State) : State :=
  s.rmod .tnUart 0 0 fun v => setFld (setFld v 56 48 s.tense.uartTx.length) 40 32 s.tense.uartRx.length

/-- A byte written to TN_UARTTX joins the transmit queue, or is discarded from a full one (R678). -/
def State.uartPut (s : State) (b : Nat) : State :=
  if 256 ≤ s.tense.uartTx.length then s.rput .tnUart 0 0 63 63 1
  else (s.modTense fun t => { t with uartTx := t.uartTx ++ [BitVec.ofNat 8 b] }).uartSync

/-- UART_BYTE_SENT: the oldest byte leaves on TP19, in BOOT, RECORD and SERVICE (R671, R678). -/
def execUartByteSent (s : State) : Out :=
  if s.tns = 0 ∨ s.tense.uartTx.isEmpty then .next s
  else .next (s.modTense fun t => { t with uartTx := t.uartTx.drop 1 }).uartSync

/-- UART_RECEIVE: a byte arrives on TP20 in any tense after STRAP (R678). -/
def execUartReceive (byte : BitVec 8) (s : State) : Out :=
  if s.tns = 0 then .next s
  else if 256 ≤ s.tense.uartRx.length then .next (s.rput .tnUart 0 0 62 62 1)
  else .next (s.modTense fun t => { t with uartRx := t.uartRx ++ [byte] }).uartSync

/-- A read of TN_UARTRX: the oldest byte, which leaves the queue (R689). -/
def State.uartGet (s : State) : State × Word :=
  match s.tense.uartRx with
  | [] => (s, 0)
  | b :: rest => ((s.modTense fun t => { t with uartRx := rest }).uartSync, BitVec.ofNat 64 (2 ^ 63 + b.toNat))

/-! ### Trace and time sync (R679, R680, R690) -/

/-- TRACE_PC_SAMPLE: bits [43:4] of the address of the next bundle of CORE; skipped while its fold sleeps (R679). -/
def execTracePcSample (s : State) : Out :=
  let n := s.rfld .tnTrace 0 0 55 48
  if s.rfld .tnTrace 0 0 63 62 ≠ 2 ∨ !s.foldRuns (foldOf n) then .next s
  else .next (s.traceRecord (2 * 2 ^ 60 + s.now % 2 ^ 20 * 2 ^ 40 + bits (s.core n).arch.pc 43 4))

/-- TRACE_RECORD_SENT: the oldest trace record leaves in SERVICE; the records lost are then reported as one (R679). -/
def execTraceRecordSent (s : State) : Out :=
  if s.tns ≠ 3 ∨ s.rfld .tnTrace 0 0 63 62 = 0 then .next s
  else
    let rest := s.tense.trace.drop 1
    if s.tense.lost = 0 then .next (s.modTense fun t => { t with trace := rest })
    else .next (s.modTense fun t =>
      { t with trace := rest ++ [BitVec.ofNat 64 (3 * 2 ^ 60 + s.now % 2 ^ 20 * 2 ^ 40 + min t.lost 65535)], lost := 0 })

/-- SYNC_EDGE: a rising edge on SYNC (R680). -/
def execSyncEdge (s : State) : Out :=
  if s.power.held then .next s
  else if s.tns = 3 then .next (((s.rset .tnSynctime 0 0 (s.rget .pwAotime)).rput .tnSyncstat 0 0 63 63 1).raise 25)
  else .next (s.rmod .tnSyncstat 0 0 fun v => setFld v 31 0 (fld v 31 0 + 1))

end Sys2Proof.Machine
end

