-- ==== Sys2Proof/Machine/Boot.lean ====
section
/-! DEFINITION. Power-up and hard reset: straps, the boot, the first stage (14, R601 to R606, R611; 16, R654 to R657, R672). -/

namespace Sys2Proof.Machine

open Sys2Proof

/-- Bit by bit, what most of five samples read (R672). -/
def majority (l : List Nat) : Nat :=
  (List.range 8).foldl (fun v b => if 3 ≤ (l.filter fun x => x.testBit b).length then v + 2 ^ b else v) 0

/-- The straps as sampled: module ID, pasture size and the flags of TN_STAT (R442, R672). -/
def State.strap (s : State) (samples : List Nat) : State :=
  let v := majority samples
  let mid := v % 8
  let size := bits v 5 3 + 1
  let split := !(samples.all fun x => x % 256 == v)
  let s := s.rset .tnStat 0 0 (BitVec.ofNat 64 (bnat (decide (size ≤ mid)) * 2 ^ 61 + bnat split * 2 ^ 60 + v))
  { s.rset .lkPstat 0 0 (BitVec.ofNat 64 (mid * 2 ^ 58 + size * 2 ^ 54 + 2 ^ (46 + mid))) with ownModule := mid }

/-- Whether a Shepherd image may be started (R598, R599). -/
def Shep.accepts (x : Shep) (b : List Byte) : Bool := imageOk 2 b && decide (x.minsvn ≤ imageSvn b) && decide (b.length ≤ 768 * 1024)

/-- The bank the ROM starts, and its image: the active bank, the other where that fails, the flash's image in the inactive
bank where recovery is asked for or neither verifies (R601). -/
def Shep.startImage (x : Shep) (recov : Bool) (flash : Option (List Byte)) : Option (Bool × List Byte) :=
  let other := if x.active then x.bankA else x.bankB
  let flashed := match flash.bind fun f => flashImage f 2 with
    | some b => if x.accepts b then some (!x.active, b) else none
    | none => none
  if recov && flashed.isSome then flashed
  else if x.accepts x.bank then some (x.active, x.bank)
  else if x.accepts other then some (!x.active, other)
  else flashed

/-- The first stage: its payload in flock 0's scratchpad, its entry in the record, and core 0.0.0 started (R602). -/
def State.firstStage (s : State) (b : List Byte) : State :=
  let s := s.recordEvent 0x03 (imageVersion b) 0 (imageBody b) (imageLabel b) (imageDigest b)
  let s := [0, 1, 2, 3].foldl (fun s n =>
    ((s.zeroBank 0 n).rput .sxBankctl 0 0 (2 * n + 1) (2 * n) 0).rput .sxBankstat 0 0 (2 * n + 1) (2 * n) 0) s
  let s := setBytes s (s.spBase 0) (imagePayload b)
  let a : Arch := { Arch.reset with pc := s.spBase 0, g := tput 0 (tput 0 [] 1 (BitVec.ofNat 64 s.ownModule)) 2 (BitVec.ofNat 64 s.shep.bootseq) }
  let s := { s with snapC := tins s.snapC 0 a, shep := { s.shep with started := true } }
  (s.wake 0).startLogical 0

/-- A new record: the late addenda of the previous boot signed first, then the header; the tamper latch is cleared (R606,
R607, R611). -/
def State.newRecord (s : State) (exhausted fallback : Bool) : State :=
  let late := !s.shep.journal.isEmpty
  let s := s.signAll true
  let x := s.shep
  let id := match x.idKeys with
    | some (k, _) => sha384 (Config.ecdsaPublic k)
    | none => []
  let seq := if exhausted then x.bootseq else x.bootseq + 1
  let h := recHeader x.life s.ownModule seq exhausted fallback late x.latch id
  s.modShep fun x => { x with header := h, entries := [], copy := [], size := 0, addseq := 0, sealed := false, journal := [],
                              recMem := none, formed := 0, latch := false, bootseq := seq }

/-- The boot after the straps are known (R589, R601 to R606). -/
def State.boot (s : State) (recov lockstep : Bool) (flash : Option (List Byte)) : State :=
  let exhausted := decide (s.shep.bootseq = 2 ^ 64 - 1)
  let life := s.shep.life
  let img := if lockstep then s.shep.startImage (recov && !exhausted) (if exhausted then none else flash) else none
  let failed := bnat s.shep.active
  let fallback := match img with
    | some (b, _) => b != s.shep.active
    | none => false
  let s := if life = 4 then s.modShep fun x => { x with bootseq := if exhausted then x.bootseq else x.bootseq + 1 }
    else s.newRecord exhausted fallback
  let s := s.rset .shBootseq 0 0 (BitVec.ofNat 64 s.shep.bootseq)
  match img with
  | none => (s.setTns 3).bootStop (if lockstep then 4 else 3)
  | some (bank, b) =>
    let s := s.modShep fun x =>
      { x with active := bank, bankA := if bank then x.bankA else b, bankB := if bank then b else x.bankB, up := true }
    let s := s.rput .shFwstat 0 0 62 62 (bnat fallback)
    if life = 4 then s.setTns 3
    else
      let s := s.recordEvent 0x02 (imageVersion b) (bnat bank) (imageBody b) (imageLabel b) (imageDigest b)
      let s := if fallback then s.recordEvent 0x22 0 failed 0 [] [] else s
      if exhausted then (s.setTns 3).bootStop 5
      else if life = 0 then s.setTns 3
      else
        let s := s.setTns 1
        match flash.bind fun f => flashImage f 3 with
        | some b => if imageOk 3 b ∧ (imagePayload b).length ≤ 4 * 1024 * 1024 then s.firstStage b else s
        | none => s

/-- Whether every rail is in its range (R658). -/
def State.railsIn (s : State) : Bool := decide (s.rfld .pwStat 0 0 63 55 = 0x1FF)

/-- The ROM reads PW_STAT: it goes on with the boot, or waits until every rail is in range (R655). -/
def State.bootOrWait (s : State) (recov lockstep : Bool) (flash : Option (List Byte)) : State :=
  if s.railsIn then s.boot recov lockstep flash else { s with power := { s.power with bootWait := some (recov, lockstep, flash) } }

/-- MRST_N_RELEASE: five samples of the straps, what the flash holds, whether the lid mesh is broken and whether the ROM's
lockstep self-test passes (R491, R594, R601, R654, R655). -/
def execMrstNRelease (samples : List Nat) (flash : Option (List Byte)) (broken lockstep : Bool) (s : State) : Out :=
  if !s.power.held ∨ samples.length ≠ 5 then .next s
  else
    let tap := if [0, 3, 4, 5, 6].contains s.power.tap then 0xFF else s.power.tap
    let s := { s with power := { s.power with held := false, tap := tap }
                      keys := s.keys.map fun (x : Nat × KeySlot) => (x.1, { x.2 with invoc := x.2.hwm }) }
    let s := (s.rset .pwAotime 0 0 0).strap samples
    let s := if broken then s.tamper 3 else s
    .next (s.bootOrWait (bit (majority samples) 7) lockstep flash)

/-- RAIL_EXCURSION: rail `i` leaves its range, above or below it, or returns (R658); a boot that waited for it goes on
(R655). -/
def execRailExcursion (i : Nat) (leaves high : Bool) (s : State) : Out :=
  if 9 ≤ i then .next s
  else if !leaves then
    let s := s.rput .pwStat 0 0 (55 + i) (55 + i) 1
    match s.power.bootWait with
    | some (recov, lockstep, flash) =>
      if s.railsIn then .next ({ s with power := { s.power with bootWait := none } }.boot recov lockstep flash) else .next s
    | none => .next s
  else if !s.rbit .pwStat 0 0 (55 + i) then .next s
  else
    let s := s.rput .pwStat 0 0 (55 + i) (55 + i) 0
    .next (if s.power.held then s
      else (s.record .pwRaillog 0 0 (i * 2 ^ 58 + bnat high * 2 ^ 57 + s.now % 2 ^ 32)).raise 17)

/-- What MRST_N leaves of the Shepherd: the MRAM (R587, R656, R657). -/
def Shep.mram (x : Shep) : Shep :=
  { Shep.reset with
    life := x.life, ownerHash := x.ownerHash, idKeys := x.idKeys, chains := x.chains, latch := x.latch, trips := x.trips,
    kw := x.kw, bankA := x.bankA, bankB := x.bankB, active := x.active, minsvn := x.minsvn, bootseq := x.bootseq,
    header := x.header, entries := x.entries, copy := x.copy, size := x.size, addseq := x.addseq, sealed := x.sealed,
    journal := x.journal }

/-- Rail and temperature readings, which no reset changes (R658, R668). -/
def readings (regs : Tbl Word) : Tbl Word :=
  regs.filter fun x => decide (x.1 = 0x01000000) || decide (0x01000300 ≤ x.1 ∧ x.1 < 0x01000460)

/-- MRST_N_ASSERT: a hard reset of everything but the MRAM (R657). -/
def execMrstNAssert (s : State) : Out :=
  if s.power.held then .next s
  else .next { State.reset with
    pending := s.pending, regs := readings s.regs, shep := s.shep.mram, keys := s.keys,
    memctl := { MemCtl.reset with ppr := s.memctl.ppr }, power := { State.reset.power with tap := s.power.tap }, freeCtr := s.freeCtr }

end Sys2Proof.Machine
end

