-- ==== Sys2Proof/Machine/Faults.lean ====
section
/-! DEFINITION. Strike drains, lame clears, core self-tests, asynchronous machine checks and the test access port (15, R631 to R652). -/

namespace Sys2Proof.Machine

open Sys2Proof

/-! ### Drains and commits (R630, R631, R634) -/

/-- The counters of a class; class 7 is held in the controller (R630). -/
def classCount (c : Nat) : Nat :=
  lget 0 [216, 96, 384, 96, 28, 192, 3200, 0, 20, 256, 128, 32, 12, 12, 1, 1, 2] c

/-- The drain of one counter of the register space at one tick (R631). -/
def State.drainCounter (s : State) (c i : Nat) : State :=
  let acc := tget 0 s.strikeAcc (65536 * c + i) + s.thresh c
  if acc < s.windowTicks c then { s with strikeAcc := tput 0 s.strikeAcc (65536 * c + i) acc }
  else
    let s := { s with strikeAcc := tput 0 s.strikeAcc (65536 * c + i) (acc - s.windowTicks c) }
    s.rmod .ftCnt c i fun v =>
      let level := fld v 31 0 - 1
      setFlag (setFld v 31 0 level) 62 (flag v 62 && decide (level ≠ 0))

/-- A row's counter after a drain (R631). -/
def drainedRow (ch row : Nat) (x : RowCount) : RowCount :=
  if x.channel = ch ∧ x.row = row then { x with level := x.level - 1, warned := x.warned && decide (1 < x.level) } else x

/-- The drain of a row's counter, named by channel and row; one at 0 that is not lame is free again (R630, R631). -/
def State.drainRow (s : State) (ch row : Nat) : State :=
  let k := 2 ^ 40 + ch * 2 ^ 32 + row
  if !s.memctl.rows.any fun x => x.channel == ch && x.row == row then s
  else
    let acc := tget 0 s.strikeAcc k + s.thresh 7
    if acc < s.windowTicks 7 then { s with strikeAcc := tput 0 s.strikeAcc k acc }
    else
      let s := { s with strikeAcc := tput 0 s.strikeAcc k (acc - s.windowTicks 7) }
      s.modMc fun m => { m with rows := (m.rows.map (drainedRow ch row)).filter fun x => x.level != 0 || x.lame }

/-- STRIKE_DRAIN_TICK: one AOCLK tick of counter `i` of class `c`; in class 7, `i` is channel × 2^32 + row (R631). -/
def execStrikeDrainTick (c i : Nat) (s : State) : Out :=
  if c = 7 then .next (s.drainRow (i / 2 ^ 32) (i % 2 ^ 32))
  else if i < classCount c then .next (s.drainCounter c i)
  else .next s

/-- The commit of thresholds and windows; none where the check fails (R634). -/
def State.ftCommit (s : State) : Option State :=
  let ok := fun (c : Nat) =>
    let t := s.rget .ftThreshD c
    let w := s.rfld .ftWindowD c 0 31 0
    decide (1 ≤ fld t 31 0 ∧ fld t 31 0 ≤ fld t 63 32 ∧ fld t 63 32 ≤ w * 25000)
  if (List.range 17).all ok then
    some ((List.range 17).foldl (fun s c =>
      let t := s.rget .ftThreshD c
      let w := s.rget .ftWindowD c
      if s.rget .ftThresh c = t ∧ s.rget .ftWindow c = w then s
      else
        let mine := fun (k : Nat) => if c = 7 then decide (2 ^ 40 ≤ k) else decide (k / 65536 = c)
        { (s.rset .ftThresh c 0 t).rset .ftWindow c 0 w with strikeAcc := s.strikeAcc.filter fun x => !mine x.1 }) s)
  else none

/-! ### Clearing a lame declaration (R633) -/

/-- A component after its clear (R633). -/
def State.cleared (s : State) (c i : Nat) : State :=
  match c with
  | 2 => s.waydisWrite (i / 16) (2 ^ (i % 16)) (s.waydisSw (i / 16))
  | 3 => s.waydisWrite (24 + i / 24) (2 ^ (i % 24)) (s.waydisSw (24 + i / 24))
  | 4 => (s.clearLame 4 i).replWrite i (setFlag (s.repl i) 63 true)
  | 11 => (s.clearLame 11 i).rput .chDrovstat i 0 63 61 3
  | 12 => if s.cyState i = 4 then (s.clearLame 12 i).setCyState i 2 else s.clearLame 12 i
  | 13 => if s.czState i = 5 then (s.clearLame 13 i).setCzState i 2 else s.clearLame 13 i
  | 16 => ({ s.clearLame 16 i with shep := { s.shep with noise := if s.shep.noise.testBit i then s.shep.noise ^^^ 2 ^ i else s.shep.noise } }).trngSync
  | _ => s.clearLame c i

/-- A write of 1 to LAME of counter `i` of class `c` (R633). -/
def State.ftClear (s : State) (c i : Nat) : State :=
  let may := match c with
    | 0 => (s.roleOf i).isNone && (s.core i).tested
    | 1 | 6 | 7 | 8 | 14 | 15 => false
    | _ => true
  if !s.rbit .ftCnt c i 63 then s
  else if !may then s.rput .ftStat 0 0 62 62 1
  else (s.cleared c i).rput .ftStat 0 0 62 62 0

/-! ### The built-in self-test of a core (R643, R651) -/

/-- A performed write of FT_CTEST. -/
def State.ftCtest (s : State) (n : Nat) : State :=
  if s.rbit .ftCtstat 0 0 63 then s.rput .ftCtstat 0 0 59 59 1
  else if (s.roleOf n).isSome ∨ !s.foldRuns (foldOf n) then s.rset .ftCtstat 0 0 (BitVec.ofNat 64 (3 * 2 ^ 60 + n))
  else s.rset .ftCtstat 0 0 (BitVec.ofNat 64 (2 ^ 63 + n))

/-- CORE_SELFTEST_COMPLETE. -/
def execCoreSelftestComplete (pass : Bool) (s : State) : Out :=
  if !s.rbit .ftCtstat 0 0 63 then .next s
  else
    let n := s.rfld .ftCtstat 0 0 7 0
    let s := s.rmod .ftCtstat 0 0 fun v => setFld (setFlag v 63 false) 62 60 (if pass then 1 else 2)
    if pass then .next (s.modCore n fun c => { c with tested := true })
    else .next ((s.strike 0 n).declare 0 n)

/-! ### Asynchronous machine checks (R640) -/

/-- ASYNC_MACHINE_CHECK: the one that waits reaches the core FT_MCTARGET names, where it is RUNNING. -/
def execAsyncMachineCheck (s : State) : Out :=
  match s.asyncMc with
  | none => .next s
  | some m =>
    let l := s.logical (s.rfld .ftMctarget 0 0 7 0)
    if !s.rbit .ftMctarget 0 0 63 ∨ s.lstate l ≠ 0 then .next s
    else match s.coresOf l with
      | [] => .next s
      | n :: _ =>
        let s := ({ s with asyncMc := none }.rput .ftStat 0 0 63 63 0).modCore n fun c => { c with smchecks := c.smchecks ++ [m] }
        let v := s.rget .ftMclog
        .next (if flag v 63 && flag v 52 && fld v 51 44 == 0xFF then s.rput .ftMclog 0 0 51 44 n else s)

/-- DROVER_LOCKSTEP_MISMATCH: one strike against drover `d` (R630). -/
def execDroverLockstepMismatch (d : Nat) (s : State) : Out := .next (if d < 32 then s.strike 11 d else s)

/-! ### Test access (R646, R647) -/

/-- The register behind IDCODE (R646). -/
def idcodeWord : Nat := Config.stepping % 16 * 2 ^ 28 + 0xA192 * 2 ^ 12 + Config.manufacturer % 2 ^ 11 * 2 + 1

/-- An instruction in the instruction register; one that drives pins stands only while MRST_N is asserted, and selects the
bypass register otherwise. -/
def State.tapSelect (s : State) (code : Nat) (drives : Bool) : State :=
  { s with power := { s.power with tap := if drives && !s.power.held then 0xFF else code } }

/-- EXTEST. -/
def execExtest (s : State) : Out := .next (s.tapSelect 0x00 true)
/-- SAMPLE/PRELOAD. -/
def execSamplePreload (s : State) : Out := .next (s.tapSelect 0x01 false)
/-- IDCODE. -/
def execIdcode (s : State) : Out := .next (s.tapSelect 0x02 false)
/-- CLAMP. -/
def execClamp (s : State) : Out := .next (s.tapSelect 0x03 true)
/-- HIGHZ. -/
def execHighz (s : State) : Out := .next (s.tapSelect 0x04 true)
/-- EXTEST_PULSE. -/
def execExtestPulse (s : State) : Out := .next (s.tapSelect 0x05 true)
/-- EXTEST_TRAIN. -/
def execExtestTrain (s : State) : Out := .next (s.tapSelect 0x06 true)
/-- BYPASS. -/
def execBypass (s : State) : Out := .next (s.tapSelect 0xFF false)

end Sys2Proof.Machine
end

