-- ==== Sys2Proof/Machine/Ctl.lean ====
section
/-! DEFINITION. Accesses to the control space: what lies at an offset for an agent, what a read returns, and what a write does (00, R13 to R25, R691; the field tables of all chapters). -/

namespace Sys2Proof.Machine

open Sys2Proof

/-! ### What lies at an address -/

/-- What a control-space access finds: a register, a word of a snapshot slot (R291), an aperture (R404), or nothing. -/
inductive CtlAt
  | reg (r : Reg) (i j : Nat)
  | snap (l off : Nat) (w : SnapWord)
  | apt (a o : Nat)
  | nothing

/-- Whether a link register lies on a port that does not show it: those of the lowest port only (R432). -/
def State.lkHidden (s : State) (off : Nat) : Bool :=
  let o := off % 2 ^ 16
  let p := off / 2 ^ 16 % 2 ^ 8
  decide (off / 2 ^ 24 = 0x10) && decide (p < 128) && (decide (0x18 ≤ o ∧ o ≤ 0x60) || decide (0x1000 ≤ o ∧ o < 0x1800))
    && s.lowPort p != p

/-- What lies at an offset of the control space for an agent: window 0x02 and the ledger answer partition 0 alone (R372,
R619), a snapshot slot only while its logical core is STOPPED or SAFE (R291). -/
def State.ctlAt (s : State) (a : Agent) (off : Nat) : CtlAt :=
  let win := off / 2 ^ 24
  let o := off % 2 ^ 24
  if win = 2 ∧ a.part ≠ 0 then .nothing
  else if 0x40 ≤ win ∧ win < 0x58 ∧ 0x104000 ≤ o ∧ o < 0x108000 then
    match s.snapSlot (win - 0x40) ((o - 0x104000) / 0x800) with
    | none => .nothing
    | some l => match (s.snap l).snapWord (o % 0x800) with
      | some w => .snap l (o % 0x800) w
      | none => .nothing
  else if win = 0x10 ∧ 0x800000 ≤ o then .apt ((o - 0x800000) / 0x4000) (o % 0x4000)
  else if s.lkHidden off then .nothing
  else match regAt off with
    | some (r, i, j) => if r = .ledger ∧ a.part ≠ 0 then .nothing else .reg r i j
    | none => .nothing

/-! ### Reads -/

/-- The value behind a register: most registers stand as they are, some are views of other state. -/
def State.ctlValue (s : State) (a : Agent) (r : Reg) (i j : Nat) : Word :=
  let page := s.pageOf (9 * i + j)
  let core := s.evCore i
  match r with
  | .fcXroot1 | .fcXfstat | .fcXroot2 => s.rget r (page / 9) (page % 9)
  | .fcCtl => s.fcCtlView i
  | .tcEbstat => BitVec.ofNat 64 (s.caches.evict.filter fun o => tileOf o.src == i).length
  | .pxStat => s.pxStatView i j
  | .pxSpare => setFlag (s.rget .pxSpare i) 62 (s.lame (9 * i + 8))
  | .chDrovstat => s.drovstatView i
  | .chPathstat => s.pathstat i
  | .chPenstat => s.penstatView i
  | .ledger => s.ledgerWord i j
  | .cyLock => s.cyLockView i a.part
  | .ptTrstat => s.trstatView i
  | .evStat => setFlag (s.rget .evStat i) 62 (s.evReady i)
  | .evThresh1 | .evThresh2 | .evLast1 | .evLast2 | .evActive => s.rget r core
  | _ => s.rget r i j

/-- What a read of a register returns: wo and rsv bits read 0 (R16). -/
def State.ctlView (s : State) (a : Agent) (r : Reg) (i j : Nat) : Nat := readFields r.fields (s.ctlValue a r i j).toNat

/-- A control-space load: the state after and the value; a rejected one returns 0 (R15, R18, R691, R693). -/
def State.ctlRead (s : State) (a : Agent) (pa size : Nat) : State × Nat :=
  if ctlModule pa ≠ some s.ownModule then (s.reject 3 pa 0, 0)
  else if size ≠ 8 ∨ pa % 8 ≠ 0 then (s.reject 2 pa 0, 0)
  else match s.ctlAt a (pa % 2 ^ 32) with
  | .reg .tnUartrx _ _ =>
    let (s, w) := s.uartGet
    (s, w.toNat)
  | .reg r i j => (s, s.ctlView a r i j)
  | .snap l off w =>
    if (s.pair (4 * foldOf l + l % 9 / 2)).snapBad.contains (l, off) then (s.snapError l off, 0) else (s, w.get.toNat)
  | _ => (s.reject 3 pa 0, 0)

/-! ### Writes -/

/-- A record cleared by a write of 1 to VLD, with the registers that belong to it. -/
def State.clearLog (s : State) (rs : List Reg) (i : Nat) (v : Word) : State :=
  if flag v 63 then rs.foldl (fun s r => s.rset r i 0 0) s else s

/-- A register's fields set by a write under the access codes (R16). -/
def State.writeReg (s : State) (r : Reg) (i j : Nat) (v : Word) : State :=
  s.rset r i j (BitVec.ofNat 64 (writeFields r.fields (s.rget r i j).toNat v.toNat))

/-- What a write to a register does; none where it is a COMMIT whose agreement check fails (R25). -/
def State.ctlEffect (s : State) (a : Agent) (r : Reg) (i j : Nat) (v : Word) : Option State :=
  let page := s.pageOf (9 * i + j)
  match r with
  | .mgCfgerrAddr => some (s.clearLog [.mgCfgerrAddr, .mgCfgerrData] 0 v)
  | .fcXroot1 | .fcXroot2 => some (s.writeReg r (page / 9) (page % 9) v)
  | .fcXinva1 => some (s.xinva (9 * i + j) false v)
  | .fcXinva2 => some (s.xinva (9 * i + j) true v)
  | .fcXinvall1 => some (s.xinvall (9 * i + j) false v)
  | .fcXinvall2 => some (s.xinvall (9 * i + j) true v)
  | .fcCtl => some (s.fcControl i (flag v 0))
  | .fcRepl => some (s.replWrite i v)
  | .tcRepl => some (s.replWrite (24 + i) v)
  | .fcWaydis => some (s.waydisWrite i (fld v 31 16) (fld v 15 0))
  | .tcWaydis => some (s.waydisWrite (24 + i) (fld v 47 24) (fld v 23 0))
  | .fcWayflush => some (s.startWalk i (fld v 15 0))
  | .tcWayflush => some (s.startWalk (24 + i) (fld v 23 0))
  | .fcEcclog | .tcEcclog | .sxEcclog | .sxErrlog | .czVerlog | .cyErrlog | .pwRaillog => some (s.clearLog [r] i v)
  | .mcEcclog => some (s.clearLog [.mcEcclog, .mcEccaddr] 0 v)
  | .lkErrlog => some (s.clearLog [.lkErrlog, .lkErraddr] i v)
  | .ftMclog => some (s.clearLog [.ftMclog, .ftMcaddr] 0 v)
  | .pxLog => some (if flag v 63 then s.pxLogClear i else s)
  | .fcCommit => s.fcCommit i
  | .tcCommit => s.tcCommit i
  | .pxCommit => s.pxCommit i
  | .chPathcommit => s.chPathCommit
  | .chDraincommit => s.chDrainCommit
  | .lkCommit => s.lkCommit
  | .ptTrcommit => s.trCommit
  | .stCommit => s.stCommit
  | .ftCommit => s.ftCommit
  | .pxCtl => some (s.pxCommand i j (fld v 3 0))
  | .sxBankctl => some ((s.writeReg r i 0 v).bankTargets i)
  | .sxKeepwipe => some (if flag v 0 then s.wipeKeep i else s)
  | .mcCmd => some (s.mcCommand (fld v 12 8) (fld v 3 0))
  | .chPencmd => some (s.penCommand v)
  | .lkCtl => some (s.linkCommand i (fld v 3 0))
  | .lkMargin =>
    let s := s.writeReg r i 0 v
    some (if flag v 0 then s.marginGo i (fld v 59 56) (flag v 55) else s)
  | .lkDreq => some (s.dreq i v)
  | .czCtl => some (s.czControl i v)
  | .czStoppart => some (s.czStoppart i (fld v 10 0))
  | .cyCtl => some (s.cyControl i v)
  | .cyForce => some (s.cyForce i (fld v 10 0))
  | .cyLock => some (s.cyLockWrite i a.part v)
  | .ptCtl => some (s.ptControl v)
  | .ptCore => some (s.ptCoreWrite i v)
  | .huInv => some (s.huInvalidate v)
  | .evStat => some (if flag v 63 then s.evClear i else s)
  | .evSwraise => some (s.raise (fld v 10 0))
  | .evRaise => some (s.evGuestRaise a (fld v 10 0))
  | .evThresh1 | .evThresh2 => some (s.writeReg r (s.evCore i) 0 v)
  | .evEoi1 => some (if flag v 0 then s.evEoiAt (s.evCore i) 1 else s)
  | .evEoi2 => some (if flag v 0 then s.evEoiAt (s.evCore i) 2 else s)
  | .shMbgo => some (s.mbGo v)
  | .ftCtest => some (s.ftCtest (fld v 7 0))
  | .ftCnt => some (if flag v 63 then s.ftClear i j else s)
  | .pwFold => some (s.pwWrite i v)
  | .pwFlock => some (s.pwWrite (24 + i) v)
  | .tnUarttx => some (s.uartPut (fld v 7 0))
  | _ => some (s.writeReg r i j v)

/-- A control-space store by an agent: rejected under R15, R17, R18 and R25 with its CAUSE; a live register of a drafted
set ignores it (R24). -/
def State.ctlWrite (s : State) (a : Agent) (pa size v : Nat) : State :=
  let d := v % 2 ^ (8 * min size 8)
  let w := BitVec.ofNat 64 d
  if s.power.held then s
  else if ctlModule pa ≠ some s.ownModule then s.reject 3 pa d
  else if size ≠ 8 ∨ pa % 8 ≠ 0 then s.reject 2 pa d
  else match s.ctlAt a (pa % 2 ^ 32) with
  | .reg r i j =>
    if r.place.drafted then s
    else if r.reservedWrite i d then s.reject 0 pa d
    else match s.ctlEffect a r i j w with
      | some t => t
      | none => s.reject 1 pa d
  | .snap l off x => if x.bad w then s.reject 0 pa d else s.snapSet l off (x.set w)
  | .apt k o => match s.aptStore k o w with
    | some t => t
    | none => s.reject 3 pa d
  | .nothing => s.reject 3 pa d

/-- A store of a word to an instance of a register of the own module; nothing where there is no such instance. -/
def State.regWrite (s : State) (a : Agent) (r : Reg) (i j : Nat) (v : Word) : State :=
  if regAt (r.addr i j) = some (r, i, j) then s.ctlWrite a (s.ctlPa (r.addr i j)) 8 v.toNat else s

end Sys2Proof.Machine
end

