-- ==== Sys2Proof/Machine/Ret.lean ====
section
/-! DEFINITION. RET and IRET: the reads of the stack, the checks of the frame and what the shadow takes from the queue (01, R48, R66; 02, R86, R87; 06, R256; 15, R692). -/

namespace Sys2Proof.Machine

open Sys2Proof

/-- Who a core's control-space accesses act for: partition 0 at P2, the partition of its CUR entry below (R478, R526). -/
def State.agentOf (s : State) (n pl : Nat) : Agent :=
  let r := s.curOf (s.logical n)
  if pl = 2 then { part := 0, res := 0 } else { part := s.partId r, res := r }

/-- Reads of the control space, eight bytes at a time from an address up. -/
def State.ctlReads (s : State) (a : Agent) (pa len : Nat) : State × List Byte :=
  (List.range ((len + 7) / 8)).foldl (fun (x : State × List Byte) i =>
    let n := min 8 (len - 8 * i)
    let (s, v) := x.1.ctlRead a (pa + 8 * i) n
    (s, x.2 ++ toBytes n v)) (s, [])

/-- The bank's agent number for an access of a core to a scratchpad word: its own for its flock's, else the fabric port
(R303, R331). -/
def State.portAgent (s : State) (n pa : Nat) : Nat :=
  match s.scratch pa with
  | some (k, _, _) => if k = flockOf n then bankAgent n else 0x30
  | none => 0x30

/-- A half of a stack read as its target gives it at the access: the store path, the L1D or the coherent line, a
scratchpad bank, or the control space (log entry 40). -/
def State.stackHalf (s : State) (n pl : Nat) (h : Half) : State × Except MCheck (List Byte) :=
  let c := s.boundaryCore n
  let line := h.pa / 64
  let fromBank := fun (s : State) =>
    match s.spRead (s.portAgent n h.pa) h.pa h.len .none with
    | (s, .data bs) => (s, (.ok bs : Except MCheck (List Byte)))
    | (s, .poison word) => (s, .error (s.spMcheck word))
  let fromMemory := fun (s : State) =>
    match s.unbacked h.pa with
    | some wh => (s, (.error (mcheckOf 1 wh h.pa) : Except MCheck (List Byte)))
    | none =>
      let (d, p) := s.cohLine line
      (s, if p then .error (lineMcheck line) else .ok (lineBytes d (h.pa % 64) h.len))
  match h.tgt with
  | .own => match fromBank s with
    | (s, .ok bs) => (s, .ok (overlay c.path h.pa bs))
    | x => x
  | .cache =>
    match c.forward h.pa h.len with
    | .all bs => (s, .ok bs)
    | _ => match (if c.den then c.l1d.find? fun x => x.2.line == line else none) with
      | some x => (s, .ok (lineBytes x.2.data (h.pa % 64) h.len))
      | none => fromMemory s
  | _ =>
    if (ctlModule h.pa).isSome then
      let (s, bs) := s.ctlReads (s.agentOf n pl) h.pa h.len
      (s, .ok bs)
    else if (s.scratch h.pa).isSome then fromBank s
    else fromMemory s

/-- The halves of a stack read, lowest first; the first machine check ends it. -/
def State.stackRead (s : State) (n pl : Nat) : List Half → State × Except MCheck (List Byte)
  | [] => (s, .ok [])
  | h :: hs =>
    match s.stackHalf n pl h with
    | (s, .error m) => (s, .error m)
    | (s, .ok bs) =>
      match s.stackRead n pl hs with
      | (s, .ok rest) => (s, .ok (bs ++ rest))
      | x => x

/-- Whether a stack read overlaps the store path in part, and the core freezes for it (R179). -/
def State.stackOverlap (s : State) (n : Nat) (hs : List Half) : Bool :=
  hs.any fun h => h.tgt == .cache && (s.boundaryCore n).forward h.pa h.len == .part

/-- The freeze of a partial overlap: the entries concerned close and a waiting gather falls due (R179). -/
def State.overlapFreeze (s : State) (n : Nat) (hs : List Half) : State :=
  (s.opFreeze n .partialOverlap).modCore n fun c =>
    { hs.foldl (fun c h => c.closeOverlap h.pa h.len) c with gdue := some (c.gdue.getD .overlap) }

/-! ### RET (R48, R86, R692) -/

/-- RET with the popped return address: sp rises by 8 and the branch is taken. -/
def Core.ret (c : Core) (x : Slot) (w : OpWord) (addr : Word) : Core :=
  let a := c.arch
  let res : OpRes := ⟨[⟨.sp a.pl, (a.cr (spKey a.pl) + 8).setWidth 128⟩], 0, none⟩
  (c.issueRes x w 1 res).modBundle fun b => { b with branch := some (addr.toNat / 16 * 16) }

/-- RET (R48, R86): a pop that meets a machine check leaves sp and the branch alone, and the check is taken at the
boundary after the bundle (R692). -/
def execRet (x : Slot) (s : State) : Out :=
  let w := encode (.ret x)
  .next (opAct x w (fun s =>
    let n := x.core
    let a := (s.core n).arch
    let va := (a.cr (spKey a.pl)).toNat
    if !a.stackOk a.pl va 8 then s.opFault n (stackExc va) false
    else if s.part n = .shadow then
      s.lvTake n x.slot .load fun e s => s.modCore n fun c =>
        if e.bad then (c.fly (c.flight x w 1 nores)).issued else c.ret x w ((e.data.getD 0).setWidth 64)
    else match s.dataXlate n a.pl va 8 .load false (opInfo x.slot w) with
    | .fault f => s.accessFault n f
    | .poison l => s.opMcheck n (lineMcheck l)
    | .ok hs tlb hur => s.withQueue n 1 fun s =>
      let s := s.keep n tlb hur
      if s.stackOverlap n hs then s.overlapFreeze n hs
      else
        let num := ((s.core n).bundle.getD Bundle.none).num
        let entry := fun (v : Wide) (bad : Bool) =>
          ({ num := num, slot := x.slot, kind := .load, idx := 1, data := some v, bad := bad, kept := false } : LvEntry)
        match s.stackRead n a.pl hs with
        | (s, .ok bs) => (s.lvPush n (entry (BitVec.ofNat 128 (ofBytes bs)) false)).modCore n fun c => c.ret x w (BitVec.ofNat 64 (ofBytes bs))
        | (s, .error m) => (s.lvPush n (entry 0 true)).modCore n fun c => (c.fly { c.flight x w 1 nores with mcheck := some m }).issued) s)

/-! ### IRET (R66) -/

/-- What an IRET makes of its frame: the fault of a bad frame, none where it is good (R66, step 3). -/
def frameFault (pl : Nat) (info : Nat) (fr : List Word) : Option Exc :=
  let mood := lget 0 fr 2
  let w := lget 0 fr 4
  if pl < fld mood 23 22 then some { vector := 2, detail := 0, info := info }
  else if flag w 63 ∧ fld w 15 0 ≠ 0 then some { vector := 1, detail := 0, info := info }
  else if 5 ≤ fld mood 12 10 then some { vector := 1, detail := 0, info := info }
  else none

/-- IRET with its frame read: a bad one faults and restores nothing; a good one is restored at the end of the bundle. -/
def State.iretWith (s : State) (x : Slot) (w : OpWord) (pl : Nat) (fr : List Word) : State :=
  match frameFault pl (opInfo x.slot w) fr with
  | some e => s.opFault x.core e false
  | none => s.modCore x.core fun c => (c.issueRes x w 1 nores).modBundle fun b => { b with iret := some fr }

/-- The words of a frame in four queue entries (R256). -/
def packFrame (num slot : Nat) (fr : List Word) : List LvEntry :=
  (List.range 4).map fun i =>
    { num := num, slot := slot, kind := .load, idx := 1, bad := false, kept := false,
      data := some ((lget 0 fr (2 * i)).setWidth 128 ||| (lget 0 fr (2 * i + 1)).setWidth 128 <<< 64) }

/-- The shadow's frame from the queue. -/
def State.takeFrame (s : State) (n slot : Nat) : Nat → List Word → (List Word → State → State) → State
  | 0, fr, k => k fr s
  | i + 1, fr, k => s.lvTake n slot .load fun e s =>
    let v := e.data.getD 0
    s.takeFrame n slot i (fr ++ [v.setWidth 64, (v >>> 64).setWidth 64]) k

/-- IRET, from P1 up: with every earlier operation landed, the frame at the current sp is read and checked (R66, R692); an
operation whose data has not arrived freezes it first. -/
def execIret (x : Slot) (s : State) : Out :=
  let w := encode (.iret x)
  .next (opAct x w (fun s =>
    let n := x.core
    if (s.core n).arch.pl = 0 then s.privFault x w
    else if !(s.core n).allReady then s.opFreeze n .data
    else
      let a := ((s.drain n).core n).arch
      let va := (a.cr (spKey a.pl)).toNat
      if !a.stackOk a.pl va 64 then s.opFault n (stackExc va) false
      else if s.part n = .shadow then s.takeFrame n x.slot 4 [] fun fr s => s.iretWith x w a.pl fr
      else match s.dataXlate n a.pl va 64 .load false (opInfo x.slot w) with
      | .fault f => s.accessFault n { f with info := va }
      | .poison l => s.opMcheck n (lineMcheck l)
      | .ok hs tlb hur => s.withQueue n 4 fun s =>
        let s := s.keep n tlb hur
        if s.stackOverlap n hs then s.overlapFreeze n hs
        else match s.stackRead n a.pl hs with
          | (s, .error m) => s.opMcheck n m
          | (s, .ok bs) =>
            let fr := bytesWords 8 bs
            let num := ((s.core n).bundle.getD Bundle.none).num
            ((packFrame num x.slot fr).foldl (fun s e => s.lvPush n e) s).iretWith x w a.pl fr) s)

end Sys2Proof.Machine
end

