-- ==== Sys2Proof/Machine/CtlCmds.lean ====
section
/-! DEFINITION. The commands that are a store to one control register: the word each stores, and where (00, R13 to R25; the register tables of each chapter). An operand wider than its field gives the field its low bits. -/

namespace Sys2Proof.Machine

open Sys2Proof

/-- A field of a word that a command stores: `w` bits of `x` from bit `lo` up. -/
def fieldAt (x w lo : Nat) : Nat := x % 2 ^ w * 2 ^ lo

/-- A word from fields. -/
def wordOf (fs : List Nat) : Word := BitVec.ofNat 64 (fs.foldl (· + ·) 0)

/-- REGISTER_WRITE: a store to any address of the control space (R14 to R18, R24). -/
def execRegisterWrite (a : Agent) (pa size v : Nat) (s : State) : Out := .next (s.ctlWrite a pa size v)

/-! ### Commits (R25) -/

/-- MG_CFGERR_CLEAR (R20). -/
def execMgCfgerrClear (a : Agent) (v : Word) (s : State) : Out := .next (s.regWrite a .mgCfgerrAddr 0 0 v)

/-- CH_PATHCOMMIT (R349). -/
def execChPathcommit (a : Agent) (v : Word) (s : State) : Out := .next (s.regWrite a .chPathcommit 0 0 v)

/-- CH_DRAINCOMMIT (R381). -/
def execChDraincommit (a : Agent) (v : Word) (s : State) : Out := .next (s.regWrite a .chDraincommit 0 0 v)

/-- LK_COMMIT (R402). -/
def execLkCommit (a : Agent) (v : Word) (s : State) : Out := .next (s.regWrite a .lkCommit 0 0 v)

/-- PT_TRCOMMIT (R537). -/
def execPtTrcommit (a : Agent) (v : Word) (s : State) : Out := .next (s.regWrite a .ptTrcommit 0 0 v)

/-- ST_COMMIT (R548). -/
def execStCommit (a : Agent) (v : Word) (s : State) : Out := .next (s.regWrite a .stCommit 0 0 v)

/-- FT_COMMIT (R25). -/
def execFtCommit (a : Agent) (v : Word) (s : State) : Out := .next (s.regWrite a .ftCommit 0 0 v)

/-- FC_COMMIT (R222). -/
def execFcCommit (a : Agent) (f : Nat) (v : Word) (s : State) : Out := .next (s.regWrite a .fcCommit f 0 v)

/-- TC_COMMIT (R215, R222). -/
def execTcCommit (a : Agent) (t : Nat) (v : Word) (s : State) : Out := .next (s.regWrite a .tcCommit t 0 v)

/-- PX_COMMIT (R285). -/
def execPxCommit (a : Agent) (f : Nat) (v : Word) (s : State) : Out := .next (s.regWrite a .pxCommit f 0 v)

/-! ### Fold managers (R172, R227, R239 to R250) -/

/-- FC_XINVA1 (R172). -/
def execFcXinva1 (a : Agent) (n : Nat) (v : Word) (s : State) : Out := .next (s.regWrite a .fcXinva1 (n / 9) (n % 9) v)

/-- FC_XINVA2 (R172). -/
def execFcXinva2 (a : Agent) (n : Nat) (v : Word) (s : State) : Out := .next (s.regWrite a .fcXinva2 (n / 9) (n % 9) v)

/-- FC_XINVALL1 (R172). -/
def execFcXinvall1 (a : Agent) (n : Nat) (v : Word) (s : State) : Out := .next (s.regWrite a .fcXinvall1 (n / 9) (n % 9) v)

/-- FC_XINVALL2 (R172). -/
def execFcXinvall2 (a : Agent) (n : Nat) (v : Word) (s : State) : Out := .next (s.regWrite a .fcXinvall2 (n / 9) (n % 9) v)

/-- FC_CTL_WRITE (R227, R238). -/
def execFcCtlWrite (a : Agent) (f : Nat) (v : Word) (s : State) : Out := .next (s.regWrite a .fcCtl f 0 v)

/-- REPL_WRITE (R219, R239); `k` is fold k or tile k − 24. -/
def execReplWrite (a : Agent) (k : Nat) (v : Word) (s : State) : Out :=
  .next (if k < 24 then s.regWrite a .fcRepl k 0 v else s.regWrite a .tcRepl (k - 24) 0 v)

/-- WAYDIS_WRITE (R224, R240); `k` is fold k or tile k − 24. -/
def execWaydisWrite (a : Agent) (k : Nat) (v : Word) (s : State) : Out :=
  .next (if k < 24 then s.regWrite a .fcWaydis k 0 v else s.regWrite a .tcWaydis (k - 24) 0 v)

/-- WAYFLUSH_WRITE (R225, R241); `k` is fold k or tile k − 24. -/
def execWayflushWrite (a : Agent) (k : Nat) (v : Word) (s : State) : Out :=
  .next (if k < 24 then s.regWrite a .fcWayflush k 0 v else s.regWrite a .tcWayflush (k - 24) 0 v)

/-- FC_ECCLOG_CLEAR (R242); `k` is fold k or tile k − 24. -/
def execFcEcclogClear (a : Agent) (k : Nat) (v : Word) (s : State) : Out :=
  .next (if k < 24 then s.regWrite a .fcEcclog k 0 v else s.regWrite a .tcEcclog (k - 24) 0 v)

/-! ### Pairs (R285 to R293) -/

/-- PX_CTL_STOP (R288). -/
def execPxCtlStop (a : Agent) (f j : Nat) (s : State) : Out := .next (s.regWrite a .pxCtl f j 1)

/-- PX_CTL_SUBST_A (R288). -/
def execPxCtlSubstA (a : Agent) (f j : Nat) (s : State) : Out := .next (s.regWrite a .pxCtl f j 3)

/-- PX_CTL_SUBST_B (R288). -/
def execPxCtlSubstB (a : Agent) (f j : Nat) (s : State) : Out := .next (s.regWrite a .pxCtl f j 4)

/-- PX_CTL_RETURN (R288). -/
def execPxCtlReturn (a : Agent) (f j : Nat) (s : State) : Out := .next (s.regWrite a .pxCtl f j 5)

/-- PX_CTL_TEST (R288). -/
def execPxCtlTest (a : Agent) (f j : Nat) (s : State) : Out := .next (s.regWrite a .pxCtl f j 6)

/-- A START that finds a double-bit error at offset `off` of the first snapshot it reads (R693). -/
def State.startFinds (s : State) (f j off : Nat) : State :=
  let may := fun (l : Nat) => (s.lstate l == 4 || s.lstate l == 5) && !(s.coresOf l).any s.ctestOn
  match (s.logicalsOf (4 * f + j)).find? may with
  | some l => if ((s.snap l).snapWord (off / 8 * 8)).isSome then s.snapError l (off / 8 * 8) else s
  | none => s

/-- PX_CTL_START; `dbe` is where a snapshot turns out to hold a double-bit error (R288, R693). -/
def execPxCtlStart (a : Agent) (f j : Nat) (dbe : Option Nat) (s : State) : Out :=
  let t := match dbe with
    | some off => if s.power.held ∨ 24 ≤ f ∨ 4 ≤ j then s else s.startFinds f j off
    | none => s
  .next (t.regWrite a .pxCtl f j 2)

/-- The address of a word of a snapshot slot (R291). -/
def State.snapPa (s : State) (f slot off : Nat) : Nat := s.ctlPa ((0x40 + f) * 2 ^ 24 + 0x104000 + slot * 0x800 + off)

/-- PX_SNAP_WRITE (R291). -/
def execPxSnapWrite (a : Agent) (f slot off : Nat) (v : Word) (s : State) : Out :=
  .next (if 24 ≤ f ∨ 8 ≤ slot ∨ 0x800 ≤ off then s else s.ctlWrite a (s.snapPa f slot off) 8 v.toNat)

/-- PX_SNAP_READ; `dbe` where the word turns out to hold a double-bit error (R291, R693). -/
def execPxSnapRead (a : Agent) (f slot off : Nat) (dbe : Bool) (s : State) : Out :=
  if 24 ≤ f ∨ 8 ≤ slot ∨ 0x800 ≤ off ∨ s.power.held then .next s
  else
    let t := match s.snapSlot f slot with
      | some l => if dbe && ((s.snap l).snapWord off).isSome then s.snapError l off else s
      | none => s
    .next (t.ctlRead a (t.snapPa f slot off) 8).1

/-- PX_LOG_CLEAR (R290). -/
def execPxLogClear (a : Agent) (f : Nat) (v : Word) (s : State) : Out := .next (s.regWrite a .pxLog f 0 v)

/-! ### Scratchpads and memory (R302, R306, R322, R336 to R340) -/

/-- SX_BANKCTL_WRITE (R302). -/
def execSxBankctlWrite (a : Agent) (k : Nat) (v : Word) (s : State) : Out := .next (s.regWrite a .sxBankctl k 0 v)

/-- SX_KEEPWIPE (R306). -/
def execSxKeepwipe (a : Agent) (k : Nat) (v : Word) (s : State) : Out := .next (s.regWrite a .sxKeepwipe k 0 v)

/-- SX_ECCLOG_CLEAR (R330). -/
def execSxEcclogClear (a : Agent) (k : Nat) (v : Word) (s : State) : Out := .next (s.regWrite a .sxEcclog k 0 v)

/-- SX_ERRLOG_CLEAR (R331). -/
def execSxErrlogClear (a : Agent) (k : Nat) (v : Word) (s : State) : Out := .next (s.regWrite a .sxErrlog k 0 v)

/-- MC_RETRAIN (R322, R336). -/
def execMcRetrain (a : Agent) (ch : Nat) (s : State) : Out := .next (s.regWrite a .mcCmd 0 0 (wordOf [1, fieldAt ch 5 8]))

/-- MC_REPAIR (R322, R336). -/
def execMcRepair (a : Agent) (ch : Nat) (s : State) : Out := .next (s.regWrite a .mcCmd 0 0 (wordOf [2, fieldAt ch 5 8]))

/-- MC_ABORT (R322, R336). -/
def execMcAbort (a : Agent) (s : State) : Out := .next (s.regWrite a .mcCmd 0 0 3)

/-- MC_ECCLOG_CLEAR (R339). -/
def execMcEcclogClear (a : Agent) (v : Word) (s : State) : Out := .next (s.regWrite a .mcEcclog 0 0 v)

/-! ### Pens (R347, R389) -/

/-- The word of a pen command (R389). -/
def penWord (cmd arg pen : Nat) : Word := wordOf [cmd * 2 ^ 56, fieldAt arg 8 48, fieldAt pen 16 0]

/-- PEN_ATTACH (R347). -/
def execPenAttach (a : Agent) (pen : Nat) (s : State) : Out := .next (s.regWrite a .chPencmd 0 0 (penWord 1 0 pen))

/-- PEN_STOP (R347). -/
def execPenStop (a : Agent) (pen : Nat) (s : State) : Out := .next (s.regWrite a .chPencmd 0 0 (penWord 2 0 pen))

/-- PEN_RESUME (R347). -/
def execPenResume (a : Agent) (pen : Nat) (s : State) : Out := .next (s.regWrite a .chPencmd 0 0 (penWord 3 0 pen))

/-- PEN_ABORT (R347). -/
def execPenAbort (a : Agent) (pen : Nat) (s : State) : Out := .next (s.regWrite a .chPencmd 0 0 (penWord 4 0 pen))

/-- PEN_DETACH (R347). -/
def execPenDetach (a : Agent) (pen : Nat) (s : State) : Out := .next (s.regWrite a .chPencmd 0 0 (penWord 5 0 pen))

/-- PEN_RELOAD (R347). -/
def execPenReload (a : Agent) (pen : Nat) (s : State) : Out := .next (s.regWrite a .chPencmd 0 0 (penWord 6 0 pen))

/-- PEN_RESTORE (R347). -/
def execPenRestore (a : Agent) (pen mask : Nat) (s : State) : Out := .next (s.regWrite a .chPencmd 0 0 (penWord 7 mask pen))

/-- PEN_FAIL (R347). -/
def execPenFail (a : Agent) (pen mask : Nat) (s : State) : Out := .next (s.regWrite a .chPencmd 0 0 (penWord 8 mask pen))

/-- PEN_MOVE (R347). -/
def execPenMove (a : Agent) (pen drover : Nat) (s : State) : Out := .next (s.regWrite a .chPencmd 0 0 (penWord 9 drover pen))

/-! ### Links (R408, R428 to R439) -/

/-- LINK_RETRAIN (R436). -/
def execLinkRetrain (a : Agent) (p : Nat) (s : State) : Out := .next (s.regWrite a .lkCtl p 0 1)

/-- LINK_REEQ (R436). -/
def execLinkReeq (a : Agent) (p : Nat) (s : State) : Out := .next (s.regWrite a .lkCtl p 0 2)

/-- LINK_RELEASE (R436). -/
def execLinkRelease (a : Agent) (p : Nat) (s : State) : Out := .next (s.regWrite a .lkCtl p 0 3)

/-- LK_MARGIN_GO (R430, R437). -/
def execLkMarginGo (a : Agent) (p lane : Nat) (kind : Bool) (s : State) : Out :=
  .next (s.regWrite a .lkMargin p 0 (wordOf [1, fieldAt lane 4 56, bnat kind * 2 ^ 55]))

/-- The word of a device request (R439). -/
def dreqWord (op : Nat) (wide : Bool) (addr : Nat) : Word := wordOf [op * 2 ^ 62, bnat wide * 2 ^ 61, fieldAt addr 54 0]

/-- DREQ_MEMORY_READ (R408, R439). -/
def execDreqMemoryRead (a : Agent) (p : Nat) (wide : Bool) (addr : Nat) (s : State) : Out :=
  .next (s.regWrite a .lkDreq p 0 (dreqWord 0 wide addr))

/-- DREQ_MEMORY_WRITE (R408, R439). -/
def execDreqMemoryWrite (a : Agent) (p : Nat) (wide : Bool) (addr : Nat) (s : State) : Out :=
  .next (s.regWrite a .lkDreq p 0 (dreqWord 1 wide addr))

/-- DREQ_CONFIGURATION_READ (R408, R439). -/
def execDreqConfigurationRead (a : Agent) (p addr : Nat) (s : State) : Out := .next (s.regWrite a .lkDreq p 0 (dreqWord 2 false addr))

/-- DREQ_CONFIGURATION_WRITE (R408, R439). -/
def execDreqConfigurationWrite (a : Agent) (p addr : Nat) (s : State) : Out := .next (s.regWrite a .lkDreq p 0 (dreqWord 3 false addr))

/-- LK_ERRLOG_CLEAR (R438). -/
def execLkErrlogClear (a : Agent) (p : Nat) (v : Word) (s : State) : Out := .next (s.regWrite a .lkErrlog p 0 v)

/-! ### Engines (R465, R470 to R474, R478 to R482, R509 to R521) -/

/-- CZ_WITHDRAW (R465, R470). -/
def execCzWithdraw (a : Agent) (k : Nat) (on : Bool) (s : State) : Out := .next (s.regWrite a .czCtl k 0 (wordOf [bnat on]))

/-- CZ_TEST, WITHDRAW kept (R470). -/
def execCzTest (a : Agent) (k : Nat) (s : State) : Out := .next (s.regWrite a .czCtl k 0 (wordOf [2, s.rfld .czCtl k 0 0 0]))

/-- CZ_STOPPART (R465, R472). -/
def execCzStoppart (a : Agent) (k part : Nat) (s : State) : Out := .next (s.regWrite a .czStoppart k 0 (wordOf [fieldAt part 11 0]))

/-- CZ_VERLOG_CLEAR (R474). -/
def execCzVerlogClear (a : Agent) (k : Nat) (s : State) : Out := .next (s.regWrite a .czVerlog k 0 (wordOf [2 ^ 63]))

/-- ACQUIRE (R478, R520). -/
def execAcquire (a : Agent) (k token : Nat) (s : State) : Out := .next (s.regWrite a .cyLock k 0 (wordOf [2 ^ 32, fieldAt token 32 0]))

/-- RELEASE (R478, R520). -/
def execRelease (a : Agent) (k token : Nat) (s : State) : Out := .next (s.regWrite a .cyLock k 0 (wordOf [2 ^ 33, fieldAt token 32 0]))

/-- CY_FORCE (R482). -/
def execCyForce (a : Agent) (k part : Nat) (s : State) : Out := .next (s.regWrite a .cyForce k 0 (wordOf [fieldAt part 11 0]))

/-- CY_WITHDRAW (R509, R514). -/
def execCyWithdraw (a : Agent) (k : Nat) (on : Bool) (s : State) : Out := .next (s.regWrite a .cyCtl k 0 (wordOf [bnat on]))

/-- CY_TEST, WITHDRAW kept (R510, R514). -/
def execCyTest (a : Agent) (k : Nat) (s : State) : Out := .next (s.regWrite a .cyCtl k 0 (wordOf [2, s.rfld .cyCtl k 0 0 0]))

/-- CY_ERRLOG_CLEAR (R518). -/
def execCyErrlogClear (a : Agent) (k : Nat) (s : State) : Out := .next (s.regWrite a .cyErrlog k 0 (wordOf [2 ^ 63]))

/-! ### Partitions (R523 to R526, R533, R557) -/

/-- The word of a PT_CTL command (R557). -/
def ptWord (cmd r : Nat) (sealed : Bool) (pid : Nat) : Word :=
  wordOf [cmd * 2 ^ 60, fieldAt r 9 48, bnat sealed * 2 ^ 11, fieldAt pid 11 0]

/-- PT_ADMIT (R523). -/
def execPtAdmit (a : Agent) (r pid : Nat) (sealed : Bool) (s : State) : Out := .next (s.regWrite a .ptCtl 0 0 (ptWord 1 r sealed pid))

/-- PT_QUIESCE (R523). -/
def execPtQuiesce (a : Agent) (r : Nat) (s : State) : Out := .next (s.regWrite a .ptCtl 0 0 (ptWord 2 r false 0))

/-- PT_RESUME (R523). -/
def execPtResume (a : Agent) (r : Nat) (s : State) : Out := .next (s.regWrite a .ptCtl 0 0 (ptWord 3 r false 0))

/-- PT_REMOVE (R524). -/
def execPtRemove (a : Agent) (r : Nat) (s : State) : Out := .next (s.regWrite a .ptCtl 0 0 (ptWord 4 r false 0))

/-- PT_MODE (R523). -/
def execPtMode (a : Agent) (r : Nat) (sealed : Bool) (s : State) : Out := .next (s.regWrite a .ptCtl 0 0 (ptWord 5 r sealed 0))

/-- PT_CORE_WRITE (R526). -/
def execPtCoreWrite (a : Agent) (n next : Nat) (s : State) : Out := .next (s.regWrite a .ptCore n 0 (wordOf [fieldAt next 9 0]))

/-- HU_INV (R533). -/
def execHuInv (a : Agent) (v : Word) (s : State) : Out := .next (s.regWrite a .huInv 0 0 v)

/-! ### Events (R567 to R582) -/

/-- EV_ROUTE_WRITE (R579). -/
def execEvRouteWrite (a : Agent) (src : Nat) (v : Word) (s : State) : Out := .next (s.regWrite a .evRoute src 0 v)

/-- EV_STAT_CLEAR (R580). -/
def execEvStatClear (a : Agent) (src : Nat) (v : Word) (s : State) : Out := .next (s.regWrite a .evStat src 0 v)

/-- EV_EOI (R573, R581). -/
def execEvEoi (a : Agent) (n lvl : Nat) (v : Word) (s : State) : Out := .next (s.regWrite a (if lvl = 1 then .evEoi1 else .evEoi2) n 0 v)

/-- EV_SWRAISE (R574). -/
def execEvSwraise (a : Agent) (v : Word) (s : State) : Out := .next (s.regWrite a .evSwraise 0 0 v)

/-- EV_RAISE (R574). -/
def execEvRaise (a : Agent) (n : Nat) (v : Word) (s : State) : Out := .next (s.regWrite a .evRaise n 0 v)

/-! ### Faults, power and the tense port (R633, R640, R643, R651, R663, R677) -/

/-- FT_CNT_CLEAR (R633). -/
def execFtCntClear (a : Agent) (c i : Nat) (v : Word) (s : State) : Out := .next (s.regWrite a .ftCnt c i v)

/-- FT_CTEST (R643). -/
def execFtCtest (a : Agent) (v : Word) (s : State) : Out := .next (s.regWrite a .ftCtest 0 0 v)

/-- FT_MCTARGET_WRITE (R640). -/
def execFtMctargetWrite (a : Agent) (v : Word) (s : State) : Out := .next (s.regWrite a .ftMctarget 0 0 v)

/-- FT_MCLOG_CLEAR (R640). -/
def execFtMclogClear (a : Agent) (v : Word) (s : State) : Out := .next (s.regWrite a .ftMclog 0 0 v)

/-- PW_RAILLOG_CLEAR (R659). -/
def execPwRaillogClear (a : Agent) (v : Word) (s : State) : Out := .next (s.regWrite a .pwRaillog 0 0 v)

/-- PW_FOLD_WRITE (R663, R665). -/
def execPwFoldWrite (a : Agent) (f : Nat) (v : Word) (s : State) : Out := .next (s.regWrite a .pwFold f 0 v)

/-- PW_FLOCK_WRITE (R663, R665). -/
def execPwFlockWrite (a : Agent) (k : Nat) (v : Word) (s : State) : Out := .next (s.regWrite a .pwFlock k 0 v)

/-- UART_TRANSMIT (R677). -/
def execUartTransmit (a : Agent) (byte : BitVec 8) (s : State) : Out := .next (s.regWrite a .tnUarttx 0 0 (byte.setWidth 64))

/-- TN_UARTRX_READ (R677). -/
def execTnUartrxRead (a : Agent) (s : State) : Out := .next (if s.power.held then s else (s.ctlRead a (s.ctlPa (Reg.tnUartrx.addr 0)) 8).1)

end Sys2Proof.Machine
end

