-- ==== Sys2Proof/Machine/Far.lean ====
section
/-! DEFINITION. Far memory operations of the home agents (05, R234 to R236). -/

namespace Sys2Proof.Machine

open Sys2Proof

/-- A far memory operation: OP, SRC, DST, LENGTH. -/
structure FarDesc where
  op : Nat
  src : Nat
  dst : Nat
  len : Nat
  deriving DecidableEq, Repr

/-- A descriptor from its eight words; none where it holds a reserved value (R234, R236). -/
def farDesc (ws : List Word) : Option FarDesc :=
  let w := fun (i : Nat) => (lget 0 ws i).toNat
  let op := bits (w 0) 55 48
  let d : FarDesc := { op := op, src := w 1, dst := w 2, len := w 3 }
  let bad := decide (op < 1 ∨ 4 < op) || bits (w 0) 31 24 != 2 || bits (w 0) 47 35 != 0 || decide (2 ^ 32 ≤ w 3) || w 3 == 0
    || w 4 != 0 || w 5 != 0 || w 6 != 0 || w 7 != 0 || (decide (3 ≤ op) && w 1 != 0)
  if bad then none else some d

/-- The status of an access the base die refuses (R236, R692). -/
def farStatus : DieErr → Nat
  | .hurdle => 0x100
  | .poison _ => 0x102

/-- A byte translated for a far memory operation: its physical address, or the status that ends it (R235, R236, R530). -/
def State.farXlate (s : State) (r : Option Nat) (a : Nat) (kind : AKind) : State × Except Nat Nat :=
  match s.dieXlate r a kind false with
  | (s, .error e) => (s, .error (farStatus e))
  | (s, .ok pa) => (s, if s.mainMem pa then .ok pa else .error 0x101)

/-- Pieces that lie within one block of `b` bytes at both addresses. -/
def farStep (b src dst len : Nat) : Nat := min len (min (b - src % b) (b - dst % b))

/-- The bytes FILL writes at an address (R234). -/
def fillBytes (pattern dst n : Nat) : List Byte :=
  let p := toBytes 8 pattern
  (List.range n).map fun j => lget 0 p ((dst + j) % 8)

/-- The bytes COPY writes, from the source and destination bytes before the operation (`a0`, `b0`) and as they stand.
Where the operation has itself written a source or destination byte, through a hurdle that maps two grains to one, the
result is a free choice among the values R236 allows; elsewhere it is the source byte. -/
def copiedBytes : Nat → List (Byte × Byte) → List (Byte × Byte) → List Byte
  | k, (a0, a) :: as, (b0, b) :: bs =>
    (if a0 = a ∧ b0 = b then a
     else if Config.freeNat k % 3 = 0 then a0
     else if Config.freeNat k % 3 = 1 ∧ b0 ≠ b then b
     else a) :: copiedBytes (k + 1) as bs
  | _, _, _ => []

/-- COPY of `n` bytes in a step of an operation that began in state `s0`; where it has itself changed what it reads or writes,
each byte has a free value of its own (R236). -/
def State.farCopy (s0 s : State) (sp dp n : Nat) : State :=
  let now := s.cohBytes sp n
  if s0.cohBytes sp n = now ∧ s0.cohBytes dp n = s.cohBytes dp n then s.cohWrite dp now
  else
    { s.cohWrite dp (copiedBytes s.freeCtr ((s0.cohBytes sp n).zip now) ((s0.cohBytes dp n).zip (s.cohBytes dp n))) with
        freeCtr := s.freeCtr + n }

/-- One piece of an operation that began in state `s0`, within a line at each address, performed on physical addresses;
the status that ends it there. -/
def State.farPiece (s0 s : State) (op src sp dst dp n : Nat) : State × Nat :=
  match op with
  | 1 =>
    match s.cohPoison sp n with
    | some _ => (s, 0x102)
    | none => (s0.farCopy s sp dp n, 0)
  | 2 => (s.cohWrite dp (fillBytes src dst n), 0)
  | 3 => (s.cleanAll (dp / 64), 0)
  | _ => (s.invalidateAll (dp / 64), 0)

/-- An operation that began in state `s0`, from byte `k` on, line by line in ascending order: the status and the bytes
done (R234 to R236). -/
def State.farRun (s0 s : State) (r : Option Nat) (d : FarDesc) : Nat → Nat → State × Nat × Nat
  | 0, k => (s, 0, k)
  | fuel + 1, k =>
    if d.len ≤ k then (s, 0, d.len)
    else
      let src := if d.op = 1 then d.src + k else d.dst + k
      let dst := d.dst + k
      let n := farStep 64 src dst (d.len - k)
      match if d.op = 1 then s.farXlate r src .load else (s, .ok 0) with
      | (s, .error st) => (s, st, k)
      | (s, .ok sp) =>
        match s.farXlate r dst (if d.op ≤ 2 then .store else .maint) with
        | (s, .error st) => (s, st, k)
        | (s, .ok dp) =>
          match s0.farPiece s d.op (if d.op = 1 then src else d.src) sp dst dp n with
          | (s, 0) => s0.farRun s r d fuel (k + n)
          | (s, st) => (s, st, k)

/-- The pieces of an operation another module performs, by page, and the status where translation ends it. -/
def State.farSend (s : State) (r : Option Nat) (m : Nat) (d : FarDesc) : Nat → Nat → State × List (Nat × Nat × Option Word) × Nat
  | 0, _ => (s, [], 0)
  | fuel + 1, k =>
    if d.len ≤ k then (s, [], 0)
    else
      let src := if d.op = 1 then d.src + k else d.dst + k
      let dst := d.dst + k
      let n := farStep 4096 src dst (d.len - k)
      match if d.op = 1 then s.farXlate r src .load else (s, .ok d.src) with
      | (s, .error st) => (s, [], st)
      | (s, .ok sp) =>
        match s.farXlate r dst (if d.op ≤ 2 then .store else .maint) with
        | (s, .error st) => (s, [], st)
        | (s, .ok dp) =>
          let tid := s.tid
          let hdr := 4 * 2 ^ 60 + d.op * 2 ^ 48 + m * 2 ^ 32 + 2 * 2 ^ 24
          let body : List Word := [BitVec.ofNat 64 hdr, BitVec.ofNat 64 (if 3 ≤ d.op then 0 else sp), BitVec.ofNat 64 dp, BitVec.ofNat 64 n, 0, 0, 0, 0]
          let s := s.ask 0x0F m dp 0 body
          let x := s.farSend r m d fuel (k + n)
          (x.1, (tid, n, none) :: x.2.1, x.2.2)

/-- The head of far memory trough `t` with operation `op` is performed by the home agents, or sent to the module TARGET
names (R234 to R236); one operation of a trough at a time, and 32 of a module (R694). -/
def State.farOp (s : State) (t op : Nat) : State :=
  match tget [] s.troughs t with
  | [] => s
  | q :: rest =>
    let m := bits q.header 34 32
    let busy := s.far.any (fun x => x.trough == t) || decide (32 ≤ (s.far.filter fun x => bits x.req.header 34 32 == m).length)
    if bits q.header 63 60 ≠ 4 ∨ bits q.header 55 48 ≠ op ∨ busy then s
    else
      let s := { s with troughs := tput [] s.troughs t rest }
      let fin := fun (s : State) (st n : Nat) (ps : List (Nat × Nat × Option Word)) =>
        { s with far := s.far ++ [{ trough := t, req := q, status := st, bytes := n, pieces := ps }] }
      match farDesc (s.memWords q.desc 8) with
      | none => fin s 1 0 []
      | some d =>
        if !s.present m then fin s 0x101 0 []
        else if d.op = 1 ∧ d.src < d.dst + d.len ∧ d.dst < d.src + d.len then fin s 0x103 0 []
        else if m = s.ownModule then
          let (s, st, n) := s.farRun s q.agent d (d.len / 32 + 4) 0
          fin s st n []
        else
          let (s, ps, st) := s.farSend q.agent m d (d.len / 2048 + 4) 0
          fin s st 0 ps

/-- FM_COPY (R234). -/
def execFmCopy (t : Nat) (s : State) : Out := .next (s.farOp t 1)
/-- FM_FILL (R234). -/
def execFmFill (t : Nat) (s : State) : Out := .next (s.farOp t 2)
/-- FM_WB (R234). -/
def execFmWb (t : Nat) (s : State) : Out := .next (s.farOp t 3)
/-- FM_WBI (R234). -/
def execFmWbi (t : Nat) (s : State) : Out := .next (s.farOp t 4)

/-- The status and bytes of the pieces other modules performed, in ascending order. -/
def farSum : List (Nat × Nat × Option Word) → Nat → Nat → Nat × Nat
  | [], st, n => (st, n)
  | (_, len, a) :: ps, st, n =>
    let w := (a.getD 0).toNat
    if w / 2 ^ 48 = 0 then farSum ps st (n + len) else (w / 2 ^ 48, n + w % 2 ^ 48)

/-- FAR_MEMORY_COMPLETE: the operation of ticket `n` completes, once every module has answered (R236). -/
def execFarMemoryComplete (n : Nat) (s : State) : Out :=
  match s.far.find? fun x => x.req.ticket == n && x.pieces.all fun p => p.2.2.isSome with
  | none => .next s
  | some x =>
    let (st, b) := farSum x.pieces x.status x.bytes
    .next (({ s with far := delFirst (fun y => y == x) s.far }).complete x.req st b)

/-- Another module's answer to a piece. -/
def State.farAnswer (s : State) (tid : Nat) (w : Word) : State :=
  let put := fun (x : FarOp) => { x with pieces := x.pieces.map fun p => if p.1 == tid && p.2.2.isNone then (p.1, p.2.1, some w) else p }
  { s with far := s.far.map put }

/-- FMOP of another module, on physical addresses: its completion word (R236, R416). -/
def State.farServe (s : State) (ws : List Word) : State × Word :=
  match farDesc ws with
  | none => (s, BitVec.ofNat 64 (2 ^ 48))
  | some d =>
    let (s, st, n) := s.farRun s none d (d.len / 32 + 4) 0
    (s, BitVec.ofNat 64 (st * 2 ^ 48 + n))

end Sys2Proof.Machine
end

