-- ==== Sys2Proof/Machine/Fp.lean ====
section
/-! DEFINITION. The floating operations, moves, compares and steps (02, R99 to R105; 03, R131 to R151). -/

namespace Sys2Proof.Machine

open Sys2Proof

/-- A floating result with its flags and trap (R105, R137). -/
def fpRes (a : Arch) (f : FFmt) (fd : BitVec 5) (r : FRes) : OpRes :=
  ⟨[⟨.f fd.toNat, fencode f r.val⟩], r.flags, fpTrap a.mood r.flags r.tinyExact⟩

/-- A comparison's predicate with its flags and trap (R102, R105). -/
def fcmpRes (a : Arch) (pd : BitVec 3) (r : Bool × Nat) : OpRes :=
  ⟨[⟨.p pd.toNat, if r.1 then 1 else 0⟩], r.2, fpTrap a.mood r.2 false⟩

/-- A conversion's integer with its flags and trap (R101, R105). -/
def fgRes (a : Arch) (g : BitVec 6) (r : Word × Nat) : OpRes :=
  ⟨[⟨.g g.toNat, r.1.setWidth 128⟩], r.2, fpTrap a.mood r.2 false⟩

/-- What a step writes to fQ and fR (R103). -/
def stepRes (fq fr : BitVec 5) (r : Wide × Wide) : OpRes := ⟨[⟨.f fq.toNat, r.1⟩, ⟨.f fr.toNat, r.2⟩], 0, none⟩

/-- What a FIN step writes: the result in fQ, and fR as the last step left it (R150, R151), with its flags and trap. -/
def finRes (a : Arch) (f : FFmt) (fq fr : BitVec 5) (r : FRes) : OpRes :=
  ⟨[⟨.f fq.toNat, fencode f r.val⟩, ⟨.f fr.toNat, a.rf fr.toNat⟩], r.flags, fpTrap a.mood r.flags r.tinyExact⟩

/-- The latency of add, subtract, minimum, maximum, round and quantize (R104). -/
def latAdd (m : BitVec 2) : Nat := if m = 2 then 6 else if m = 3 then 8 else 4

/-- The latency of a multiply (R104). -/
def latMul (m : BitVec 2) : Nat := if m = 2 then 8 else if m = 3 then 12 else 4

/-- The latency of a conversion between formats, by the widest decimal format it involves (R104). -/
def latCvt (a b : BitVec 2) : Nat := if a = 3 ∨ b = 3 then 8 else if a = 2 ∨ b = 2 then 6 else 4

/-- The value of a floating register in a format. -/
def Arch.fv (a : Arch) (m : BitVec 2) (n : BitVec 5) : FVal := fdecode (fmtOf m) (a.rf n.toNat).toNat

/-- The bits of a register in a format with its sign bit replaced, the rest of the register 0 (R99); a decimal result is
canonical (R133, log entry 25). -/
def signBits (m : BitVec 2) (v : Wide) (b : Bool) : Wide :=
  let f := fmtOf m
  if f.dec then fencode f (withSign b (fdecode f v.toNat))
  else BitVec.ofNat 128 (putBits (v.toNat % 2 ^ f.width) (f.width - 1) (f.width - 1) (bnat b))

/-- FADD, DADD (R99, R104). -/
def execFadd (x : Slot) (fd : BitVec 5) (fa : BitVec 5) (fb : BitVec 5) (fmt : BitVec 2) (s : State) : Out :=
  .next (opReg x (encode (.fadd x fd fa fb fmt)) (latAdd fmt) (fun a => fpRes a (fmtOf fmt) fd (faddV (fmtOf fmt) (modeFor a.mood (fmtOf fmt)) (a.fv fmt fa) (a.fv fmt fb))) s)

/-- FSUB, DSUB (R99, R104). -/
def execFsub (x : Slot) (fd : BitVec 5) (fa : BitVec 5) (fb : BitVec 5) (fmt : BitVec 2) (s : State) : Out :=
  .next (opReg x (encode (.fsub x fd fa fb fmt)) (latAdd fmt) (fun a => fpRes a (fmtOf fmt) fd (fsubV (fmtOf fmt) (modeFor a.mood (fmtOf fmt)) (a.fv fmt fa) (a.fv fmt fb))) s)

/-- FMUL, DMUL (R99, R104). -/
def execFmul (x : Slot) (fd : BitVec 5) (fa : BitVec 5) (fb : BitVec 5) (fmt : BitVec 2) (s : State) : Out :=
  .next (opReg x (encode (.fmul x fd fa fb fmt)) (latMul fmt) (fun a => fpRes a (fmtOf fmt) fd (fmulV (fmtOf fmt) (modeFor a.mood (fmtOf fmt)) (a.fv fmt fa) (a.fv fmt fb))) s)

/-- FMIN, DMIN: minimumNumber (R99). -/
def execFmin (x : Slot) (fd : BitVec 5) (fa : BitVec 5) (fb : BitVec 5) (fmt : BitVec 2) (s : State) : Out :=
  .next (opReg x (encode (.fmin x fd fa fb fmt)) (latAdd fmt) (fun a => fpRes a (fmtOf fmt) fd (fminmaxV (fmtOf fmt) false (a.fv fmt fa) (a.fv fmt fb))) s)

/-- FMAX, DMAX: maximumNumber (R99). -/
def execFmax (x : Slot) (fd : BitVec 5) (fa : BitVec 5) (fb : BitVec 5) (fmt : BitVec 2) (s : State) : Out :=
  .next (opReg x (encode (.fmax x fd fa fb fmt)) (latAdd fmt) (fun a => fpRes a (fmtOf fmt) fd (fminmaxV (fmtOf fmt) true (a.fv fmt fa) (a.fv fmt fb))) s)

/-- FABS, DABS: the sign cleared (R99). -/
def execFabs (x : Slot) (fd : BitVec 5) (fa : BitVec 5) (fmt : BitVec 2) (s : State) : Out :=
  .next (opReg x (encode (.fabs x fd fa fmt)) 1 (fun a => fresr fd (signBits fmt (a.rf fa.toNat) false)) s)

/-- FNEG, DNEG: the sign inverted (R99). -/
def execFneg (x : Slot) (fd : BitVec 5) (fa : BitVec 5) (fmt : BitVec 2) (s : State) : Out :=
  .next (opReg x (encode (.fneg x fd fa fmt)) 1 (fun a => fresr fd (signBits fmt (a.rf fa.toNat) (!(a.rf fa.toNat).getLsbD ((fmtOf fmt).width - 1)))) s)

/-- FCPS, DCPS: the sign of fb (R99). -/
def execFcps (x : Slot) (fd : BitVec 5) (fa : BitVec 5) (fb : BitVec 5) (fmt : BitVec 2) (s : State) : Out :=
  .next (opReg x (encode (.fcps x fd fa fb fmt)) 1 (fun a => fresr fd (signBits fmt (a.rf fa.toNat) ((a.rf fb.toNat).getLsbD ((fmtOf fmt).width - 1)))) s)

/-- FCVT between formats (R99, R104). -/
def execFcvt (x : Slot) (fd : BitVec 5) (fa : BitVec 5) (sfmt : BitVec 2) (fmt : BitVec 2) (s : State) : Out :=
  .next (opReg x (encode (.fcvt x fd fa sfmt fmt)) (latCvt sfmt fmt) (fun a => fpRes a (fmtOf fmt) fd (convV (fmtOf sfmt) (fmtOf fmt) (modeFor a.mood (fmtOf fmt)) (a.fv sfmt fa))) s)

/-- DQUA: quantized to the exponent of fb (R99). -/
def execDqua (x : Slot) (fd : BitVec 5) (fa : BitVec 5) (fb : BitVec 5) (fmt : BitVec 2) (s : State) : Out :=
  .next (opReg x (encode (.dqua x fd fa fb fmt)) (latAdd fmt) (fun a => fpRes a (fmtOf fmt) fd (quantizeV (fmtOf fmt) (modeFor a.mood (fmtOf fmt)) (a.fv fmt fa) (a.fv fmt fb))) s)

/-- FRINT, DRINT: an integral value in the current mode (R99). -/
def execFrint (x : Slot) (fd : BitVec 5) (fa : BitVec 5) (fmt : BitVec 2) (s : State) : Out :=
  .next (opReg x (encode (.frint x fd fa fmt)) (latAdd fmt) (fun a => fpRes a (fmtOf fmt) fd (rintV (fmtOf fmt) (modeFor a.mood (fmtOf fmt)) (a.fv fmt fa))) s)

/-- FMA: fa × fb + fc (R100). -/
def execFma (x : Slot) (fd : BitVec 5) (fa : BitVec 5) (fb : BitVec 5) (fc : BitVec 5) (fmt : BitVec 2) (s : State) : Out :=
  .next (opReg x (encode (.fma x fd fa fb fc fmt)) 4 (fun a => fpRes a (fmtOf fmt) fd (fmaV (fmtOf fmt) (modeFor a.mood (fmtOf fmt)) false false (a.fv fmt fa) (a.fv fmt fb) (a.fv fmt fc))) s)

/-- FMS: fa × fb − fc (R100). -/
def execFms (x : Slot) (fd : BitVec 5) (fa : BitVec 5) (fb : BitVec 5) (fc : BitVec 5) (fmt : BitVec 2) (s : State) : Out :=
  .next (opReg x (encode (.fms x fd fa fb fc fmt)) 4 (fun a => fpRes a (fmtOf fmt) fd (fmaV (fmtOf fmt) (modeFor a.mood (fmtOf fmt)) false true (a.fv fmt fa) (a.fv fmt fb) (a.fv fmt fc))) s)

/-- FNMA: −(fa × fb) + fc (R100). -/
def execFnma (x : Slot) (fd : BitVec 5) (fa : BitVec 5) (fb : BitVec 5) (fc : BitVec 5) (fmt : BitVec 2) (s : State) : Out :=
  .next (opReg x (encode (.fnma x fd fa fb fc fmt)) 4 (fun a => fpRes a (fmtOf fmt) fd (fmaV (fmtOf fmt) (modeFor a.mood (fmtOf fmt)) true false (a.fv fmt fa) (a.fv fmt fb) (a.fv fmt fc))) s)

/-- FNMS: −(fa × fb) − fc (R100). -/
def execFnms (x : Slot) (fd : BitVec 5) (fa : BitVec 5) (fb : BitVec 5) (fc : BitVec 5) (fmt : BitVec 2) (s : State) : Out :=
  .next (opReg x (encode (.fnms x fd fa fb fc fmt)) 4 (fun a => fpRes a (fmtOf fmt) fd (fmaV (fmtOf fmt) (modeFor a.mood (fmtOf fmt)) true true (a.fv fmt fa) (a.fv fmt fb) (a.fv fmt fc))) s)

/-- FMVG: the low half (R101). -/
def execFmvg (x : Slot) (g : BitVec 6) (f : BitVec 5) (s : State) : Out :=
  .next (opReg x (encode (.fmvg x g f)) 1 (fun a => gres g ((a.rf f.toNat).setWidth 64)) s)

/-- FMVGH: the high half (R101). -/
def execFmvgh (x : Slot) (g : BitVec 6) (f : BitVec 5) (s : State) : Out :=
  .next (opReg x (encode (.fmvgh x g f)) 1 (fun a => gres g ((a.rf f.toNat >>> 64).setWidth 64)) s)

/-- GMVF: the low half written, the high half 0 (R101). -/
def execGmvf (x : Slot) (g : BitVec 6) (f : BitVec 5) (s : State) : Out :=
  .next (opReg x (encode (.gmvf x g f)) 1 (fun a => fresr f ((a.rg g.toNat).setWidth 128)) s)

/-- GMVFH: the high half written, the low half kept (R101). -/
def execGmvfh (x : Slot) (g : BitVec 6) (f : BitVec 5) (s : State) : Out :=
  .next (opReg x (encode (.gmvfh x g f)) 1 (fun a => fresr f ((a.rg g.toNat).setWidth 128 <<< 64 ||| ((a.rf f.toNat).setWidth 64).setWidth 128)) s)

/-- FCVT.G: to a signed integer in the current mode (R101). -/
def execFcvtG (x : Slot) (g : BitVec 6) (f : BitVec 5) (fmt : BitVec 2) (s : State) : Out :=
  .next (opReg x (encode (.fcvtG x g f fmt)) (latCvt fmt fmt) (fun a => fgRes a g (toIntV (fmtOf fmt) (modeFor a.mood (fmtOf fmt)) (a.fv fmt f))) s)

/-- FCVTZ.G: to a signed integer, toward zero (R101). -/
def execFcvtzG (x : Slot) (g : BitVec 6) (f : BitVec 5) (fmt : BitVec 2) (s : State) : Out :=
  .next (opReg x (encode (.fcvtzG x g f fmt)) (latCvt fmt fmt) (fun a => fgRes a g (toIntV (fmtOf fmt) 1 (a.fv fmt f))) s)

/-- FCVT.F: from a signed integer (R101). -/
def execFcvtF (x : Slot) (g : BitVec 6) (f : BitVec 5) (fmt : BitVec 2) (s : State) : Out :=
  .next (opReg x (encode (.fcvtF x g f fmt)) (latCvt fmt fmt) (fun a => fpRes a (fmtOf fmt) f (ofIntV (fmtOf fmt) (modeFor a.mood (fmtOf fmt)) (a.rg g.toNat).toInt)) s)

/-- FCVTU.F: from an unsigned integer (R101). -/
def execFcvtuF (x : Slot) (g : BitVec 6) (f : BitVec 5) (fmt : BitVec 2) (s : State) : Out :=
  .next (opReg x (encode (.fcvtuF x g f fmt)) (latCvt fmt fmt) (fun a => fpRes a (fmtOf fmt) f (ofIntV (fmtOf fmt) (modeFor a.mood (fmtOf fmt)) ((a.rg g.toNat).toNat : Int))) s)

/-- FCMP.EQ (R102). -/
def execFcmpEq (x : Slot) (pd : BitVec 3) (fa : BitVec 5) (fb : BitVec 5) (fmt : BitVec 2) (s : State) : Out :=
  .next (opReg x (encode (.fcmpEq x pd fa fb fmt)) 1 (fun a => fcmpRes a pd (fcmpV (fmtOf fmt) 0 (a.fv fmt fa) (a.fv fmt fb))) s)

/-- FCMP.LT (R102). -/
def execFcmpLt (x : Slot) (pd : BitVec 3) (fa : BitVec 5) (fb : BitVec 5) (fmt : BitVec 2) (s : State) : Out :=
  .next (opReg x (encode (.fcmpLt x pd fa fb fmt)) 1 (fun a => fcmpRes a pd (fcmpV (fmtOf fmt) 1 (a.fv fmt fa) (a.fv fmt fb))) s)

/-- FCMP.LE (R102). -/
def execFcmpLe (x : Slot) (pd : BitVec 3) (fa : BitVec 5) (fb : BitVec 5) (fmt : BitVec 2) (s : State) : Out :=
  .next (opReg x (encode (.fcmpLe x pd fa fb fmt)) 1 (fun a => fcmpRes a pd (fcmpV (fmtOf fmt) 2 (a.fv fmt fa) (a.fv fmt fb))) s)

/-- FCMP.UN (R102). -/
def execFcmpUn (x : Slot) (pd : BitVec 3) (fa : BitVec 5) (fb : BitVec 5) (fmt : BitVec 2) (s : State) : Out :=
  .next (opReg x (encode (.fcmpUn x pd fa fb fmt)) 1 (fun a => fcmpRes a pd (fcmpV (fmtOf fmt) 3 (a.fv fmt fa) (a.fv fmt fb))) s)

/-- FCMP.LTQ (R102). -/
def execFcmpLtq (x : Slot) (pd : BitVec 3) (fa : BitVec 5) (fb : BitVec 5) (fmt : BitVec 2) (s : State) : Out :=
  .next (opReg x (encode (.fcmpLtq x pd fa fb fmt)) 1 (fun a => fcmpRes a pd (fcmpV (fmtOf fmt) 4 (a.fv fmt fa) (a.fv fmt fb))) s)

/-- FCMP.LEQ (R102). -/
def execFcmpLeq (x : Slot) (pd : BitVec 3) (fa : BitVec 5) (fb : BitVec 5) (fmt : BitVec 2) (s : State) : Out :=
  .next (opReg x (encode (.fcmpLeq x pd fa fb fmt)) 1 (fun a => fcmpRes a pd (fcmpV (fmtOf fmt) 5 (a.fv fmt fa) (a.fv fmt fb))) s)

/-- FCMP.EQS (R102). -/
def execFcmpEqs (x : Slot) (pd : BitVec 3) (fa : BitVec 5) (fb : BitVec 5) (fmt : BitVec 2) (s : State) : Out :=
  .next (opReg x (encode (.fcmpEqs x pd fa fb fmt)) 1 (fun a => fcmpRes a pd (fcmpV (fmtOf fmt) 6 (a.fv fmt fa) (a.fv fmt fb))) s)

/-- FDIV.P (R103, R147). -/
def execFdivP (x : Slot) (fq : BitVec 5) (fr : BitVec 5) (fdv : BitVec 5) (fmt : BitVec 2) (s : State) : Out :=
  .next (opReg x (encode (.fdivP x fq fr fdv fmt)) 1 (fun a => stepRes fq fr (divPrepV (fmtOf fmt) (a.fv fmt fq) (a.fv fmt fdv))) s)

/-- FDSTEP (R103, R148). -/
def execFdstep (x : Slot) (fq : BitVec 5) (fr : BitVec 5) (fdv : BitVec 5) (fmt : BitVec 2) (s : State) : Out :=
  .next (opReg x (encode (.fdstep x fq fr fdv fmt)) 1 (fun a => stepRes fq fr (fdStepV (fmtOf fmt) (a.rf fq.toNat) (a.rf fr.toNat) (a.fv fmt fdv))) s)

/-- FDFIN (R103, R150). -/
def execFdfin (x : Slot) (fq : BitVec 5) (fr : BitVec 5) (fdv : BitVec 5) (fmt : BitVec 2) (s : State) : Out :=
  .next (opReg x (encode (.fdfin x fq fr fdv fmt)) 1 (fun a => finRes a (fmtOf fmt) fq fr (binFinV (fmtOf fmt) (modeFor a.mood (fmtOf fmt)) 2 (divSteps (fmtOf fmt)) (a.rf fq.toNat) (a.rf fr.toNat))) s)

/-- FSQRT.P (R103, R147). -/
def execFsqrtP (x : Slot) (fq : BitVec 5) (fr : BitVec 5) (fdv : BitVec 5) (fmt : BitVec 2) (s : State) : Out :=
  .next (opReg x (encode (.fsqrtP x fq fr fdv fmt)) 1 (fun a => stepRes fq fr (sqrtPrepV (fmtOf fmt) (a.fv fmt fdv))) s)

/-- FRSTEP (R103, R149). -/
def execFrstep (x : Slot) (fq : BitVec 5) (fr : BitVec 5) (fdv : BitVec 5) (fmt : BitVec 2) (s : State) : Out :=
  .next (opReg x (encode (.frstep x fq fr fdv fmt)) 1 (fun a => stepRes fq fr (frStepV (fmtOf fmt) (a.rf fq.toNat) (a.rf fr.toNat) (a.fv fmt fdv))) s)

/-- FRFIN (R103, R150). -/
def execFrfin (x : Slot) (fq : BitVec 5) (fr : BitVec 5) (fdv : BitVec 5) (fmt : BitVec 2) (s : State) : Out :=
  .next (opReg x (encode (.frfin x fq fr fdv fmt)) 1 (fun a => finRes a (fmtOf fmt) fq fr (binFinV (fmtOf fmt) (modeFor a.mood (fmtOf fmt)) 1 (sqrtSteps (fmtOf fmt)) (a.rf fq.toNat) (a.rf fr.toNat))) s)

/-- XDIV.P (R103, R147). -/
def execXdivP (x : Slot) (fq : BitVec 5) (fr : BitVec 5) (fdv : BitVec 5) (fmt : BitVec 2) (s : State) : Out :=
  .next (opReg x (encode (.xdivP x fq fr fdv fmt)) 1 (fun a => stepRes fq fr (divPrepV (fmtOf fmt) (a.fv fmt fq) (a.fv fmt fdv))) s)

/-- XDSTEP: one decimal digit (R103, R148). -/
def execXdstep (x : Slot) (fq : BitVec 5) (fr : BitVec 5) (fdv : BitVec 5) (fmt : BitVec 2) (s : State) : Out :=
  .next (opReg x (encode (.xdstep x fq fr fdv fmt)) 1 (fun a => stepRes fq fr (xdStepV (fmtOf fmt) (a.rf fq.toNat) (a.rf fr.toNat) (a.fv fmt fdv))) s)

/-- XDFIN (R103, R150). -/
def execXdfin (x : Slot) (fq : BitVec 5) (fr : BitVec 5) (fdv : BitVec 5) (fmt : BitVec 2) (s : State) : Out :=
  .next (opReg x (encode (.xdfin x fq fr fdv fmt)) 1 (fun a => finRes a (fmtOf fmt) fq fr (xdFinV (fmtOf fmt) (modeFor a.mood (fmtOf fmt)) (a.rf fq.toNat) (a.rf fr.toNat) (a.fv fmt fdv))) s)

end Sys2Proof.Machine
end

