-- ==== Sys2Proof/Machine/Held.lean ====
section
/-! DEFINITION. HELD_ACCESS_PERFORM: a held access at its target once its gather is confirmed (04, R181, R189; 01, R51; 02, R108; 05, R229, R231; 07, R301, R303). -/

namespace Sys2Proof.Machine

open Sys2Proof

/-- A core's held access set. -/
def State.setHeld (s : State) (c : Nat) (h : HeldAcc) : State := s.modCore c fun k => { k with hacc := some h }

/-- A held access has its value, or the machine check that takes its place. -/
def State.heldDone (s : State) (c : Nat) (h : HeldAcc) (v : Nat) (m : Option MCheck) : State :=
  s.setHeld c { h with phase := .done, value := if m.isSome then 0 else h.loaded v, mcheck := m }

/-- A held access without a value has been performed; the machine check of a store waits for a boundary (R59). -/
def State.heldEnd (s : State) (c : Nat) (h : HeldAcc) (m : Option MCheck) : State :=
  (s.modCore c fun k => { k with smchecks := k.smchecks ++ m.toList }).setHeld c { h with phase := .answered }

/-- The first of the parts at an unbacked address, and where it is (R12). -/
def State.heldUnbacked (s : State) (h : HeldAcc) : Option (Nat × Nat) :=
  h.parts.findSome? fun x => (s.unbacked x.1).map fun wh => (wh, x.1)

/-! ### Loads and stores (R180, R301, R303, R691) -/

/-- The parts of a load read at scratchpad banks: the value, or the first poisoned or refused word. -/
def State.heldSpRead (s : State) (c : Nat) (err : WordErr) : List (Nat × Nat × Nat) → Nat → State × Except Nat Nat
  | [], v => (s, .ok v)
  | (pa, len, place) :: rest, v =>
    match s.spRead (s.portAgent c pa) pa len err with
    | (s, .poison word) => (s, .error word)
    | (s, .data bs) => s.heldSpRead c .none rest (v + ofBytes bs * 2 ^ (8 * place))

/-- A held load: the control space and this module's banks answer at once; memory and other modules through the home
agent (UNCACHED_LOAD). -/
def State.heldLoad (s : State) (c : Nat) (h : HeldAcc) (err : WordErr) : State :=
  if (ctlModule h.pa).isSome then
    let (s, v) := s.ctlRead (s.agentOf c h.pl) h.pa h.size
    s.heldDone c h v none
  else match s.heldUnbacked h with
  | some (wh, pa) => s.heldDone c h 0 (some (mcheckOf 1 wh pa))
  | none =>
    if h.parts.all fun x => (s.scratch x.1).isSome then
      match s.heldSpRead c err h.parts 0 with
      | (s, .ok v) => s.heldDone c h v none
      | (s, .error word) => s.heldDone c h 0 (some (s.spMcheck word))
    else s.setHeld c { h with phase := .atHome }

/-- A held store: as for a load. -/
def State.heldStore (s : State) (c : Nat) (h : HeldAcc) : State :=
  if (ctlModule h.pa).isSome then (s.ctlWrite (s.agentOf c h.pl) h.pa h.size h.data).heldEnd c h none
  else match s.heldUnbacked h with
  | some (wh, pa) => s.heldEnd c h (some (storeMcheck 1 wh pa))
  | none =>
    if h.parts.all fun x => (s.scratch x.1).isSome then
      let put := fun (acc : State × Option MCheck) (x : Nat × Nat × Nat) =>
        let (s, no) := acc.1.spWrite (s.portAgent c x.1) x.1 (toBytes x.2.1 (h.data / 2 ^ (8 * x.2.2)))
        let m := if no then (s.scratch x.1).map fun b => storeMcheck 4 (16 * b.1 + b.2.1) x.1 else none
        (s, acc.2.orElse fun _ => m)
      let (s, m) := h.parts.foldl put (s, none)
      s.heldEnd c h m
    else s.setHeld c { h with phase := .atHome }

/-! ### Atomics (R96, R189, R229, R303) -/

/-- What an atomic writes for an old value, none where it writes nothing (R96). -/
def HeldAcc.atomNew (h : HeldAcc) (old : Nat) : Option Nat :=
  match h.kind with
  | .swap => some h.data
  | .fadd => some ((old + h.data) % 2 ^ (8 * h.size))
  | .cas cmp => if old = cmp then some h.data else none
  | _ => none

/-- An atomic at a bank of the own flock: one read and one write, or refused whole (R303). -/
def State.atomBank (s : State) (c : Nat) (h : HeldAcc) (k b w : Nat) (err : WordErr) : State :=
  match s.bankRefuses k b (bankAgent c) with
  | some cause => (s.logRefusal k (bankAgent c) cause true (w * 16)).heldDone c h 0 (some (mcheckOf 4 (16 * k + b) h.pa))
  | none =>
    match s.spRead (bankAgent c) h.pa h.size err with
    | (s, .poison word) => s.heldDone c h 0 (some (s.spMcheck word))
    | (s, .data bs) =>
      let old := ofBytes bs
      let s := match h.atomNew old with
        | some v => (s.spWrite (bankAgent c) h.pa (toBytes h.size v)).1
        | none => s
      s.heldDone c h old none

/-- An atomic on a line its fold cache owns. -/
def State.atomLine (s : State) (c : Nat) (h : HeldAcc) (f w : Nat) (l : CLine) : State :=
  let i := h.pa % 64
  let old := ofBytes (lineBytes l.data i h.size)
  if l.poison then s.heldDone c h 0 (some (lineMcheck l.line))
  else
    let s := s.bump .fcHits f
    let s := match h.atomNew old with
      | some v =>
        let (d, m) := Machine.linePlace i (toBytes h.size v)
        (s.foldStore c f w l d m).dropL1d f l.line
      | none => ((s.cset f l.line w { l with hit := true }).plruUse f l.line w).leaveWay f l.line w
    s.heldDone c h old none

/-- An atomic performed by the home agent: no access allocates the line (R221, R229). -/
def State.atomHome (s : State) (c : Nat) (h : HeldAcc) : State :=
  let line := h.pa / 64
  let (d, p) := s.cohLine line
  let old := ofBytes (lineBytes d (h.pa % 64) h.size)
  if p then s.heldDone c h 0 (some (lineMcheck line))
  else
    let s := match h.atomNew old with
      | some v => s.cohWrite h.pa (toBytes h.size v)
      | none => s
    s.heldDone c h old none

/-- Whether the class of a core has a way to take a line in its fold cache (R221). -/
def State.hasWay (s : State) (c : Nat) : Bool :=
  let f := foldOf c
  !(s.candidates f (s.rfld .fcAllot f (s.classOf c) 15 0)).isEmpty

/-- A held access begins to wait for ownership of its line; its miss counts once (R245). -/
def State.heldWait (s : State) (c : Nat) (h : HeldAcc) (line : Nat) (m : BitVec 64) : State :=
  let s := if h.phase = .checked then s.bump .fcMisses (foldOf c) else s
  (s.wantOwn c line m).setHeld c { h with phase := .waitOwn }

/-- An atomic of a core. -/
def State.heldAtom (s : State) (c : Nat) (h : HeldAcc) (ch : Chance) : State :=
  let f := foldOf c
  let line := h.pa / 64
  match s.scratch h.pa with
  | some (k, b, w) => s.atomBank c h k b w ch.word
  | none =>
    match s.unbacked h.pa with
    | some wh => s.heldDone c h 0 (some (mcheckOf 1 wh h.pa))
    | none =>
      if s.fcState f ≠ 1 then (s.drainAhead f line).atomHome c h
      else
        let (s, hit) := s.lookup f line ch.array
        match hit with
        | some (w, l) =>
          if l.st = .s then s.heldWait c h line (Machine.linePlace (h.pa % 64) (toBytes h.size 0)).2
          else s.atomLine c h f w l
        | none =>
          if s.hasWay c then s.heldWait c h line (Machine.linePlace (h.pa % 64) (toBytes h.size 0)).2
          else (s.raise (cacheSrc f 1)).atomHome c h

/-! ### Cache maintenance (R97, R231) -/

/-- DCF, DCFI or DZL at its line; a target that is not main memory has no copies (R231, R232). -/
def State.heldMaintain (s : State) (c : Nat) (h : HeldAcc) : State :=
  let f := foldOf c
  let line := h.pa / 64
  if (ctlModule h.pa).isSome ∨ (s.scratch h.pa).isSome then s.heldEnd c h none
  else match s.unbacked h.pa with
  | some wh => s.heldEnd c h (some (storeMcheck 1 wh h.pa))
  | none =>
    match h.kind with
    | .dcf => (s.cleanAll line).heldEnd c h none
    | .dcfi => (s.invalidateAll line).heldEnd c h none
    | _ =>
      if s.fcState f ≠ 1 then ((s.drainAhead f line).cohWriteMask line 0 fullMask).heldEnd c h none
      else match s.owns f line with
        | some (w, l) => (((s.foldStore c f w l 0 fullMask).dropL1d f line).bump .fcHits f).heldEnd c h none
        | none =>
          if s.hasWay c then s.heldWait c h line fullMask
          else ((s.cohWriteMask line 0 fullMask).raise (cacheSrc f 1)).heldEnd c h none

/-! ### SUBMIT (R51, R107, R108, R352, R526, R535) -/

/-- Whether UNIT and TARGET of a header hold values that are not reserved (R107). -/
def targetOk (hdr : Nat) : Bool :=
  let unit := bits hdr 63 60
  let t := bits hdr 47 32
  if unit = 1 ∨ unit = 2 then decide (t < 12) || t == 0xFFFF else if unit = 4 then decide (t < 8) else unit == 3

/-- Whether a header holds a reserved value (R107, R234, R351, R448, R498). -/
def headerReserved (hdr : Nat) : Bool :=
  let unit := bits hdr 63 60
  let op := bits hdr 55 48
  let len := bits hdr 31 24
  !targetOk hdr || bits hdr 59 56 != 0 || bits hdr 15 0 != 0 || len == 0 || decide (128 < len)
    || (match unit with
      | 1 => op == 0 || decide (9 < op) || len != 3
      | 2 => op == 0 || decide (2 < op)
      | 3 => op != 1 || len == 1
      | _ => op == 0 || decide (4 < op) || len != 2)

/-- The engine a header names, the issuing core's flock for 0xFFFF. -/
def headerEngine (c hdr : Nat) : Nat :=
  let t := bits hdr 47 32
  if bits hdr 63 60 = 1 ∨ bits hdr 63 60 = 2 then (if t = 0xFFFF then flockOf c else t) else 0

/-- The valid trough that a header names for a resident entry (R535). -/
def State.troughOf (s : State) (res c hdr : Nat) : Option Nat :=
  (List.range 8192).find? fun t =>
    s.troughIs (bits hdr 63 60) (headerEngine c hdr) t && s.rfld .ptTrough t 0 40 32 == res && s.rfld .ptTrough t 0 55 48 == bits hdr 23 16

/-- Whether the unit a header names refuses the partition: a pen that is DETACHED or another partition's, an engine that
is withdrawn (R51, R352, R465, R509). -/
def State.unitRefuses (s : State) (part c hdr : Nat) : Bool :=
  let k := headerEngine c hdr
  match bits hdr 63 60 with
  | 1 => s.cyState k != 0
  | 2 => s.czState k == 1 || s.czState k == 2 || s.czState k == 5
  | 3 => s.penState (bits hdr 47 32) == 0 || (s.pen (bits hdr 47 32)).part != part
  | _ => false

/-- The acceptance code of a SUBMIT whose header has been read, and the machine with the request it accepts (R108). -/
def State.submit (s : State) (c pl tally va pa hdr : Nat) : State × Nat :=
  let l := s.logical c
  let res := if pl = 2 then 0 else s.curOf l
  let part := if pl = 2 then 0 else s.partId res
  let trough := s.troughOf res c hdr
  let noTarget := targetOk hdr && (s.resState res != 1 || trough.isNone || s.unitRefuses part c hdr)
  let q : Request := { ticket := s.ticket, core := l, tally := tally, res := res, part := part, pl := pl, header := hdr, desc := pa }
  let taken := fun (s : State) => { s.rmod .ptInfl res 0 (fun v => v + 1) with ticket := s.ticket + 1 }
  if noTarget then (s, 3)
  else if va % 32 ≠ 0 ∨ headerReserved hdr ∨ 4096 < va % 4096 + 32 * bits hdr 31 24 then
    ({ taken s with rfield := s.rfield ++ [q] }, 0)
  else match trough with
  | none => (s, 3)
  | some t =>
    let now := tget [] s.troughs t
    if s.rfld .ptTrough t 0 12 0 ≤ now.length then (s, 2) else ((taken s).setTrough t (now ++ [q]), 0)

/-- A SUBMIT performed: its header read at its target, then its code (R106). -/
def State.heldSubmit (s : State) (c : Nat) (h : HeldAcc) (tally : Nat) (err : WordErr) : State :=
  let decide_ := fun (s : State) (hdr : Nat) =>
    let (s, code) := s.submit c h.pl tally h.va h.pa hdr
    s.heldDone c h code none
  match s.heldUnbacked h with
  | some (wh, pa) => s.heldDone c h 0 (some (mcheckOf 1 wh pa))
  | none =>
    if h.parts.all fun x => (s.scratch x.1).isSome then
      match s.heldSpRead c err h.parts 0 with
      | (s, .ok hdr) => decide_ s hdr
      | (s, .error word) => s.heldDone c h 0 (some (s.spMcheck word))
    else
      match h.parts.findSome? fun x => s.cohPoison x.1 x.2.1 with
      | some line => s.heldDone c h 0 (some (lineMcheck line))
      | none => decide_ s (h.parts.foldl (fun v x => v + ofBytes (s.cohBytes x.1 x.2.1) * 2 ^ (8 * x.2.2)) 0)

/-- HELD_ACCESS_PERFORM: after its gather a held access is performed at its target (R181). -/
def execHeldAccessPerform (c : Nat) (ch : Chance) (s : State) : Out :=
  .next (match (s.core c).hacc with
  | none => s
  | some h =>
    if (h.phase ≠ .checked ∧ h.phase ≠ .waitOwn) ∨ !(s.core c).rel.isEmpty ∨ s.power.trip then s
    else match h.kind with
    | .load _ => s.heldLoad c h ch.word
    | .store => s.heldStore c h
    | .submit t => s.heldSubmit c h t ch.word
    | .dcf | .dcfi | .dzl => s.heldMaintain c h
    | _ => s.heldAtom c h ch)

end Sys2Proof.Machine
end

