-- ==== Sys2Proof/Machine/IntArith.lean ====
section
/-! DEFINITION. Integer results (03, R122 to R129). -/

namespace Sys2Proof.Machine

/-- Whether an exact signed result lies outside 64 bits, as flags (R122). -/
def ivIf (x : Int) : Nat := if x < -(2 ^ 63) ∨ 2 ^ 63 - 1 < x then flagIV else 0

/-- Left shift by a full 64-bit amount (R90). -/
def shl64 (a b : Word) : Word := if 64 ≤ b.toNat then 0 else a <<< b.toNat
/-- Logical right shift (R90). -/
def shr64 (a b : Word) : Word := if 64 ≤ b.toNat then 0 else a >>> b.toNat
/-- Arithmetic right shift, sign fill from 64 up (R90). -/
def sar64 (a b : Word) : Word := a.sshiftRight (min b.toNat 64)
/-- Rotate right by the amount modulo 64 (R90). -/
def ror64 (a b : Word) : Word := a.rotateRight (b.toNat % 64)
/-- Signed minimum. -/
def smin (a b : Word) : Word := if a.toInt ≤ b.toInt then a else b
/-- Signed maximum. -/
def smax (a b : Word) : Word := if a.toInt ≤ b.toInt then b else a
/-- Unsigned minimum. -/
def umin (a b : Word) : Word := if a.toNat ≤ b.toNat then a else b
/-- Unsigned maximum. -/
def umax (a b : Word) : Word := if a.toNat ≤ b.toNat then b else a
/-- Leading zeros, 0 to 64 (R90). -/
def clz64 (a : Word) : Word := BitVec.ofNat 64 (64 - bitLength a.toNat)
/-- The lowest set bit at or above position `i`, scanning `n` positions. -/
def lowBit (a : Word) : Nat → Nat → Nat
  | 0, i => i
  | n + 1, i => if a.getLsbD i then i else lowBit a n (i + 1)
/-- Trailing zeros, 0 to 64 (R90). -/
def ctz64 (a : Word) : Word := BitVec.ofNat 64 (lowBit a 64 0)
/-- The number of one bits (R90). -/
def popc64 (a : Word) : Word :=
  BitVec.ofNat 64 (((List.range 64).filter (fun i => a.getLsbD i)).length)
/-- Bytes in reverse order (R90). -/
def bswap64 (a : Word) : Word := BitVec.ofNat 64 (ofBytesBE (toBytes 8 a.toNat))

/-- The unsigned value `-a` modulo 2^64. -/
def negNat (a : Nat) : Nat := (2 ^ 64 - a % 2 ^ 64) % 2 ^ 64

/-- The state a division sequence keeps between its operations: gQ, gR and the two sign bits (R124). -/
structure DivState where
  q : Word
  r : Word
  qs : Bool
  rs : Bool
  deriving DecidableEq, Repr

/-- DIVS.P and DIVU.P (R125). -/
def divPrepare (signed : Bool) (n sIn d : Word) : DivState :=
  let rs := signed && n.msb
  let m := if rs then negNat n.toNat else n.toNat
  let k := min sIn.toNat 32
  { qs := signed && (n.msb ^^ d.msb), rs := rs,
    r := BitVec.ofNat 64 (m >>> (2 * k)),
    q := BitVec.ofNat 64 (m <<< (64 - 2 * k)) }

/-- The largest k in 0..3 with k·d ≤ r, and 0 when d = 0 (R126). -/
def radix4Digit (d r : Nat) : Nat :=
  if d = 0 then 0 else if 3 * d ≤ r then 3 else if 2 * d ≤ r then 2 else if d ≤ r then 1 else 0

/-- DSTEP (R126). -/
def divStep (q r d : Word) (qs rs : Bool) : Word × Word :=
  let dd := if qs ^^ rs then negNat d.toNat else d.toNat
  let rr := 4 * r.toNat + q.toNat / 2 ^ 62
  let k := radix4Digit dd rr
  (BitVec.ofNat 64 (q.toNat * 4 % 2 ^ 64 + k), BitVec.ofNat 64 (rr - k * dd))

/-- DFIN: quotient, remainder and the flag (R127). -/
def divFin (q r d : Word) (qs rs : Bool) : Word × Word × Nat :=
  let rem := if rs then -r else r
  if d = 0 then (0, rem, flagIZ)
  else (if qs then -q else q, rem, if rs && !qs && q == 0x8000000000000000#64 then flagIV else 0)

/-- DNORM: the number of steps that suffice (R128, R129). -/
def divCount (ct : Bool) (a b : Word) : Word :=
  if ct || b == 0 then 32
  else
    let ln := bitLength a.toNat
    let ld := if b.msb then bitLength (negNat b.toNat) else bitLength b.toNat
    BitVec.ofNat 64 (min 32 ((ln + 2 - ld) / 2))

end Sys2Proof.Machine
end

