-- ==== Sys2Proof/Machine/Int.lean ====
section
/-! DEFINITION. The integer, predicate, multiply and division operations (02, R88 to R93; 03, R122 to R129). -/

namespace Sys2Proof.Machine

open Sys2Proof

/-- A result of an operation that may overflow: the wrapped value, IV and its trap where the exact value does not
fit (R122). -/
def ivres (a : Arch) (rd : BitVec 6) (v : Word) (exact : Int) : OpRes :=
  ⟨[⟨.g rd.toNat, v.setWidth 128⟩], ivIf exact, intTrap a.mood (ivIf exact)⟩

/-- A result in the current level's sp. -/
def spres (a : Arch) (v : Word) : OpRes := ⟨[⟨.sp a.pl, v.setWidth 128⟩], 0, none⟩

/-- What a prepare step writes: gQ, gR and the sign bits (R125). -/
def divPrepRes (gq gr : BitVec 6) (d : DivState) : OpRes :=
  ⟨[⟨.g gq.toNat, d.q.setWidth 128⟩, ⟨.g gr.toNat, d.r.setWidth 128⟩,
    ⟨.divSigns, BitVec.ofNat 128 (2 * bnat d.qs + bnat d.rs)⟩], 0, none⟩

/-- What a division step writes (R126). -/
def divStepRes (gq gr : BitVec 6) (d : Word × Word) : OpRes :=
  ⟨[⟨.g gq.toNat, d.1.setWidth 128⟩, ⟨.g gr.toNat, d.2.setWidth 128⟩], 0, none⟩

/-- What DFIN writes, its flag and its trap (R127). -/
def divFinRes (a : Arch) (gq gr : BitVec 6) (d : Word × Word × Nat) : OpRes :=
  ⟨[⟨.g gq.toNat, d.1.setWidth 128⟩, ⟨.g gr.toNat, d.2.1.setWidth 128⟩], d.2.2, intTrap a.mood d.2.2⟩

/-- ADD: the wrapped sum (R90). -/
def execAdd (x : Slot) (rd : BitVec 6) (ra : BitVec 6) (rb : BitVec 6) (s : State) : Out :=
  .next (opReg x (encode (.add x rd ra rb)) 1 (fun a => gres rd ((a.rg ra.toNat) + (a.rg rb.toNat))) s)

/-- SUB: the wrapped difference (R90). -/
def execSub (x : Slot) (rd : BitVec 6) (ra : BitVec 6) (rb : BitVec 6) (s : State) : Out :=
  .next (opReg x (encode (.sub x rd ra rb)) 1 (fun a => gres rd ((a.rg ra.toNat) - (a.rg rb.toNat))) s)

/-- ADDV: the wrapped sum, IV on signed overflow (R90, R122). -/
def execAddv (x : Slot) (rd : BitVec 6) (ra : BitVec 6) (rb : BitVec 6) (s : State) : Out :=
  .next (opReg x (encode (.addv x rd ra rb)) 1 (fun a => ivres a rd ((a.rg ra.toNat) + (a.rg rb.toNat)) ((a.rg ra.toNat).toInt + (a.rg rb.toNat).toInt)) s)

/-- SUBV: the wrapped difference, IV on signed overflow (R90, R122). -/
def execSubv (x : Slot) (rd : BitVec 6) (ra : BitVec 6) (rb : BitVec 6) (s : State) : Out :=
  .next (opReg x (encode (.subv x rd ra rb)) 1 (fun a => ivres a rd ((a.rg ra.toNat) - (a.rg rb.toNat)) ((a.rg ra.toNat).toInt - (a.rg rb.toNat).toInt)) s)

/-- AND (R90). -/
def execAnd (x : Slot) (rd : BitVec 6) (ra : BitVec 6) (rb : BitVec 6) (s : State) : Out :=
  .next (opReg x (encode (.and x rd ra rb)) 1 (fun a => gres rd ((a.rg ra.toNat) &&& (a.rg rb.toNat))) s)

/-- OR (R90). -/
def execOr (x : Slot) (rd : BitVec 6) (ra : BitVec 6) (rb : BitVec 6) (s : State) : Out :=
  .next (opReg x (encode (.or x rd ra rb)) 1 (fun a => gres rd ((a.rg ra.toNat) ||| (a.rg rb.toNat))) s)

/-- XOR (R90). -/
def execXor (x : Slot) (rd : BitVec 6) (ra : BitVec 6) (rb : BitVec 6) (s : State) : Out :=
  .next (opReg x (encode (.xor x rd ra rb)) 1 (fun a => gres rd ((a.rg ra.toNat) ^^^ (a.rg rb.toNat))) s)

/-- ANDN (R90). -/
def execAndn (x : Slot) (rd : BitVec 6) (ra : BitVec 6) (rb : BitVec 6) (s : State) : Out :=
  .next (opReg x (encode (.andn x rd ra rb)) 1 (fun a => gres rd ((a.rg ra.toNat) &&& ~~~(a.rg rb.toNat))) s)

/-- SHL: 0 when the amount is 64 or more (R90, R123). -/
def execShl (x : Slot) (rd : BitVec 6) (ra : BitVec 6) (rb : BitVec 6) (s : State) : Out :=
  .next (opReg x (encode (.shl x rd ra rb)) 1 (fun a => gres rd (shl64 (a.rg ra.toNat) (a.rg rb.toNat))) s)

/-- SHR: 0 when the amount is 64 or more (R90, R123). -/
def execShr (x : Slot) (rd : BitVec 6) (ra : BitVec 6) (rb : BitVec 6) (s : State) : Out :=
  .next (opReg x (encode (.shr x rd ra rb)) 1 (fun a => gres rd (shr64 (a.rg ra.toNat) (a.rg rb.toNat))) s)

/-- SAR: sign fill when the amount is 64 or more (R90, R123). -/
def execSar (x : Slot) (rd : BitVec 6) (ra : BitVec 6) (rb : BitVec 6) (s : State) : Out :=
  .next (opReg x (encode (.sar x rd ra rb)) 1 (fun a => gres rd (sar64 (a.rg ra.toNat) (a.rg rb.toNat))) s)

/-- ROR by the low six bits of the amount (R90). -/
def execRor (x : Slot) (rd : BitVec 6) (ra : BitVec 6) (rb : BitVec 6) (s : State) : Out :=
  .next (opReg x (encode (.ror x rd ra rb)) 1 (fun a => gres rd (ror64 (a.rg ra.toNat) (a.rg rb.toNat))) s)

/-- MIN: the signed minimum (R90). -/
def execMin (x : Slot) (rd : BitVec 6) (ra : BitVec 6) (rb : BitVec 6) (s : State) : Out :=
  .next (opReg x (encode (.min x rd ra rb)) 1 (fun a => gres rd (smin (a.rg ra.toNat) (a.rg rb.toNat))) s)

/-- MAX: the signed maximum (R90). -/
def execMax (x : Slot) (rd : BitVec 6) (ra : BitVec 6) (rb : BitVec 6) (s : State) : Out :=
  .next (opReg x (encode (.max x rd ra rb)) 1 (fun a => gres rd (smax (a.rg ra.toNat) (a.rg rb.toNat))) s)

/-- MINU: the unsigned minimum (R90). -/
def execMinu (x : Slot) (rd : BitVec 6) (ra : BitVec 6) (rb : BitVec 6) (s : State) : Out :=
  .next (opReg x (encode (.minu x rd ra rb)) 1 (fun a => gres rd (umin (a.rg ra.toNat) (a.rg rb.toNat))) s)

/-- MAXU: the unsigned maximum (R90). -/
def execMaxu (x : Slot) (rd : BitVec 6) (ra : BitVec 6) (rb : BitVec 6) (s : State) : Out :=
  .next (opReg x (encode (.maxu x rd ra rb)) 1 (fun a => gres rd (umax (a.rg ra.toNat) (a.rg rb.toNat))) s)

/-- NEG: 0 minus the operand, wrapped (R90). -/
def execNeg (x : Slot) (rd : BitVec 6) (ra : BitVec 6) (s : State) : Out :=
  .next (opReg x (encode (.neg x rd ra)) 1 (fun a => gres rd (-(a.rg ra.toNat))) s)

/-- NEGV: IV for the most negative value (R90, R122). -/
def execNegv (x : Slot) (rd : BitVec 6) (ra : BitVec 6) (s : State) : Out :=
  .next (opReg x (encode (.negv x rd ra)) 1 (fun a => ivres a rd (-(a.rg ra.toNat)) (-(a.rg ra.toNat).toInt)) s)

/-- CLZ: leading zeros, 0 to 64 (R90). -/
def execClz (x : Slot) (rd : BitVec 6) (ra : BitVec 6) (s : State) : Out :=
  .next (opReg x (encode (.clz x rd ra)) 1 (fun a => gres rd (clz64 (a.rg ra.toNat))) s)

/-- CTZ: trailing zeros, 0 to 64 (R90). -/
def execCtz (x : Slot) (rd : BitVec 6) (ra : BitVec 6) (s : State) : Out :=
  .next (opReg x (encode (.ctz x rd ra)) 1 (fun a => gres rd (ctz64 (a.rg ra.toNat))) s)

/-- POPC: the number of 1 bits (R90). -/
def execPopc (x : Slot) (rd : BitVec 6) (ra : BitVec 6) (s : State) : Out :=
  .next (opReg x (encode (.popc x rd ra)) 1 (fun a => gres rd (popc64 (a.rg ra.toNat))) s)

/-- BSWAP: the bytes in reverse order (R90). -/
def execBswap (x : Slot) (rd : BitVec 6) (ra : BitVec 6) (s : State) : Out :=
  .next (opReg x (encode (.bswap x rd ra)) 1 (fun a => gres rd (bswap64 (a.rg ra.toNat))) s)

/-- ADDI with the sign-extended IMM12 (R91). -/
def execAddi (x : Slot) (rd : BitVec 6) (ra : BitVec 6) (imm : BitVec 12) (s : State) : Out :=
  .next (opReg x (encode (.addi x rd ra imm)) 1 (fun a => gres rd ((a.rg ra.toNat) + sext 12 imm)) s)

/-- ANDI with the sign-extended IMM10 (R91). -/
def execAndi (x : Slot) (rd : BitVec 6) (ra : BitVec 6) (imm : BitVec 10) (s : State) : Out :=
  .next (opReg x (encode (.andi x rd ra imm)) 1 (fun a => gres rd ((a.rg ra.toNat) &&& sext 10 imm)) s)

/-- ORI with the sign-extended IMM10 (R91). -/
def execOri (x : Slot) (rd : BitVec 6) (ra : BitVec 6) (imm : BitVec 10) (s : State) : Out :=
  .next (opReg x (encode (.ori x rd ra imm)) 1 (fun a => gres rd ((a.rg ra.toNat) ||| sext 10 imm)) s)

/-- XORI with the sign-extended IMM10 (R91). -/
def execXori (x : Slot) (rd : BitVec 6) (ra : BitVec 6) (imm : BitVec 10) (s : State) : Out :=
  .next (opReg x (encode (.xori x rd ra imm)) 1 (fun a => gres rd ((a.rg ra.toNat) ^^^ sext 10 imm)) s)

/-- SHLI by SH, 0 to 63 (R91). -/
def execShli (x : Slot) (rd : BitVec 6) (ra : BitVec 6) (sh : BitVec 6) (s : State) : Out :=
  .next (opReg x (encode (.shli x rd ra sh)) 1 (fun a => gres rd (shl64 (a.rg ra.toNat) (BitVec.ofNat 64 sh.toNat))) s)

/-- SHRI by SH, 0 to 63 (R91). -/
def execShri (x : Slot) (rd : BitVec 6) (ra : BitVec 6) (sh : BitVec 6) (s : State) : Out :=
  .next (opReg x (encode (.shri x rd ra sh)) 1 (fun a => gres rd (shr64 (a.rg ra.toNat) (BitVec.ofNat 64 sh.toNat))) s)

/-- SARI by SH, 0 to 63 (R91). -/
def execSari (x : Slot) (rd : BitVec 6) (ra : BitVec 6) (sh : BitVec 6) (s : State) : Out :=
  .next (opReg x (encode (.sari x rd ra sh)) 1 (fun a => gres rd (sar64 (a.rg ra.toNat) (BitVec.ofNat 64 sh.toNat))) s)

/-- RORI by SH, 0 to 63 (R91). -/
def execRori (x : Slot) (rd : BitVec 6) (ra : BitVec 6) (sh : BitVec 6) (s : State) : Out :=
  .next (opReg x (encode (.rori x rd ra sh)) 1 (fun a => gres rd (ror64 (a.rg ra.toNat) (BitVec.ofNat 64 sh.toNat))) s)

/-- MOVZ: IMM16 at its half-word, other bits 0 (R91). -/
def execMovz (x : Slot) (rd : BitVec 6) (hw : BitVec 2) (imm : BitVec 16) (s : State) : Out :=
  .next (opReg x (encode (.movz x rd hw imm)) 1 (fun _ => gres rd (BitVec.ofNat 64 (imm.toNat * 2 ^ (16 * hw.toNat)))) s)

/-- MOVK: one half-word of rd replaced (R91). -/
def execMovk (x : Slot) (rd : BitVec 6) (hw : BitVec 2) (imm : BitVec 16) (s : State) : Out :=
  .next (opReg x (encode (.movk x rd hw imm)) 1 (fun a => gres rd (setFld (a.rg rd.toNat) (16 * hw.toNat + 15) (16 * hw.toNat) imm.toNat)) s)

/-- SPADD: eight times the sign-extended IMM16 added to the current sp (R88). -/
def execSpadd (x : Slot) (imm : BitVec 16) (s : State) : Out :=
  .next (opReg x (encode (.spadd x imm)) 1 (fun a => spres a (a.cr (spKey a.pl) + 8 * sext 16 imm)) s)

/-- CMP.EQ (R92). -/
def execCmpEq (x : Slot) (pd : BitVec 3) (ra : BitVec 6) (rb : BitVec 6) (s : State) : Out :=
  .next (opReg x (encode (.cmpEq x pd ra rb)) 1 (fun a => pres pd ((a.rg ra.toNat) == (a.rg rb.toNat))) s)

/-- CMP.NE (R92). -/
def execCmpNe (x : Slot) (pd : BitVec 3) (ra : BitVec 6) (rb : BitVec 6) (s : State) : Out :=
  .next (opReg x (encode (.cmpNe x pd ra rb)) 1 (fun a => pres pd ((a.rg ra.toNat) != (a.rg rb.toNat))) s)

/-- CMP.LT, signed (R92). -/
def execCmpLt (x : Slot) (pd : BitVec 3) (ra : BitVec 6) (rb : BitVec 6) (s : State) : Out :=
  .next (opReg x (encode (.cmpLt x pd ra rb)) 1 (fun a => pres pd (decide ((a.rg ra.toNat).toInt < (a.rg rb.toNat).toInt))) s)

/-- CMP.LE, signed (R92). -/
def execCmpLe (x : Slot) (pd : BitVec 3) (ra : BitVec 6) (rb : BitVec 6) (s : State) : Out :=
  .next (opReg x (encode (.cmpLe x pd ra rb)) 1 (fun a => pres pd (decide ((a.rg ra.toNat).toInt ≤ (a.rg rb.toNat).toInt))) s)

/-- CMP.LTU, unsigned (R92). -/
def execCmpLtu (x : Slot) (pd : BitVec 3) (ra : BitVec 6) (rb : BitVec 6) (s : State) : Out :=
  .next (opReg x (encode (.cmpLtu x pd ra rb)) 1 (fun a => pres pd (decide ((a.rg ra.toNat).toNat < (a.rg rb.toNat).toNat))) s)

/-- CMP.LEU, unsigned (R92). -/
def execCmpLeu (x : Slot) (pd : BitVec 3) (ra : BitVec 6) (rb : BitVec 6) (s : State) : Out :=
  .next (opReg x (encode (.cmpLeu x pd ra rb)) 1 (fun a => pres pd (decide ((a.rg ra.toNat).toNat ≤ (a.rg rb.toNat).toNat))) s)

/-- TST (R92). -/
def execTst (x : Slot) (pd : BitVec 3) (ra : BitVec 6) (rb : BitVec 6) (s : State) : Out :=
  .next (opReg x (encode (.tst x pd ra rb)) 1 (fun a => pres pd (((a.rg ra.toNat) &&& (a.rg rb.toNat)) != 0)) s)

/-- PAND (R92). -/
def execPand (x : Slot) (pd : BitVec 3) (pa : BitVec 3) (pb : BitVec 3) (s : State) : Out :=
  .next (opReg x (encode (.pand x pd pa pb)) 1 (fun a => pres pd ((a.rp pa.toNat) && (a.rp pb.toNat))) s)

/-- POR (R92). -/
def execPor (x : Slot) (pd : BitVec 3) (pa : BitVec 3) (pb : BitVec 3) (s : State) : Out :=
  .next (opReg x (encode (.por x pd pa pb)) 1 (fun a => pres pd ((a.rp pa.toNat) || (a.rp pb.toNat))) s)

/-- PXOR (R92). -/
def execPxor (x : Slot) (pd : BitVec 3) (pa : BitVec 3) (pb : BitVec 3) (s : State) : Out :=
  .next (opReg x (encode (.pxor x pd pa pb)) 1 (fun a => pres pd ((a.rp pa.toNat) != (a.rp pb.toNat))) s)

/-- PANDN (R92). -/
def execPandn (x : Slot) (pd : BitVec 3) (pa : BitVec 3) (pb : BitVec 3) (s : State) : Out :=
  .next (opReg x (encode (.pandn x pd pa pb)) 1 (fun a => pres pd ((a.rp pa.toNat) && !(a.rp pb.toNat))) s)

/-- CMPI.EQ (R92). -/
def execCmpiEq (x : Slot) (pd : BitVec 3) (ra : BitVec 6) (imm : BitVec 12) (s : State) : Out :=
  .next (opReg x (encode (.cmpiEq x pd ra imm)) 1 (fun a => pres pd ((a.rg ra.toNat) == (sext 12 imm))) s)

/-- CMPI.NE (R92). -/
def execCmpiNe (x : Slot) (pd : BitVec 3) (ra : BitVec 6) (imm : BitVec 12) (s : State) : Out :=
  .next (opReg x (encode (.cmpiNe x pd ra imm)) 1 (fun a => pres pd ((a.rg ra.toNat) != (sext 12 imm))) s)

/-- CMPI.LT, signed (R92). -/
def execCmpiLt (x : Slot) (pd : BitVec 3) (ra : BitVec 6) (imm : BitVec 12) (s : State) : Out :=
  .next (opReg x (encode (.cmpiLt x pd ra imm)) 1 (fun a => pres pd (decide ((a.rg ra.toNat).toInt < (sext 12 imm).toInt))) s)

/-- CMPI.LE, signed (R92). -/
def execCmpiLe (x : Slot) (pd : BitVec 3) (ra : BitVec 6) (imm : BitVec 12) (s : State) : Out :=
  .next (opReg x (encode (.cmpiLe x pd ra imm)) 1 (fun a => pres pd (decide ((a.rg ra.toNat).toInt ≤ (sext 12 imm).toInt))) s)

/-- CMPI.GT, signed (R92). -/
def execCmpiGt (x : Slot) (pd : BitVec 3) (ra : BitVec 6) (imm : BitVec 12) (s : State) : Out :=
  .next (opReg x (encode (.cmpiGt x pd ra imm)) 1 (fun a => pres pd (decide ((sext 12 imm).toInt < (a.rg ra.toNat).toInt))) s)

/-- CMPI.GE, signed (R92). -/
def execCmpiGe (x : Slot) (pd : BitVec 3) (ra : BitVec 6) (imm : BitVec 12) (s : State) : Out :=
  .next (opReg x (encode (.cmpiGe x pd ra imm)) 1 (fun a => pres pd (decide ((sext 12 imm).toInt ≤ (a.rg ra.toNat).toInt))) s)

/-- CMPI.LTU, unsigned (R92). -/
def execCmpiLtu (x : Slot) (pd : BitVec 3) (ra : BitVec 6) (imm : BitVec 12) (s : State) : Out :=
  .next (opReg x (encode (.cmpiLtu x pd ra imm)) 1 (fun a => pres pd (decide ((a.rg ra.toNat).toNat < (sext 12 imm).toNat))) s)

/-- CMPI.GEU, unsigned (R92). -/
def execCmpiGeu (x : Slot) (pd : BitVec 3) (ra : BitVec 6) (imm : BitVec 12) (s : State) : Out :=
  .next (opReg x (encode (.cmpiGeu x pd ra imm)) 1 (fun a => pres pd (decide ((sext 12 imm).toNat ≤ (a.rg ra.toNat).toNat))) s)

/-- MUL: the low half of the product (R93). -/
def execMul (x : Slot) (rd : BitVec 6) (ra : BitVec 6) (rb : BitVec 6) (s : State) : Out :=
  .next (opReg x (encode (.mul x rd ra rb)) 3 (fun a => gres rd ((a.rg ra.toNat) * (a.rg rb.toNat))) s)

/-- MULH: the high half of the signed product (R93). -/
def execMulh (x : Slot) (rd : BitVec 6) (ra : BitVec 6) (rb : BitVec 6) (s : State) : Out :=
  .next (opReg x (encode (.mulh x rd ra rb)) 3 (fun a => gres rd (BitVec.ofInt 64 ((a.rg ra.toNat).toInt * (a.rg rb.toNat).toInt / 2 ^ 64))) s)

/-- MULHU: the high half of the unsigned product (R93). -/
def execMulhu (x : Slot) (rd : BitVec 6) (ra : BitVec 6) (rb : BitVec 6) (s : State) : Out :=
  .next (opReg x (encode (.mulhu x rd ra rb)) 3 (fun a => gres rd (BitVec.ofNat 64 ((a.rg ra.toNat).toNat * (a.rg rb.toNat).toNat / 2 ^ 64))) s)

/-- MULV: the low half, IV when the signed product does not fit (R93, R122). -/
def execMulv (x : Slot) (rd : BitVec 6) (ra : BitVec 6) (rb : BitVec 6) (s : State) : Out :=
  .next (opReg x (encode (.mulv x rd ra rb)) 3 (fun a => ivres a rd ((a.rg ra.toNat) * (a.rg rb.toNat)) ((a.rg ra.toNat).toInt * (a.rg rb.toNat).toInt)) s)

/-- DIVS.P prepares a signed division (R93, R125). -/
def execDivsP (x : Slot) (gq : BitVec 6) (gr : BitVec 6) (gd : BitVec 6) (s : State) : Out :=
  .next (opReg x (encode (.divsP x gq gr gd)) 1 (fun a => divPrepRes gq gr (divPrepare true (a.rg gq.toNat) (a.rg gr.toNat) (a.rg gd.toNat))) s)

/-- DIVU.P prepares an unsigned division (R93, R125). -/
def execDivuP (x : Slot) (gq : BitVec 6) (gr : BitVec 6) (gd : BitVec 6) (s : State) : Out :=
  .next (opReg x (encode (.divuP x gq gr gd)) 1 (fun a => divPrepRes gq gr (divPrepare false (a.rg gq.toNat) (a.rg gr.toNat) (a.rg gd.toNat))) s)

/-- DSTEP: one radix-4 step (R93, R126). -/
def execDstep (x : Slot) (gq : BitVec 6) (gr : BitVec 6) (gd : BitVec 6) (s : State) : Out :=
  .next (opReg x (encode (.dstep x gq gr gd)) 1 (fun a => divStepRes gq gr (divStep (a.rg gq.toNat) (a.rg gr.toNat) (a.rg gd.toNat) (flag (a.cr 1) 15) (flag (a.cr 1) 14))) s)

/-- DFIN: signs and edge rules of a division (R93, R127). -/
def execDfin (x : Slot) (gq : BitVec 6) (gr : BitVec 6) (gd : BitVec 6) (s : State) : Out :=
  .next (opReg x (encode (.dfin x gq gr gd)) 1 (fun a => divFinRes a gq gr (divFin (a.rg gq.toNat) (a.rg gr.toNat) (a.rg gd.toNat) (flag (a.cr 1) 15) (flag (a.cr 1) 14))) s)

/-- DNORM: the number of steps a division needs (R93, R128, R129). -/
def execDnorm (x : Slot) (rd : BitVec 6) (ra : BitVec 6) (rb : BitVec 6) (s : State) : Out :=
  .next (opReg x (encode (.dnorm x rd ra rb)) 1 (fun a => gres rd (divCount a.mood.ct (a.rg ra.toNat) (a.rg rb.toNat))) s)

end Sys2Proof.Machine
end

