-- ==== Sys2Proof/Machine/Ngatra.lean ====
section
/-! DEFINITION. The Ngatra protocol: flits, credits and replay, the messages of every type, HELLO and the forming of the pasture (09, R414 to R427). -/

namespace Sys2Proof.Machine

open Sys2Proof

/-! ### Receiving (R415 to R419, R426, R427) -/

/-- Whether a link carries Ngatra traffic now. -/
def State.carries (s : State) (p : Nat) : Bool :=
  decide (p % 4 = 0 ∧ p < 28) && s.groupActive (p / 4) && s.linkState p == 2

/-- The slots of one class counted as freed. -/
def addFreed (l : List Nat) (c n : Nat) : List Nat := l.set c (lget 0 l c + n)

/-- A message of `slots` slots arrives on the link of port `p`: a flit already taken, or one out of order, is dropped
(R419, R426), and so is a message on a direct link before its marker (R427). A message for another module goes on with
HOP cleared (R426). -/
def State.receive (s : State) (p : Nat) (h : Hdr) (m : Msg) (k : State → State) : State :=
  let l := s.lnk p
  let first := decide (h.place = 0) && decide ((h.seq + 4096 - l.good) % 4096 ≠ 0 ∧ (h.seq + 4096 - l.good) % 4096 ≤ 1 + m.slots / 15)
  let more := decide (h.seq = l.good ∧ h.place = l.taken) && h.place != 0
  if !s.carries p ∨ (s.pasture.marks.contains (s.groupPeer (p / 4)) ∧ m.mtype ≠ 3) ∨ !(first || more) then s
  else
    let cls := if h.hop then 5 else m.cls
    let s := s.modLnk p fun l => { l with good := h.seq, taken := h.place + 1, freed := addFreed l.freed cls m.slots }
    if h.dst = s.ownModule then k s else s.post { m with hop := false }

/-- A received message as it would be sent on. -/
def hdrMsg (h : Hdr) (mtype param : Nat) (body : List Word) : Msg :=
  { mtype := mtype, src := h.src, dst := h.dst, hop := false, tid := h.tid, addr := h.addr, param := param, body := body }

/-- The line a message is about. -/
def hdrLine (h : Hdr) : Nat := h.addr / 64

/-! ### The link layer (R414, R417 to R420) -/

/-- NULL: padding of a payload flit (R414, R416). -/
def execNull (p seq : Nat) (s : State) : Out :=
  let l := s.lnk p
  .next (if s.carries p ∧ seq = (l.good + 1) % 4096 then s.modLnk p fun l => { l with good := seq, taken := 0 } else s)

/-- An Ngatra link that makes no progress fails after four replays of the same flit; each replay is counted and strikes
the link (R419, R420, R441). -/
def State.replayLink (s : State) (p : Nat) : State :=
  let s := (s.bump .lkReplay p).strike 10 p
  let n := (s.lnk p).stuck + 1
  let s := s.modLnk p fun l => { l with stuck := n }
  if 4 ≤ n then (s.lkError p 9 0 0).linkDown p 1 else s

/-- LINK: acknowledgements free the replay buffer, a NAK asks for a replay, credits come back (R417 to R419). -/
def execLink (p : Nat) (nak ackv : Bool) (ackseq : Nat) (credits : List Nat) (s : State) : Out :=
  if !s.carries p then .next s
  else
    let s := s.modLnk p fun l =>
      let kept := if ackv then l.kept.filter fun x => decide (0 < (x.1 + 4096 - ackseq) % 4096 ∧ (x.1 + 4096 - ackseq) % 4096 < 2048) else l.kept
      { l with kept := kept, stuck := if kept.length < l.kept.length then 0 else l.stuck,
               credits := (List.range 6).map fun c => lget 0 l.credits c + lget 0 credits c }
    .next (if nak then s.replayLink p else s).pumpMsgs

/-- BAD_FLIT: corrected by FEC, a strike against the lane; or bad, and NAK is sent and the link struck (R414, R419, R428,
R441). -/
def execBadFlit (p : Nat) (lane : Option Nat) (s : State) : Out :=
  if s.linkRole p ≠ 2 ∨ s.linkState p ≠ 2 ∨ s.lowPort p ≠ p then .next s
  else match lane with
  | some i => .next (if i < 2 ^ (s.rfld .lkCfg p 0 10 8 + 1) then (s.bump .lkCorr p).strike 9 (2 * p + i) else s)
  | none => .next ((s.modLnk p fun l => { l with said := some (true, true, l.good, l.freed), freed := [0, 0, 0, 0, 0, 0] }).strike 10 p)

/-- ACK_TIMER: the receiver returns ACKV and the slots it has freed (R417, R419). -/
def execAckTimer (p : Nat) (s : State) : Out :=
  .next (if s.carries p then s.modLnk p fun l => { l with said := some (false, true, l.good, l.freed), freed := [0, 0, 0, 0, 0, 0] } else s)

/-- REPLAY_TIMEOUT: no ACK for 1 µs (R419, R420). -/
def execReplayTimeout (p : Nat) (s : State) : Out :=
  .next (if s.carries p ∧ !(s.lnk p).kept.isEmpty then s.replayLink p else s)

/-! ### Forming the pasture (R421 to R427) -/

/-- The designation of pasture group g ends that of any other link to the same peer, which has failed there (R423). -/
def State.undesignate (s : State) (g d : Nat) : State :=
  ((List.range 7).filter fun i => i != g && s.rbit .lkPstat 0 0 (31 + i) && s.groupPeer i == d).foldl (fun s i =>
    (s.linkDown (4 * i) 1).rput .lkPstat 0 0 (31 + i) (31 + i) 0) s

/-- HELLO: a candidate group is refused, or accepted as a standby link and made the active one under R423. -/
def execHello (p : Nat) (h : Hello) (s : State) : Out :=
  let g := p / 4
  let ps := s.rget .lkPstat
  let own := s.ownModule
  let size := fld ps 57 54
  if p % 4 ≠ 0 ∨ 28 ≤ p ∨ size ≤ 1 ∨ s.linkRole p = 1 then .next s
  else if h.src = own ∨ size ≤ h.src ∨ h.size + 1 ≠ size ∨ h.ver ≠ 1 then .next (s.raise 56)
  else if flag ps (31 + g) ∨ flag ps (24 + g) then
    if h.act ∧ h.src < own ∧ flag ps (24 + g) ∧ s.groupPeer g = h.src then
      let s := ((s.undesignate g h.src).rput .lkPstat 0 0 (31 + g) (31 + g) 1).rput .lkPstat 0 0 (24 + g) (24 + g) 0
      .next (if s.linkState p = 2 then s.activate g else s)
    else .next s
  else
    let w := if h.width = 8 then 2 else if h.width = 4 then 1 else 0
    let taken := (List.range 7).any fun i => flag ps (31 + i) && s.groupPeer i == h.src
    let act := (own < h.src && !taken) || (h.src < own && h.act)
    let s := if act then s.undesignate g h.src else s
    let s := (rangeFrom p (2 ^ w)).foldl (fun s q =>
      let c := setFld (setFld (s.rget .lkCfg q) 13 12 2) 10 8 w
      let s := (s.rset .lkCfg q 0 c).rset .lkCfgD q 0 c
      if q = p then s else s.rset .lkStat q 0 (BitVec.ofNat 64 (5 * 2 ^ 61))) s
    let s := s.rput .lkStat p 0 50 48 h.src
    let s := if act then s.rput .lkPstat 0 0 (31 + g) (31 + g) 1 else s.rput .lkPstat 0 0 (24 + g) (24 + g) 1
    .next (s.setLink p 1)

/-- Messages that do not lie wholly in flits up to a SEQ. -/
def unsent (kept : List (Nat × Msg)) (lastseq : Nat) : List Msg :=
  (kept.filter fun x => decide (0 < (x.1 + 4096 - lastseq) % 4096 ∧ (x.1 + 4096 - lastseq) % 4096 < 2048)).map fun x => x.2

/-- What ROUTE says: the peer's side of a resynchronisation or its marker, or a link of a neighbour (R426, R427). -/
def State.routeMsg (s : State) (src lost lastseq : Nat) (down mark : Bool) : State :=
  if lost = s.ownModule then
    let s := if down ∧ (tfind s.pasture.resync src).isNone then
      match (List.range 7).find? fun g => s.groupActive g && s.groupPeer g == src with
      | some g => s.linkDown (4 * g) 1
      | none => s
    else s
    let s := if down then
      let again := unsent ((tfind s.pasture.resync src).getD []) lastseq
      { s.modPa fun x => { x with resync := tdel x.resync src } with msgs := again ++ s.msgs }
    else s
    let s := if mark then s.modPa fun x => { x with marks := x.marks.filter fun m => m != src } else s
    s.pumpMsgs
  else
    (s.modPa fun x => { x with nbrs := tput 0 x.nbrs src (putBits (tget 0 x.nbrs src) lost lost (bnat (!down))) }).updateRoutes

/-- ROUTE. -/
def execRoute (p : Nat) (h : Hdr) (lost lastseq : Nat) (down mark : Bool) (s : State) : Out :=
  .next (s.receive p h (hdrMsg h 3 (lost * 2 ^ 48 + lastseq * 2 ^ 36 + bnat down * 2 ^ 35 + bnat mark * 2 ^ 34) []) fun s =>
    s.routeMsg h.src lost lastseq down mark)

/-- FORMATION_END: routes are set, STATE shows whether every module is present (R424). -/
def execFormationEnd (s : State) : Out :=
  let ps := s.rget .lkPstat
  if fld ps 63 61 ≠ 1 then .next s
  else
    let s := s.updateRoutes
    let all := (List.range (fld ps 57 54)).all s.present
    .next ((s.rput .lkPstat 0 0 63 61 (if all then 2 else 3)).raise 56)

/-! ### Requests of other modules (R206, R209, R416) -/

/-- A request for memory of this module, or NACK where no memory backs the address (R416). -/
def State.homeServe (s : State) (h : Hdr) (cached : Bool) (k : State → State) : State :=
  if memModule h.addr ≠ s.ownModule ∨ !inMemRange h.addr then s.send 0x1B h.src h.tid h.addr (2 ^ 48) []
  else if (s.unbacked h.addr).isSome ∨ (cached ∧ !s.mainMem h.addr) then s.send 0x1B h.src h.tid h.addr 0 []
  else k s

/-- RDS. -/
def execRds (p : Nat) (h : Hdr) (pe : PieceErr) (s : State) : Out :=
  .next (s.receive p h (hdrMsg h 0x08 0 []) fun s => s.homeServe h true fun s => s.serve (28 + h.src) h.tid (hdrLine h) .shared pe)

/-- RDO. -/
def execRdo (p : Nat) (h : Hdr) (full : Bool) (pe : PieceErr) (s : State) : Out :=
  .next (s.receive p h (hdrMsg h 0x09 (bnat full * 2 ^ 50) []) fun s => s.homeServe h true fun s =>
    s.serve (28 + h.src) h.tid (hdrLine h) (if full then .ownNoData else .own) pe)

/-- UPG. -/
def execUpg (p : Nat) (h : Hdr) (pe : PieceErr) (s : State) : Out :=
  .next (s.receive p h (hdrMsg h 0x0A 0 []) fun s => s.homeServe h true fun s => s.serve (28 + h.src) h.tid (hdrLine h) .upgrade pe)

/-- RDU: the current value, and no cache state changes (R209); a scratchpad answers through its fabric port. -/
def execRdu (p : Nat) (h : Hdr) (pe : PieceErr) (s : State) : Out :=
  .next (s.receive p h (hdrMsg h 0x0B 0 []) fun s => s.homeServe h false fun s =>
    if s.mainMem h.addr then
      let s := if (s.dirtyCopy (hdrLine h)).isSome then s else s.pieceError (hdrLine h) pe
      let (d, poison) := s.cohLine (hdrLine h)
      s.send 0x20 h.src h.tid h.addr (bnat poison * 2 ^ 48) (lineWords d)
    else match s.spRead dieAgent ((hdrLine h) * 64) 64 .none with
      | (s, .data bs) => s.send 0x20 h.src h.tid h.addr 0 (lineWords (BitVec.ofNat 512 (ofBytes bs)))
      | (s, .poison _) => s.send 0x20 h.src h.tid h.addr (2 ^ 48) (lineWords 0))

/-- WRU: every copy is invalidated and memory written by the mask; CMP answers (R209, R416). -/
def execWru (p : Nat) (h : Hdr) (mask : BitVec 64) (data : BitVec 512) (s : State) : Out :=
  .next (s.receive p h (hdrMsg h 0x0C 0 (mask :: 0 :: lineWords data)) fun s => s.homeServe h false fun s =>
    let s := if s.mainMem h.addr then s.cohWriteMask (hdrLine h) data mask else (s.spWriteMask dieAgent (hdrLine h) data mask).1
    s.send 0x1A h.src h.tid h.addr 0 [0, 0])

/-- WB: memory is written and the entry removed (R206). -/
def execWb (p : Nat) (h : Hdr) (poison : Bool) (data : BitVec 512) (s : State) : Out :=
  .next (s.receive p h (hdrMsg h 0x0D (bnat poison * 2 ^ 48) (lineWords data)) fun s =>
    match s.dirOf (hdrLine h) with
    | some e => if e.owned && e.holders.contains (28 + h.src) then (s.memWriteLine (hdrLine h) data poison).setDir (hdrLine h) none else s
    | none => s)

/-- EVC: the holder is removed (R206). -/
def execEvc (p : Nat) (h : Hdr) (s : State) : Out :=
  .next (s.receive p h (hdrMsg h 0x0E 0 []) fun s => s.dirRemove (hdrLine h) (28 + h.src))

/-- FMOP: the home agents perform it and CMP answers (R234 to R236, R416). -/
def execFmop (p : Nat) (h : Hdr) (desc : List Word) (s : State) : Out :=
  .next (s.receive p h (hdrMsg h 0x0F 0 desc) fun s =>
    let (s, w) := s.farServe desc
    s.send 0x1A h.src h.tid h.addr 0 [w, 0])

/-! ### Snoops of another home (R206, R207, R416) -/

/-- The cache of this module that holds a line, one that owns it before others, with its copy. -/
def State.holderOf (s : State) (line : Nat) : Option (Nat × OutLine) :=
  let all := (List.range 28).filterMap fun k => (s.copyAt k line).map fun o => (k, o)
  (all.find? fun x => x.2.st != .s).orElse fun _ => all.head?

/-- Every copy of a line of another home leaves this module's caches (R199, R207, R233). -/
def State.guestDrop (s : State) (line : Nat) : State :=
  ((List.range 28).foldl (fun s k => (s.dropCopy k line).barFill k line) s).setDir line none

/-- A fill of this module that a message of transaction `tid` serves; other copies of the module go where it grants
ownership, and the guest directory follows (R206, R207). -/
def State.guestFill (s : State) (tid line : Nat) (st : LState) (d : BitVec 512) (poison : Bool) : State :=
  match s.caches.fills.find? fun x => x.line == line && x.sent == some tid && x.served.isNone with
  | none => s
  | some x =>
    let d := if x.kind == .upgrade then ((s.copyAt x.fold line).map fun o => o.data).getD d else d
    let others := (List.range 28).filter fun k => k != x.fold
    let s := if st = .s then s else others.foldl (fun s k => (s.dropCopy k line).barFill k line) s
    let s := s.modCa fun c => { c with fills := updFirst (fun y => y == x) (fun y => { y with served := some (d, st, poison) }) c.fills }
    let had := match s.dirOf line with
      | some e => if st = .s then e.holders.filter fun k => k != x.fold else []
      | none => []
    s.putDir line { owned := st != .s, holders := had ++ [x.fold] }

/-- A forward: the holder supplies the line to the requesting module, keeping S or becoming I, and answers the home. -/
def State.guestForward (s : State) (h : Hdr) (reqmod : Nat) (keep : Bool) : State :=
  match s.holderOf (hdrLine h) with
  | none => s.send 0x19 h.src h.tid h.addr 0 []
  | some (k, o) =>
    let dirty := o.st == .m
    let st : LState := if keep then .s else if dirty then .m else .e
    let s := if keep then
      let s := match s.cfind k (hdrLine h) with
        | some (w, l) => s.cset k (hdrLine h) w { l with st := .s }
        | none => s.dropTransit k (hdrLine h)
      match s.dirOf (hdrLine h) with
      | some e => s.setDir (hdrLine h) (some { e with owned := false })
      | none => s
    else s.guestDrop (hdrLine h)
    let s := if reqmod = s.ownModule then s.guestFill h.tid (hdrLine h) st o.data o.poison
      else s.send 0x20 reqmod h.tid h.addr (st.code * 2 ^ 49 + bnat o.poison * 2 ^ 48) (lineWords o.data)
    if keep && dirty then s.send 0x21 h.src h.tid h.addr (bnat o.poison * 2 ^ 48) (lineWords o.data)
    else s.send 0x19 h.src h.tid h.addr 0 []

/-- FWDS. -/
def execFwds (p : Nat) (h : Hdr) (reqmod : Nat) (s : State) : Out :=
  .next (s.receive p h (hdrMsg h 0x10 (reqmod * 2 ^ 48) []) fun s => s.guestForward h reqmod true)

/-- FWDO. -/
def execFwdo (p : Nat) (h : Hdr) (reqmod : Nat) (s : State) : Out :=
  .next (s.receive p h (hdrMsg h 0x11 (reqmod * 2 ^ 48) []) fun s => s.guestForward h reqmod false)

/-- INV. -/
def execInv (p : Nat) (h : Hdr) (s : State) : Out :=
  .next (s.receive p h (hdrMsg h 0x12 0 []) fun s =>
    match s.holderOf (hdrLine h) with
    | some (_, o) =>
      let s := s.guestDrop (hdrLine h)
      if o.st == .m then s.send 0x21 h.src h.tid h.addr (bnat o.poison * 2 ^ 48) (lineWords o.data) else s.send 0x19 h.src h.tid h.addr 0 []
    | none => (s.guestDrop (hdrLine h)).send 0x19 h.src h.tid h.addr 0 [])

/-! ### Answers (R206, R416) -/

/-- GNT: ownership without data. -/
def execGnt (p : Nat) (h : Hdr) (s : State) : Out :=
  .next (s.receive p h (hdrMsg h 0x18 (2 * 2 ^ 49) []) fun s => s.guestFill h.tid (hdrLine h) .e 0 false)

/-- A module has answered a snoop: it supplied the requester where it still was the owner. -/
def State.snoopAnswer (s : State) (h : Hdr) (data : Option (BitVec 512 × Bool)) : State :=
  let k := 28 + h.src
  match s.dirOf (hdrLine h) with
  | some e =>
    let had := e.holders.contains k
    if e.owned then s.fwdDone k (hdrLine h) (data.map fun x => (x.1, .m, x.2)) had had
    else
      let s := match data with
        | some (d, poison) => if had then s.memWriteLine (hdrLine h) d poison else s
        | none => s
      s.invDone k (hdrLine h)
  | none => s.fwdDone k (hdrLine h) none false false

/-- IACK. -/
def execIack (p : Nat) (h : Hdr) (s : State) : Out :=
  .next (s.receive p h (hdrMsg h 0x19 0 []) fun s => s.snoopAnswer h none)

/-- IACKD. -/
def execIackd (p : Nat) (h : Hdr) (poison : Bool) (data : BitVec 512) (s : State) : Out :=
  .next (s.receive p h (hdrMsg h 0x21 (bnat poison * 2 ^ 48) (lineWords data)) fun s => s.snoopAnswer h (some (data, poison)))

/-- A held access of this module whose part of transaction `tid` is answered. -/
def State.heldAnswer (s : State) (tid : Nat) (f : HeldAcc → Nat × Nat × Nat × Nat → HeldAcc) : State :=
  let g := fun (c : Core) => match c.hacc with
    | some h =>
      match h.left.find? fun x => x.2.2.2 == tid with
      | some x =>
        let h := f { h with left := h.left.filter fun y => y != x } x
        let fin := match h.kind with
          | .load _ => { h with phase := .done, value := h.loaded h.value }
          | _ => { h with phase := .answered }
        { c with hacc := some (if h.left.isEmpty then fin else h) }
      | none => c
    | none => c
  { s with cores := s.cores.map fun x => (x.1, g x.2) }

/-- An uncached read of a fold cache that is not ENABLED has its line (R209, R227). -/
def State.uncachedServed (s : State) (tid : Nat) (d : BitVec 512) (poison : Bool) : State :=
  let mine := fun (x : Fill) => x.kind == .uncached && x.sent == some tid && x.served.isNone
  s.modCa fun c => { c with fills := updFirst mine (fun x => { x with served := some (d, .s, poison) }) c.fills }

/-- DATA: STATE 0 answers an uncached read, the others serve a fill (R206, R209, R416). -/
def execData (p : Nat) (h : Hdr) (st : Nat) (poison : Bool) (data : BitVec 512) (s : State) : Out :=
  .next (s.receive p h (hdrMsg h 0x20 (st * 2 ^ 49 + bnat poison * 2 ^ 48) (lineWords data)) fun s =>
    match st with
    | 0 => (s.uncachedServed h.tid data poison).heldAnswer h.tid fun a x =>
      { a with value := a.value + ofBytes (lineBytes data (x.1 % 64) x.2.1) * 2 ^ (8 * x.2.2.1),
               mcheck := a.mcheck.orElse fun _ => if poison then some (lineMcheck (hdrLine h)) else none }
    | 1 => s.guestFill h.tid (hdrLine h) .s data poison
    | 2 => s.guestFill h.tid (hdrLine h) .e data poison
    | _ => s.guestFill h.tid (hdrLine h) .m data poison)

/-- CMP: an uncached write or a far memory operation is done (R416). -/
def execCmp (p : Nat) (h : Hdr) (word : Word) (s : State) : Out :=
  .next (s.receive p h (hdrMsg h 0x1A 0 [word, 0]) fun s => (s.heldAnswer h.tid fun a _ => a).farAnswer h.tid word)

/-- NACK: the requesting core takes the machine check of R12; a far memory operation ends FM_RANGE (R236, R416). -/
def execNack (p : Nat) (h : Hdr) (reason : Nat) (s : State) : Out :=
  .next (s.receive p h (hdrMsg h 0x1B (reason * 2 ^ 48) []) fun s =>
    (s.unserved (hdrLine h) (if reason = 0 then 3 else 1)).farAnswer h.tid (BitVec.ofNat 64 (0x101 * 2 ^ 48)))

/-! ### Forwarded commands (R368) -/

/-- PCMD: a command another module forwards to pen RPEN, run by its drover under a ledger entry; refused where the pen is
not ATTACHED or not exported to that module. -/
def execPcmd (p : Nat) (h : Hdr) (entry slot : Nat) (body : List Word) (s : State) : Out :=
  let pen := h.addr / 2 ^ 36
  let pn := s.pen pen
  let ok := decide (s.penState pen = 1) && bit (pn.word 3) h.src
  let full := ok && !(s.mayBegin pen 0 0 && s.slotFree pen entry slot)
  if full then .next s
  else .next (s.receive p h (hdrMsg h 0x28 (body.length / 4 * 2 ^ 44) body) fun s =>
    if !ok then s.send 0x29 h.src h.tid 0 (0x108 * 2 ^ 35) []
    else
      let q : Request := { ticket := 0, core := 0, tally := 0, res := 0, part := 0, pl := 2, header := 0, desc := 0 }
      let e := entryOf q pen slot 0 (some (h.src, h.tid)) body
      (s.setEntry entry (s.commandEntry e 0)).ledgerUse pen 0 true)

/-- PSTAT: the status of a forwarded command (R368). -/
def execPstat (p : Nat) (h : Hdr) (status value : Nat) (s : State) : Out :=
  .next (s.receive p h (hdrMsg h 0x29 (status * 2 ^ 35 + value * 2 ^ 3) []) fun s =>
    match s.chans.sents.find? fun x => x.2.sent && x.2.tid == h.tid && (s.pen x.2.pen).kind == 4 && bits ((s.pen x.2.pen).word 3) 58 56 == h.src with
    | some (i, e) => if s.frozen ∨ s.pathFailed e.pen e.path then s else s.recordStatus i e status 0 value value
    | none => s)

end Sys2Proof.Machine
end

