-- ==== Sys2Proof/Machine/Spdm.lean ====
section
/-! DEFINITION. The Shepherd on its I3C port: MCTP control commands and SPDM 1.2 requests (14, R615 to R618). -/

namespace Sys2Proof.Machine

open Sys2Proof

/-- An SPDM request in the state that serves it: nothing answers in RAW, and in VOID only GET_VERSION (R589); an answer due
while the cores restart is deferred (R618). -/
def State.spdm (s : State) (r : State → State × Reply) : State :=
  if s.power.held ∨ !s.shep.up ∨ s.shep.life = 0 ∨ s.shep.life = 4 then s
  else
    let (s, r) := r s
    if s.shep.restart.isSome then { s with shep := { s.shep with reply := some .notReady, deferred := some r } } else s.tell r

/-- A nonce of an SPDM answer and the signature over the transcript that it ends (R616, log entries 11 and 13). -/
def State.spdmSign (s : State) : State × List Byte × List Byte :=
  let key := (s.shep.idKeys.map fun k => k.1).getD 0
  (s.drawn, toBytes 32 (Config.freeNat s.freeCtr), Config.ecdsaSign key (Config.spdmTranscript s.freeCtr))

/-- The certificate chain of slot 0 (R616). -/
def State.slotChain (s : State) : List Byte := (s.shep.chains.getD ([], [])).1

/-- The boot part's entries (R617). -/
def Shep.bootPart (x : Shep) : List (List Word) := x.entries.filter fun e => lget 0 e 3 == 0

/-- GET_VERSION: 1.2 only; also in VOID (R589, R616). -/
def execGetVersion (s : State) : Out :=
  if s.shep.life = 4 ∧ s.shep.up ∧ !s.power.held then
    .next (if s.shep.restart.isSome then { s with shep := { s.shep with reply := some .notReady, deferred := some .version } }
      else s.tell .version)
  else .next (s.spdm fun s => (s, .version))

/-- GET_CAPABILITIES. -/
def execGetCapabilities (s : State) : Out := .next (s.spdm fun s => (s, .capabilities))
/-- NEGOTIATE_ALGORITHMS. -/
def execNegotiateAlgorithms (s : State) : Out := .next (s.spdm fun s => (s, .algorithms))
/-- GET_DIGESTS: of slot 0. -/
def execGetDigests (s : State) : Out := .next (s.spdm fun s => (s, .digests (sha384 s.slotChain)))

/-- GET_CERTIFICATE: `len` bytes of slot 0's chain from `off`. -/
def execGetCertificate (slot off len : Nat) (s : State) : Out :=
  .next (s.spdm fun s =>
    let c := s.slotChain
    (s, if slot ≠ 0 ∨ c.length ≤ off then .invalid
      else .certificate ((c.drop off).take len) (c.length - off - min len (c.length - off))))

/-- CHALLENGE: of slot 0. -/
def execChallenge (slot : Nat) (s : State) : Out :=
  .next (s.spdm fun s =>
    if slot ≠ 0 then (s, .invalid)
    else
      let (t, nonce, sig) := s.spdmSign
      (t, .challengeAuth (sha384 s.slotChain) nonce sig))

/-- GET_MEASUREMENTS of an index, signed or not (R617). -/
def execGetMeasurements (index : Nat) (signed : Bool) (s : State) : Out :=
  .next (s.spdm fun s =>
    let boot := s.shep.bootPart
    let block := fun (i : Nat) => (i + 1, entryDigest (lget [] boot i))
    let blocks :=
      if index = 0xFF then some ((List.range (min boot.length 200)).map block)
      else if index = 0xEF then some [(0xEF, recordChain s.shep.header s.shep.entries)]
      else if 1 ≤ index ∧ index ≤ 200 ∧ index ≤ boot.length then some [block (index - 1)]
      else none
    match blocks with
    | none => (s, .invalid)
    | some bs =>
      let (t, nonce, sig) := s.spdmSign
      (t, .measurements bs nonce (if signed then sig else [])))

/-- RESPOND_IF_READY: the answer that was not ready (R616, R618). -/
def execRespondIfReady (s : State) : Out :=
  if s.power.held ∨ !s.shep.up ∨ s.shep.life = 0 ∨ (s.shep.life = 4 ∧ s.shep.deferred.isNone) then .next s
  else if s.shep.restart.isSome then .next (s.tell .notReady)
  else match s.shep.deferred with
    | some r => .next { s with shep := { s.shep with reply := some r, deferred := none } }
    | none => .next (s.tell .invalid)

/-- Every other SPDM request (R616). -/
def execSpdmUnsupportedRequest (s : State) : Out := .next (s.spdm fun s => (s, .unsupported))

/-- An MCTP control command, answered by the endpoint (R615). -/
def State.mctp (s : State) (k : State → State) : State := if s.power.held ∨ !s.shep.up then s else k s

/-- Set Endpoint ID. -/
def execSetEndpointId (n : Nat) (s : State) : Out :=
  .next (s.mctp fun s => { s with shep := { s.shep with eid := n % 256, reply := some (.eid (n % 256)) } })
/-- Get Endpoint ID. -/
def execGetEndpointId (s : State) : Out := .next (s.mctp fun s => s.tell (.eid s.shep.eid))
/-- Get MCTP Version Support. -/
def execGetMctpVersionSupport (s : State) : Out := .next (s.mctp fun s => s.tell .mctpVersion)
/-- Get Message Type Support. -/
def execGetMessageTypeSupport (s : State) : Out := .next (s.mctp fun s => s.tell .mctpTypes)

end Sys2Proof.Machine
end

