-- ==== Sys2Proof/Machine/Dispatch.lean ====
section
/-! DEFINITION. One arm per command: a direct call of its meaning, or its rejection by name. -/

namespace Sys2Proof.Machine

open Sys2Proof

/-- What a command does to everything but the queue. -/
def exec (i : Instr) (s : State) : Host.Outcome State Fault Refusal :=
  match i with
  | .registerWrite a pa size v => Sys2Proof.Machine.execRegisterWrite a pa size v s
  | .mgCfgerrClear a v => Sys2Proof.Machine.execMgCfgerrClear a v s
  | .fcCommit a f v => Sys2Proof.Machine.execFcCommit a f v s
  | .tcCommit a t v => Sys2Proof.Machine.execTcCommit a t v s
  | .pxCommit a f v => Sys2Proof.Machine.execPxCommit a f v s
  | .chPathcommit a v => Sys2Proof.Machine.execChPathcommit a v s
  | .chDraincommit a v => Sys2Proof.Machine.execChDraincommit a v s
  | .lkCommit a v => Sys2Proof.Machine.execLkCommit a v s
  | .ptTrcommit a v => Sys2Proof.Machine.execPtTrcommit a v s
  | .stCommit a v => Sys2Proof.Machine.execStCommit a v s
  | .ftCommit a v => Sys2Proof.Machine.execFtCommit a v s
  | .nop x => Sys2Proof.Machine.execNop x s
  | .syscall x code => Sys2Proof.Machine.execSyscall x code s
  | .mgrcall x code => Sys2Proof.Machine.execMgrcall x code s
  | .iret x => Sys2Proof.Machine.execIret x s
  | .fenceS x => Sys2Proof.Machine.execFenceS x s
  | .fenceF x => Sys2Proof.Machine.execFenceF x s
  | .gath x => Sys2Proof.Machine.execGath x s
  | .wfe x => Sys2Proof.Machine.execWfe x s
  | .crd x rd creg => Sys2Proof.Machine.execCrd x rd creg s
  | .cwr x creg rs => Sys2Proof.Machine.execCwr x creg rs s
  | .cctlWrite x rs => Sys2Proof.Machine.execCctlWrite x rs s
  | .denDisableDrained c => Sys2Proof.Machine.execDenDisableDrained c s
  | .trd x rd tn => Sys2Proof.Machine.execTrd x rd tn s
  | .twait x rd tn => Sys2Proof.Machine.execTwait x rd tn s
  | .repi x n => Sys2Proof.Machine.execRepi x n s
  | .repn x n => Sys2Proof.Machine.execRepn x n s
  | .bt x pc disp => Sys2Proof.Machine.execBt x pc disp s
  | .bf x pc disp => Sys2Proof.Machine.execBf x pc disp s
  | .call x disp => Sys2Proof.Machine.execCall x disp s
  | .bri x ra => Sys2Proof.Machine.execBri x ra s
  | .calli x ra => Sys2Proof.Machine.execCalli x ra s
  | .ret x => Sys2Proof.Machine.execRet x s
  | .add x rd ra rb => Sys2Proof.Machine.execAdd x rd ra rb s
  | .sub x rd ra rb => Sys2Proof.Machine.execSub x rd ra rb s
  | .addv x rd ra rb => Sys2Proof.Machine.execAddv x rd ra rb s
  | .subv x rd ra rb => Sys2Proof.Machine.execSubv x rd ra rb s
  | .and x rd ra rb => Sys2Proof.Machine.execAnd x rd ra rb s
  | .or x rd ra rb => Sys2Proof.Machine.execOr x rd ra rb s
  | .xor x rd ra rb => Sys2Proof.Machine.execXor x rd ra rb s
  | .andn x rd ra rb => Sys2Proof.Machine.execAndn x rd ra rb s
  | .shl x rd ra rb => Sys2Proof.Machine.execShl x rd ra rb s
  | .shr x rd ra rb => Sys2Proof.Machine.execShr x rd ra rb s
  | .sar x rd ra rb => Sys2Proof.Machine.execSar x rd ra rb s
  | .ror x rd ra rb => Sys2Proof.Machine.execRor x rd ra rb s
  | .min x rd ra rb => Sys2Proof.Machine.execMin x rd ra rb s
  | .max x rd ra rb => Sys2Proof.Machine.execMax x rd ra rb s
  | .minu x rd ra rb => Sys2Proof.Machine.execMinu x rd ra rb s
  | .maxu x rd ra rb => Sys2Proof.Machine.execMaxu x rd ra rb s
  | .neg x rd ra => Sys2Proof.Machine.execNeg x rd ra s
  | .negv x rd ra => Sys2Proof.Machine.execNegv x rd ra s
  | .clz x rd ra => Sys2Proof.Machine.execClz x rd ra s
  | .ctz x rd ra => Sys2Proof.Machine.execCtz x rd ra s
  | .popc x rd ra => Sys2Proof.Machine.execPopc x rd ra s
  | .bswap x rd ra => Sys2Proof.Machine.execBswap x rd ra s
  | .addi x rd ra imm => Sys2Proof.Machine.execAddi x rd ra imm s
  | .andi x rd ra imm => Sys2Proof.Machine.execAndi x rd ra imm s
  | .ori x rd ra imm => Sys2Proof.Machine.execOri x rd ra imm s
  | .xori x rd ra imm => Sys2Proof.Machine.execXori x rd ra imm s
  | .shli x rd ra sh => Sys2Proof.Machine.execShli x rd ra sh s
  | .shri x rd ra sh => Sys2Proof.Machine.execShri x rd ra sh s
  | .sari x rd ra sh => Sys2Proof.Machine.execSari x rd ra sh s
  | .rori x rd ra sh => Sys2Proof.Machine.execRori x rd ra sh s
  | .movz x rd hw imm => Sys2Proof.Machine.execMovz x rd hw imm s
  | .movk x rd hw imm => Sys2Proof.Machine.execMovk x rd hw imm s
  | .spadd x imm => Sys2Proof.Machine.execSpadd x imm s
  | .cmpEq x pd ra rb => Sys2Proof.Machine.execCmpEq x pd ra rb s
  | .cmpNe x pd ra rb => Sys2Proof.Machine.execCmpNe x pd ra rb s
  | .cmpLt x pd ra rb => Sys2Proof.Machine.execCmpLt x pd ra rb s
  | .cmpLe x pd ra rb => Sys2Proof.Machine.execCmpLe x pd ra rb s
  | .cmpLtu x pd ra rb => Sys2Proof.Machine.execCmpLtu x pd ra rb s
  | .cmpLeu x pd ra rb => Sys2Proof.Machine.execCmpLeu x pd ra rb s
  | .tst x pd ra rb => Sys2Proof.Machine.execTst x pd ra rb s
  | .pand x pd pa pb => Sys2Proof.Machine.execPand x pd pa pb s
  | .por x pd pa pb => Sys2Proof.Machine.execPor x pd pa pb s
  | .pxor x pd pa pb => Sys2Proof.Machine.execPxor x pd pa pb s
  | .pandn x pd pa pb => Sys2Proof.Machine.execPandn x pd pa pb s
  | .cmpiEq x pd ra imm => Sys2Proof.Machine.execCmpiEq x pd ra imm s
  | .cmpiNe x pd ra imm => Sys2Proof.Machine.execCmpiNe x pd ra imm s
  | .cmpiLt x pd ra imm => Sys2Proof.Machine.execCmpiLt x pd ra imm s
  | .cmpiLe x pd ra imm => Sys2Proof.Machine.execCmpiLe x pd ra imm s
  | .cmpiGt x pd ra imm => Sys2Proof.Machine.execCmpiGt x pd ra imm s
  | .cmpiGe x pd ra imm => Sys2Proof.Machine.execCmpiGe x pd ra imm s
  | .cmpiLtu x pd ra imm => Sys2Proof.Machine.execCmpiLtu x pd ra imm s
  | .cmpiGeu x pd ra imm => Sys2Proof.Machine.execCmpiGeu x pd ra imm s
  | .mul x rd ra rb => Sys2Proof.Machine.execMul x rd ra rb s
  | .mulh x rd ra rb => Sys2Proof.Machine.execMulh x rd ra rb s
  | .mulhu x rd ra rb => Sys2Proof.Machine.execMulhu x rd ra rb s
  | .mulv x rd ra rb => Sys2Proof.Machine.execMulv x rd ra rb s
  | .divsP x gq gr gd => Sys2Proof.Machine.execDivsP x gq gr gd s
  | .divuP x gq gr gd => Sys2Proof.Machine.execDivuP x gq gr gd s
  | .dstep x gq gr gd => Sys2Proof.Machine.execDstep x gq gr gd s
  | .dfin x gq gr gd => Sys2Proof.Machine.execDfin x gq gr gd s
  | .dnorm x rd ra rb => Sys2Proof.Machine.execDnorm x rd ra rb s
  | .ld x rd base w h off ch => Sys2Proof.Machine.execLd x rd base w h off ch s
  | .lds x rd base w h off ch => Sys2Proof.Machine.execLds x rd base w h off ch s
  | .st x rs base w h off => Sys2Proof.Machine.execSt x rs base w h off s
  | .ldf x rd base w h off ch => Sys2Proof.Machine.execLdf x rd base w h off ch s
  | .stf x rs base w h off => Sys2Proof.Machine.execStf x rs base w h off s
  | .swap x rd base rs w => Sys2Proof.Machine.execSwap x rd base rs w s
  | .atomicFadd x rd base rs w => Sys2Proof.Machine.execAtomicFadd x rd base rs w s
  | .cas x rd base rs w => Sys2Proof.Machine.execCas x rd base rs w s
  | .strel x rs base w => Sys2Proof.Machine.execStrel x rs base w s
  | .dci x base => Sys2Proof.Machine.execDci x base s
  | .ici x base => Sys2Proof.Machine.execIci x base s
  | .dcf x base => Sys2Proof.Machine.execDcf x base s
  | .dcfi x base => Sys2Proof.Machine.execDcfi x base s
  | .dzl x base => Sys2Proof.Machine.execDzl x base s
  | .dcia x => Sys2Proof.Machine.execDcia x s
  | .icia x => Sys2Proof.Machine.execIcia x s
  | .submit x gd ga tn => Sys2Proof.Machine.execSubmit x gd ga tn s
  | .fadd x fd fa fb fmt => Sys2Proof.Machine.execFadd x fd fa fb fmt s
  | .fsub x fd fa fb fmt => Sys2Proof.Machine.execFsub x fd fa fb fmt s
  | .fmul x fd fa fb fmt => Sys2Proof.Machine.execFmul x fd fa fb fmt s
  | .fmin x fd fa fb fmt => Sys2Proof.Machine.execFmin x fd fa fb fmt s
  | .fmax x fd fa fb fmt => Sys2Proof.Machine.execFmax x fd fa fb fmt s
  | .fabs x fd fa fmt => Sys2Proof.Machine.execFabs x fd fa fmt s
  | .fneg x fd fa fmt => Sys2Proof.Machine.execFneg x fd fa fmt s
  | .fcps x fd fa fb fmt => Sys2Proof.Machine.execFcps x fd fa fb fmt s
  | .fcvt x fd fa sfmt fmt => Sys2Proof.Machine.execFcvt x fd fa sfmt fmt s
  | .dqua x fd fa fb fmt => Sys2Proof.Machine.execDqua x fd fa fb fmt s
  | .frint x fd fa fmt => Sys2Proof.Machine.execFrint x fd fa fmt s
  | .fma x fd fa fb fc fmt => Sys2Proof.Machine.execFma x fd fa fb fc fmt s
  | .fms x fd fa fb fc fmt => Sys2Proof.Machine.execFms x fd fa fb fc fmt s
  | .fnma x fd fa fb fc fmt => Sys2Proof.Machine.execFnma x fd fa fb fc fmt s
  | .fnms x fd fa fb fc fmt => Sys2Proof.Machine.execFnms x fd fa fb fc fmt s
  | .fmvg x g f => Sys2Proof.Machine.execFmvg x g f s
  | .fmvgh x g f => Sys2Proof.Machine.execFmvgh x g f s
  | .gmvf x g f => Sys2Proof.Machine.execGmvf x g f s
  | .gmvfh x g f => Sys2Proof.Machine.execGmvfh x g f s
  | .fcvtG x g f fmt => Sys2Proof.Machine.execFcvtG x g f fmt s
  | .fcvtzG x g f fmt => Sys2Proof.Machine.execFcvtzG x g f fmt s
  | .fcvtF x g f fmt => Sys2Proof.Machine.execFcvtF x g f fmt s
  | .fcvtuF x g f fmt => Sys2Proof.Machine.execFcvtuF x g f fmt s
  | .fcmpEq x pd fa fb fmt => Sys2Proof.Machine.execFcmpEq x pd fa fb fmt s
  | .fcmpLt x pd fa fb fmt => Sys2Proof.Machine.execFcmpLt x pd fa fb fmt s
  | .fcmpLe x pd fa fb fmt => Sys2Proof.Machine.execFcmpLe x pd fa fb fmt s
  | .fcmpUn x pd fa fb fmt => Sys2Proof.Machine.execFcmpUn x pd fa fb fmt s
  | .fcmpLtq x pd fa fb fmt => Sys2Proof.Machine.execFcmpLtq x pd fa fb fmt s
  | .fcmpLeq x pd fa fb fmt => Sys2Proof.Machine.execFcmpLeq x pd fa fb fmt s
  | .fcmpEqs x pd fa fb fmt => Sys2Proof.Machine.execFcmpEqs x pd fa fb fmt s
  | .tlfl x fd fx fdesc ch => Sys2Proof.Machine.execTlfl x fd fx fdesc ch s
  | .tlin x fd fx fdesc ch => Sys2Proof.Machine.execTlin x fd fx fdesc ch s
  | .tllg x fd fx fdesc ch => Sys2Proof.Machine.execTllg x fd fx fdesc ch s
  | .fdivP x fq fr fdv fmt => Sys2Proof.Machine.execFdivP x fq fr fdv fmt s
  | .fdstep x fq fr fdv fmt => Sys2Proof.Machine.execFdstep x fq fr fdv fmt s
  | .fdfin x fq fr fdv fmt => Sys2Proof.Machine.execFdfin x fq fr fdv fmt s
  | .fsqrtP x fq fr fdv fmt => Sys2Proof.Machine.execFsqrtP x fq fr fdv fmt s
  | .frstep x fq fr fdv fmt => Sys2Proof.Machine.execFrstep x fq fr fdv fmt s
  | .frfin x fq fr fdv fmt => Sys2Proof.Machine.execFrfin x fq fr fdv fmt s
  | .xdivP x fq fr fdv fmt => Sys2Proof.Machine.execXdivP x fq fr fdv fmt s
  | .xdstep x fq fr fdv fmt => Sys2Proof.Machine.execXdstep x fq fr fdv fmt s
  | .xdfin x fq fr fdv fmt => Sys2Proof.Machine.execXdfin x fq fr fdv fmt s
  | .bundleFetch c ch => Sys2Proof.Machine.execBundleFetch c ch s
  | .operationLand c => Sys2Proof.Machine.execOperationLand c s
  | .loadDataArrival c cycles => Sys2Proof.Machine.execLoadDataArrival c cycles s
  | .freezeLimit c => Sys2Proof.Machine.execFreezeLimit c s
  | .exceptionEntry c => Sys2Proof.Machine.execExceptionEntry c s
  | .eventAccept c source => Sys2Proof.Machine.execEventAccept c source s
  | .completionApply c => Sys2Proof.Machine.execCompletionApply c s
  | .wfeWake c => Sys2Proof.Machine.execWfeWake c s
  | .reservedFieldCompletion c tn => Sys2Proof.Machine.execReservedFieldCompletion c tn s
  | .fcXinva1 a n v => Sys2Proof.Machine.execFcXinva1 a n v s
  | .fcXinva2 a n v => Sys2Proof.Machine.execFcXinva2 a n v s
  | .fcXinvall1 a n v => Sys2Proof.Machine.execFcXinvall1 a n v s
  | .fcXinvall2 a n v => Sys2Proof.Machine.execFcXinvall2 a n v s
  | .mergeEntryTimeout c k => Sys2Proof.Machine.execMergeEntryTimeout c k s
  | .mergeEntryMove c => Sys2Proof.Machine.execMergeEntryMove c s
  | .gatherMark c => Sys2Proof.Machine.execGatherMark c s
  | .gatherConfirm c => Sys2Proof.Machine.execGatherConfirm c s
  | .releaseAcknowledged c cycles => Sys2Proof.Machine.execReleaseAcknowledged c cycles s
  | .heldAccessPerform c ch => Sys2Proof.Machine.execHeldAccessPerform c ch s
  | .heldAccessResponse c cycles => Sys2Proof.Machine.execHeldAccessResponse c cycles s
  | .stallDetect f j => Sys2Proof.Machine.execStallDetect f j s
  | .checkerError c => Sys2Proof.Machine.execCheckerError c s
  | .rollbackComplete l dbe => Sys2Proof.Machine.execRollbackComplete l dbe s
  | .selftestComplete f j passA passB => Sys2Proof.Machine.execSelftestComplete f j passA passB s
  | .spareStateCopyComplete l dbe => Sys2Proof.Machine.execSpareStateCopyComplete l dbe s
  | .pxCtlStop a f j => Sys2Proof.Machine.execPxCtlStop a f j s
  | .pxCtlStart a f j dbe => Sys2Proof.Machine.execPxCtlStart a f j dbe s
  | .pxCtlSubstA a f j => Sys2Proof.Machine.execPxCtlSubstA a f j s
  | .pxCtlSubstB a f j => Sys2Proof.Machine.execPxCtlSubstB a f j s
  | .pxCtlReturn a f j => Sys2Proof.Machine.execPxCtlReturn a f j s
  | .pxCtlTest a f j => Sys2Proof.Machine.execPxCtlTest a f j s
  | .pxSnapWrite a f slot off v => Sys2Proof.Machine.execPxSnapWrite a f slot off v s
  | .pxLogClear a f v => Sys2Proof.Machine.execPxLogClear a f v s
  | .fillLand f line => Sys2Proof.Machine.execFillLand f line s
  | .readShared f line pe => Sys2Proof.Machine.execReadShared f line pe s
  | .readWithOwnership f line pe => Sys2Proof.Machine.execReadWithOwnership f line pe s
  | .upgrade f line pe => Sys2Proof.Machine.execUpgrade f line pe s
  | .writeBackOfM k line => Sys2Proof.Machine.execWriteBackOfM k line s
  | .cleanEvictionNotice k line => Sys2Proof.Machine.execCleanEvictionNotice k line s
  | .victimMoved f => Sys2Proof.Machine.execVictimMoved f s
  | .tileCacheHitMoved f line err => Sys2Proof.Machine.execTileCacheHitMoved f line err s
  | .uncachedLoad c pe => Sys2Proof.Machine.execUncachedLoad c pe s
  | .uncachedStore c => Sys2Proof.Machine.execUncachedStore c s
  | .snoopInvalidate k line => Sys2Proof.Machine.execSnoopInvalidate k line s
  | .snoopForward k line err => Sys2Proof.Machine.execSnoopForward k line err s
  | .evictionBufferInstall t => Sys2Proof.Machine.execEvictionBufferInstall t s
  | .bypassWalkComplete t => Sys2Proof.Machine.execBypassWalkComplete t s
  | .tcModeTakeEffect t => Sys2Proof.Machine.execTcModeTakeEffect t s
  | .fcCtlWrite a f v => Sys2Proof.Machine.execFcCtlWrite a f v s
  | .fcDrainComplete f => Sys2Proof.Machine.execFcDrainComplete f s
  | .replWrite a k v => Sys2Proof.Machine.execReplWrite a k v s
  | .waydisWrite a k v => Sys2Proof.Machine.execWaydisWrite a k v s
  | .wayflushWrite a k v => Sys2Proof.Machine.execWayflushWrite a k v s
  | .wayWalkComplete k => Sys2Proof.Machine.execWayWalkComplete k s
  | .fcEcclogClear a k v => Sys2Proof.Machine.execFcEcclogClear a k v s
  | .fmCopy n => Sys2Proof.Machine.execFmCopy n s
  | .fmFill n => Sys2Proof.Machine.execFmFill n s
  | .fmWb n => Sys2Proof.Machine.execFmWb n s
  | .fmWbi n => Sys2Proof.Machine.execFmWbi n s
  | .farMemoryComplete n => Sys2Proof.Machine.execFarMemoryComplete n s
  | .sxBankctlWrite a k v => Sys2Proof.Machine.execSxBankctlWrite a k v s
  | .bankStateChangeComplete k b => Sys2Proof.Machine.execBankStateChangeComplete k b s
  | .sxKeepwipe a k v => Sys2Proof.Machine.execSxKeepwipe a k v s
  | .keepWipeComplete k => Sys2Proof.Machine.execKeepWipeComplete k s
  | .sxEcclogClear a k v => Sys2Proof.Machine.execSxEcclogClear a k v s
  | .sxErrlogClear a k v => Sys2Proof.Machine.execSxErrlogClear a k v s
  | .patrolScrub ch line pe => Sys2Proof.Machine.execPatrolScrub ch line pe s
  | .granuleWriteHoldExpire granule => Sys2Proof.Machine.execGranuleWriteHoldExpire granule s
  | .mcRetrain a ch => Sys2Proof.Machine.execMcRetrain a ch s
  | .mcRepair a ch => Sys2Proof.Machine.execMcRepair a ch s
  | .mcAbort a => Sys2Proof.Machine.execMcAbort a s
  | .channelOffline ch => Sys2Proof.Machine.execChannelOffline ch s
  | .trainingOrRepairComplete ok restored => Sys2Proof.Machine.execTrainingOrRepairComplete ok restored s
  | .resyncComplete => Sys2Proof.Machine.execResyncComplete s
  | .mcEcclogClear a v => Sys2Proof.Machine.execMcEcclogClear a v s
  | .penAttach a pen => Sys2Proof.Machine.execPenAttach a pen s
  | .penStop a pen => Sys2Proof.Machine.execPenStop a pen s
  | .penStopped pen => Sys2Proof.Machine.execPenStopped pen s
  | .penResume a pen => Sys2Proof.Machine.execPenResume a pen s
  | .penAbort a pen => Sys2Proof.Machine.execPenAbort a pen s
  | .penDetach a pen => Sys2Proof.Machine.execPenDetach a pen s
  | .penReload a pen => Sys2Proof.Machine.execPenReload a pen s
  | .penRestore a pen mask => Sys2Proof.Machine.execPenRestore a pen mask s
  | .penFail a pen mask => Sys2Proof.Machine.execPenFail a pen mask s
  | .penMove a pen drover => Sys2Proof.Machine.execPenMove a pen drover s
  | .penMoveComplete g => Sys2Proof.Machine.execPenMoveComplete g s
  | .run t entry slot le => Sys2Proof.Machine.execRun t entry slot le s
  | .commandSend entry => Sys2Proof.Machine.execCommandSend entry s
  | .read entry => Sys2Proof.Machine.execRead entry s
  | .write entry => Sys2Proof.Machine.execWrite entry s
  | .flush entry => Sys2Proof.Machine.execFlush entry s
  | .writeZeroes entry => Sys2Proof.Machine.execWriteZeroes entry s
  | .deallocate entry => Sys2Proof.Machine.execDeallocate entry s
  | .compare entry => Sys2Proof.Machine.execCompare entry s
  | .compareAndWrite entry => Sys2Proof.Machine.execCompareAndWrite entry s
  | .admin entry => Sys2Proof.Machine.execAdmin entry s
  | .ringTx entry => Sys2Proof.Machine.execRingTx entry s
  | .ringRx entry => Sys2Proof.Machine.execRingRx entry s
  | .ringCmd entry => Sys2Proof.Machine.execRingCmd entry s
  | .ringQuery entry => Sys2Proof.Machine.execRingQuery entry s
  | .nvmeCompletionEntry pen path le => Sys2Proof.Machine.execNvmeCompletionEntry pen path le s
  | .ringCompletionEntry pen path le => Sys2Proof.Machine.execRingCompletionEntry pen path le s
  | .msixAbsorb p rid data => Sys2Proof.Machine.execMsixAbsorb p rid data s
  | .completionPoll pen => Sys2Proof.Machine.execCompletionPoll pen s
  | .commandTimeout entry => Sys2Proof.Machine.execCommandTimeout entry s
  | .pathFailureReissue pen path => Sys2Proof.Machine.execPathFailureReissue pen path s
  | .powerFailDrain => Sys2Proof.Machine.execPowerFailDrain s
  | .drainComplete ok late => Sys2Proof.Machine.execDrainComplete ok late s
  | .ledgerThaw => Sys2Proof.Machine.execLedgerThaw s
  | .linkRetrain a p => Sys2Proof.Machine.execLinkRetrain a p s
  | .linkReeq a p => Sys2Proof.Machine.execLinkReeq a p s
  | .linkReeqComplete p => Sys2Proof.Machine.execLinkReeqComplete p s
  | .linkRelease a p => Sys2Proof.Machine.execLinkRelease a p s
  | .linkDown p protocol => Sys2Proof.Machine.execLinkDown p protocol s
  | .linkUp p rate lanes flit => Sys2Proof.Machine.execLinkUp p rate lanes flit s
  | .lkMarginGo a p lane kind => Sys2Proof.Machine.execLkMarginGo a p lane kind s
  | .marginComplete p steps => Sys2Proof.Machine.execMarginComplete p steps s
  | .dreqMemoryRead a p wide addr => Sys2Proof.Machine.execDreqMemoryRead a p wide addr s
  | .dreqMemoryWrite a p wide addr => Sys2Proof.Machine.execDreqMemoryWrite a p wide addr s
  | .dreqConfigurationRead a p addr => Sys2Proof.Machine.execDreqConfigurationRead a p addr s
  | .dreqConfigurationWrite a p addr => Sys2Proof.Machine.execDreqConfigurationWrite a p addr s
  | .dreqComplete p result data => Sys2Proof.Machine.execDreqComplete p result data s
  | .dreqTimeout p => Sys2Proof.Machine.execDreqTimeout p s
  | .lkErrlogClear a p v => Sys2Proof.Machine.execLkErrlogClear a p v s
  | .deviceMemoryRequest p req pe => Sys2Proof.Machine.execDeviceMemoryRequest p req pe s
  | .atsTranslationRequest p rid addr => Sys2Proof.Machine.execAtsTranslationRequest p rid addr s
  | .atsInvalidateTimeout p fn => Sys2Proof.Machine.execAtsInvalidateTimeout p fn s
  | .pcieCorrectableError p => Sys2Proof.Machine.execPcieCorrectableError p s
  | .pcieNonfatalError p rid addr result => Sys2Proof.Machine.execPcieNonfatalError p rid addr result s
  | .pcieFatalError p => Sys2Proof.Machine.execPcieFatalError p s
  | .null p seq => Sys2Proof.Machine.execNull p seq s
  | .link p nak ackv ackseq credits => Sys2Proof.Machine.execLink p nak ackv ackseq credits s
  | .hello p h => Sys2Proof.Machine.execHello p h s
  | .route p h lost lastseq down mark => Sys2Proof.Machine.execRoute p h lost lastseq down mark s
  | .rds p h pe => Sys2Proof.Machine.execRds p h pe s
  | .rdo p h full pe => Sys2Proof.Machine.execRdo p h full pe s
  | .upg p h pe => Sys2Proof.Machine.execUpg p h pe s
  | .rdu p h pe => Sys2Proof.Machine.execRdu p h pe s
  | .wru p h mask data => Sys2Proof.Machine.execWru p h mask data s
  | .wb p h poison data => Sys2Proof.Machine.execWb p h poison data s
  | .evc p h => Sys2Proof.Machine.execEvc p h s
  | .fmop p h desc => Sys2Proof.Machine.execFmop p h desc s
  | .fwds p h reqmod => Sys2Proof.Machine.execFwds p h reqmod s
  | .fwdo p h reqmod => Sys2Proof.Machine.execFwdo p h reqmod s
  | .inv p h => Sys2Proof.Machine.execInv p h s
  | .gnt p h => Sys2Proof.Machine.execGnt p h s
  | .iack p h => Sys2Proof.Machine.execIack p h s
  | .cmp p h word => Sys2Proof.Machine.execCmp p h word s
  | .nack p h reason => Sys2Proof.Machine.execNack p h reason s
  | .data p h st poison data => Sys2Proof.Machine.execData p h st poison data s
  | .iackd p h poison data => Sys2Proof.Machine.execIackd p h poison data s
  | .pcmd p h entry slot body => Sys2Proof.Machine.execPcmd p h entry slot body s
  | .pstat p h status value => Sys2Proof.Machine.execPstat p h status value s
  | .badFlit p lane => Sys2Proof.Machine.execBadFlit p lane s
  | .ackTimer p => Sys2Proof.Machine.execAckTimer p s
  | .replayTimeout p => Sys2Proof.Machine.execReplayTimeout p s
  | .formationEnd => Sys2Proof.Machine.execFormationEnd s
  | .compress k => Sys2Proof.Machine.execCompress k s
  | .decompress k => Sys2Proof.Machine.execDecompress k s
  | .compressionUnitComplete k va vb => Sys2Proof.Machine.execCompressionUnitComplete k va vb s
  | .czWithdraw a k on => Sys2Proof.Machine.execCzWithdraw a k on s
  | .czTest a k => Sys2Proof.Machine.execCzTest a k s
  | .czTestComplete k pass => Sys2Proof.Machine.execCzTestComplete k pass s
  | .czStoppart a k part => Sys2Proof.Machine.execCzStoppart a k part s
  | .czVerlogClear a k => Sys2Proof.Machine.execCzVerlogClear a k s
  | .gcmEnc k => Sys2Proof.Machine.execGcmEnc k s
  | .gcmDec k => Sys2Proof.Machine.execGcmDec k s
  | .xtsEnc k => Sys2Proof.Machine.execXtsEnc k s
  | .xtsDec k => Sys2Proof.Machine.execXtsDec k s
  | .ctr k => Sys2Proof.Machine.execCtr k s
  | .cmacGen k => Sys2Proof.Machine.execCmacGen k s
  | .cmacVer k => Sys2Proof.Machine.execCmacVer k s
  | .hmacGen k => Sys2Proof.Machine.execHmacGen k s
  | .hmacVer k => Sys2Proof.Machine.execHmacVer k s
  | .cipherJobComplete k c => Sys2Proof.Machine.execCipherJobComplete k c s
  | .outputWithheld k c n => Sys2Proof.Machine.execOutputWithheld k c n s
  | .cipherDatapathError k c kind => Sys2Proof.Machine.execCipherDatapathError k c kind s
  | .acquire a k token => Sys2Proof.Machine.execAcquire a k token s
  | .release a k token => Sys2Proof.Machine.execRelease a k token s
  | .lockWipeComplete k => Sys2Proof.Machine.execLockWipeComplete k s
  | .cyForce a k part => Sys2Proof.Machine.execCyForce a k part s
  | .cyWithdraw a k on => Sys2Proof.Machine.execCyWithdraw a k on s
  | .cyTest a k => Sys2Proof.Machine.execCyTest a k s
  | .cyTestComplete k pass => Sys2Proof.Machine.execCyTestComplete k pass s
  | .cyErrlogClear a k => Sys2Proof.Machine.execCyErrlogClear a k s
  | .ptAdmit a r pid sealed => Sys2Proof.Machine.execPtAdmit a r pid sealed s
  | .ptQuiesce a r => Sys2Proof.Machine.execPtQuiesce a r s
  | .ptResume a r => Sys2Proof.Machine.execPtResume a r s
  | .ptRemove a r => Sys2Proof.Machine.execPtRemove a r s
  | .ptMode a r sealed => Sys2Proof.Machine.execPtMode a r sealed s
  | .ptCoreWrite a n next => Sys2Proof.Machine.execPtCoreWrite a n next s
  | .huInv a v => Sys2Proof.Machine.execHuInv a v s
  | .huInvdone => Sys2Proof.Machine.execHuInvdone s
  | .stintPeriodBoundary => Sys2Proof.Machine.execStintPeriodBoundary s
  | .stintOpportunity m waiting => Sys2Proof.Machine.execStintOpportunity m waiting s
  | .coalesceTimerExpire src => Sys2Proof.Machine.execCoalesceTimerExpire src s
  | .evRouteWrite a src v => Sys2Proof.Machine.execEvRouteWrite a src v s
  | .evStatClear a src v => Sys2Proof.Machine.execEvStatClear a src v s
  | .evEoi a n lvl v => Sys2Proof.Machine.execEvEoi a n lvl v s
  | .evSwraise a v => Sys2Proof.Machine.execEvSwraise a v s
  | .evRaise a n v => Sys2Proof.Machine.execEvRaise a n v s
  | .mrstNRelease samples flash broken lockstep => Sys2Proof.Machine.execMrstNRelease samples flash broken lockstep s
  | .mrstNAssert => Sys2Proof.Machine.execMrstNAssert s
  | .getInfo via => Sys2Proof.Machine.execGetInfo via s
  | .getRecord via => Sys2Proof.Machine.execGetRecord via s
  | .getCerts => Sys2Proof.Machine.execGetCerts s
  | .keyWrite => Sys2Proof.Machine.execKeyWrite s
  | .keyErase => Sys2Proof.Machine.execKeyErase s
  | .keyDescribe => Sys2Proof.Machine.execKeyDescribe s
  | .keyEraseOwner => Sys2Proof.Machine.execKeyEraseOwner s
  | .loadMemtrain flash => Sys2Proof.Machine.execLoadMemtrain flash s
  | .memtrainComplete o => Sys2Proof.Machine.execMemtrainComplete o s
  | .loadDroverFw flash => Sys2Proof.Machine.execLoadDroverFw flash s
  | .loadCzUcode flash => Sys2Proof.Machine.execLoadCzUcode flash s
  | .loadMloader flash => Sys2Proof.Machine.execLoadMloader flash s
  | .firmwareLoadComplete u => Sys2Proof.Machine.execFirmwareLoadComplete u s
  | .extend => Sys2Proof.Machine.execExtend s
  | .seal => Sys2Proof.Machine.execSeal s
  | .autoSeal => Sys2Proof.Machine.execAutoSeal s
  | .addendumSigned => Sys2Proof.Machine.execAddendumSigned s
  | .shepUpdate => Sys2Proof.Machine.execShepUpdate s
  | .shepCommit => Sys2Proof.Machine.execShepCommit s
  | .own => Sys2Proof.Machine.execOwn s
  | .returnOwned => Sys2Proof.Machine.execReturn s
  | .void via => Sys2Proof.Machine.execVoid via s
  | .provision sig => Sys2Proof.Machine.execProvision sig s
  | .certify sig ecdsa mldsa => Sys2Proof.Machine.execCertify sig ecdsa mldsa s
  | .tamperTrip sensor => Sys2Proof.Machine.execTamperTrip sensor s
  | .meshCheck broken => Sys2Proof.Machine.execMeshCheck broken s
  | .shepherdLockstepMismatch => Sys2Proof.Machine.execShepherdLockstepMismatch s
  | .shepherdRestartComplete ok => Sys2Proof.Machine.execShepherdRestartComplete ok s
  | .noiseSourceFailure src => Sys2Proof.Machine.execNoiseSourceFailure src s
  | .drbgReseed => Sys2Proof.Machine.execDrbgReseed s
  | .recordReoffer => Sys2Proof.Machine.execRecordReoffer s
  | .getVersion => Sys2Proof.Machine.execGetVersion s
  | .getCapabilities => Sys2Proof.Machine.execGetCapabilities s
  | .negotiateAlgorithms => Sys2Proof.Machine.execNegotiateAlgorithms s
  | .getDigests => Sys2Proof.Machine.execGetDigests s
  | .getCertificate slot off len => Sys2Proof.Machine.execGetCertificate slot off len s
  | .challenge slot => Sys2Proof.Machine.execChallenge slot s
  | .getMeasurements index signed => Sys2Proof.Machine.execGetMeasurements index signed s
  | .respondIfReady => Sys2Proof.Machine.execRespondIfReady s
  | .spdmUnsupportedRequest => Sys2Proof.Machine.execSpdmUnsupportedRequest s
  | .setEndpointId n => Sys2Proof.Machine.execSetEndpointId n s
  | .getEndpointId => Sys2Proof.Machine.execGetEndpointId s
  | .getMctpVersionSupport => Sys2Proof.Machine.execGetMctpVersionSupport s
  | .getMessageTypeSupport => Sys2Proof.Machine.execGetMessageTypeSupport s
  | .strikeDrainTick c idx => Sys2Proof.Machine.execStrikeDrainTick c idx s
  | .ftCntClear a c idx v => Sys2Proof.Machine.execFtCntClear a c idx v s
  | .ftCtest a v => Sys2Proof.Machine.execFtCtest a v s
  | .coreSelftestComplete pass => Sys2Proof.Machine.execCoreSelftestComplete pass s
  | .ftMctargetWrite a v => Sys2Proof.Machine.execFtMctargetWrite a v s
  | .asyncMachineCheck => Sys2Proof.Machine.execAsyncMachineCheck s
  | .ftMclogClear a v => Sys2Proof.Machine.execFtMclogClear a v s
  | .extest => Sys2Proof.Machine.execExtest s
  | .samplePreload => Sys2Proof.Machine.execSamplePreload s
  | .idcode => Sys2Proof.Machine.execIdcode s
  | .clamp => Sys2Proof.Machine.execClamp s
  | .highz => Sys2Proof.Machine.execHighz s
  | .extestPulse => Sys2Proof.Machine.execExtestPulse s
  | .extestTrain => Sys2Proof.Machine.execExtestTrain s
  | .bypass => Sys2Proof.Machine.execBypass s
  | .railExcursion idx leaves high => Sys2Proof.Machine.execRailExcursion idx leaves high s
  | .pwRaillogClear a v => Sys2Proof.Machine.execPwRaillogClear a v s
  | .temperatureSample temps => Sys2Proof.Machine.execTemperatureSample temps s
  | .thermalCapStep b => Sys2Proof.Machine.execThermalCapStep b s
  | .pwFoldWrite a f v => Sys2Proof.Machine.execPwFoldWrite a f v s
  | .pwFlockWrite a k v => Sys2Proof.Machine.execPwFlockWrite a k v s
  | .pllStepComplete b => Sys2Proof.Machine.execPllStepComplete b s
  | .foldSleepEntry f => Sys2Proof.Machine.execFoldSleepEntry f s
  | .foldWake f => Sys2Proof.Machine.execFoldWake f s
  | .flockSleepEntry k => Sys2Proof.Machine.execFlockSleepEntry k s
  | .flockWake k => Sys2Proof.Machine.execFlockWake k s
  | .tenseChange => Sys2Proof.Machine.execTenseChange s
  | .recordPieceSend => Sys2Proof.Machine.execRecordPieceSend s
  | .recordPieceAccept => Sys2Proof.Machine.execRecordPieceAccept s
  | .recordPauseTimeout => Sys2Proof.Machine.execRecordPauseTimeout s
  | .recordAcceptTimeout => Sys2Proof.Machine.execRecordAcceptTimeout s
  | .uartTransmit a byte => Sys2Proof.Machine.execUartTransmit a byte s
  | .uartReceive byte => Sys2Proof.Machine.execUartReceive byte s
  | .tnUartrxRead a => Sys2Proof.Machine.execTnUartrxRead a s
  | .tracePcSample => Sys2Proof.Machine.execTracePcSample s
  | .syncEdge => Sys2Proof.Machine.execSyncEdge s
  | .droverLockstepMismatch d => Sys2Proof.Machine.execDroverLockstepMismatch d s
  | .tamperSensorClear sensor => Sys2Proof.Machine.execTamperSensorClear sensor s
  | .maskingGeneratorReseed k => Sys2Proof.Machine.execMaskingGeneratorReseed k s
  | .uartByteSent => Sys2Proof.Machine.execUartByteSent s
  | .traceRecordSent => Sys2Proof.Machine.execTraceRecordSent s
  | .pxSnapRead a f slot off dbe => Sys2Proof.Machine.execPxSnapRead a f slot off dbe s

end Sys2Proof.Machine
end

