-- ==== Sys2Proof/Machine/Step.lean ====
section
/-! DEFINITION. One step of the module: the command at the front of the queue, or a tick of the always-on clock. -/

namespace Sys2Proof.Machine

open Sys2Proof

/-- One tick of AOCLK with no command: PW_AOTIME counts, except while MRST_N holds the module (R655, R664; log entry 50). -/
def State.idle (s : State) : State := if s.power.held then s else s.rmod .pwAotime 0 0 fun v => v + 1

/-- One step: the command at the front of the queue takes effect on everything but the queue, which keeps its rest; on an
empty queue the clock ticks. -/
def step (s : State) : Host.Outcome State Fault Refusal :=
  match s.pending with
  | [] => .next s.idle
  | c :: rest => exec c { s with pending := rest }

/-- The state with the command a word spells put at the front of its queue; the state itself where the word spells none. -/
def State.withFetchWord (s : State) (nbits w : Nat) : State :=
  match decodeTableWord nbits w with
  | some c => { s with pending := c :: s.pending }
  | none => s

end Sys2Proof.Machine
end

