-- ==== Sys2Proof/WellFormed.lean ====
section
/-! DEFINITION. Well-formed commands: every operand in the range the spec gives it, and an operation's word no reserved encoding. -/

namespace Sys2Proof

open Machine

/-- An agent: a partition ID and a resident entry (R6, R522). -/
def agentWf (a : Agent) : Bool := decide (a.part < 2048) && decide (a.res < 257)

/-- The header of a message: modules 0 to 7, a SEQ of 12 bits, an address of 52 bits (R414, R415). -/
def hdrWf (h : Hdr) : Bool := decide (h.seq < 4096) && decide (h.src < 8) && decide (h.dst < 8) && decide (h.addr < 2 ^ 52)

/-- A device's request: a requester ID and an address, of at least one byte (R409). -/
def devWf (d : DevReq) : Bool := decide (d.rid < 65536) && decide (d.addr < 2 ^ 64) && decide (0 < d.len)

/-- The place of an error in a snapshot slot, where there is one (R291). -/
def snapOff (o : Option Nat) : Bool := o.all fun x => decide (x < 2048)

/-- An operation: a core of the module, a slot of the bundle, and a word that is no reserved encoding there (R4, R30, R79). -/
def opWf (x : Slot) (w : OpWord) : Bool := decide (x.core < 216) && decide (x.slot < 4) && !opReserved x.slot w

/-- Whether a command is well formed. -/
def Instr.wf (i : Instr) : Bool :=
  match i with
  | .nop v0 | .syscall v0 _ | .mgrcall v0 _ | .iret v0 | .fenceS v0 | .fenceF v0 | .gath v0 | .wfe v0 | .crd v0 _ _ | .cwr v0 _ _ |
    .cctlWrite v0 _ | .trd v0 _ _ | .twait v0 _ _ | .repi v0 _ | .repn v0 _ | .bt v0 _ _ | .bf v0 _ _ | .call v0 _ | .bri v0 _ |
    .calli v0 _ | .ret v0 | .add v0 _ _ _ | .sub v0 _ _ _ | .addv v0 _ _ _ | .subv v0 _ _ _ | .and v0 _ _ _ | .or v0 _ _ _ |
    .xor v0 _ _ _ | .andn v0 _ _ _ | .shl v0 _ _ _ | .shr v0 _ _ _ | .sar v0 _ _ _ | .ror v0 _ _ _ | .min v0 _ _ _ | .max v0 _ _ _ |
    .minu v0 _ _ _ | .maxu v0 _ _ _ | .neg v0 _ _ | .negv v0 _ _ | .clz v0 _ _ | .ctz v0 _ _ | .popc v0 _ _ | .bswap v0 _ _ |
    .addi v0 _ _ _ | .andi v0 _ _ _ | .ori v0 _ _ _ | .xori v0 _ _ _ | .shli v0 _ _ _ | .shri v0 _ _ _ | .sari v0 _ _ _ |
    .rori v0 _ _ _ | .movz v0 _ _ _ | .movk v0 _ _ _ | .spadd v0 _ | .cmpEq v0 _ _ _ | .cmpNe v0 _ _ _ | .cmpLt v0 _ _ _ |
    .cmpLe v0 _ _ _ | .cmpLtu v0 _ _ _ | .cmpLeu v0 _ _ _ | .tst v0 _ _ _ | .pand v0 _ _ _ | .por v0 _ _ _ | .pxor v0 _ _ _ |
    .pandn v0 _ _ _ | .cmpiEq v0 _ _ _ | .cmpiNe v0 _ _ _ | .cmpiLt v0 _ _ _ | .cmpiLe v0 _ _ _ | .cmpiGt v0 _ _ _ | .cmpiGe v0 _ _ _ |
    .cmpiLtu v0 _ _ _ | .cmpiGeu v0 _ _ _ | .mul v0 _ _ _ | .mulh v0 _ _ _ | .mulhu v0 _ _ _ | .mulv v0 _ _ _ | .divsP v0 _ _ _ |
    .divuP v0 _ _ _ | .dstep v0 _ _ _ | .dfin v0 _ _ _ | .dnorm v0 _ _ _ | .ld v0 _ _ _ _ _ _ | .lds v0 _ _ _ _ _ _ |
    .st v0 _ _ _ _ _ | .ldf v0 _ _ _ _ _ _ | .stf v0 _ _ _ _ _ | .swap v0 _ _ _ _ | .atomicFadd v0 _ _ _ _ | .cas v0 _ _ _ _ |
    .strel v0 _ _ _ | .dci v0 _ | .ici v0 _ | .dcf v0 _ | .dcfi v0 _ | .dzl v0 _ | .dcia v0 | .icia v0 | .submit v0 _ _ _ |
    .fadd v0 _ _ _ _ | .fsub v0 _ _ _ _ | .fmul v0 _ _ _ _ | .fmin v0 _ _ _ _ | .fmax v0 _ _ _ _ | .fabs v0 _ _ _ | .fneg v0 _ _ _ |
    .fcps v0 _ _ _ _ | .fcvt v0 _ _ _ _ | .dqua v0 _ _ _ _ | .frint v0 _ _ _ | .fma v0 _ _ _ _ _ | .fms v0 _ _ _ _ _ |
    .fnma v0 _ _ _ _ _ | .fnms v0 _ _ _ _ _ | .fmvg v0 _ _ | .fmvgh v0 _ _ | .gmvf v0 _ _ | .gmvfh v0 _ _ | .fcvtG v0 _ _ _ |
    .fcvtzG v0 _ _ _ | .fcvtF v0 _ _ _ | .fcvtuF v0 _ _ _ | .fcmpEq v0 _ _ _ _ | .fcmpLt v0 _ _ _ _ | .fcmpLe v0 _ _ _ _ |
    .fcmpUn v0 _ _ _ _ | .fcmpLtq v0 _ _ _ _ | .fcmpLeq v0 _ _ _ _ | .fcmpEqs v0 _ _ _ _ | .tlfl v0 _ _ _ _ | .tlin v0 _ _ _ _ |
    .tllg v0 _ _ _ _ | .fdivP v0 _ _ _ _ | .fdstep v0 _ _ _ _ | .fdfin v0 _ _ _ _ | .fsqrtP v0 _ _ _ _ | .frstep v0 _ _ _ _ |
    .frfin v0 _ _ _ _ | .xdivP v0 _ _ _ _ | .xdstep v0 _ _ _ _ | .xdfin v0 _ _ _ _ => opWf v0 (encode i)
  | .registerWrite v0 v1 _ _ => agentWf v0 && decide (v1 < 2 ^ 52)
  | .mgCfgerrClear v0 _ | .chPathcommit v0 _ | .chDraincommit v0 _ | .lkCommit v0 _ | .ptTrcommit v0 _ | .stCommit v0 _ |
    .ftCommit v0 _ | .mcAbort v0 | .mcEcclogClear v0 _ | .huInv v0 _ | .evSwraise v0 _ | .ftCtest v0 _ | .ftMctargetWrite v0 _ |
    .ftMclogClear v0 _ | .pwRaillogClear v0 _ | .uartTransmit v0 _ | .tnUartrxRead v0 => agentWf v0
  | .fcCommit v0 v1 _ | .pxCommit v0 v1 _ | .pxLogClear v0 v1 _ | .fcCtlWrite v0 v1 _ | .pwFoldWrite v0 v1 _ =>
    agentWf v0 && decide (v1 < 24)
  | .tcCommit v0 v1 _ => agentWf v0 && decide (v1 < 4)
  | .denDisableDrained v0 | .bundleFetch v0 _ | .operationLand v0 | .loadDataArrival v0 _ | .freezeLimit v0 | .exceptionEntry v0 |
    .completionApply v0 | .wfeWake v0 | .mergeEntryMove v0 | .gatherMark v0 | .gatherConfirm v0 | .releaseAcknowledged v0 _ |
    .heldAccessPerform v0 _ | .heldAccessResponse v0 _ | .checkerError v0 | .uncachedLoad v0 _ | .uncachedStore v0 => decide (v0 < 216)
  | .eventAccept v0 v1 => decide (v0 < 216) && decide (v1 < 2048)
  | .reservedFieldCompletion v0 v1 | .mergeEntryTimeout v0 v1 => decide (v0 < 216) && decide (v1 < 16)
  | .fcXinva1 v0 v1 _ | .fcXinva2 v0 v1 _ | .fcXinvall1 v0 v1 _ | .fcXinvall2 v0 v1 _ | .evRaise v0 v1 _ =>
    agentWf v0 && decide (v1 < 216)
  | .stallDetect v0 v1 | .selftestComplete v0 v1 _ _ => decide (v0 < 24) && decide (v1 < 4)
  | .rollbackComplete v0 v1 | .spareStateCopyComplete v0 v1 => decide (v0 < 216) && snapOff v1
  | .pxCtlStop v0 v1 v2 | .pxCtlSubstA v0 v1 v2 | .pxCtlSubstB v0 v1 v2 | .pxCtlReturn v0 v1 v2 | .pxCtlTest v0 v1 v2 =>
    agentWf v0 && decide (v1 < 24) && decide (v2 < 4)
  | .pxCtlStart v0 v1 v2 v3 => agentWf v0 && decide (v1 < 24) && decide (v2 < 4) && snapOff v3
  | .pxSnapWrite v0 v1 v2 v3 _ | .pxSnapRead v0 v1 v2 v3 _ => agentWf v0 && decide (v1 < 24) && decide (v2 < 8) && decide (v3 < 2048)
  | .fillLand v0 v1 | .readShared v0 v1 _ | .readWithOwnership v0 v1 _ | .upgrade v0 v1 _ | .tileCacheHitMoved v0 v1 _ =>
    decide (v0 < 24) && decide (v1 < 2 ^ 39)
  | .writeBackOfM v0 v1 | .cleanEvictionNotice v0 v1 | .snoopInvalidate v0 v1 | .snoopForward v0 v1 _ =>
    decide (v0 < 28) && decide (v1 < 2 ^ 39)
  | .victimMoved v0 | .fcDrainComplete v0 | .foldSleepEntry v0 | .foldWake v0 => decide (v0 < 24)
  | .evictionBufferInstall v0 | .bypassWalkComplete v0 | .tcModeTakeEffect v0 | .tamperTrip v0 | .tamperSensorClear v0 =>
    decide (v0 < 4)
  | .replWrite v0 v1 _ | .waydisWrite v0 v1 _ | .wayflushWrite v0 v1 _ | .fcEcclogClear v0 v1 _ => agentWf v0 && decide (v1 < 28)
  | .wayWalkComplete v0 => decide (v0 < 28)
  | .fmCopy v0 | .fmFill v0 | .fmWb v0 | .fmWbi v0 => decide (v0 < 8192)
  | .farMemoryComplete _ | .trainingOrRepairComplete _ _ | .resyncComplete | .powerFailDrain | .drainComplete _ _ | .ledgerThaw |
    .formationEnd | .huInvdone | .stintPeriodBoundary | .mrstNRelease _ _ _ _ | .mrstNAssert | .getInfo _ | .getRecord _ | .getCerts |
    .keyWrite | .keyErase | .keyDescribe | .keyEraseOwner | .loadMemtrain _ | .memtrainComplete _ | .loadDroverFw _ | .loadCzUcode _ |
    .loadMloader _ | .extend | .seal | .autoSeal | .addendumSigned | .shepUpdate | .shepCommit | .own | .returnOwned | .void _ |
    .provision _ | .certify _ _ _ | .meshCheck _ | .shepherdLockstepMismatch | .shepherdRestartComplete _ | .drbgReseed |
    .recordReoffer | .getVersion | .getCapabilities | .negotiateAlgorithms | .getDigests | .respondIfReady | .spdmUnsupportedRequest |
    .getEndpointId | .getMctpVersionSupport | .getMessageTypeSupport | .coreSelftestComplete _ | .asyncMachineCheck | .extest |
    .samplePreload | .idcode | .clamp | .highz | .extestPulse | .extestTrain | .bypass | .tenseChange | .recordPieceSend |
    .recordPieceAccept | .recordPauseTimeout | .recordAcceptTimeout | .uartReceive _ | .tracePcSample | .syncEdge | .uartByteSent |
    .traceRecordSent => true
  | .sxBankctlWrite v0 v1 _ | .sxKeepwipe v0 v1 _ | .sxEcclogClear v0 v1 _ | .sxErrlogClear v0 v1 _ | .czWithdraw v0 v1 _ |
    .czTest v0 v1 | .czVerlogClear v0 v1 | .cyWithdraw v0 v1 _ | .cyTest v0 v1 | .cyErrlogClear v0 v1 | .pwFlockWrite v0 v1 _ =>
    agentWf v0 && decide (v1 < 12)
  | .bankStateChangeComplete v0 v1 | .cipherJobComplete v0 v1 | .outputWithheld v0 v1 _ => decide (v0 < 12) && decide (v1 < 16)
  | .keepWipeComplete v0 | .compress v0 | .decompress v0 | .compressionUnitComplete v0 _ _ | .czTestComplete v0 _ | .gcmEnc v0 |
    .gcmDec v0 | .xtsEnc v0 | .xtsDec v0 | .ctr v0 | .cmacGen v0 | .cmacVer v0 | .hmacGen v0 | .hmacVer v0 | .lockWipeComplete v0 |
    .cyTestComplete v0 _ | .flockSleepEntry v0 | .flockWake v0 | .maskingGeneratorReseed v0 => decide (v0 < 12)
  | .patrolScrub v0 v1 _ => decide (v0 < 20) && decide (v1 < 2 ^ 39)
  | .granuleWriteHoldExpire v0 => decide (v0 < 2 ^ 34)
  | .mcRetrain v0 v1 | .mcRepair v0 v1 => agentWf v0 && decide (v1 < 20)
  | .channelOffline v0 => decide (v0 < 20)
  | .penAttach v0 v1 | .penStop v0 v1 | .penResume v0 v1 | .penAbort v0 v1 | .penDetach v0 v1 | .penReload v0 v1 =>
    agentWf v0 && decide (v1 < 65536)
  | .penStopped v0 | .commandSend v0 | .read v0 | .write v0 | .flush v0 | .writeZeroes v0 | .deallocate v0 | .compare v0 |
    .compareAndWrite v0 | .admin v0 | .ringTx v0 | .ringRx v0 | .ringCmd v0 | .ringQuery v0 | .completionPoll v0 |
    .commandTimeout v0 => decide (v0 < 65536)
  | .penRestore v0 v1 v2 | .penFail v0 v1 v2 => agentWf v0 && decide (v1 < 65536) && decide (v2 < 256)
  | .penMove v0 v1 v2 => agentWf v0 && decide (v1 < 65536) && decide (v2 < 32)
  | .penMoveComplete v0 => decide (v0 < 1024)
  | .run v0 v1 v2 _ => decide (v0 < 8192) && decide (v1 < 65536) && decide (v2 < 4096)
  | .nvmeCompletionEntry v0 v1 _ | .ringCompletionEntry v0 v1 _ | .pathFailureReissue v0 v1 => decide (v0 < 65536) && decide (v1 < 8)
  | .msixAbsorb v0 v1 v2 => decide (v0 < 128) && decide (v1 < 65536) && decide (v2 < 2 ^ 32)
  | .linkRetrain v0 v1 | .linkReeq v0 v1 | .linkRelease v0 v1 | .lkErrlogClear v0 v1 _ => agentWf v0 && decide (v1 < 128)
  | .linkReeqComplete v0 | .linkDown v0 _ | .dreqTimeout v0 | .pcieCorrectableError v0 | .pcieFatalError v0 | .hello v0 _ |
    .ackTimer v0 | .replayTimeout v0 => decide (v0 < 128)
  | .linkUp v0 v1 v2 _ => decide (v0 < 128) && decide (v1 < 65536) && decide (v2 < 17)
  | .lkMarginGo v0 v1 v2 _ => agentWf v0 && decide (v1 < 128) && decide (v2 < 16)
  | .marginComplete v0 v1 => decide (v0 < 128) && decide (v1 < 128)
  | .dreqMemoryRead v0 v1 _ v2 | .dreqMemoryWrite v0 v1 _ v2 | .dreqConfigurationRead v0 v1 v2 | .dreqConfigurationWrite v0 v1 v2 =>
    agentWf v0 && decide (v1 < 128) && decide (v2 < 2 ^ 54)
  | .dreqComplete v0 v1 v2 => decide (v0 < 128) && decide (v1 < 4) && decide (v2 < 2 ^ 64)
  | .deviceMemoryRequest v0 v1 _ => decide (v0 < 128) && devWf v1
  | .atsTranslationRequest v0 v1 v2 | .pcieNonfatalError v0 v1 v2 _ => decide (v0 < 128) && decide (v1 < 65536) && decide (v2 < 2 ^ 64)
  | .atsInvalidateTimeout v0 v1 => decide (v0 < 128) && decide (v1 < 256)
  | .null v0 v1 => decide (v0 < 128) && decide (v1 < 4096)
  | .link v0 _ _ v1 v2 => decide (v0 < 128) && decide (v1 < 4096) && decide (v2.length = 6)
  | .route v0 v1 v2 v3 _ _ => decide (v0 < 128) && hdrWf v1 && decide (v2 < 8) && decide (v3 < 4096)
  | .rds v0 v1 _ | .rdo v0 v1 _ _ | .upg v0 v1 _ | .rdu v0 v1 _ | .wru v0 v1 _ _ | .wb v0 v1 _ _ | .evc v0 v1 | .inv v0 v1 |
    .gnt v0 v1 | .iack v0 v1 | .cmp v0 v1 _ | .iackd v0 v1 _ _ => decide (v0 < 128) && hdrWf v1
  | .fmop v0 v1 v2 => decide (v0 < 128) && hdrWf v1 && decide (v2.length = 8)
  | .fwds v0 v1 v2 | .fwdo v0 v1 v2 | .nack v0 v1 v2 => decide (v0 < 128) && hdrWf v1 && decide (v2 < 8)
  | .data v0 v1 v2 _ _ => decide (v0 < 128) && hdrWf v1 && decide (v2 < 4)
  | .pcmd v0 v1 v2 v3 v4 => decide (v0 < 128) && hdrWf v1 && decide (v2 < 65536) && decide (v3 < 65536) && decide (v4.length % 4 = 0)
  | .pstat v0 v1 v2 v3 => decide (v0 < 128) && hdrWf v1 && decide (v2 < 65536) && decide (v3 < 2 ^ 32)
  | .badFlit v0 v1 => decide (v0 < 128) && (v1.all fun x => decide (x < 16))
  | .czStoppart v0 v1 v2 | .cyForce v0 v1 v2 => agentWf v0 && decide (v1 < 12) && decide (v2 < 2047)
  | .cipherDatapathError v0 v1 v2 => decide (v0 < 12) && decide (v1 < 16) && decide (v2 < 8)
  | .acquire v0 v1 v2 | .release v0 v1 v2 => agentWf v0 && decide (v1 < 12) && decide (v2 < 2 ^ 32)
  | .ptAdmit v0 v1 v2 _ => agentWf v0 && decide (v1 < 257) && decide (v2 < 2047)
  | .ptQuiesce v0 v1 | .ptResume v0 v1 | .ptRemove v0 v1 | .ptMode v0 v1 _ => agentWf v0 && decide (v1 < 257)
  | .ptCoreWrite v0 v1 v2 => agentWf v0 && decide (v1 < 216) && decide (v2 < 257)
  | .stintOpportunity v0 _ => decide (v0 < 192)
  | .coalesceTimerExpire v0 => decide (v0 < 2048)
  | .evRouteWrite v0 v1 _ | .evStatClear v0 v1 _ => agentWf v0 && decide (v1 < 2048)
  | .evEoi v0 v1 v2 _ => agentWf v0 && decide (v1 < 216) && decide (v2 < 3)
  | .firmwareLoadComplete v0 | .droverLockstepMismatch v0 => decide (v0 < 32)
  | .noiseSourceFailure v0 => decide (v0 < 2)
  | .getCertificate v0 v1 v2 => decide (v0 < 256) && decide (v1 < 65536) && decide (v2 < 65536)
  | .challenge v0 | .getMeasurements v0 _ | .setEndpointId v0 => decide (v0 < 256)
  | .strikeDrainTick v0 _ => decide (v0 < 17)
  | .ftCntClear v0 v1 v2 _ => agentWf v0 && decide (v1 < 17) && decide (v2 < 3200)
  | .railExcursion v0 _ _ => decide (v0 < 9)
  | .temperatureSample v0 => decide (v0.length = 44)
  | .thermalCapStep v0 | .pllStepComplete v0 => decide (v0 < 36)

end Sys2Proof
end

