-- ==== Sys2Proof/Safety.lean ====
section
/-! DEFINITION. What counts as a safe state and a safe run, and the conditions the statements are made under: an operation that is next to issue, a store to the control space that is accepted. -/

namespace Sys2Proof.Machine

open Sys2Proof

/-! ### Safe states and runs -/

/-- Memory in its canonical form: addresses strictly rising, no byte listed that reads as an unlisted one does. -/
def State.memOk (s : State) : Bool := twf (fun _ => memDefault) s.mem

/-- The control registers in order: offsets strictly rising. -/
def State.regsOk (s : State) : Bool := tsorted s.regs

/-- The tables that the control space and the address map read are in order, and the module ID is one of eight (R4, R11). -/
def State.ok (s : State) : Bool := s.memOk && s.regsOk && decide (s.ownModule < 8)

/-- The outcome of a step is a next state. -/
def isNext {σ φ ρ : Type} : Host.Outcome σ φ ρ → Bool
  | .next _ => true
  | _ => false

/-- A run of `k` steps in which every step answers a next state. -/
def SafeFor (s : State) : Nat → Prop
  | 0 => True
  | k + 1 => ∃ t, step s = .next t ∧ SafeFor t k

/-! ### Operations at issue -/

/-- The registers of the core an operation issues on. -/
def State.regsOf (s : State) (x : Slot) : Arch := (s.core x.core).arch

/-- The operation with word `w` is the next of its core's bundle to issue, and its guard reads 1 (R33, R34). -/
def State.takes (s : State) (x : Slot) (w : OpWord) : Bool := s.canIssue x w && (s.regsOf x).rp x.guard.toNat

/-- The operation with word `w` is the next of its core's bundle to issue, and its guard reads 0 (R33). -/
def State.skips (s : State) (x : Slot) (w : OpWord) : Bool := s.canIssue x w && !(s.regsOf x).rp x.guard.toNat

/-- The state after an operation has issued with results that land in the `lat`-th issue cycle from its own on (R36). -/
def State.issue (s : State) (x : Slot) (w : OpWord) (lat : Nat) (r : OpRes) : State :=
  s.modCore x.core fun c => c.issueRes x w lat r

/-- A command issues an operation: where it is next and on, its flight joins those of its core and its slot has issued. -/
def Issues (i : Instr) (x : Slot) (s : State) (lat : Nat) (r : OpRes) : Prop :=
  s.takes x (encode i) = true → exec i s = .next (s.issue x (encode i) lat r)

/-- The place of an operation command: its core, slot and guard; none for a command that is no operation. -/
def placeOf (i : Instr) : Option Slot :=
  match i with
  | .nop x | .syscall x _ | .mgrcall x _ | .iret x | .fenceS x | .fenceF x | .gath x | .wfe x | .crd x _ _ | .cwr x _ _ |
    .cctlWrite x _ | .trd x _ _ | .twait x _ _ | .repi x _ | .repn x _ | .bt x _ _ | .bf x _ _ | .call x _ | .bri x _ |
    .calli x _ | .ret x | .add x _ _ _ | .sub x _ _ _ | .addv x _ _ _ | .subv x _ _ _ | .and x _ _ _ | .or x _ _ _ |
    .xor x _ _ _ | .andn x _ _ _ | .shl x _ _ _ | .shr x _ _ _ | .sar x _ _ _ | .ror x _ _ _ | .min x _ _ _ | .max x _ _ _ |
    .minu x _ _ _ | .maxu x _ _ _ | .neg x _ _ | .negv x _ _ | .clz x _ _ | .ctz x _ _ | .popc x _ _ | .bswap x _ _ |
    .addi x _ _ _ | .andi x _ _ _ | .ori x _ _ _ | .xori x _ _ _ | .shli x _ _ _ | .shri x _ _ _ | .sari x _ _ _ |
    .rori x _ _ _ | .movz x _ _ _ | .movk x _ _ _ | .spadd x _ | .cmpEq x _ _ _ | .cmpNe x _ _ _ | .cmpLt x _ _ _ |
    .cmpLe x _ _ _ | .cmpLtu x _ _ _ | .cmpLeu x _ _ _ | .tst x _ _ _ | .pand x _ _ _ | .por x _ _ _ | .pxor x _ _ _ |
    .pandn x _ _ _ | .cmpiEq x _ _ _ | .cmpiNe x _ _ _ | .cmpiLt x _ _ _ | .cmpiLe x _ _ _ | .cmpiGt x _ _ _ | .cmpiGe x _ _ _ |
    .cmpiLtu x _ _ _ | .cmpiGeu x _ _ _ | .mul x _ _ _ | .mulh x _ _ _ | .mulhu x _ _ _ | .mulv x _ _ _ | .divsP x _ _ _ |
    .divuP x _ _ _ | .dstep x _ _ _ | .dfin x _ _ _ | .dnorm x _ _ _ | .ld x _ _ _ _ _ _ | .lds x _ _ _ _ _ _ |
    .st x _ _ _ _ _ | .ldf x _ _ _ _ _ _ | .stf x _ _ _ _ _ | .swap x _ _ _ _ | .atomicFadd x _ _ _ _ | .cas x _ _ _ _ |
    .strel x _ _ _ | .dci x _ | .ici x _ | .dcf x _ | .dcfi x _ | .dzl x _ | .dcia x | .icia x | .submit x _ _ _ |
    .fadd x _ _ _ _ | .fsub x _ _ _ _ | .fmul x _ _ _ _ | .fmin x _ _ _ _ | .fmax x _ _ _ _ | .fabs x _ _ _ | .fneg x _ _ _ |
    .fcps x _ _ _ _ | .fcvt x _ _ _ _ | .dqua x _ _ _ _ | .frint x _ _ _ | .fma x _ _ _ _ _ | .fms x _ _ _ _ _ |
    .fnma x _ _ _ _ _ | .fnms x _ _ _ _ _ | .fmvg x _ _ | .fmvgh x _ _ | .gmvf x _ _ | .gmvfh x _ _ | .fcvtG x _ _ _ |
    .fcvtzG x _ _ _ | .fcvtF x _ _ _ | .fcvtuF x _ _ _ | .fcmpEq x _ _ _ _ | .fcmpLt x _ _ _ _ | .fcmpLe x _ _ _ _ |
    .fcmpUn x _ _ _ _ | .fcmpLtq x _ _ _ _ | .fcmpLeq x _ _ _ _ | .fcmpEqs x _ _ _ _ | .tlfl x _ _ _ _ | .tlin x _ _ _ _ |
    .tllg x _ _ _ _ | .fdivP x _ _ _ _ | .fdstep x _ _ _ _ | .fdfin x _ _ _ _ | .fsqrtP x _ _ _ _ | .frstep x _ _ _ _ |
    .frfin x _ _ _ _ | .xdivP x _ _ _ _ | .xdstep x _ _ _ _ | .xdfin x _ _ _ _ => some x
  | _ => none

/-- Whether a command is a load (R94). -/
def isLoad (i : Instr) : Bool :=
  match i with
  | .ld .. | .lds .. | .ldf .. => true
  | _ => false

/-! ### Stores to the control space -/

/-- A store of `v` to an instance of a register of the own module is accepted: out of reset, the register answers the agent,
is no live register of a drafted set, and no field of it takes a reserved value (R14 to R18, R24). -/
def State.accepts (s : State) (a : Agent) (r : Reg) (i j : Nat) (v : Word) : Prop :=
  s.power.held = false ∧ s.ownModule < 8 ∧ r.addr i j < 2 ^ 32 ∧ r.addr i j % 8 = 0 ∧ regAt (r.addr i j) = some (r, i, j)
    ∧ s.ctlAt a (r.addr i j) = .reg r i j ∧ r.place.drafted = false ∧ r.reservedWrite i v.toNat = false

/-- A command that is a store to a register has the effect `t` where the store is accepted. -/
def Stores (c : Instr) (s : State) (a : Agent) (r : Reg) (i j : Nat) (v : Word) (t : State) : Prop :=
  s.accepts a r i j v → exec c s = .next t

end Sys2Proof.Machine
end

