-- ==== Sys2Proof/Certificates/Slice0/Obligations.lean ====
section
/-! DEFINITION. The statements about the AP-192 that the provers settle, chapter by chapter. -/

open Sys2Proof Sys2Proof.Machine

/-- For every command c and state s, a step of s with c put at the front of its queue answers what exec answers for c on s
with the queue's rest (the queue is the model's own, log entry 50). (R4.) -/
def Obligations.StepRunsFrontCommand : Prop :=
  ∀ (c : Instr) (s : State), step { s with pending := c :: s.pending } = exec c s

/-- On an empty queue a step answers a next state in which PW_AOTIME has risen by 1 and nothing else has changed while MRST_N
is high, and in which nothing has changed while MRST_N holds the module: the model's choice (log entry 50). (R655, R664.) -/
def Obligations.IdleStepTicksTheClock : Prop :=
  ∀ (s : State), s.pending = [] →
    (s.power.held = true → step s = .next s) ∧
    (s.power.held = false → ∃ t, step s = .next t ∧ t.rget .pwAotime = s.rget .pwAotime + 1 ∧ { t with regs := s.regs } = s ∧
      ∀ r i j, r.addr i j ≠ Reg.pwAotime.addr → t.rget r i j = s.rget r i j)

/-- Right after reset the queue is empty, MRST_N is asserted, every control register reads its reset value, every byte of
memory reads as an unwritten one does (0: the model's choice, log entry 4), every core has the register values of R110 with
MOOD 0x800000, its logical core is STOPPED and its caches are empty, every tally is IDLE, no key slot holds a key, and the
tables are in order with a module ID below 8. (R26, R110, R283, R302, R346, R483, R657.) -/
def Obligations.ResetState : Prop :=
  State.reset.ok = true ∧ State.reset.pending = [] ∧ State.reset.power.held = true ∧
    (∀ r i j, State.reset.rget r i j = BitVec.ofNat 64 (r.reset i j)) ∧ (∀ pa, State.reset.byte pa = memDefault) ∧
    (∀ n, State.reset.core n = Core.reset) ∧ Core.reset.arch.cr 0 = 0x800000#64 ∧ (∀ k, k ≠ 0 → Core.reset.arch.cr k = 0) ∧
    (∀ n, Core.reset.arch.rt n = 0xFFFE000000000000#64) ∧ (∀ l, State.reset.lstate l = 4) ∧ Core.reset.l1d = [] ∧ Core.reset.l1i = [] ∧
    ∀ k, State.reset.keySlot k = KeySlot.reset

/-- In every state whose memory is canonical (addresses strictly rising, no byte listed that reads as an unlisted one), each
operation that writes memory leaves it canonical: a line written through the controller, coherent writes of bytes and by mask,
the write-backs of a clean and of an invalidation, the write-back of a draining cache, scratchpad writes of bytes and by mask,
and the zeroing of a scratchpad bank. The last also leaves every byte of its bank reading as an unwritten one and every byte
outside it as it was. (R11, R209, R293, R300, R302, R318.) -/
def Obligations.MemoryKeepsItsForm : Prop :=
  ∀ (s : State), s.memOk = true →
    (∀ line d p, (s.memWriteLine line d p).memOk = true) ∧ (∀ pa bs, (s.cohWrite pa bs).memOk = true) ∧
    (∀ line d m, (s.cohWriteMask line d m).memOk = true) ∧ (∀ line, (s.cleanAll line).memOk = true) ∧
    (∀ line, (s.invalidateAll line).memOk = true) ∧ (∀ f line, (s.drainAhead f line).memOk = true) ∧
    (∀ ag pa bs, (s.spWrite ag pa bs).1.memOk = true) ∧ (∀ ag line d m, (s.spWriteMask ag line d m).1.memOk = true) ∧
    ∀ k b, (s.zeroBank k b).memOk = true ∧ ∀ pa,
      (s.zeroBank k b).byte pa = if s.spBase k + b * 2 ^ 20 ≤ pa ∧ pa < s.spBase k + (b + 1) * 2 ^ 20 then memDefault else s.byte pa

/-- In every state whose memory is canonical, after a run of bytes is written from an address up, each byte of the run reads
as written and every byte outside the run reads as before; nothing but memory changes. (R11, R293.) -/
def Obligations.MemoryReadsWhatWasWritten : Prop :=
  ∀ (s : State) (pa : Nat) (bs : List Byte), s.memOk = true →
    (∀ i, i < bs.length → (setBytes s pa bs).byte (pa + i) = lget 0 bs i) ∧
    (∀ a, (a < pa ∨ pa + bs.length ≤ a) → (setBytes s pa bs).byte a = s.byte a) ∧
    { setBytes s pa bs with mem := s.mem } = s

/-- If two states have canonical memories and every byte reads the same in both, their memories are the same list. (R11,
R293.) -/
def Obligations.EqualMemoriesAreEqualData : Prop :=
  ∀ (s t : State), s.memOk = true → t.memOk = true → (∀ pa, s.byte pa = t.byte pa) → s.mem = t.mem

/-- For every well-formed operation command i, issued at place x, some chance of the access makes the decoder read i back from
the word that encodes it, with every operand: but for a CWR of CCTL, which the table names as a row of its own and which
decodes to CCTL_WRITE. (R75, R76, R77, R83, R85, R89, R90, R94, R99, R102, R103, R116.) -/
def Obligations.OperationRoundTrip : Prop :=
  ∀ (i : Instr) (x : Slot), placeOf i = some x → i.wf = true →
    ∃ ch, decodeOp x.core x.slot ch (encode i) =
      some (match i with
        | .cwr x c rs => if c = 9 then .cctlWrite x rs else .cwr x c rs
        | i => i)

/-- With guard p0, ADD g1, g2, g3 is the word 0x060420C0, ADDI g1, g2, -1 is 0x07042FFF, a signed halfword LD of slot 2 with
offset 4 is major 0x11, and DADD of decimal64 is major 0x18 with format 2; the word of all zeros is reserved in every slot.
(R75, R77, R90, R94, R99.) -/
def Obligations.SomeOperationWords : Prop :=
  (∀ ch, decodeOp 0 0 ch 0x060420C0#32 = some (.add ⟨0, 0, 0⟩ 1 2 3)) ∧ (∀ ch, decodeOp 5 3 ch 0x07042FFF#32 = some (.addi ⟨5, 3, 0⟩ 1 2 0xFFF)) ∧
    (∀ ch, decodeOp 0 2 ch 0x11042204#32 = some (.lds ⟨0, 2, 0⟩ 1 2 1 0 4 ch)) ∧
    (∀ ch, decodeOp 0 3 ch 0x18088700#32 = some (.fadd ⟨0, 3, 0⟩ 1 2 3 2)) ∧
    ∀ core slot ch, decodeOp core slot ch 0#32 = none

/-- Where it is next to issue and its guard reads 1, each operation of R90 issues with latency 1: ADD to BSWAP each land the
value R90 gives of ra and rb in rd, and ADDV, SUBV and NEGV also raise IV where the exact signed result does not fit in 64
bits, with the trap of vector 0x07 where MOOD.VT is set; no other register, no memory and no control register changes at
issue. (R33, R36, R90, R122, R123.) -/
def Obligations.IntegerAluResults : Prop :=
  ∀ (s : State) (x : Slot) (rd ra rb : BitVec 6) (a b : Word),
    a = (s.regsOf x).rg ra.toNat → b = (s.regsOf x).rg rb.toNat →
    let v := fun (w : Word) (exact : Int) =>
      if -(2 ^ 63) ≤ exact ∧ exact ≤ 2 ^ 63 - 1 then gres rd w
      else ({ writes := [⟨.g rd.toNat, w.setWidth 128⟩], flags := 64, trap := if flag ((s.regsOf x).cr 0) 19 then some ⟨7, 64⟩ else none } : OpRes)
    Issues (.add x rd ra rb) x s 1 (gres rd (a + b)) ∧
    Issues (.sub x rd ra rb) x s 1 (gres rd (a - b)) ∧
    Issues (.addv x rd ra rb) x s 1 (v (a + b) (a.toInt + b.toInt)) ∧
    Issues (.subv x rd ra rb) x s 1 (v (a - b) (a.toInt - b.toInt)) ∧
    Issues (.and x rd ra rb) x s 1 (gres rd (a &&& b)) ∧
    Issues (.or x rd ra rb) x s 1 (gres rd (a ||| b)) ∧
    Issues (.xor x rd ra rb) x s 1 (gres rd (a ^^^ b)) ∧
    Issues (.andn x rd ra rb) x s 1 (gres rd (a &&& ~~~b)) ∧
    Issues (.shl x rd ra rb) x s 1 (gres rd (if 64 ≤ b.toNat then 0 else a <<< b.toNat)) ∧
    Issues (.shr x rd ra rb) x s 1 (gres rd (if 64 ≤ b.toNat then 0 else a >>> b.toNat)) ∧
    Issues (.sar x rd ra rb) x s 1 (gres rd (if 64 ≤ b.toNat then (if a.msb then BitVec.allOnes 64 else 0) else a.sshiftRight b.toNat)) ∧
    Issues (.ror x rd ra rb) x s 1 (gres rd (a.rotateRight (b.toNat % 64))) ∧
    Issues (.min x rd ra rb) x s 1 (gres rd (if a.toInt ≤ b.toInt then a else b)) ∧
    Issues (.max x rd ra rb) x s 1 (gres rd (if a.toInt ≤ b.toInt then b else a)) ∧
    Issues (.minu x rd ra rb) x s 1 (gres rd (if a.toNat ≤ b.toNat then a else b)) ∧
    Issues (.maxu x rd ra rb) x s 1 (gres rd (if a.toNat ≤ b.toNat then b else a)) ∧
    Issues (.neg x rd ra) x s 1 (gres rd (0 - a)) ∧
    Issues (.negv x rd ra) x s 1 (v (0 - a) (-a.toInt)) ∧
    Issues (.clz x rd ra) x s 1 (gres rd (clz64 a)) ∧
    Issues (.ctz x rd ra) x s 1 (gres rd (ctz64 a)) ∧
    Issues (.popc x rd ra) x s 1 (gres rd (BitVec.ofNat 64 ((List.range 64).filter fun i => a.getLsbD i).length)) ∧
    Issues (.bswap x rd ra) x s 1 (gres rd (bswap64 a))

/-- For every value: CLZ gives the number of 0 bits above the highest 1 bit, CTZ the number of 0 bits below the lowest, each
64 where there is none, and byte i of BSWAP is byte 7 - i of the value. (R90.) -/
def Obligations.BitCountsAndByteReversal : Prop :=
  ∀ (a : Word),
    (∃ n, n ≤ 64 ∧ clz64 a = BitVec.ofNat 64 n ∧ (∀ i, i < n → a.getMsbD i = false) ∧ (n < 64 → a.getMsbD n = true)) ∧
    (∃ n, n ≤ 64 ∧ ctz64 a = BitVec.ofNat 64 n ∧ (∀ i, i < n → a.getLsbD i = false) ∧ (n < 64 → a.getLsbD n = true)) ∧
    ∀ i j, i < 8 → j < 8 → (bswap64 a).getLsbD (8 * i + j) = a.getLsbD (8 * (7 - i) + j)

/-- Where it is next to issue and on, each operation of R91 issues with latency 1 and lands in rd the value R91 gives of ra
(or of rd for MOVK) and its immediate, and SPADD lands in the current level's sp the sum of sp and eight times its
sign-extended immediate. (R33, R36, R88, R91.) -/
def Obligations.IntegerImmediateResults : Prop :=
  ∀ (s : State) (x : Slot) (rd ra : BitVec 6) (i12 : BitVec 12) (i10 : BitVec 10) (sh : BitVec 6) (hw : BitVec 2) (i16 : BitVec 16) (a : Word),
    a = (s.regsOf x).rg ra.toNat →
    Issues (.addi x rd ra i12) x s 1 (gres rd (a + i12.signExtend 64)) ∧
    Issues (.andi x rd ra i10) x s 1 (gres rd (a &&& i10.signExtend 64)) ∧
    Issues (.ori x rd ra i10) x s 1 (gres rd (a ||| i10.signExtend 64)) ∧
    Issues (.xori x rd ra i10) x s 1 (gres rd (a ^^^ i10.signExtend 64)) ∧
    Issues (.shli x rd ra sh) x s 1 (gres rd (a <<< sh.toNat)) ∧
    Issues (.shri x rd ra sh) x s 1 (gres rd (a >>> sh.toNat)) ∧
    Issues (.sari x rd ra sh) x s 1 (gres rd (a.sshiftRight sh.toNat)) ∧
    Issues (.rori x rd ra sh) x s 1 (gres rd (a.rotateRight sh.toNat)) ∧
    Issues (.movz x rd hw i16) x s 1 (gres rd (BitVec.ofNat 64 (i16.toNat * 2 ^ (16 * hw.toNat)))) ∧
    Issues (.movk x rd hw i16) x s 1 (gres rd (setFld ((s.regsOf x).rg rd.toNat) (16 * hw.toNat + 15) (16 * hw.toNat) i16.toNat)) ∧
    Issues (.spadd x i16) x s 1 ⟨[⟨.sp (s.regsOf x).pl, ((s.regsOf x).cr (spKey (s.regsOf x).pl) + 8 * i16.signExtend 64).setWidth 128⟩], 0, none⟩

/-- Where it is next to issue and on, each operation of R92 issues with latency 1 and lands in pd whether its relation holds:
signed for LT, LE, GT and GE, unsigned for LTU, LEU and GEU, of ra with rb or with the sign-extended immediate; TST whether ra
and rb share a 1 bit; PAND, POR, PXOR and PANDN the connective of pa and pb. (R33, R36, R92.) -/
def Obligations.CompareAndPredicateResults : Prop :=
  ∀ (s : State) (x : Slot) (pd pa pb : BitVec 3) (ra rb : BitVec 6) (imm : BitVec 12) (a b c : Word) (p q : Bool),
    a = (s.regsOf x).rg ra.toNat → b = (s.regsOf x).rg rb.toNat → c = imm.signExtend 64 →
    p = (s.regsOf x).rp pa.toNat → q = (s.regsOf x).rp pb.toNat →
    Issues (.cmpEq x pd ra rb) x s 1 (pres pd (decide (a = b))) ∧
    Issues (.cmpNe x pd ra rb) x s 1 (pres pd (decide (a ≠ b))) ∧
    Issues (.cmpLt x pd ra rb) x s 1 (pres pd (decide (a.toInt < b.toInt))) ∧
    Issues (.cmpLe x pd ra rb) x s 1 (pres pd (decide (a.toInt ≤ b.toInt))) ∧
    Issues (.cmpLtu x pd ra rb) x s 1 (pres pd (decide (a.toNat < b.toNat))) ∧
    Issues (.cmpLeu x pd ra rb) x s 1 (pres pd (decide (a.toNat ≤ b.toNat))) ∧
    Issues (.tst x pd ra rb) x s 1 (pres pd (decide (a &&& b ≠ 0))) ∧
    Issues (.pand x pd pa pb) x s 1 (pres pd (p && q)) ∧
    Issues (.por x pd pa pb) x s 1 (pres pd (p || q)) ∧
    Issues (.pxor x pd pa pb) x s 1 (pres pd (p ^^ q)) ∧
    Issues (.pandn x pd pa pb) x s 1 (pres pd (p && !q)) ∧
    Issues (.cmpiEq x pd ra imm) x s 1 (pres pd (decide (a = c))) ∧
    Issues (.cmpiNe x pd ra imm) x s 1 (pres pd (decide (a ≠ c))) ∧
    Issues (.cmpiLt x pd ra imm) x s 1 (pres pd (decide (a.toInt < c.toInt))) ∧
    Issues (.cmpiLe x pd ra imm) x s 1 (pres pd (decide (a.toInt ≤ c.toInt))) ∧
    Issues (.cmpiGt x pd ra imm) x s 1 (pres pd (decide (c.toInt < a.toInt))) ∧
    Issues (.cmpiGe x pd ra imm) x s 1 (pres pd (decide (c.toInt ≤ a.toInt))) ∧
    Issues (.cmpiLtu x pd ra imm) x s 1 (pres pd (decide (a.toNat < c.toNat))) ∧
    Issues (.cmpiGeu x pd ra imm) x s 1 (pres pd (decide (c.toNat ≤ a.toNat)))

/-- Where it is next to issue and on: MUL, MULH, MULHU and MULV issue with latency 3 and land the half of the product that R93
names, MULV raising IV where the signed product does not fit; DIVS.P and DIVU.P land gQ, gR and the sign bits of R125, DSTEP
the step of R126, DFIN the quotient, remainder and flag of R127 with their trap, and DNORM the count of R128, each with
latency 1. (R33, R36, R93, R122, R125, R126, R127, R128.) -/
def Obligations.MultiplyAndDivisionStepResults : Prop :=
  ∀ (s : State) (x : Slot) (rd ra rb gq gr gd : BitVec 6) (a b q r d : Word) (m : Mood) (qs rs : Bool),
    a = (s.regsOf x).rg ra.toNat → b = (s.regsOf x).rg rb.toNat → q = (s.regsOf x).rg gq.toNat → r = (s.regsOf x).rg gr.toNat →
    d = (s.regsOf x).rg gd.toNat → m = (s.regsOf x).mood → qs = flag ((s.regsOf x).cr 1) 15 → rs = flag ((s.regsOf x).cr 1) 14 →
    let prep := fun (signed : Bool) =>
      let v := divPrepare signed q r d
      ({ writes := [⟨.g gq.toNat, v.q.setWidth 128⟩, ⟨.g gr.toNat, v.r.setWidth 128⟩, ⟨.divSigns, BitVec.ofNat 128 (2 * bnat v.qs + bnat v.rs)⟩],
         flags := 0, trap := none } : OpRes)
    let fl := if -(2 ^ 63) ≤ a.toInt * b.toInt ∧ a.toInt * b.toInt ≤ 2 ^ 63 - 1 then 0 else 64
    Issues (.mul x rd ra rb) x s 3 (gres rd (a * b)) ∧
    Issues (.mulh x rd ra rb) x s 3 (gres rd (BitVec.ofInt 64 (a.toInt * b.toInt / 2 ^ 64))) ∧
    Issues (.mulhu x rd ra rb) x s 3 (gres rd (BitVec.ofNat 64 (a.toNat * b.toNat / 2 ^ 64))) ∧
    Issues (.mulv x rd ra rb) x s 3 ⟨[⟨.g rd.toNat, (a * b).setWidth 128⟩], fl, intTrap m fl⟩ ∧
    Issues (.divsP x gq gr gd) x s 1 (prep true) ∧
    Issues (.divuP x gq gr gd) x s 1 (prep false) ∧
    Issues (.dstep x gq gr gd) x s 1 ⟨[⟨.g gq.toNat, (divStep q r d qs rs).1.setWidth 128⟩, ⟨.g gr.toNat, (divStep q r d qs rs).2.setWidth 128⟩], 0, none⟩ ∧
    Issues (.dfin x gq gr gd) x s 1 ⟨[⟨.g gq.toNat, (divFin q r d qs rs).1.setWidth 128⟩, ⟨.g gr.toNat, (divFin q r d qs rs).2.1.setWidth 128⟩],
      (divFin q r d qs rs).2.2, intTrap m (divFin q r d qs rs).2.2⟩ ∧
    Issues (.dnorm x rd ra rb) x s 1 (gres rd (divCount m.ct a b))

/-- For every dividend n, divisor d and count s_in that is at least what DNORM gives for them (in either mood), preparing,
stepping min(s_in, 32) times and finishing gives, where d is not 0, the quotient truncated toward zero and the remainder with
the sign of the dividend (signed), or the unsigned quotient and remainder, with IV exactly for MIN divided by -1 signed; and
where d is 0, quotient 0, remainder n and IZ. (R124, R125, R126, R127, R128.) -/
def Obligations.IntegerDivisionIsExact : Prop :=
  ∀ (signed ct : Bool) (n d sIn : Word), (divCount ct n d).toNat ≤ sIn.toNat →
    let p := divPrepare signed n sIn d
    let e := (List.replicate (min sIn.toNat 32) ()).foldl (fun (x : Word × Word) _ => divStep x.1 x.2 d p.qs p.rs) (p.q, p.r)
    divFin e.1 e.2 d p.qs p.rs =
      if d = 0 then (0, n, 32)
      else if signed then (BitVec.ofInt 64 (n.toInt.tdiv d.toInt), BitVec.ofInt 64 (n.toInt.tmod d.toInt),
        if n = 0x8000000000000000#64 ∧ d = 0xFFFFFFFFFFFFFFFF#64 then 64 else 0)
      else (BitVec.ofNat 64 (n.toNat / d.toNat), BitVec.ofNat 64 (n.toNat % d.toNat), 0)

/-- Where it is next to issue and on, each operation of R99 and R100 issues with the latency of R104 for its format and lands
in fd the operation's one correctly rounded result in that format under the rounding mode of MOOD, with its flags and trap;
FABS, FNEG and FCPS land, with latency 1, the low bits of fa in the format, canonical if decimal, with the sign cleared,
inverted or that of fb. (R33, R36, R99, R100, R104, R105, R131.) -/
def Obligations.FloatingArithmeticResults : Prop :=
  ∀ (s : State) (x : Slot) (fd fa fb fc : BitVec 5) (sfmt fmt : BitVec 2) (r : Arch) (rm : Nat), r = s.regsOf x → rm = modeFor r.mood (fmtOf fmt) →
    Issues (.fadd x fd fa fb fmt) x s (latAdd fmt) (fpRes r (fmtOf fmt) fd (faddV (fmtOf fmt) rm (r.fv fmt fa) (r.fv fmt fb))) ∧
    Issues (.fsub x fd fa fb fmt) x s (latAdd fmt) (fpRes r (fmtOf fmt) fd (fsubV (fmtOf fmt) rm (r.fv fmt fa) (r.fv fmt fb))) ∧
    Issues (.fmul x fd fa fb fmt) x s (latMul fmt) (fpRes r (fmtOf fmt) fd (fmulV (fmtOf fmt) rm (r.fv fmt fa) (r.fv fmt fb))) ∧
    Issues (.fmin x fd fa fb fmt) x s (latAdd fmt) (fpRes r (fmtOf fmt) fd (fminmaxV (fmtOf fmt) false (r.fv fmt fa) (r.fv fmt fb))) ∧
    Issues (.fmax x fd fa fb fmt) x s (latAdd fmt) (fpRes r (fmtOf fmt) fd (fminmaxV (fmtOf fmt) true (r.fv fmt fa) (r.fv fmt fb))) ∧
    Issues (.fabs x fd fa fmt) x s 1 (fresr fd (signBits fmt (r.rf fa.toNat) false)) ∧
    Issues (.fneg x fd fa fmt) x s 1 (fresr fd (signBits fmt (r.rf fa.toNat) (!(r.rf fa.toNat).getLsbD ((fmtOf fmt).width - 1)))) ∧
    Issues (.fcps x fd fa fb fmt) x s 1 (fresr fd (signBits fmt (r.rf fa.toNat) ((r.rf fb.toNat).getLsbD ((fmtOf fmt).width - 1)))) ∧
    Issues (.fcvt x fd fa sfmt fmt) x s (latCvt sfmt fmt) (fpRes r (fmtOf fmt) fd (convV (fmtOf sfmt) (fmtOf fmt) rm (r.fv sfmt fa))) ∧
    Issues (.dqua x fd fa fb fmt) x s (latAdd fmt) (fpRes r (fmtOf fmt) fd (quantizeV (fmtOf fmt) rm (r.fv fmt fa) (r.fv fmt fb))) ∧
    Issues (.frint x fd fa fmt) x s (latAdd fmt) (fpRes r (fmtOf fmt) fd (rintV (fmtOf fmt) rm (r.fv fmt fa))) ∧
    Issues (.fma x fd fa fb fc fmt) x s 4 (fpRes r (fmtOf fmt) fd (fmaV (fmtOf fmt) rm false false (r.fv fmt fa) (r.fv fmt fb) (r.fv fmt fc))) ∧
    Issues (.fms x fd fa fb fc fmt) x s 4 (fpRes r (fmtOf fmt) fd (fmaV (fmtOf fmt) rm false true (r.fv fmt fa) (r.fv fmt fb) (r.fv fmt fc))) ∧
    Issues (.fnma x fd fa fb fc fmt) x s 4 (fpRes r (fmtOf fmt) fd (fmaV (fmtOf fmt) rm true false (r.fv fmt fa) (r.fv fmt fb) (r.fv fmt fc))) ∧
    Issues (.fnms x fd fa fb fc fmt) x s 4 (fpRes r (fmtOf fmt) fd (fmaV (fmtOf fmt) rm true true (r.fv fmt fa) (r.fv fmt fb) (r.fv fmt fc)))

/-- Where it is next to issue and on: FMVG and FMVGH land the low or high half of f in g, GMVF puts g in the low half of f
with the high half 0, GMVFH puts g in the high half and keeps the low; FCVT.G and FCVTZ.G land the integer, rounded by the
mode of MOOD or toward zero, FCVT.F and FCVTU.F the signed or unsigned integer in the format; each FCMP lands its relation in
pd; with the flags and traps of the operation. (R33, R36, R101, R102, R104, R105.) -/
def Obligations.FloatingMoveAndCompareResults : Prop :=
  ∀ (s : State) (x : Slot) (g : BitVec 6) (f fa fb : BitVec 5) (pd : BitVec 3) (fmt : BitVec 2) (r : Arch) (rm : Nat), r = s.regsOf x →
    rm = modeFor r.mood (fmtOf fmt) →
    Issues (.fmvg x g f) x s 1 (gres g ((r.rf f.toNat).extractLsb' 0 64)) ∧
    Issues (.fmvgh x g f) x s 1 (gres g ((r.rf f.toNat).extractLsb' 64 64)) ∧
    Issues (.gmvf x g f) x s 1 (fresr f (0#64 ++ r.rg g.toNat)) ∧
    Issues (.gmvfh x g f) x s 1 (fresr f (r.rg g.toNat ++ (r.rf f.toNat).extractLsb' 0 64)) ∧
    Issues (.fcvtG x g f fmt) x s (latCvt fmt fmt) (fgRes r g (toIntV (fmtOf fmt) rm (r.fv fmt f))) ∧
    Issues (.fcvtzG x g f fmt) x s (latCvt fmt fmt) (fgRes r g (toIntV (fmtOf fmt) 1 (r.fv fmt f))) ∧
    Issues (.fcvtF x g f fmt) x s (latCvt fmt fmt) (fpRes r (fmtOf fmt) f (ofIntV (fmtOf fmt) rm (r.rg g.toNat).toInt)) ∧
    Issues (.fcvtuF x g f fmt) x s (latCvt fmt fmt) (fpRes r (fmtOf fmt) f (ofIntV (fmtOf fmt) rm ((r.rg g.toNat).toNat : Int))) ∧
    Issues (.fcmpEq x pd fa fb fmt) x s 1 (fcmpRes r pd (fcmpV (fmtOf fmt) 0 (r.fv fmt fa) (r.fv fmt fb))) ∧
    Issues (.fcmpLt x pd fa fb fmt) x s 1 (fcmpRes r pd (fcmpV (fmtOf fmt) 1 (r.fv fmt fa) (r.fv fmt fb))) ∧
    Issues (.fcmpLe x pd fa fb fmt) x s 1 (fcmpRes r pd (fcmpV (fmtOf fmt) 2 (r.fv fmt fa) (r.fv fmt fb))) ∧
    Issues (.fcmpUn x pd fa fb fmt) x s 1 (fcmpRes r pd (fcmpV (fmtOf fmt) 3 (r.fv fmt fa) (r.fv fmt fb))) ∧
    Issues (.fcmpLtq x pd fa fb fmt) x s 1 (fcmpRes r pd (fcmpV (fmtOf fmt) 4 (r.fv fmt fa) (r.fv fmt fb))) ∧
    Issues (.fcmpLeq x pd fa fb fmt) x s 1 (fcmpRes r pd (fcmpV (fmtOf fmt) 5 (r.fv fmt fa) (r.fv fmt fb))) ∧
    Issues (.fcmpEqs x pd fa fb fmt) x s 1 (fcmpRes r pd (fcmpV (fmtOf fmt) 6 (r.fv fmt fa) (r.fv fmt fb)))

/-- Where it is next to issue and on, each operation of R103 issues with latency 1: the prepare operations and the steps land
fQ and fR as R147 to R149 compute them of fQ, fR and fD, and the FIN operations land the rounded result in fQ and leave fR as
the last step left it, with their flags and trap. (R33, R36, R103, R147, R148, R149, R150, R151.) -/
def Obligations.FloatingStepResults : Prop :=
  ∀ (s : State) (x : Slot) (fq fr fdv : BitVec 5) (fmt : BitVec 2) (r : Arch) (rm : Nat) (q w : Wide), r = s.regsOf x → rm = modeFor r.mood (fmtOf fmt) →
    q = r.rf fq.toNat → w = r.rf fr.toNat →
    Issues (.fdivP x fq fr fdv fmt) x s 1 (stepRes fq fr (divPrepV (fmtOf fmt) (r.fv fmt fq) (r.fv fmt fdv))) ∧
    Issues (.fdstep x fq fr fdv fmt) x s 1 (stepRes fq fr (fdStepV (fmtOf fmt) q w (r.fv fmt fdv))) ∧
    Issues (.fdfin x fq fr fdv fmt) x s 1 (finRes r (fmtOf fmt) fq fr (binFinV (fmtOf fmt) rm 2 (divSteps (fmtOf fmt)) q w)) ∧
    Issues (.fsqrtP x fq fr fdv fmt) x s 1 (stepRes fq fr (sqrtPrepV (fmtOf fmt) (r.fv fmt fdv))) ∧
    Issues (.frstep x fq fr fdv fmt) x s 1 (stepRes fq fr (frStepV (fmtOf fmt) q w (r.fv fmt fdv))) ∧
    Issues (.frfin x fq fr fdv fmt) x s 1 (finRes r (fmtOf fmt) fq fr (binFinV (fmtOf fmt) rm 1 (sqrtSteps (fmtOf fmt)) q w)) ∧
    Issues (.xdivP x fq fr fdv fmt) x s 1 (stepRes fq fr (divPrepV (fmtOf fmt) (r.fv fmt fq) (r.fv fmt fdv))) ∧
    Issues (.xdstep x fq fr fdv fmt) x s 1 (stepRes fq fr (xdStepV (fmtOf fmt) q w (r.fv fmt fdv))) ∧
    Issues (.xdfin x fq fr fdv fmt) x s 1 (finRes r (fmtOf fmt) fq fr (xdFinV (fmtOf fmt) rm q w (r.fv fmt fdv)))

/-- For every operation command, where it is the next of its core's bundle to issue and its guard reads 0, the next state
differs only in that its slot has issued: no flight is added, and no register, memory byte, control register or other core
changes; and no operation guarded by p0 is off. (R33.) -/
def Obligations.OffOperationsOnlyPassTheirSlot : Prop :=
  ∀ (i : Instr) (x : Slot) (s : State), placeOf i = some x →
    (s.skips x (encode i) = true → exec i s = .next (s.modCore x.core fun c => { c with bundle := c.bundle.map fun b => { b with next := b.next + 1 } })) ∧
    (x.guard = 0 → s.skips x (encode i) = false)

/-- An operation that issues with results to land leaves every register of every core, memory, every control register and
everything else as it was, but that its core has one flight more, which names its bundle and slot and is due in the lat-th
issue cycle from this one, and that the bundle's next slot is the one after; issuing by its own core leaves every other core
untouched. (R34, R36.) -/
def Obligations.IssuingChangesOnlyFlights : Prop :=
  ∀ (s : State) (x : Slot) (w : OpWord) (lat : Nat) (r : OpRes) (b : Bundle), (s.core x.core).bundle = some b →
    let t := s.issue x w lat r
    let c := s.core x.core
    { t with cores := s.cores } = s ∧ (∀ n, n ≠ x.core → t.core n = s.core n) ∧
      ∃ f, t.core x.core = { c with flights := c.flights ++ [f], bundle := some { b with next := b.next + 1 } } ∧
        f.num = b.num ∧ f.slot = x.slot ∧ f.due = c.cyc + lat - 1 ∧ f.writes = r.writes ∧ f.flags = r.flags ∧ f.trap = r.trap ∧
        f.mcheck = none ∧ f.ready = true ∧ f.cwr = none ∧ f.act = none

/-- Where it is next to issue and on: NOP issues and writes nothing; SYSCALL, and MGRCALL from P1 up, note in their bundle a
call exception of vector 0x0A or 0x0B that names their slot and word; FENCE.S closes every open merging entry and opens a new
epoch; FENCE.F closes them and calls for a waiting gather; GATH calls for a gather, and WFE from P1 up for a WFE gather that
only the shadow leaves to its bellwether; TRD and TWAIT land the tally in gD; REPI and REPN note the repeat of the next
bundle. MGRCALL and WFE at P0 raise the privilege fault. (R33, R36, R49, R54, R58, R69, R83, R89, R97, R263.) -/
def Obligations.SystemOperationResults : Prop :=
  ∀ (s : State) (x : Slot) (rd : BitVec 6) (tn : BitVec 4) (c18 : BitVec 18) (n16 : BitVec 16) (n7 : BitVec 7),
    let note := fun (i : Instr) (f : Bundle → Bundle) =>
      s.takes x (encode i) = true → exec i s = .next ((s.issue x (encode i) 1 nores).modCore x.core fun c => c.modBundle f)
    let call := fun (i : Instr) (v : Nat) => fun (b : Bundle) => { b with call := some { vector := v, detail := 0, info := opInfo x.slot (encode i) } }
    let priv := fun (i : Instr) => s.takes x (encode i) = true → (s.regsOf x).pl = 0 →
      exec i s = .next (s.opFault x.core { vector := 2, detail := 0, info := opInfo x.slot (encode i) } false)
    Issues (.nop x) x s 1 nores ∧
    note (.syscall x c18) (call (.syscall x c18) 0x0A) ∧
    ((s.regsOf x).pl ≠ 0 → note (.mgrcall x c18) (call (.mgrcall x c18) 0x0B)) ∧ priv (.mgrcall x c18) ∧
    (s.takes x (encode (.fenceS x)) = true → exec (.fenceS x) s =
      .next ((s.issue x (encode (.fenceS x)) 1 nores).modCore x.core fun c => { c.closeAll with epoch := c.epoch + 1 })) ∧
    (s.takes x (encode (.fenceF x)) = true → exec (.fenceF x) s =
      .next ((s.issue x (encode (.fenceF x)) 1 nores).modCore x.core fun c => c.closeAll.modBundle fun b => { b with fence := true })) ∧
    note (.gath x) (fun b => { b with gath := true }) ∧
    ((s.regsOf x).pl ≠ 0 → note (.wfe x) (fun b => { b with wfe := s.part x.core != .shadow })) ∧ priv (.wfe x) ∧
    Issues (.trd x rd tn) x s 1 (gres rd ((s.regsOf x).rt tn.toNat)) ∧ Issues (.twait x rd tn) x s 1 (gres rd ((s.regsOf x).rt tn.toNat)) ∧
    note (.repi x n16) (fun b => { b with rep := some (n16.toNat, false) }) ∧ note (.repn x n7) (fun b => { b with rep := some (n7.toNat, true) })

/-- Where it is next to issue and on: BT and BF note in their bundle the branch to A + 16 x DISP20 where pC reads 1 or 0 and
none where it does not, BRI the branch to gT with its low four bits 0; CALL and CALLI, whose push passes the stack bound,
translates to the store path and finds room in the merging buffer, put the return address there, note the branch and land sp -
8, and RET, whose pop passes them and is read, notes the branch to the address popped with its low four bits 0 and lands sp +
8. A call or a RET whose stack access fails the bound raises the stack-bound fault with XINFO its address. (R33, R46, R48,
R84, R85, R86, R87, R692.) -/
def Obligations.BranchAndReturnResults : Prop :=
  ∀ (s : State) (x : Slot) (pc : BitVec 3) (d20 : BitVec 20) (d24 : BitVec 24) (ra : BitVec 6) (n : Nat) (r : Arch) (here push : Nat),
    n = x.core → r = s.regsOf x → here = (s.core n).here → push = (r.cr (spKey r.pl) - 8).toNat →
    let branch := fun (s : State) (i : Instr) (lat : OpRes) (t : Option Nat) =>
      (s.issue x (encode i) 1 lat).modCore n fun c => c.modBundle fun b => { b with branch := t }
    let goes := fun (i : Instr) (taken : Bool) (t : Nat) => s.takes x (encode i) = true →
      exec i s = .next (branch s i nores (if taken then some (t % 2 ^ 64) else none))
    let sp := fun (v : Word) => ({ writes := [⟨.sp r.pl, v.setWidth 128⟩], flags := 0, trap := none } : OpRes)
    let call := fun (i : Instr) (t : Nat) => s.takes x (encode i) = true →
      (r.stackOk r.pl push 8 = false → exec i s = .next (s.opFault n { vector := 6, detail := 0, info := push } false)) ∧
      ∀ hs tlb hur k, r.stackOk r.pl push 8 = true → s.part n ≠ .shadow →
        s.dataXlate n r.pl push 8 .store false (opInfo x.slot (encode i)) = .ok hs tlb hur →
        ((hs.head?.map Half.tgt).getD .io = .own ∨ (hs.head?.map Half.tgt).getD .io = .cache) →
        ((s.keep n tlb hur).core n).mergeAll (splitBytes hs (toBytes 8 (s.core n).returnAddr.toNat)) = some k →
        exec i s = .next (branch ((s.keep n tlb hur).setCore n k) i (sp (r.cr (spKey r.pl) - 8)) (some t))
    let pop := (r.cr (spKey r.pl)).toNat
    goes (.bt x pc d20) (r.rp pc.toNat) (here + 16 * (d20.signExtend 64).toNat) ∧
    goes (.bf x pc d20) (!r.rp pc.toNat) (here + 16 * (d20.signExtend 64).toNat) ∧
    goes (.bri x ra) true ((r.rg ra.toNat).toNat / 16 * 16) ∧
    call (.call x d24) ((here + 16 * (d24.signExtend 64).toNat) % 2 ^ 64) ∧ call (.calli x ra) ((r.rg ra.toNat).toNat / 16 * 16) ∧
    (s.takes x (encode (.ret x)) = true →
      (r.stackOk r.pl pop 8 = false → exec (.ret x) s = .next (s.opFault n { vector := 6, detail := 0, info := pop } false)) ∧
      ∀ hs tlb hur t bs, r.stackOk r.pl pop 8 = true → s.part n ≠ .shadow →
        s.dataXlate n r.pl pop 8 .load false (opInfo x.slot (encode (.ret x))) = .ok hs tlb hur → s.lvFull n 1 = false →
        (s.keep n tlb hur).stackOverlap n hs = false → (s.keep n tlb hur).stackRead n r.pl hs = (t, .ok bs) →
        exec (.ret x) s = .next ((t.lvPush n ⟨(((s.keep n tlb hur).core n).bundle.getD Bundle.none).num, x.slot, .load, 1,
            some (BitVec.ofNat 128 (ofBytes bs)), false, false⟩).modCore n fun c =>
          (c.issueRes x (encode (.ret x)) 1 ⟨[⟨.sp c.arch.pl, (c.arch.cr (spKey c.arch.pl) + 8).setWidth 128⟩], 0, none⟩).modBundle fun b =>
            { b with branch := some ((BitVec.ofNat 64 (ofBytes bs)).toNat / 16 * 16) }))

/-- Where IRET is next to issue and on: at P0 it raises the privilege fault; from P1 up, with everything in flight there, the
frame read at sp and its three checks passed, the bundle notes the frame, which at its end restores: the bundle to issue is at
XPC with its low bits 0, MOOD and ASTAT take the writable bits of the frame's, p1 to p7, RCOUNT, DPC and DV those of its fifth
word, the sp of the level the frame's MOOD names takes the frame's sp, and where that level is another the sp left behind is
the frame's address plus 64. A frame of a higher level raises the privilege fault; DV with a repeat count, or a reserved DRM,
the reserved-encoding exception. (R66, R82, R87.) -/
def Obligations.ReturnFromException : Prop :=
  (∀ (s : State) (x : Slot) (n : Nat) (r : Arch) (w : OpWord), n = x.core → r = s.regsOf x → w = encode (.iret x) → s.takes x w = true →
    (r.pl = 0 → exec (.iret x) s = .next (s.opFault n { vector := 2, detail := 0, info := opInfo x.slot w } false)) ∧
    ∀ (a : Arch) (va : Nat) hs tlb hur t bs, r.pl ≠ 0 → (s.core n).allReady = true → a = ((s.drain n).core n).arch →
      va = (a.cr (spKey a.pl)).toNat → a.stackOk a.pl va 64 = true → s.part n ≠ .shadow →
      s.dataXlate n a.pl va 64 .load false (opInfo x.slot w) = .ok hs tlb hur → s.lvFull n 4 = false →
      (s.keep n tlb hur).stackOverlap n hs = false → (s.keep n tlb hur).stackRead n a.pl hs = (t, .ok bs) →
      ∃ u, u = (packFrame ((t.core n).bundle.getD Bundle.none).num x.slot (bytesWords 8 bs)).foldl (fun s e => s.lvPush n e) t ∧
        match frameFault a.pl (opInfo x.slot w) (bytesWords 8 bs) with
        | some e => exec (.iret x) s = .next (u.opFault n e false)
        | none => exec (.iret x) s =
            .next ((u.issue x w 1 nores).modCore n fun c => c.modBundle fun b => { b with iret := some (bytesWords 8 bs) })) ∧
  (∀ (pl info : Nat) (fr : List Word),
    (pl < fld (lget 0 fr 2) 23 22 → frameFault pl info fr = some { vector := 2, detail := 0, info := info }) ∧
    (fld (lget 0 fr 2) 23 22 ≤ pl → flag (lget 0 fr 4) 63 = true ∧ fld (lget 0 fr 4) 15 0 ≠ 0 ∨ 5 ≤ fld (lget 0 fr 2) 12 10 →
      frameFault pl info fr = some { vector := 1, detail := 0, info := info }) ∧
    (fld (lget 0 fr 2) 23 22 ≤ pl → ¬ (flag (lget 0 fr 4) 63 = true ∧ fld (lget 0 fr 4) 15 0 ≠ 0) → fld (lget 0 fr 2) 12 10 < 5 →
      frameFault pl info fr = none)) ∧
  ∀ (a : Arch) (xpc dpc mood astat w5 xc xi sp : Word), let t := a.iret [xpc, dpc, mood, astat, w5, xc, xi, sp]
    t.pc = xpc.toNat / 16 * 16 ∧ t.cr 0 = mood &&& 0xFFFF00#64 ∧ t.cr 1 = astat &&& 0xC07F#64 ∧ t.rcount = fld w5 15 0 ∧ t.dv = flag w5 63 ∧
    (∀ i, 1 ≤ i → i ≤ 7 → t.rp i = flag w5 (16 + i)) ∧ (t.dv = true → t.dpc = dpc.toNat / 16 * 16) ∧
    t.cr (spKey t.pl) = sp ∧ (t.pl ≠ a.pl → t.cr (spKey a.pl) = a.cr (spKey a.pl) + 64) ∧ t.g = a.g ∧ t.f = a.f ∧ t.tally = a.tally

/-- Where it is next to issue and on: a CRD or CWR below its register's level, or of a bank above the current level, raises
the privilege fault, and so does a CWR of MOOD that changes PL (or EE at P0); else a CRD lands with latency 2 the register's
value (TIMEBASE at its issue, RCOUNT with RN), and a CWR or CCTL_WRITE flies with the value of gS, which lands with latency 2:
SP as a result, the others as the write of the register. At the landing a MOOD with a reserved DRM is rejected with CAUSE 4,
RCOUNT and TIMEBASE ignore the write, and ASTAT, VBASE, XPC, XCAUSE, XINFO, STKLO and STKHI take their writable bits. (R82,
R110, R111, R112, R113, R114, R115, R184, R185.) -/
def Obligations.ControlRegisterReadsAndWrites : Prop :=
  (∀ (s : State) (x : Slot) (rd rs : BitVec 6) (creg : BitVec 8) (c : Core) (r : Arch) (v : Word), c = s.core x.core → r = s.regsOf x →
    v = r.rg rs.toNat →
    let priv := fun (i : Instr) => exec i s = .next (s.opFault x.core { vector := 2, detail := 0, info := opInfo x.slot (encode i) } false)
    let wr := fun (i : Instr) (creg : Nat) => s.takes x (encode i) = true →
      let mood := creg % 64 = 0 ∧ (fld v 23 22 ≠ r.pl ∨ (r.pl = 0 ∧ flag v 21 ≠ flag (r.cr 0) 21))
      (cregPriv true r.pl creg = true ∨ mood → priv i) ∧
      (cregPriv true r.pl creg = false → ¬ mood → creg % 64 = 0x0B →
        exec i s = .next (s.issue x (encode i) 2 ⟨[⟨.sp (cregKey r.pl creg / 64 - 1), v.setWidth 128⟩], 0, none⟩)) ∧
      (cregPriv true r.pl creg = false → ¬ mood → creg % 64 ≠ 0x0B →
        exec i s = .next (s.setCore x.core (c.fly { c.flight x (encode i) 2 nores with cwr := some (creg, v) }).issued))
    (s.takes x (encode (.crd x rd creg)) = true →
      (cregPriv false r.pl creg.toNat = true → priv (.crd x rd creg)) ∧
      (cregPriv false r.pl creg.toNat = false → creg.toNat % 64 ≠ 0x0A →
        exec (.crd x rd creg) s = .next (s.issue x (encode (.crd x rd creg)) 2 (gres rd
          (if creg.toNat % 64 = 8 then BitVec.ofNat 64 (bnat r.rn * 2 ^ 16 + r.rcount) else r.cr (cregKey r.pl creg.toNat))))) ∧
      (cregPriv false r.pl creg.toNat = false → creg.toNat % 64 = 0x0A → s.part x.core ≠ .shadow → s.lvFull x.core 1 = false →
        exec (.crd x rd creg) s = .next ((s.lvPush x.core
            { num := (c.bundle.getD Bundle.none).num, slot := x.slot, kind := .time, idx := 0, data := none, bad := false, kept := false }).setCore x.core
          (c.fly { c.flight x (encode (.crd x rd creg)) 2 (gres rd c.timebase) with lvq := true }).issued))) ∧
    wr (.cwr x creg rs) creg.toNat ∧ wr (.cctlWrite x rs) 9) ∧
  (∀ (pl b : Nat), b ≤ 3 → (cregPriv true pl (64 * b + 2) = true ↔ pl < 1 ∨ pl + 1 < b) ∧ (cregPriv true pl (64 * b + 9) = true ↔ pl < 2 ∨ pl + 1 < b) ∧
    (cregPriv false pl (64 * b + 9) = true ↔ pl < 1 ∨ pl + 1 < b) ∧ (cregPriv true pl (64 * b + 11) = true ↔ pl + 1 < b)) ∧
  ∀ (s : State) (n creg : Nat) (v : Word), let a := (s.core n).arch
    (creg % 64 = 0 → 5 ≤ fld v 12 10 → s.part n ≠ .shadow → s.landCwr n creg v = s.reject 4 (n * 256 + creg) v.toNat) ∧
    (creg % 64 = 0 → fld v 12 10 < 5 → s.landCwr n creg v = s.modCore n fun c => { c with arch := a.setCr 0 (v &&& 0xFFFF00#64) }) ∧
    (creg % 64 = 8 ∨ creg % 64 = 0x0A → s.landCwr n creg v = s) ∧
    (1 ≤ creg % 64 → creg % 64 ≤ 7 → s.landCwr n creg v = s.modCore n fun c => { c with arch := a.setCr (cregKey a.pl creg) (v &&& cregMask (creg % 64)) })

/-- Where LD, LDS or LDF is next to issue and on, its address passes the stack bound (where its base is sp), it translates
without a fault and a queue entry is free: in the own scratchpad it flies with what the bank and the store path hold, at
latency 4; in cacheable memory that the store path covers whole or not at all, with what the store path, the L1D or the fold
cache hold, at latency 3; at any other target it becomes a held access whose value arrives later. A load based on sp that
fails the bound raises the stack-bound fault, and one whose translation faults takes that fault. (R33, R36, R43, R76, R87,
R94, R159, R179, R180, R181, R188.) -/
def Obligations.LoadsIssue : Prop :=
  ∀ (s : State) (x : Slot) (rd base : BitVec 6) (w : BitVec 3) (h : BitVec 1) (off : BitVec 8) (ch : Chance) (n z va : Nat) (r : Arch),
    n = x.core → r = s.regsOf x → z = 2 ^ w.toNat → va = r.vaOf base off z →
    let load := fun (i : Instr) (dest : Dest) (signed isF : Bool) => s.takes x (encode i) = true →
      (base = 0 → r.stackOk r.pl va z = false → exec i s = .next (s.opFault n { vector := 6, detail := 0, info := va } false)) ∧
      ((base ≠ 0 ∨ r.stackOk r.pl va z = true) → s.part n ≠ .shadow →
        (∀ f, s.dataXlate n r.pl va z .load (h == 1) (opInfo x.slot (encode i)) = .fault f → exec i s = .next (s.accessFault n f)) ∧
        ∀ hs tlb hur t k, s.dataXlate n r.pl va z .load (h == 1) (opInfo x.slot (encode i)) = .ok hs tlb hur → s.lvFull n 1 = false →
          t = s.keep n tlb hur → k = (hs.head?.map Half.tgt).getD .io →
          (k = .own → exec i s = .next ((t.ownHalves n ch.word hs).1.flyLoad x (encode i) va 4 dest signed (t.ownHalves n ch.word hs).2)) ∧
          (k = .cache → (∀ y, y ∈ hs → (t.boundaryCore n).forward y.pa y.len ≠ .part) →
            exec i s = .next ((t.cacheHalves n ch.array hs).1.flyLoad x (encode i) va 3 dest signed (t.cacheHalves n ch.array hs).2)) ∧
          (k = .uncached ∨ k = .io →
            exec i s = .next (t.flyHeld x (encode i) (heldOf (.load signed) hs va z 0 r.pl isF rd.toNat) [BitVec.ofNat 64 va] true)))
    load (.ld x rd base w h off ch) (.g rd.toNat) false false ∧ load (.lds x rd base w h off ch) (.g rd.toNat) true false ∧
    load (.ldf x rd base w h off ch) (.f rd.toNat) false true

/-- Where LD or LDS of one line of cacheable memory is next to issue and on, translates without a fault and has a queue entry
free, and its bytes lie all in one entry of the store path, or in no entry while the enabled L1D holds its line without an
error: the flight it adds is ready, is due with latency 3, carries no machine check, and writes gD with the little-endian
number of those bytes, zero-extended for LD and sign-extended from their top bit to 64 bits for LDS; memory and the control
registers are unchanged. (R36, R94, R179, R183, R188.) -/
def Obligations.LoadHitValue : Prop :=
  ∀ (s : State) (x : Slot) (rd base : BitVec 6) (w : BitVec 3) (h : BitVec 1) (off : BitVec 8) (ch : Chance) (n z va : Nat) (r : Arch)
      (y : Half) (tlb : List TlbE) (hur : List HurdleE) (bs : List Byte), n = x.core → r = s.regsOf x → z = 2 ^ w.toNat → va = r.vaOf base off z →
    (base ≠ 0 ∨ r.stackOk r.pl va z = true) → s.part n ≠ .shadow → s.lvFull n 1 = false → y.tgt = .cache → s.unbacked y.pa = none →
    ((s.boundaryCore n).forward y.pa y.len = .all bs ∨
      ((s.boundaryCore n).forward y.pa y.len = .none ∧ ch.array = .none ∧ (s.boundaryCore n).den = true ∧
        ∃ l, ((s.boundaryCore n).l1d.find? fun v => v.2.line == y.pa / 64) = some l ∧ bs = lineBytes l.2.data (y.pa % 64) y.len)) →
    let hit := fun (i : Instr) (v : Word) => s.takes x (encode i) = true →
      s.dataXlate n r.pl va z .load (h == 1) (opInfo x.slot (encode i)) = .ok [y] tlb hur →
      ∃ t f, exec i s = .next t ∧ (t.core n).flights = (s.core n).flights ++ [f] ∧ f.ready = true ∧ f.mcheck = none ∧ f.trap = none ∧
        f.due = (s.core n).cyc + 2 ∧ f.writes = [⟨.g rd.toNat, v.setWidth 128⟩] ∧ t.mem = s.mem ∧ t.regs = s.regs
    bs.length ≤ 8 → hit (.ld x rd base w h off ch) (BitVec.ofNat 64 (ofBytes bs)) ∧
      (bs ≠ [] → hit (.lds x rd base w h off ch) ((BitVec.ofNat (8 * bs.length) (ofBytes bs)).signExtend 64))

/-- Where ST, STF or STREL is next to issue and on, its address passes the stack bound (where its base is sp) and it
translates without a fault: STREL first closes every open merging entry and opens a new epoch; then a store to cacheable
memory or the own scratchpad puts the low bytes of its source, lowest-addressed first, into the merging buffer, and its slot
has issued; at any other target it becomes a held access. Where the buffer is full the bundle is taken back and the core
freezes until an entry moves. Memory is unchanged at issue. (R33, R36, R87, R94, R97, R174, R175, R177, R181.) -/
def Obligations.StoresIssue : Prop :=
  ∀ (s : State) (x : Slot) (rs base : BitVec 6) (w : BitVec 3) (h : BitVec 1) (off : BitVec 8) (n z : Nat) (r : Arch),
    n = x.core → r = s.regsOf x → z = 2 ^ w.toNat →
    let store := fun (i : Instr) (h : BitVec 1) (off : BitVec 8) (rel : Bool) (v : Nat) => s.takes x (encode i) = true →
      ∀ va data post, va = r.vaOf base off z → data = v % 2 ^ (8 * z) → post = BitVec.ofNat 64 va :: dataWords z data →
      (base = 0 → r.stackOk r.pl va z = false → exec i s = .next (s.opFault n { vector := 6, detail := 0, info := va } false)) ∧
      ((base ≠ 0 ∨ r.stackOk r.pl va z = true) → s.part n ≠ .shadow →
        (∀ f, s.dataXlate n r.pl va z .store (h == 1) (opInfo x.slot (encode i)) = .fault f → exec i s = .next (s.accessFault n f)) ∧
        ∀ hs tlb hur t k, s.dataXlate n r.pl va z .store (h == 1) (opInfo x.slot (encode i)) = .ok hs tlb hur →
          t = (if rel then (s.keep n tlb hur).modCore n fun c => { c.closeAll with epoch := c.epoch + 1 } else s.keep n tlb hur) →
          k = (hs.head?.map Half.tgt).getD .io →
          (k = .own ∨ k = .cache → ∀ c, (t.core n).mergeAll (splitBytes hs (toBytes z data)) = some c →
            exec i s = .next (t.setCore n (c.fly { c.flight x (encode i) 1 nores with sigPost := post }).issued)) ∧
          (k = .own ∨ k = .cache → (t.core n).mergeAll (splitBytes hs (toBytes z data)) = none →
            exec i s = .next ((t.opFreeze n .mergeFull).modCore n Core.closeOldest)) ∧
          (k = .uncached ∨ k = .io → exec i s = .next (t.flyHeld x (encode i) (heldOf .store hs va z data r.pl false 0) post false)))
    store (.st x rs base w h off) h off false (r.rg rs.toNat).toNat ∧ store (.stf x rs base w h off) h off false (r.rf rs.toNat).toNat ∧
    store (.strel x rs base w) 0 0 true (r.rg rs.toNat).toNat

/-- Where it is next to issue and on, at a core that is no shadow: an atomic on an aligned address that passes the stack bound
and translates becomes a held access with its operands, and a misaligned one raises vector 0x05; DCF, DCFI and DZL become held
accesses of the line, DCI and ICI (and from P1 up DCIA and ICIA) fly to act on the core's L1s at the landing, and DCIA and
ICIA at P0 raise the privilege fault; SUBMIT becomes a held access where its tally is free, and where it is busy lands 1 in gD
and submits nothing. (R33, R51, R81, R82, R87, R96, R97, R98, R106, R181, R189, R231.) -/
def Obligations.HeldOperationsIssue : Prop :=
  ∀ (s : State) (x : Slot) (rd base rs : BitVec 6) (w : BitVec 2) (tn : BitVec 4) (n z va la sa : Nat) (r : Arch), n = x.core → r = s.regsOf x →
    z = 2 ^ w.toNat → va = r.vaOf base 0 z → la = r.vaOf base 0 1 → sa = (r.rg base.toNat).toNat → s.part n ≠ .shadow →
    let atom := fun (i : Instr) (k : HKind) (more : List Word) => s.takes x (encode i) = true →
      (va % z ≠ 0 → exec i s = .next (s.opFault n { vector := 5, detail := 0, info := va } false)) ∧
      (va % z = 0 → base = 0 → r.stackOk r.pl va z = false → exec i s = .next (s.opFault n { vector := 6, detail := 0, info := va } false)) ∧
      ∀ hs tlb hur, va % z = 0 → (base ≠ 0 ∨ r.stackOk r.pl va z = true) →
        s.dataXlate n r.pl va z .atomic false (opInfo x.slot (encode i)) = .ok hs tlb hur → s.lvFull n 1 = false →
        exec i s = .next ((s.keep n tlb hur).flyHeld x (encode i)
          (heldOf k hs va z ((r.rg rs.toNat).toNat % 2 ^ (8 * z)) r.pl false rd.toNat)
          ([BitVec.ofNat 64 va, BitVec.ofNat 64 ((r.rg rs.toNat).toNat % 2 ^ (8 * z))] ++ more) true)
    let line := fun (i : Instr) (kind : AKind) (eff : Half → State → State) => s.takes x (encode i) = true →
      ∀ y hs tlb hur, s.halfXlate n r.pl kind false (opInfo x.slot (encode i)) (la, 1) = .ok (y :: hs) tlb hur →
        exec i s = .next (eff y (s.keep n tlb hur))
    let held := fun (i : Instr) (kind : HKind) (y : Half) (s : State) =>
      s.flyHeld x (encode i) (heldOf kind [y] la 64 0 (s.core n).arch.pl false 0) [BitVec.ofNat 64 la] false
    let priv := fun (i : Instr) => s.takes x (encode i) = true → r.pl = 0 →
      exec i s = .next (s.opFault n { vector := 2, detail := 0, info := opInfo x.slot (encode i) } false)
    atom (.swap x rd base rs w) .swap [] ∧ atom (.atomicFadd x rd base rs w) .fadd [] ∧
    atom (.cas x rd base rs w) (.cas ((r.rg rd.toNat).toNat % 2 ^ (8 * z))) [BitVec.ofNat 64 ((r.rg rd.toNat).toNat % 2 ^ (8 * z))] ∧
    line (.dci x base) .maint (fun y s => s.flyMaint x (encode (.dci x base)) [BitVec.ofNat 64 la] (.dci (y.pa / 64))) ∧
    line (.ici x base) .maint (fun y s => s.flyMaint x (encode (.ici x base)) [BitVec.ofNat 64 la] (.ici (y.pa / 64))) ∧
    line (.dcf x base) .maint (held (.dcf x base) .dcf) ∧ line (.dcfi x base) .maint (held (.dcfi x base) .dcfi) ∧
    line (.dzl x base) .dzl (held (.dzl x base) .dzl) ∧
    (r.pl ≠ 0 → s.takes x (encode (.dcia x)) = true → exec (.dcia x) s = .next (s.flyMaint x (encode (.dcia x)) [] .dcia)) ∧ priv (.dcia x) ∧
    (r.pl ≠ 0 → s.takes x (encode (.icia x)) = true → exec (.icia x) s = .next (s.flyMaint x (encode (.icia x)) [] .icia)) ∧ priv (.icia x) ∧
    (s.takes x (encode (.submit x rd base tn)) = true → s.lvFull n 1 = false →
      ((s.core n).tallyBusy tn.toNat = true → exec (.submit x rd base tn) s = .next ((s.lvPush n
          ⟨((s.core n).bundle.getD Bundle.none).num, x.slot, .submit, 3, none, false, false⟩).setCore n
        ((s.core n).fly { (s.core n).flight x (encode (.submit x rd base tn)) 3 (gres rd 1) with
          sigPost := [BitVec.ofNat 64 sa], lvq := true }).issued)) ∧
      ((s.core n).tallyBusy tn.toNat = false → ∀ hs tlb hur,
        s.dataXlate n r.pl sa 8 .hdr false (opInfo x.slot (encode (.submit x rd base tn))) = .ok hs tlb hur →
        exec (.submit x rd base tn) s = .next ((s.keep n tlb hur).flyHeld x (encode (.submit x rd base tn))
          (heldOf (.submit tn.toNat) hs sa 8 0 r.pl false rd.toNat) [BitVec.ofNat 64 sa] true)))

/-- Where a table instruction is next to issue and on, at a core that is no shadow, its descriptor is well formed and
translates, and the whole table lies in one page and grain of the own flock's scratchpad, outside the keep bank and the
guarded page of P0, with enough queue entries free: the knots it uses are read at the bank, and it flies at the latency of its
cycles with what the interpolation gives for its kind, x and the knots (a free value where it extrapolates and traps). A
malformed descriptor, or a table not so placed, raises vector 0x0C. (R33, R35, R36, R116, R117, R118, R119, R152, R155, R156.)
-/
def Obligations.TableInterpolationIssues : Prop :=
  ∀ (s : State) (x : Slot) (fd fx fdesc : BitVec 5) (ch : Chance) (n va size : Nat) (r : Arch) (d xr : Wide), n = x.core → r = s.regsOf x →
    d = r.rf fdesc.toNat → xr = r.rf fx.toNat → va = (descAddr d).toNat → size = 16 * descN d → s.part n ≠ .shadow →
    let table := fun (i : Instr) (k : TblKind) => s.takes x (encode i) = true →
      (descBad k d = true → exec i s = .next (s.opFault n { vector := 0x0C, detail := 0, info := va } true)) ∧
      ∀ pa attr tlb hur t, descBad k d = false → s.translate n r.pl va .load = .ok pa attr tlb hur → t = s.keep n tlb hur →
        (r.pl = 0 → t.guardedPage pa = false) → t.inKeep pa = false → t.inKeep (pa + size - 1) = false →
        (t.inOnePage n r.pl va size = false ∨ t.tgt n pa 0 ≠ .own ∨ t.tgt n (pa + size - 1) 0 ≠ .own →
          exec i s = .next (t.opFault n { vector := 0x0C, detail := 0, info := va } true)) ∧
        (t.inOnePage n r.pl va size = true → t.tgt n pa 0 = .own → t.tgt n (pa + size - 1) 0 = .own → ∀ ks used,
          ks = t.knots n pa (descN d) → used = tblUsed d xr ks → t.lvFull n used.length = false →
          ∀ (u : State), u = used.foldl (fun v j => v.lvPush n ⟨((s.core n).bundle.getD Bundle.none).num, x.slot, .knot, j, some (knotAt ks j).pack,
              (t.readKnots n pa ch.word used).2.isSome, false⟩) (t.readKnots n pa ch.word used).1 →
            exec i s = .next (u.modCore n fun c =>
              (c.fly { c.flight x (encode i) (tblCycles k d) (c.arch.tblRes k fd d xr ks (Config.freeTableDefault u.freeCtr)) with
                mcheck := (t.readKnots n pa ch.word used).2.map u.spMcheck }).issued).drawn)
    table (.tlfl x fd fx fdesc ch) .flat ∧ table (.tlin x fd fx fdesc ch) .lin ∧ table (.tllg x fd fx fdesc ch) .log

/-- Where a cacheable load is next to issue and on at a shadow and the queue's head is its entry, filled, the shadow's flight
writes the entry's value and the entry leaves the queue; where the head is not yet filled the shadow freezes, and where it is
not this load's a rollback begins; a store at a shadow flies and stores nothing. (R254, R255, R256, R257, R258.) -/
def Obligations.ShadowTakesValuesFromTheQueue : Prop :=
  ∀ (s : State) (x : Slot) (rd base : BitVec 6) (w : BitVec 3) (h : BitVec 1) (off : BitVec 8) (ch : Chance) (n z va : Nat) (r : Arch) (b : Bundle),
    n = x.core → r = s.regsOf x → z = 2 ^ w.toNat → va = r.vaOf base off z → (base ≠ 0 ∨ r.stackOk r.pl va z = true) → s.part n = .shadow →
    (s.core n).bundle = some b →
    (s.takes x (encode (.ld x rd base w h off ch)) = true → s.shadowLoadHeld n = false →
      (∀ e, s.lvHead n b.num x.slot .load = .taken e → e.bad = false → exec (.ld x rd base w h off ch) s = .next ((s.lvPop n).modCore n fun c =>
        (c.fly { c.flight x (encode (.ld x rd base w h off ch)) e.idx nores with
          writes := [⟨.g rd.toNat, e.data.getD 0⟩], sigPost := [BitVec.ofNat 64 va] }).issued)) ∧
      (s.lvHead n b.num x.slot .load = .wait → exec (.ld x rd base w h off ch) s = .next (s.opFreeze n .queue)) ∧
      (s.lvHead n b.num x.slot .load = .wrong → exec (.ld x rd base w h off ch) s = .next (s.startRollback (s.logical n) 1 15 0 0))) ∧
    (s.takes x (encode (.st x rd base w h off)) = true → exec (.st x rd base w h off) s = .next (s.modCore n fun c =>
      (c.fly { c.flight x (encode (.st x rd base w h off)) 1 nores with
        sigPost := BitVec.ofNat 64 va :: dataWords z ((r.rg rd.toNat).toNat % 2 ^ (8 * z)) }).issued))

/-- Writing a value to an integer, floating, predicate, stack-pointer or tally register makes that register read it (a
predicate reads whether it is not 0) and leaves every other register as it was; writes to g0 and p0 are discarded, and they
read 0 and 1; sticky flags are added to ASTAT, which loses none, and change no other control register. (R32, R40, R49, R110,
R113.) -/
def Obligations.RegistersReadWhatLands : Prop :=
  ∀ (a : Arch) (v : Wide),
    (a.rg 0 = 0 ∧ a.rp 0 = true ∧ a.write ⟨.g 0, v⟩ = a ∧ a.write ⟨.p 0, v⟩ = a) ∧
    (∀ k, (k ≠ 0 → (a.write ⟨.g k, v⟩).rg k = v.setWidth 64) ∧ (∀ m, m ≠ k → (a.write ⟨.g k, v⟩).rg m = a.rg m) ∧ { a.write ⟨.g k, v⟩ with g := a.g } = a) ∧
    (∀ k, (a.write ⟨.f k, v⟩).rf k = v ∧ (∀ m, m ≠ k → (a.write ⟨.f k, v⟩).rf m = a.rf m) ∧ { a.write ⟨.f k, v⟩ with f := a.f } = a) ∧
    (∀ k, (k ≠ 0 → (a.write ⟨.p k, v⟩).rp k = (v != 0)) ∧ (∀ m, m ≠ k → (a.write ⟨.p k, v⟩).rp m = a.rp m) ∧ { a.write ⟨.p k, v⟩ with p := a.p } = a) ∧
    (∀ l, (a.write ⟨.sp l, v⟩).cr (spKey l) = v.setWidth 64 ∧ (∀ m, m ≠ spKey l → (a.write ⟨.sp l, v⟩).cr m = a.cr m) ∧
      { a.write ⟨.sp l, v⟩ with creg := a.creg } = a) ∧
    (∀ k, (a.write ⟨.tally k, v⟩).rt k = v.setWidth 64 ∧ (∀ m, m ≠ k → (a.write ⟨.tally k, v⟩).rt m = a.rt m) ∧
      { a.write ⟨.tally k, v⟩ with tally := a.tally } = a) ∧
    ∀ fl, (a.addFlags fl).cr 1 = a.cr 1 ||| BitVec.ofNat 64 (fl % 128) ∧ (∀ m, m ≠ 1 → (a.addFlags fl).cr m = a.cr m) ∧
      { a.addFlags fl with creg := a.creg } = a

/-- A single core at work, with nothing due and its PC hit in an enabled L1I, begins the bundle there. At the end of an issue
cycle whose flights have their data, FC_CNTI counts, the operations due land (none, where none is due), the cycle and TIMEBASE
rise by 1, and the bundle's last cycle ends it: issue goes on at the pending target of a delay bundle or 16 bytes on, a taken
branch makes the next bundle its delay bundle, and a repeat keeps PC. An operation of a single core lands its results and
flags; a trap or a machine check keeps its destinations unwritten. Data that has arrived ends a freeze for it, and its cycles
count in FC_CNTF and TIMEBASE; a freeze of 2 ms for a load ends with machine check 5. A drained DEN clears DEN, DINV and the
L1D. (R35, R36, R43, R44, R46, R47, R59, R69, R164, R185, R197, R638.) -/
def Obligations.CoreCyclesAndFreezes : Prop :=
  (∀ (s : State) (c pa : Nat) (ch : Chance) tlb hur l (k : Core), k = s.core c → s.live c = true → s.part c = .single → k.bundle = none →
    k.excDue = false → k.gdue = none → k.applicable = [] → (k.flights.all fun f => f.ready) = true → k.fbuf = none →
    s.translate c k.arch.pl k.arch.pc .fetch = .ok pa 0 tlb hur → (s.keep c tlb hur).mainMem pa = true → ctlModule pa = none → ch.array = .none →
    k.ien = true → (((s.keep c tlb hur).core c).l1i.find? fun x => x.2.line == pa / 64) = some l →
    exec (.bundleFetch c ch) s = .next ((s.keep c tlb hur).beginBundle c (wordsOfLine l.2.data pa))) ∧
  (∀ (s : State) (n : Nat) (ws : List OpWord) (k : Core), k = s.core n → k.arch.rcount = 0 → firstSlot opReserved 0 ws = none →
    k.arch.waitsFor ws = none → ∀ b, b = { Bundle.none with addr := k.arch.pc, words := ws, num := k.bnum, cycles := k.arch.cyclesOf ws } →
      (s.beginBundle n ws).core n = { k with twaited := false, popped := [], bundle := some b }) ∧
  (∀ (s : State) (c : Nat) (k : Core) (b : Bundle), k = s.core c → s.live c = true → k.bundle = some b → 4 ≤ b.next → k.allReady = true →
    ∃ u, exec (.operationLand c) s = .next (if b.cycles ≤ b.spent + 1 then u.endBundle c b else u) ∧
      u = ((s.bump .fcCnti (foldOf c) ((s.roleOf c).getD 8)).landAt c k.cyc).modCore c (fun q =>
        { q with cyc := q.cyc + 1, timebase := q.timebase + 1, bundle := some { b with spent := b.spent + 1 }, freeze := if q.freeze = some .queue then none else q.freeze }) ∧
      ((∀ f ∈ k.flights, f.due ≠ k.cyc) → u.core c = { k with cyc := k.cyc + 1, timebase := k.timebase + 1, bundle := some { b with spent := b.spent + 1 } })) ∧
  (∀ (s : State) (c : Nat) (k : Core) (b : Bundle), k = s.core c → s.part c = .single → b.iret = none → ∀ g,
    g = gatherDue { k with bcnt := k.bcnt + 1 } b (s.pair (s.pairOf c)).givl → (s.endBundle c b).core c =
      { k with arch := k.arch.advance b, bundle := none, bnum := k.bnum + 1, bcnt := k.bcnt + 1, call := b.call, popped := [], gdue := g }) ∧
  (∀ (a : Arch) (b : Bundle),
    (1 < a.rcount → a.advance b = { a with rcount := a.rcount - 1 }) ∧
    (a.rcount ≤ 1 → b.rep = none → ∀ pc, pc = (if a.dv then a.dpc else (a.pc + 16) % 2 ^ 64) →
      a.advance b = { a with rcount := 0, rn := false, pc := pc, dv := b.branch.isSome, dpc := b.branch.getD 0 })) ∧
  (∀ (s : State) (n : Nat) (f : Flight), s.part n = .single → f.lvq = false →
    (∀ m, f.mcheck = some m → s.land n f = s.modCore n fun c => { c with mchecks := c.mchecks ++ [m] }) ∧
    (∀ t, f.mcheck = none → f.trap = some t → s.land n f = s.modCore n fun c => { c with traps := c.traps ++ [(f, t)], arch := c.arch.addFlags f.flags }) ∧
    (f.mcheck = none → f.trap = none → f.cwr = none → f.act = none →
      s.land n f = s.modCore n fun c => { c with arch := (f.writes.foldl Arch.write c.arch).addFlags f.flags })) ∧
  (∀ (s : State) (c cycles : Nat) (f : Flight) (nd : Need) (k : Core), k = s.core c → k.freeze = some .data → k.flights = [f] → f.ready = false →
    f.held = false → f.need = some nd → nd.arrived = true → ∃ t, exec (.loadDataArrival c cycles) s = .next t ∧
      t.core c = { k with flights := [{ f.fill with ready := true }], freeze := none, timebase := k.timebase + BitVec.ofNat 64 cycles } ∧
      t.rget .fcCntf (foldOf c) ((s.roleOf c).getD 8) = s.rget .fcCntf (foldOf c) ((s.roleOf c).getD 8) + BitVec.ofNat 64 cycles) ∧
  (∀ (s : State) (c : Nat) (f : Flight) (nd : Need) (g : Seg) (k : Core), k = s.core c → k.freeze = some .data → k.flights = [f] → f.ready = false →
    f.due = k.cyc → f.need = some nd → nd.segs = [g] → g.data = none → ∃ t, exec (.freezeLimit c) s = .next t ∧
      t.core c = { k with freeze := none, flights := [{ f with ready := true, mcheck := some (mcheckOf 5 0 g.pa) }] } ∧ t.mem = s.mem ∧ t.regs = s.regs) ∧
  ∀ (s : State) (c : Nat) (v : Word) (k : Core), k = s.core c → k.denDrain = some v → k.merge = [] → exec (.denDisableDrained c) s =
    .next (s.setCore c { k with denDrain := none, freeze := none, l1d := [], arch := k.arch.setCr 9 (setFlag (setFlag v 1 false) 3 false) })

/-- Entering at a level lowers that level's sp by 64, sets MOOD.PL to it and clears MOOD.EE, clears RCOUNT, the hold-off and
the delay state, writes XPC (the interrupted bundle, low bits 0), XCAUSE and XINFO of that level, and goes on at VBASE + 64 x
vector of that level; no other control, integer, floating, predicate or tally register changes. The frame holds XPC, DPC (0
without DV), MOOD, ASTAT, the packed word, XCAUSE, XINFO and the sp of the interrupted level. XCAUSE gives VECTOR, CPEND,
MULTI, NEST and DETAIL their places. An exception is taken at P2 for 0x04, 0x0B and 0x1F, an event at the level of its route,
any other at P1, and never below the current level. (R57, R58, R61, R62, R63.) -/
def Obligations.ExceptionEntryRegisters : Prop :=
  ∀ (a : Arch) (lvl vector : Nat) (xc xi : Word), 1 ≤ lvl → lvl ≤ 2 → ∃ t, t = a.enter lvl vector xc xi ∧
    t.cr (spKey lvl) = a.cr (spKey lvl) - 64 ∧ t.pl = lvl ∧ flag (t.cr 0) 21 = false ∧
    (∀ i, i < 21 ∨ 23 < i → i < 64 → (t.cr 0).getLsbD i = (a.cr 0).getLsbD i) ∧ t.rcount = 0 ∧ t.rn = false ∧ t.dv = false ∧ t.dpc = 0 ∧
    t.cr (64 * (lvl + 1) + 3) = BitVec.ofNat 64 (a.pc / 16 * 16) ∧ t.cr (64 * (lvl + 1) + 4) = xc ∧ t.cr (64 * (lvl + 1) + 5) = xi ∧
    t.pc = ((a.cr (64 * (lvl + 1) + 2)).toNat + 64 * vector) % 2 ^ 64 ∧
    (∀ k, k ≠ 0 → k ≠ spKey lvl → k ≠ 64 * (lvl + 1) + 3 → k ≠ 64 * (lvl + 1) + 4 → k ≠ 64 * (lvl + 1) + 5 → t.cr k = a.cr k) ∧
    t.g = a.g ∧ t.f = a.f ∧ t.p = a.p ∧ t.tally = a.tally ∧
    (∃ w, a.frame xc xi = [BitVec.ofNat 64 a.pc, BitVec.ofNat 64 (if a.dv then a.dpc else 0), a.cr 0, a.cr 1, w, xc, xi, a.cr (spKey a.pl)] ∧
      (a.rcount < 2 ^ 16 → fld w 15 0 = a.rcount ∧ flag w 16 = true ∧ (∀ i, 1 ≤ i → i ≤ 7 → flag w (16 + i) = a.p.testBit i) ∧
        fld w 61 24 = 0 ∧ flag w 62 = (a.rn && decide (a.rcount ≠ 0)) ∧ flag w 63 = a.dv)) ∧
    (∀ (e : Exc) (nest multi cpend : Bool), e.vector < 2 ^ 8 → e.detail < 2 ^ 32 → fld (xcauseOf e nest multi cpend) 7 0 = e.vector ∧
      fld (xcauseOf e nest multi cpend) 12 8 = 0 ∧ flag (xcauseOf e nest multi cpend) 13 = cpend ∧ flag (xcauseOf e nest multi cpend) 14 = multi ∧
      flag (xcauseOf e nest multi cpend) 15 = nest ∧ fld (xcauseOf e nest multi cpend) 31 16 = 0 ∧ fld (xcauseOf e nest multi cpend) 63 32 = e.detail) ∧
    ∀ v ev pl, pl ≤ takenAt v ev pl ∧ (v = 4 ∨ v = 0x0B ∨ v = 0x1F → takenAt v ev pl = max pl 2) ∧ (v = 0x10 → takenAt v ev pl = max pl ev) ∧
      (v ≠ 4 → v ≠ 0x0B → v ≠ 0x1F → v ≠ 0x10 → takenAt v ev pl = max pl 1)

/-- At a boundary of a single core with nothing in flight: a fault, a call, a trap or a machine check that is the one due,
whose frame push finds room, is taken and is no longer due (a trap leaves its destination unwritten; a machine check is
recorded in FT_MCLOG); the event the router chooses, which the core takes events for, leaves PEND and COUNT 0, joins the
active set of its level and is the last accepted, and its handler begins with vector 0x10 and XINFO the source; completions
whose tallies are PENDING are written to them together; an event or a completion ends the gating of a WFE; and a request
accepted in spite of a reserved value completes with STATUS RESERVED_FIELD. (R52, R54, R59, R61, R65, R67, R83, R108, R571,
R572, R640, R641.) -/
def Obligations.BoundaryConditionsAreTaken : Prop :=
  (∀ (s : State) (c : Nat) (k : Core), k = s.core c → s.live c = true → s.part c = .single → k.bundle = none → k.gdue = none → k.applicable = [] →
    k.smchecks = [] → k.flights = [] →
    let d := (s.setCore c k).drain c
    (∀ e t, k.mchecks = [] → k.call = none → k.traps = [] → k.fault = some e → d.enter c 1 e false false = .taken t →
      exec (.exceptionEntry c) s = .next (t.modCore c fun k => { k with fault := none })) ∧
    (∀ e t, k.mchecks = [] → k.call = some e → k.traps = [] → (d.settleTraps c none).enter c 1 e false false = .taken t →
      exec (.exceptionEntry c) s = .next (t.modCore c fun k => { k with call := none, fault := none })) ∧
    (∀ f tr t, k.mchecks = [] → k.call = none → k.traps = [(f, tr)] →
      (d.settleTraps c (some f)).enter c 1 { vector := tr.vector, detail := tr.detail, info := f.addr / 16 * 16 + f.slot % 4 } false false = .taken t →
      (d.settleTraps c (some f)).core c = { (d.core c) with traps := [] } ∧
      exec (.exceptionEntry c) s = .next (t.modCore c fun k => { k with fault := none })) ∧
    (∀ m t, k.mchecks = [m] → m.async = false → k.call = none → k.traps = [] →
      (d.settleTraps c none).enter c 2 { vector := 0x1F, detail := m.detail, info := m.info } false false = .taken t →
      exec (.exceptionEntry c) s = .next ((t.modCore c fun k => { k with mchecks := [], call := none, fault := none }).recordMc m c))) ∧
  (∀ (s : State) (n lvl vec : Nat) (e : Exc) (nest multi cpend : Bool) (u : State), s.part n = .single →
    s.pushFrame n lvl ((s.core n).arch.frame (xcauseOf e nest multi cpend) (BitVec.ofNat 64 e.info)) = .done u → vec = e.vector →
    s.enterAt n lvl e nest multi cpend = .taken (u.modCore n fun c =>
      { c with timebase := c.timebase + 4, twaited := false, freeze := none, arch := c.arch.enter lvl vec (xcauseOf e nest multi cpend) (BitVec.ofNat 64 e.info) })) ∧
  (∀ (s : State) (c source : Nat) (k : Core), k = s.core c → s.atBoundary c = true → s.part c = .single → k.applicable = [] → k.call = none →
    k.traps = [] → k.mchecks = [] → k.smchecks = [] → k.flights = [] → k.takesEvents = true → s.evChoose (s.logical c) k.arch.pl = some source →
    ∀ t, (s.drain c).enter c (s.evLevel source) { vector := 0x10, detail := 0, info := source } false false = .taken t →
      exec (.eventAccept c source) s = .next ((t.evTake (s.logical c) source).modCore c fun q =>
        { q with fault := none, events := k.events ++ [(k.interval, source, s.rfld .evStat source 0 15 0)] })) ∧
  (∀ (s : State) (l src : Nat), l < 216 → src < 2048 → ∃ u, u = s.evTake l src ∧ u.rget .evStat src = 0 ∧ u.mem = s.mem ∧ u.cores = s.cores ∧
    (s.evLevel src = 2 → flag (u.rget .evActive l) (16 + s.rfld .evRoute src 0 59 56) = true ∧
      u.rget .evLast2 l = BitVec.ofNat 64 (2 ^ 63 + s.rfld .evStat src 0 15 0 * 2 ^ 32 + src)) ∧
    (s.evLevel src = 1 → flag (u.rget .evActive l) (s.rfld .evRoute src 0 59 56) = true ∧
      u.rget .evLast1 l = BitVec.ofNat 64 (2 ^ 63 + s.rfld .evStat src 0 15 0 * 2 ^ 32 + src))) ∧
  (∀ (s : State) (c tn : Nat) (w : Word) (k : Core), k = s.core c → s.atBoundary c = true → s.part c = .single → k.arrived = [(tn, w)] →
    k.arch.rt tn = tallyPending → k.freeze = none → exec (.completionApply c) s = .next (s.setCore c
      { k with arch := k.arch.write ⟨.tally tn, w.setWidth 128⟩, arrived := [], applied := k.applied ++ [(k.interval, tn, w)] })) ∧
  (∀ (s : State) (c : Nat) (k : Core), k = s.core c → k.gated = true → (s.anyPresented (s.logical c) = true ∨ k.arrived ≠ []) →
    s.lstate (s.logical c) = 0 → s.foldRuns (foldOf c) = true → exec (.wfeWake c) s = .next (s.setCore c { k with gated := false })) ∧
  ∀ (s : State) (q : Request), s.rfield = [q] → exec (.reservedFieldCompletion q.core q.tally) s = .next ({ s with rfield := [] }.complete q 1 0)

/-- An OPEN entry whose last store lies 16 issue cycles back closes; the oldest CLOSED one moves into a new held entry where
one is free and none takes it. At a boundary of a core that is no shadow, with nothing in flight and no store in the path, a
due gather is marked: the signature and bundle count start anew, a snapshot of the registers is pending, and a waiting gather
freezes the core. Where the pair's captured signatures differ, confirming it begins a rollback with them; where they agree, or
the core is alone, the pending snapshot becomes the confirmed one, PX_GATHERS counts, and with no store to release the mark is
gone. Once the release is acknowledged, a waiting gather other than a stop lets the core go on, its cycles counted; the core
of a WFE with nothing due is gated. None of them writes memory here. (R83, R174, R175, R176, R177, R258, R263, R264, R265,
R266, R269, R575.) -/
def Obligations.StorePathAndGathers : Prop :=
  (∀ (s : State) (c k : Nat) (e : MEntry) (x : Core), x = s.core c → x.merge[k]? = some e → e.closed = none → e.age + 16 ≤ x.cyc →
    exec (.mergeEntryTimeout c k) s =
      .next (s.setCore c { x with merge := x.merge.set k { e with closed := some x.closes }, closes := x.closes + 1 })) ∧
  (∀ (s : State) (c : Nat) (e : MEntry) (x : Core), x = s.core c → x.bundle = none → x.freeze = none → s.power.trip = false →
    oldestClosed x.merge = some e → x.held.length + x.rel.length < s.heldSize c →
    (∀ h ∈ x.held, ¬ (h.line = e.line ∧ h.epoch = e.epoch ∧ h.interval = x.interval)) → ∃ m h, exec (.mergeEntryMove c) s =
      .next (s.setCore c { x with merge := m, held := x.held ++ [h] }) ∧ m = x.merge.filter (fun q => q.closed != e.closed) ∧
      h.line = e.line ∧ h.epoch = e.epoch ∧ h.data = e.data ∧ h.mask = e.mask ∧ h.interval = x.interval) ∧
  (∀ (s : State) (c l : Nat) (g : GCause) (x : Core), x = s.core c → l = s.logical c → s.lstate l = 0 → s.part c = .bell ∨ s.part c = .single →
    x.gdue = some g → (g = .command → x.excDue = false) → x.bundle = none → x.mark = none → x.freeze = none → x.rel = [] → x.hnext = [] → x.flights = [] →
    x.merge = [] → ∃ t m, exec (.gatherMark c) s = .next t ∧ (t.core c).mark = some m ∧ m.cause = g ∧ m.num = x.bnum ∧ m.interval = x.interval ∧
      m.sig = sigOf x.sigq ∧ (t.core c).sigq = [] ∧ (t.core c).bcnt = 0 ∧ (t.core c).interval = x.interval + 1 ∧ (t.core c).gdue = none ∧
      ((t.core c).freeze = if g.waits then some .gather else none) ∧ (t.core c).arch = x.arch ∧
      tget Arch.reset t.snapP l = { x.arch with hrec := 0, hval := 0 } ∧ t.mem = s.mem ∧ t.regs = s.regs) ∧
  (∀ (s : State) (c d l : Nat) (m m' : Mark), l = s.logical c → s.lstate l = 0 → s.power.trip = false → s.part c = .bell → s.coresOf l = [c, d] →
    (s.core c).mark = some m → (s.core d).mark = some m' → m'.num = m.num → m'.sig ≠ m.sig →
    exec (.gatherConfirm c) s = .next (s.startRollback l 0 15 m.sig m'.sig)) ∧
  (∀ (s : State) (c l p : Nat) (m : Mark) (x : Core), x = s.core c → l = s.logical c → p = s.pairOf c → s.lstate l = 0 → s.power.trip = false →
    s.part c = .single → s.coresOf l = [c] → x.mark = some m → x.merge = [] → x.held = [] → x.rel = [] → ∃ t, exec (.gatherConfirm c) s = .next t ∧
      tget Arch.reset t.snapC l = tget Arch.reset s.snapP l ∧ t.rget .pxGathers (p / 4) (p % 4) = s.rget .pxGathers (p / 4) (p % 4) + 1 ∧
      (t.core c).mark = none ∧ (t.core c).kept = m.due ∧ ((t.core c).waitRel = if m.cause.waits then some m.cause else none) ∧ (t.core c).rel = [] ∧
      (t.core c).arch = x.arch ∧ (t.core l).evBase = m.ev ∧ t.mem = s.mem) ∧
  ∀ (s : State) (c cycles : Nat) (g : GCause) (x : Core), x = s.core c → x.waitRel = some g → g ≠ .stop → x.rel = [] → x.mark = none →
    (s.seq (s.logical c)).cmds = [] → ∃ t, exec (.releaseAcknowledged c cycles) s = .next t ∧
      (t.core c).waitRel = none ∧ (t.core c).freeze = (if x.freeze = some .gather then none else x.freeze) ∧
      (t.core c).timebase = x.timebase + BitVec.ofNat 64 cycles ∧ (t.core c).arch = x.arch ∧
      (t.core c).gated = (x.gated || (g == .wfe && !x.excDue && x.smchecks.isEmpty)) ∧ t.mem = s.mem

/-- A held access whose gather is confirmed and released is performed once: a load or a store of the control space is that
access by the core's agent; a load or a store of main memory goes to the home agent; an atomic of a core whose fold cache is
DISABLED reads the line's current value and writes what its kind gives (SWAP its data, FADD the sum, CAS its data only where
the old value equals the compared one); DCF cleans every copy of its line, DCFI removes every copy; an access at an unbacked
address is the machine check UNBACKED. The home agent answers an uncached load with the current bytes and writes an uncached
store coherently. The value that arrives makes the access's flight ready with its register write, and is recorded in HREC and
HVAL of the confirmed snapshot. (R12, R51, R96, R97, R181, R182, R189, R209, R229, R231, R268, R291.) -/
def Obligations.HeldAccessesArePerformed : Prop :=
  (∀ (s : State) (c f line : Nat) (ch : Chance) (h : HeldAcc), (s.core c).hacc = some h → h.phase = .checked → (s.core c).rel = [] →
    s.power.trip = false → f = foldOf c → line = h.pa / 64 →
    (∀ sg t v, h.kind = .load sg → (ctlModule h.pa).isSome = true → s.ctlRead (s.agentOf c h.pl) h.pa h.size = (t, v) →
      exec (.heldAccessPerform c ch) s = .next (t.heldDone c h v none)) ∧
    (h.kind = .store → (ctlModule h.pa).isSome = true →
      exec (.heldAccessPerform c ch) s = .next ((s.ctlWrite (s.agentOf c h.pl) h.pa h.size h.data).heldEnd c h none)) ∧
    (∀ sg, h.kind = .load sg ∨ h.kind = .store → ctlModule h.pa = none → h.halves ≠ [] → (∀ x ∈ h.halves, s.mainMem x.1 = true) →
      exec (.heldAccessPerform c ch) s = .next (s.setHeld c { h with phase := .atHome })) ∧
    (∀ cmp d, h.kind = .swap ∨ h.kind = .fadd ∨ h.kind = .cas cmp → s.mainMem h.pa = true → s.fcState f = 0 → s.cohLine line = (d, false) →
      ∀ old, old = ofBytes (lineBytes d (h.pa % 64) h.size) → exec (.heldAccessPerform c ch) s = .next ((match h.atomNew old with
        | some v => s.cohWrite h.pa (toBytes h.size v)
        | none => s).heldDone c h old none)) ∧
    (h.kind = .dcf → s.mainMem h.pa = true → ctlModule h.pa = none → exec (.heldAccessPerform c ch) s = .next ((s.cleanAll line).heldEnd c h none)) ∧
    (h.kind = .dcfi → s.mainMem h.pa = true → ctlModule h.pa = none → exec (.heldAccessPerform c ch) s = .next ((s.invalidateAll line).heldEnd c h none)) ∧
    (∀ sg wh x, h.kind = .load sg → ctlModule h.pa = none → h.halves = [x] → s.unbacked x.1 = some wh →
      exec (.heldAccessPerform c ch) s = .next (s.heldDone c h 0 (some (mcheckOf 1 wh x.1))))) ∧
  (∀ (h : HeldAcc) (old : Nat), (h.kind = .swap → h.atomNew old = some h.data) ∧
    (h.kind = .fadd → h.atomNew old = some ((old + h.data) % 2 ^ (8 * h.size))) ∧
    ∀ cmp, h.kind = .cas cmp → (h.atomNew cmp = some h.data ∧ (old ≠ cmp → h.atomNew old = none))) ∧
  (∀ (s : State) (c pa len : Nat) (pe : PieceErr) (h : HeldAcc) (d : BitVec 512), (s.core c).hacc = some h → h.phase = .atHome → h.halves = [(pa, len)] →
    lineHome (pa / 64) = s.ownModule → h.left = [] →
    (h.kind = .load false → h.mcheck = none → s.dirtyCopy (pa / 64) = some (d, false) → exec (.uncachedLoad c pe) s =
      .next (s.modCore c fun k => { k with hacc := some { h with phase := .done, value := h.value + ofBytes (lineBytes d (pa % 64) len) } })) ∧
    (h.kind = .store → exec (.uncachedStore c) s = .next ((s.cohWrite pa (toBytes len h.data)).modCore c fun k => { k with hacc := some { h with phase := .answered } }))) ∧
  ∀ (s : State) (c cycles l : Nat) (h : HeldAcc) (f : Flight) (x : Core), x = s.core c → l = s.logical c → x.hacc = some h → h.phase = .done →
    h.mcheck = none → h.kind.valued = true → x.flights = [f] → f.held = true → f.num = h.num → f.slot = h.slot → x.cyc ≤ f.due → x.freeze = none →
    ∃ t, exec (.heldAccessResponse c cycles) s = .next t ∧
      t.core c = { x with hacc := some { h with phase := .answered }, flights := [{ f with ready := true, mcheck := none, writes := h.writes }] } ∧
      tget Arch.reset t.snapC l = { (s.snap l) with hrec := h.record, hval := BitVec.ofNat 128 h.value } ∧
      h.writes.head? = some ⟨if h.isF then .f h.dest else .g h.dest, BitVec.ofNat 128 h.value⟩ ∧ t.mem = s.mem ∧ t.regs = s.regs

/-- A stalled shadow, and a checker's error of a core that plays a part, begin the rollback of a RUNNING logical core, which
becomes ROLLBACK with nothing in flight, no bundle, no unconfirmed store and an empty L1D on its cores, and memory as it was.
A single-mode rollback with at most one error since the confirm restores the snapshot and resumes; one whose snapshot holds a
double-bit error ends SAFE unless the pair's strikes call for a self-test. A pair both of whose cores pass resumes, or returns
to STOPPED after TEST, raising PX_DONE. A finished state copy gives the role to the spare, or hands it back, and the logical
core goes on RUNNING or STOPPED. (R258, R270, R271, R273, R277, R280, R281, R282, R288, R289, R290, R693.) -/
def Obligations.PairDetectionsAndRecovery : Prop :=
  (∀ (s : State) (l cause core : Nat) (b d : Word), l < 216 → l % 9 < 8 → let t := s.startRollback l cause core b d
    t.lstate l = 1 ∧ t.mem = s.mem ∧ t.snapC = s.snapC ∧
      ∀ n ∈ s.coresOf l, (t.core n).flights = [] ∧ (t.core n).bundle = none ∧ (t.core n).merge = [] ∧ (t.core n).held = [] ∧ (t.core n).l1d = [] ∧
        (t.core n).mark = none) ∧
  (∀ (s : State) (f j : Nat), f < 24 → j < 4 → s.paired (4 * f + j) = true → s.degraded (4 * f + j) = false → s.lstate (9 * f + 2 * j) = 0 →
    0 < s.lagOf (9 * f + 2 * j) → exec (.stallDetect f j) s = .next (s.startRollback (9 * f + 2 * j) 2 15 0 0)) ∧
  (∀ (s : State) (c : Nat), c < 216 → s.part c ≠ .idle → s.lstate (s.logical c) = 0 →
    exec (.checkerError c) s = .next ((s.modCore c fun k => { k with errs := k.errs + 1 }).startRollback (s.logical c) 3 (c % 9) 0 0)) ∧
  (∀ (s : State) (l f j n : Nat), s.lstate l = 1 → l < 216 → l % 9 < 8 → f = foldOf l → j = l % 9 / 2 →
    (s.paired (4 * f + j) = false → (s.pair (4 * f + j)).struck = false → s.coresOf l = [n] → (s.core n).errs ≤ 1 → (s.core n).events = [] → (s.seq l).cmds = [] →
      ∃ t, exec (.rollbackComplete l none) s = .next t ∧ t.lstate l = 0 ∧ (t.core n).arch = { (s.snap l) with hrec := 0, hval := 0 } ∧
        t.rget .pxRollbacks f j = s.rget .pxRollbacks f j + 1 ∧ t.mem = s.mem) ∧
    (∀ off, exec (.rollbackComplete l (some off)) s = .next ((s.bump .pxRollbacks f j).snapFails l off))) ∧
  (∀ (s : State) (f j l : Nat), f < 24 → j < 4 → l = 9 * f + 2 * j → s.paired (4 * f + j) = true → s.degraded (4 * f + j) = false → s.lstate l = 2 →
    (s.seq l).cmds = [] → (s.pair (4 * f + j)).struck = false →
    ((s.seq l).test = some 0 → ∃ t, exec (.selftestComplete f j true true) s = .next t ∧ t.lstate l = 0 ∧ t.mem = s.mem) ∧
    ((s.seq l).test = some 6 → ∃ t, exec (.selftestComplete f j true true) s = .next t ∧ t.lstate l = 4 ∧ (t.seq l).test = none ∧
      flag (t.rget .evStat (1603 + 8 * f)) 63 = true ∧ t.mem = s.mem)) ∧
  ∀ (s : State) (l f : Nat) (cp : Copy), l < 216 → l % 9 < 8 → f = foldOf l → s.lstate l = 3 → (s.seq l).copy = some cp → (s.seq l).cmds = [] → cp.role < 8 →
    (s.core (s.physOf f cp.role)).rel = [] → ∃ t, exec (.spareStateCopyComplete l none) s = .next t ∧ (t.seq l).copy = none ∧
      t.rget .pxSpare f = (if cp.ret then 0 else BitVec.ofNat 64 (2 ^ 63 + bnat cp.mgr * 2 ^ 61 + cp.role)) ∧
      t.lstate l = (if cp.stopped then 4 else 0) ∧ t.mem = s.mem

/-- Where the store is accepted, a pair's command takes effect: STOP of a RUNNING pair calls for a waiting gather to stop it
after; START of a STOPPED pair loads its cores from the confirmed snapshot, latches NEXT into CUR and makes it RUNNING;
SUBST_A and SUBST_B of a STOPPED logical core, with a free spare, and RETURN, begin the state copy to or from the spare; TEST
of a STOPPED pair begins the self-test. Each clears REJ. A 1 in VLD clears PX_LOG and its three records. A word of the slot of
a STOPPED or SAFE logical core is written into its confirmed snapshot; reading one with no error in it changes nothing. (R277,
R279, R285, R286, R288, R289, R290, R291, R526.) -/
def Obligations.PairCommandsAndSnapshots : Prop :=
  (∀ (s : State) (a : Agent) (f j l : Nat), f < 24 → j < 4 → l = 9 * f + 2 * j → s.paired (4 * f + j) = true → s.degraded (4 * f + j) = false →
    (∀ n, (s.coresOf l).head? = some n → s.accepts a .pxCtl f j 1 → s.lstate l = 0 → (s.seq l).cmds = [] → (s.core n).gdue = none →
      ∃ t, exec (.pxCtlStop a f j) s = .next t ∧ (t.seq l).cmds = [1] ∧ (t.core n).gdue = some .command ∧ t.rbit .pxStat f j 55 = false ∧ t.mem = s.mem) ∧
    (s.accepts a .pxCtl f j 2 → s.lstate l = 4 → (s.pair (4 * f + j)).snapBad = [] → (∀ n ∈ s.coresOf l, s.ctestOn n = false) →
      ∃ t, exec (.pxCtlStart a f j none) s = .next t ∧ t.lstate l = 0 ∧ t.rbit .pxStat f j 55 = false ∧ t.mem = s.mem ∧
        t.rfld .ptCore (s.physOf f (2 * j)) 0 24 16 = s.rfld .ptCore (s.physOf f (2 * j)) 0 8 0 ∧
        ∀ n ∈ s.coresOf l, ∀ m, m ≠ 9 → (t.core n).arch.pc = (s.snap l).pc ∧ (t.core n).arch.g = (s.snap l).g ∧ (t.core n).arch.cr m = (s.snap l).cr m) ∧
    (s.accepts a .pxCtl f j 6 → s.lstate l = 4 → ∃ t, exec (.pxCtlTest a f j) s = .next t ∧ t.lstate l = 2 ∧ (t.seq l).test = some 6 ∧
      t.rbit .pxStat f j 55 = false ∧ t.mem = s.mem)) ∧
  (∀ (s : State) (a : Agent) (f j role l : Nat), f < 24 → j < 4 → role / 2 = j → l = s.logicalOf f role → s.lstate l = 4 →
    (role = 2 * j → s.accepts a .pxCtl f j 3 → s.spareFree f = true → s.ctestOn (9 * f + 8) = false → exec (.pxCtlSubstA a f j) s =
      .next ((s.rput .pxStat f j 55 55 0).startCopy l { role := role, ret := false, mgr := true, stopped := true })) ∧
    (role = 2 * j + 1 → s.accepts a .pxCtl f j 4 → s.spareFree f = true → s.ctestOn (9 * f + 8) = false → exec (.pxCtlSubstB a f j) s =
      .next ((s.rput .pxStat f j 55 55 0).startCopy l { role := role, ret := false, mgr := true, stopped := true })) ∧
    (s.accepts a .pxCtl f j 5 → s.spareFor f = some role → s.lame (9 * f + role) = false → s.ctestOn (9 * f + role) = false → exec (.pxCtlReturn a f j) s =
      .next ((s.rput .pxStat f j 55 55 0).startCopy l { role := role, ret := true, mgr := true, stopped := true }))) ∧
  (∀ (s : State) (l : Nat) (cp : Copy), (s.startCopy l cp).lstate l = 3 ∧ ((s.startCopy l cp).seq l).copy = some cp ∧ (s.startCopy l cp).mem = s.mem ∧
    (s.startCopy l cp).regs = s.regs) ∧
  (∀ (s : State) (a : Agent) (f : Nat) (v : Word), f < 24 → s.accepts a .pxLog f 0 v → flag v 63 = true → ∃ t, exec (.pxLogClear a f v) s = .next t ∧
    t.rget .pxLog f = 0 ∧ t.rget .pxLogpc f = 0 ∧ t.rget .pxLogsigB f = 0 ∧ t.rget .pxLogsigS f = 0 ∧ { t with regs := s.regs } = s) ∧
  ∀ (s : State) (a : Agent) (f slot off l : Nat) (w : SnapWord) (v : Word), f < 24 → slot < 8 → off < 0x800 → s.power.held = false → s.ownModule < 8 →
    s.snapSlot f slot = some l → (s.snap l).snapWord off = some w →
    (w.bad v = false → exec (.pxSnapWrite a f slot off v) s = .next (s.snapSet l off (w.set v)) ∧ tget Arch.reset (s.snapSet l off (w.set v)).snapC l = w.set v) ∧
    ((s.pair (4 * foldOf l + l % 9 / 2)).snapBad = [] → exec (.pxSnapRead a f slot off false) s = .next s)

/-- For a line of the own module with nothing of it in flight elsewhere and room in its directory: a fold's READ_SHARED with
no holder is granted E, with memory's bytes, and its fold becomes the owner; READ_WITH_OWNERSHIP likewise (a whole-line
request gets no data), and UPGRADE by the only sharer. A snooped sharer that is the last to answer leaves the requester as
owner; an owner of a clean line that forwards for a read keeps S, and both hold it shared. A served upgrade lands as the new
state of the line in its way; a fill that may not install gives its line up and delivers the bytes to the load that waits for
them. M written back reaches memory and leaves no holder; a clean eviction removes its holder. (R199, R201, R202, R203, R204,
R205, R206, R207, R209, R213, R221, R233.) -/
def Obligations.HomeAgentServesRequests : Prop :=
  (∀ (s : State) (f line : Nat) (x : Fill), f < 24 → x.fold = f → x.line = line → x.served = none → x.sent = none → s.caches.fills = [x] →
    s.caches.txns = [] → s.inTransit f line = none → s.copyAt (24 + tileOf f) line = none → lineHome line = s.ownModule →
    s.dirFull line = false →
    let granted := fun (i : Instr) (d : BitVec 512) (p : Bool) => ∃ t, exec i s = .next t ∧ t.caches.fills = [{ x with served := some (d, .e, p) }] ∧
      t.dirOf line = some { owned := true, holders := [f] } ∧ t.mem = s.mem ∧ t.regs = s.regs
    (x.kind = .shared → s.dirOf line = none → granted (.readShared f line .none) (s.memLine line) (s.memPoisoned line)) ∧
    (x.kind = .own → s.dirOf line = none → granted (.readWithOwnership f line .none) (s.memLine line) (s.memPoisoned line)) ∧
    (x.kind = .ownNoData → s.dirOf line = none → granted (.readWithOwnership f line .none) 0 false) ∧
    (x.kind = .upgrade → s.dirOf line = some { owned := false, holders := [f] } →
      granted (.upgrade f line .none) (s.memLine line) (s.memPoisoned line))) ∧
  (∀ (s : State) (k line : Nat) (q : Txn), k < 28 → q.req < 24 → q.req ≠ k → q.line = line → q.waits = [k] → s.caches.txns = [q] → s.caches.homeq = [] →
    lineHome line = s.ownModule → s.dirFull line = false →
    (∀ hs, s.dirOf line = some { owned := false, holders := hs } → q.kind ≠ .shared → ∃ t, exec (.snoopInvalidate k line) s = .next t ∧
      t.caches.txns = [] ∧ t.dirOf line = some { owned := true, holders := [q.req] } ∧ t.mem = s.mem) ∧
    (∀ w l, s.dirOf line = some { owned := true, holders := [k] } → q.kind = .shared → s.cfind k line = some (w, l) → l.st = .e →
      ∃ t, exec (.snoopForward k line .none) s = .next t ∧ t.caches.txns = [] ∧ t.cway k line w = some { l with st := .s } ∧
        t.dirOf line = some { owned := false, holders := [k, q.req] } ∧ t.mem = s.mem)) ∧
  (∀ (s : State) (f line w : Nat) (x : Fill) (d : BitVec 512) (p : Bool) (l : CLine), x.fold = f → x.line = line → s.caches.fills = [x] → s.fcState f = 1 →
    (∀ n, (s.core n).rel = []) →
    (x.kind = .upgrade → x.waiters = [] → x.install = true → x.served = some (d, .e, p) → s.cfind f line = some (w, l) →
      exec (.fillLand f line) s = .next ((s.modCa fun c => { c with fills := [] }).cset f line w { l with st := .e })) ∧
    (∀ n, x.kind = .shared → x.waiters = [(n, false)] → x.install = false → x.served = some (d, .e, p) → (s.core n).barred = [] → exec (.fillLand f line) s =
      .next (((s.modCa fun c => { c with fills := [] }).giveUp f line .e d p).modCore n fun c => c.fillLoads line d p))) ∧
  (∀ (s : State) (k line : Nat) (o : OutLine), o.src = k → o.line = line → s.caches.out = [o] → lineHome line = s.ownModule →
    (o.st = .m → exec (.writeBackOfM k line) s =
      .next (((s.modCa fun c => { c with out := [] }).memWriteLine line o.data o.poison).setDir line none)) ∧
    (o.st ≠ .m → exec (.cleanEvictionNotice k line) s = .next ((s.modCa fun c => { c with out := [] }).dirRemove line k))) ∧
  ∀ (c : Core) (line : Nat) (d : BitVec 512) (p : Bool) (f : Flight) (nd : Need) (g : Seg), c.flights = [f] → f.need = some nd → nd.segs = [g] → g.data = none →
    g.pa / 64 = line → c.fillLoads line d p =
      { c with flights := [{ f with need := some { nd with segs := [{ g with data := some (lineBytes d (g.pa % 64) g.len), poison := p }] } }] }

/-- The oldest victim of a fold with no request under way is installed in its tile cache in native mode (a dirty one always),
joins the eviction buffer in Ferrex mode where no entry of its line waits there, and goes home in bypass mode; the head of the
buffer is installed, an install with a free candidate way taking the lowest such way; a miss takes its line from the tile's
eviction buffer, and TC_HITS counts. A drain that ends leaves the fold DISABLED, or ENABLED where an enable is pending, and
raises DONE; a way walk that ends leaves WFBUSY 0 and raises DONE, a bypass walk TC_DONE; a committed mode comes into force
once the buffer, or the walk, of the one before it is done. (R211, R212, R213, R214, R215, R216, R224, R225, R227, R228, R238,
R241.) -/
def Obligations.VictimsDrainsAndWalks : Prop :=
  (∀ (s : State) (f t : Nat) (o : OutLine), t = tileOf f → o.src = f → s.caches.victims = [o] → s.caches.fills = [] → s.caches.txns = [] →
    (s.tileMode t = 0 → o.st = .m → exec (.victimMoved f) s = .next ((s.modCa fun c => { c with victims := [] }).tileInstall t o f)) ∧
    (s.tileMode t = 1 → s.caches.evict = [] → ∃ u, exec (.victimMoved f) s = .next u ∧ u.caches.victims = [] ∧ u.caches.evict = [o] ∧ u.mem = s.mem) ∧
    (s.tileMode t = 2 → exec (.victimMoved f) s = .next (s.modCa fun c => { c with victims := [], out := c.out ++ [o] }))) ∧
  (∀ (s : State) (t : Nat) (o : OutLine), tileOf o.src = t → s.caches.evict = [o] →
    exec (.evictionBufferInstall t) s = .next ((s.modCa fun c => { c with evict := [] }).tileInstall t o (24 + t))) ∧
  (∀ (s : State) (k mask w : Nat) (l : CLine), ((s.candidates k mask).find? fun v => (s.cway k l.line v).isNone) = some w →
    (s.install k mask l).2 = true ∧ (s.install k mask l).1.cway k l.line w = some l ∧ (s.install k mask l).1.mem = s.mem) ∧
  (∀ (s : State) (f line : Nat) (x : Fill) (o : OutLine), x.fold = f → x.line = line → x.served = none → s.caches.fills = [x] → s.caches.txns = [] →
    tileOf o.src = tileOf f → o.line = line → s.caches.evict = [o] → ∃ t, exec (.tileCacheHitMoved f line .none) s = .next t ∧ t.caches.evict = [] ∧
      t.caches.fills = [{ x with served := some (o.data, o.st, o.poison) }] ∧ t.rget .tcHits (tileOf f) = s.rget .tcHits (tileOf f) + 1 ∧ t.mem = s.mem) ∧
  (∀ (s : State) (f : Nat), f < 24 → s.fcState f = 2 → (∀ x ∈ s.caches.fills, x.fold ≠ f) → ∃ t, exec (.fcDrainComplete f) s = .next t ∧
    t.fcState f = bnat (s.rbit .fcCtl f 0 1) ∧ t.rbit .fcCtl f 0 1 = false ∧ t.rbit .evStat (cacheSrc f 3) 0 63 = true) ∧
  (∀ (s : State) (k : Nat) (w : Walk), k < 28 → w.cache = k → s.caches.walks = [w] → ∃ t, exec (.wayWalkComplete k) s = .next t ∧ t.caches.walks = [] ∧
    (k < 24 → t.rbit .fcCtl k 0 4 = false) ∧ t.rbit .evStat (cacheSrc k 3) 0 63 = true) ∧
  (∀ (s : State) (t : Nat), t < 4 → s.caches.bypass = [t] → ∃ u, exec (.bypassWalkComplete t) s = .next u ∧ u.caches.bypass = [] ∧
    u.rbit .evStat (cacheSrc (24 + t) 3) 0 63 = true) ∧
  ∀ (s : State) (t : Nat), t < 4 → tsorted s.caches.modeNow = true → s.rfld .tcCtl t 0 1 0 ≠ s.tileMode t →
    (s.tileMode t = 1 → ∀ o ∈ s.caches.evict, tileOf o.src ≠ t) → (s.tileMode t = 2 → t ∉ s.caches.bypass) →
    ∃ u, exec (.tcModeTakeEffect t) s = .next u ∧ u.tileMode t = s.rfld .tcCtl t 0 1 0 ∧ u.mem = s.mem ∧ u.regs = s.regs

/-- While VLD is 1, a further rejection leaves MG_CFGERR_DATA and every bit of MG_CFGERR_ADDR but OVF as they are, sets OVF,
and raises event source 4 (PEND 1, COUNT one more, saturating); so does a core control register write that is rejected;
nothing else but the router's and the tracer's own record of the raise changes. (R22.) -/
def Obligations.RejectionsKeepTheFirstRecord : Prop :=
  ∀ (s : State) (cause pa data : Nat), flag (s.rget .mgCfgerrAddr) 63 = true → let t := s.reject cause pa data
    t.rget .mgCfgerrData = s.rget .mgCfgerrData ∧ flag (t.rget .mgCfgerrAddr) 62 = true ∧
      (∀ b, b ≠ 62 → b < 64 → flag (t.rget .mgCfgerrAddr) b = flag (s.rget .mgCfgerrAddr) b) ∧
      t.rbit .evStat 4 0 63 = true ∧ t.rfld .evStat 4 0 15 0 = min (s.rfld .evStat 4 0 15 0 + 1) 0xFFFF ∧
      (∀ r i j, r.addr i j ≠ Reg.mgCfgerrAddr.addr → r.addr i j ≠ Reg.evStat.addr 4 → t.rget r i j = s.rget r i j) ∧
      { t with regs := s.regs, evFirst := s.evFirst, tense := s.tense } = s ∧
      ∀ n creg v, s.part n ≠ .shadow → s.cregReject n creg v = s.reject 4 (n * 256 + creg) v.toNat

/-- For every register of the module and every instance number it has, its offset lies in the 4 GiB control space of the
module, is a multiple of 8, and is where the control space finds that register and that instance: no two instances share an
address. (R13, R14.) -/
def Obligations.EveryRegisterIsFoundAtItsAddress : Prop :=
  (∀ (r : Reg) (i j : Nat), i < r.place.n1 → j < r.place.n2 → (r = .ftCnt → j < strikeCount i) →
    r.addr i j < 2 ^ 32 ∧ r.addr i j % 8 = 0 ∧ regAt (r.addr i j) = some (r, i, j)) ∧
  ∀ (off : Nat) (r : Reg) (i j : Nat), regAt off = some (r, i, j) → r.addr i j = off ∧ i < r.place.n1 ∧ j < r.place.n2

/-- Out of reset, a store of 8 aligned bytes to a register that takes its fields from the word sets each rw field, clears each
w1c bit written 1, and keeps the others; a store of a reserved value is rejected with CAUSE 0, one of another size or
alignment with CAUSE 2, one to another module's control space or an unassigned offset with CAUSE 3, and each of them changes
no register but MG_CFGERR's and the router's; a store to a live register of a drafted set does nothing. The first rejection is
recorded with its CAUSE, its address and the bytes stored. A 1 in VLD clears both registers of MG_CFGERR. (R11, R14, R15, R16,
R17, R18, R20, R21, R24, R25, R691.) -/
def Obligations.ControlSpaceStores : Prop :=
  (∀ (s : State) (a : Agent) (pa size v off : Nat), s.power.held = false → pa = s.ctlPa off → off < 2 ^ 32 → s.ownModule < 8 →
    (∀ r i j, r = .evRoute ∨ r = .ftMctarget ∨ r = .tnTrace ∨ r = .mcScrub ∨ r = .fcAllotD ∨ r = .lkApt → off = r.addr i j → s.accepts a r i j (BitVec.ofNat 64 v) →
      size = 8 → v < 2 ^ 64 → exec (.registerWrite a pa size v) s =
        .next (s.rset r i j (BitVec.ofNat 64 (writeFields r.fields (s.rget r i j).toNat v)))) ∧
    (size ≠ 8 ∨ pa % 8 ≠ 0 → exec (.registerWrite a pa size v) s = .next (s.reject 2 pa (v % 2 ^ (8 * min size 8)))) ∧
    (size = 8 → pa % 8 = 0 → (s.ctlAt a off = .nothing → exec (.registerWrite a pa size v) s = .next (s.reject 3 pa (v % 2 ^ 64))) ∧
      ∀ r i j, s.ctlAt a off = .reg r i j → (r.place.drafted = true → exec (.registerWrite a pa size v) s = .next s) ∧
        (r.place.drafted = false → r.reservedWrite i (v % 2 ^ 64) = true → exec (.registerWrite a pa size v) s = .next (s.reject 0 pa (v % 2 ^ 64)))) ∧
    ∀ pa', ctlModule pa' ≠ some s.ownModule → exec (.registerWrite a pa' size v) s = .next (s.reject 3 pa' (v % 2 ^ (8 * min size 8)))) ∧
  (∀ (s : State) (cause pa data : Nat), flag (s.rget .mgCfgerrAddr) 63 = false → cause < 5 → pa < 2 ^ 52 → data < 2 ^ 64 → let t := s.reject cause pa data
    t.rget .mgCfgerrAddr = BitVec.ofNat 64 (2 ^ 63 + cause * 2 ^ 59 + pa) ∧ t.rget .mgCfgerrData = BitVec.ofNat 64 data ∧ t.rbit .evStat 4 0 63 = true ∧
      ∀ r i j, r.addr i j ≠ Reg.mgCfgerrAddr.addr → r.addr i j ≠ Reg.mgCfgerrData.addr → r.addr i j ≠ Reg.evStat.addr 4 → t.rget r i j = s.rget r i j) ∧
  ∀ (s : State) (a : Agent) (v : Word), flag v 63 = true →
    Stores (.mgCfgerrClear a v) s a .mgCfgerrAddr 0 0 v ((s.rset .mgCfgerrAddr 0 0 0).rset .mgCfgerrData 0 0 0)

/-- Where the store is accepted and the agreement check of the set passes, each of the nine COMMIT registers gives every
drafted live register of its set its draft's value and keeps the drafts; where the check fails the write is rejected with
CAUSE 1 and no live register changes. (R24, R25, R222, R285, R349, R396, R434, R537, R548, R634.) -/
def Obligations.CommitsTakeAllDraftsOrNone : Prop :=
  ∀ (s : State) (a : Agent) (f : Nat) (v : Word),
    let fails := fun (c : Instr) (r : Reg) (i : Nat) => exec c s = .next (s.reject 1 (s.ctlPa (r.addr i)) v.toNat)
    (f < 24 → s.accepts a .fcCommit f 0 v →
      (s.fcCommit f = none → fails (.fcCommit a f v) .fcCommit f) ∧ ∀ t, s.fcCommit f = some t → exec (.fcCommit a f v) s = .next t ∧ (∀ k, k < 16 → t.rget .fcAllot f k = s.rget .fcAllotD f k ∧ t.rget .fcAllotD f k = s.rget .fcAllotD f k) ∧ t.rget .fcClass f = s.rget .fcClassD f) ∧
    (f < 4 → s.accepts a .tcCommit f 0 v →
      (s.tcCommit f = none → fails (.tcCommit a f v) .tcCommit f) ∧ ∀ t, s.tcCommit f = some t → exec (.tcCommit a f v) s = .next t ∧ (∀ k, k < 64 → t.rget .tcAllot f k = s.rget .tcAllotD f k ∧ t.rget .tcAllotD f k = s.rget .tcAllotD f k) ∧ t.rget .tcCtl f = s.rget .tcCtlD f) ∧
    (f < 24 → s.accepts a .pxCommit f 0 v →
      (s.pxCommit f = none → fails (.pxCommit a f v) .pxCommit f) ∧ ∀ t, s.pxCommit f = some t → exec (.pxCommit a f v) s = .next t ∧ ∀ j, j < 4 → t.rget .pxCfg f j = s.rget .pxCfgD f j ∧ t.rget .pxCfgD f j = s.rget .pxCfgD f j) ∧
    (f = 0 → s.accepts a .chPathcommit 0 0 v →
      (s.chPathCommit = none → fails (.chPathcommit a v) .chPathcommit 0) ∧ ∀ t, s.chPathCommit = some t → exec (.chPathcommit a v) s = .next t ∧ ∀ n, n < 256 → t.rget .chPathgrp n = s.rget .chPathgrpD n ∧ t.rget .chPathpol n = s.rget .chPathpolD n ∧ t.rget .chPathgrpD n = s.rget .chPathgrpD n) ∧
    (f = 0 → s.accepts a .chDraincommit 0 0 v →
      (s.chDrainCommit = none → fails (.chDraincommit a v) .chDraincommit 0) ∧ ∀ t, s.chDrainCommit = some t → exec (.chDraincommit a v) s = .next t ∧ t.rget .chDraincfg = s.rget .chDraincfgD ∧ t.rget .chDrainaddr = s.rget .chDrainaddrD ∧ t.rget .chDraincfgD = s.rget .chDraincfgD) ∧
    (f = 0 → (∀ x ∈ s.chans.pens, x.1 < 65536) → s.accepts a .lkCommit 0 0 v →
      (s.lkCommit = none → fails (.lkCommit a v) .lkCommit 0) ∧ ∀ t, s.lkCommit = some t → exec (.lkCommit a v) s = .next t ∧ ∀ p, p < 128 → t.rget .lkCfg p = s.rget .lkCfgD p ∧ t.rget .lkCfgD p = s.rget .lkCfgD p) ∧
    (f = 0 → s.accepts a .ptTrcommit 0 0 v →
      (s.trCommit = none → fails (.ptTrcommit a v) .ptTrcommit 0) ∧ ∀ t, s.trCommit = some t → exec (.ptTrcommit a v) s = .next t ∧ ∀ n, n < 8192 → t.rget .ptTrough n = s.rget .ptTroughD n ∧ t.rget .ptTroughD n = s.rget .ptTroughD n) ∧
    (f = 0 → s.accepts a .stCommit 0 0 v →
      (s.stCommit = none → fails (.stCommit a v) .stCommit 0) ∧ ∀ t, s.stCommit = some t → exec (.stCommit a v) s = .next t ∧ t.rget .stPeriod = BitVec.ofNat 64 (s.rfld .stPeriodD 0 0 14 0) ∧ ∀ m r, m < 192 → r < 257 → t.rget .stShare m r = s.rget .stShareD m r ∧ t.rget .stShareD m r = s.rget .stShareD m r) ∧
    (f = 0 → s.accepts a .ftCommit 0 0 v →
      (s.ftCommit = none → fails (.ftCommit a v) .ftCommit 0) ∧ ∀ t, s.ftCommit = some t → exec (.ftCommit a v) s = .next t ∧ ∀ k, k < 17 → t.rget .ftThresh k = s.rget .ftThreshD k ∧ t.rget .ftWindow k = s.rget .ftWindowD k ∧ t.rget .ftThreshD k = s.rget .ftThreshD k)

/-- Where the store is accepted: FC_XINVA and FC_XINVALL remove from the cores of their page exactly the cached translations
they name; FC_CTL enables a DISABLED cache and begins the drain of an ENABLED one; REPL takes its seed into both copies of the
LFSR; WAYDIS takes the SW mask; WAYFLUSH begins or joins a walk of its ways; a 1 in VLD clears ECCLOG, and nothing else
changes. (R168, R169, R172, R173, R219, R224, R225, R227, R239, R240, R241, R242.) -/
def Obligations.CacheAndTranslationRegisters : Prop :=
  (∀ (s : State) (a : Agent) (n m : Nat) (v : Word), n < 216 → m ∈ s.xinvCores n →
    let left := fun (i : Instr) (r : Reg) (p : TlbE → Bool) => s.accepts a r (n / 9) (n % 9) v →
      ∃ t, exec i s = .next t ∧ (t.core m).tlb = (s.core m).tlb.filter (fun e => !p e) ∧ t.mem = s.mem ∧ t.regs = s.regs
    let hit := fun (e : TlbE) => decide (fld v 47 12 * 4096 / 2 ^ (12 + 9 * e.lvl) = e.vpn)
    left (.fcXinva1 a n v) .fcXinva1 (fun e => !e.p2 && hit e && (e.glob || flag v 63 || decide (e.space = fld v 59 48))) ∧
    left (.fcXinva2 a n v) .fcXinva2 (fun e => e.p2 && hit e) ∧
    left (.fcXinvall1 a n v) .fcXinvall1 (fun e => !e.p2 && (match fld v 1 0 with
      | 1 => !e.glob && decide (e.space = fld v 59 48)
      | 2 => !e.glob
      | _ => true)) ∧
    left (.fcXinvall2 a n v) .fcXinvall2 (fun e => e.p2 || decide (fld v 1 0 ≠ 1))) ∧
  (∀ (s : State) (a : Agent) (f : Nat) (v : Word), f < 24 → s.accepts a .fcCtl f 0 v →
    (s.fcState f = 0 → flag v 0 = true → exec (.fcCtlWrite a f v) s = .next (s.rput .fcCtl f 0 9 8 1)) ∧
    (s.fcState f = 1 → flag v 0 = false → ∃ t, exec (.fcCtlWrite a f v) s = .next t ∧ t.fcState f = 2 ∧ t.mem = s.mem ∧
      ∀ x ∈ t.caches.fills, x.fold = f → x.install = false)) ∧
  ∀ (s : State) (a : Agent) (k : Nat) (v : Word), k < 28 →
    let ok := fun (rf rt : Reg) => if k < 24 then s.accepts a rf k 0 v else s.accepts a rt (k - 24) 0 v
    (ok .fcRepl .tcRepl → fld v 15 0 ≠ 0 → ∃ t, exec (.replWrite a k v) s = .next t ∧ fld (t.repl k) 15 0 = fld v 15 0 ∧ fld (t.repl k) 47 32 = fld v 15 0 ∧
      t.lfsr2 k = fld v 15 0 ∧ flag (t.repl k) 62 = flag v 62 ∧ t.mem = s.mem) ∧
    (ok .fcWaydis .tcWaydis → ∃ t, exec (.waydisWrite a k v) s = .next t ∧ t.waydisSw k = fld v (if k < 24 then 15 else 23) 0 ∧ t.mem = s.mem) ∧
    (ok .fcWayflush .tcWayflush → ∃ t w, exec (.wayflushWrite a k v) s = .next t ∧ w ∈ t.caches.walks ∧ w.cache = k ∧
      (∀ i, (fld v (if k < 24 then 15 else 23) 0).testBit i → w.ways.testBit i) ∧ (k < 24 → t.rbit .fcCtl k 0 4 = true) ∧ t.mem = s.mem) ∧
    (ok .fcEcclog .tcEcclog → flag v 63 = true →
      exec (.fcEcclogClear a k v) s = .next (if k < 24 then s.rset .fcEcclog k 0 0 else s.rset .tcEcclog (k - 24) 0 0))

/-- Where the store is accepted, SX_BANKCTL gives a bank its target, and a bank whose state is not it begins to change
(RETENTION to OFF apart); the end of the change gives it the state and raises SX_DONE, its bytes reading 0 where it was or
becomes OFF and unchanged otherwise; SX_KEEPWIPE begins a wipe of a bank that is not OFF, whose end leaves its bytes 0 and
raises SX_DONE; a 1 in VLD clears a log. A scrubbed piece without an error moves the pass on; an expired hold leaves the write
buffer. RETRAIN and REPAIR (of a channel with rows pending) begin a service operation of an ONLINE channel whose group is
ONLINE, ABORT takes a running one to RESYNC; the channel goes OFFLINE, a success leads to RESYNC, and RESYNC to ONLINE, BUSY 0
and MC_SVC. (R302, R304, R306, R307, R312, R316, R322, R323, R330, R331, R337, R339.) -/
def Obligations.ScratchpadBanksAndMemoryService : Prop :=
  (∀ (s : State) (a : Agent) (k b : Nat) (v : Word), k < 12 → b < 16 →
    (s.accepts a .sxBankctl k 0 v → s.bankBusy k b = false → s.bankCur k b ≠ fld v (2 * b + 1) (2 * b) → (b = 15 → s.wiping k = false) →
      ¬ (s.bankCur k b = 1 ∧ fld v (2 * b + 1) (2 * b) = 2) → ∃ t, exec (.sxBankctlWrite a k v) s = .next t ∧
        t.bankTgt k b = fld v (2 * b + 1) (2 * b) ∧ t.bankBusy k b = true ∧ tget 2 t.bankTo (16 * k + b) = fld v (2 * b + 1) (2 * b)) ∧
    (∀ n, s.bankBusy k b = true → tget 2 s.bankTo (16 * k + b) = n → n < 3 → s.bankTgt k b = n → ∃ t, exec (.bankStateChangeComplete k b) s = .next t ∧
      t.bankCur k b = n ∧ t.bankBusy k b = false ∧ t.rbit .evStat (1504 + 2 * k) 0 63 = true ∧
      (n ≠ 2 → s.bankCur k b ≠ 2 → t.mem = s.mem) ∧
      (n = 2 ∨ s.bankCur k b = 2 → ∀ i, i < 2 ^ 20 → t.byte (s.spBase k + b * 2 ^ 20 + i) = memDefault)) ∧
    (s.accepts a .sxKeepwipe k 0 v → flag v 0 = true → s.wiping k = false → s.bankCur k 15 ≠ 2 →
      exec (.sxKeepwipe a k v) s = .next (s.rput .sxBankstat k 0 48 48 1)) ∧
    (s.wiping k = true → s.bankBusy k 15 = false → ∃ t, exec (.keepWipeComplete k) s = .next t ∧ t.wiping k = false ∧
      t.rbit .evStat (1504 + 2 * k) 0 63 = true ∧ ∀ i, i < 2 ^ 20 → t.byte (s.spBase k + 15 * 2 ^ 20 + i) = memDefault) ∧
    (flag v 63 = true → Stores (.sxEcclogClear a k v) s a .sxEcclog k 0 v (s.rset .sxEcclog k 0 0) ∧
      Stores (.sxErrlogClear a k v) s a .sxErrlog k 0 v (s.rset .sxErrlog k 0 0) ∧
      Stores (.mcEcclogClear a v) s a .mcEcclog 0 0 v ((s.rset .mcEcclog 0 0 0).rset .mcEccaddr 0 0 0))) ∧
  (∀ (s : State) (ch line loc n : Nat), ch < 20 → s.rbit .mcScrub 0 0 63 = true → s.chState ch = 1 → s.ownLine line = true →
    s.linePlace line = (ch / 5, ch, loc) → ch % 5 ≠ 4 → n = s.channelPieces * ((List.range 20).filter fun c => s.chState c = 1).length →
    s.memctl.scrubPos + 1 < n → exec (.patrolScrub ch line .none) s =
      .next ((s.modMc fun m => { m with scrubPos := m.scrubPos + 1 }).rput .mcScrubstat 0 0 15 0 ((s.memctl.scrubPos + 1) * 65536 / n))) ∧
  (∀ (s : State) (g : Nat), exec (.granuleWriteHoldExpire g) s = .next (s.modMc fun m => { m with holds := m.holds.filter fun h => h.granule != g })) ∧
  (∀ (s : State) (a : Agent) (ch : Nat), ch < 20 → s.rbit .mcSvcstat 0 0 63 = false → (∀ c, c / 5 = ch / 5 → s.chState c = 1) →
    let begun := fun (op : Nat) => (s.rset .mcSvcstat 0 0 (BitVec.ofNat 64 (2 ^ 63 + 2 ^ 59 + ch * 2 ^ 48))).modMc fun m =>
      { m with op := op, result := 1, marked := m.marked.filter fun x => x.1 != ch }
    Stores (.mcRetrain a ch) s a .mcCmd 0 0 (BitVec.ofNat 64 (1 + ch * 2 ^ 8)) (begun 1) ∧
    (s.rfld .mcChstat ch 0 51 40 ≠ 0 → Stores (.mcRepair a ch) s a .mcCmd 0 0 (BitVec.ofNat 64 (2 + ch * 2 ^ 8)) (begun 2))) ∧
  ∀ (s : State) (a : Agent) (ch : Nat), ch < 20 → s.rbit .mcSvcstat 0 0 63 = true → s.rfld .mcSvcstat 0 0 52 48 = ch →
    (s.rfld .mcSvcstat 0 0 61 59 ≠ 3 → s.accepts a .mcCmd 0 0 3 → ∃ t, exec (.mcAbort a) s = .next t ∧ t.rfld .mcSvcstat 0 0 61 59 = 3 ∧
      t.rbit .mcSvcstat 0 0 62 = false ∧ t.chState ch = 3 ∧ t.mem = s.mem) ∧
    (s.rfld .mcSvcstat 0 0 61 59 = 1 → ∃ t, exec (.channelOffline ch) s = .next t ∧ t.chState ch = 2 ∧ t.rfld .mcSvcstat 0 0 61 59 = 2 ∧ t.mem = s.mem) ∧
    (s.rfld .mcSvcstat 0 0 61 59 = 2 → s.chState ch = 2 → s.memctl.op ≠ 2 → ∀ r, exec (.trainingOrRepairComplete true r) s =
      .next ((s.setChState ch 3).rput .mcSvcstat 0 0 61 59 3)) ∧
    (s.rfld .mcSvcstat 0 0 61 59 = 3 → s.chState ch = 3 → ∃ t, exec .resyncComplete s = .next t ∧ t.chState ch = 1 ∧ t.rbit .mcSvcstat 0 0 63 = false ∧
      t.rbit .evStat 1540 0 63 = true ∧ (∀ x ∈ t.memctl.marked, x.1 ≠ ch) ∧ t.mem = s.mem)

/-- At the head of far memory trough t, for a request of P2 whose well-formed descriptor lies with its ranges within a line of
the own module's main memory, and with no far operation in progress: COPY writes the source's current bytes at the destination
coherently, FILL writes there the 8-byte pattern aligned to its addresses, WB cleans every copy of the line and WBI removes
every copy; the operation leaves its trough and awaits its completion with status 0 and all its bytes. Its completion leaves
the operation, lowers PT_INFL and brings STATUS and DETAIL to the tally of a RUNNING logical core. (R52, R234, R235, R236,
R525, R530.) -/
def Obligations.FarMemoryOperations : Prop :=
  (∀ (s : State) (t : Nat) (q : Request) (rest : List Request) (d : FarDesc), tget [] s.troughs t = q :: rest → s.far = [] → q.pl = 2 →
    bits q.header 63 60 = 4 → bits q.header 55 48 = d.op → bits q.header 34 32 = s.ownModule → farDesc (s.memWords q.desc 8) = some d →
    d.dst % 64 + d.len ≤ 64 → s.mainMem d.dst = true → ∀ (s0 : State), s0 = { s with troughs := tput [] s.troughs t rest } →
    let done := fun (i : Instr) (u : State) => exec i s = .next { u with far := [{ trough := t, req := q, status := 0, bytes := d.len, pieces := [] }] }
    (d.op = 1 → d.src % 64 + d.len ≤ 64 → s.mainMem d.src = true → s.cohPoison d.src d.len = none → (d.dst + d.len ≤ d.src ∨ d.src + d.len ≤ d.dst) →
      done (.fmCopy t) (s0.cohWrite d.dst (s.cohBytes d.src d.len))) ∧
    (d.op = 2 → done (.fmFill t) (s0.cohWrite d.dst (fillBytes d.src d.dst d.len))) ∧
    (d.op = 3 → done (.fmWb t) (s0.cleanAll (d.dst / 64))) ∧ (d.op = 4 → done (.fmWbi t) (s0.invalidateAll (d.dst / 64)))) ∧
  (∀ (pattern dst n j : Nat), j < n → lget 0 (fillBytes pattern dst n) j = BitVec.ofNat 8 (pattern / 2 ^ (8 * ((dst + j) % 8)))) ∧
  (∀ (s : State) (x : FarOp), s.far = [x] → x.pieces = [] →
    exec (.farMemoryComplete x.req.ticket) s = .next ({ s with far := [] }.complete x.req x.status x.bytes)) ∧
  ∀ (s : State) (q : Request) (st n c : Nat) (ns : List Nat), s.lstate q.core = 0 → s.coresOf q.core = c :: ns → q.res < 257 → ∃ t, t = s.complete q st n ∧
    t.rget .ptInfl q.res = BitVec.ofNat 64 ((s.rget .ptInfl q.res).toNat - 1) ∧ t.mem = s.mem ∧
    (t.core c).arrived = (s.core c).arrived ++ [(q.tally, BitVec.ofNat 64 (st * 2 ^ 48 + n % 2 ^ 48))]

/-- Where the store is accepted, BUSY is 0 and the ledger is not frozen, each pen command does what R347 gives it and finishes
with RESULT done and CH_PENCMD: ATTACH takes a record that passes its checks, RESUME, ABORT, DETACH, RELOAD, RESTORE and FAIL
follow; STOP makes the pen STOPPING, MOVE pauses the group, and PEN_STOPPED and PEN_MOVE_COMPLETE finish them. A timeout fails
the path of the command; a failed path's commands are HELD again and sent on another path, or end INDETERMINATE where their
class is ONCE. A power-fail drain freezes the ledger and writes the image and its header to a memory target, or fails without
a target; its end sets DONE, LATE or FAILED and raises CH_DRAIN; the thaw unfreezes. How far COMMAND_TIMEOUT advances the
clock is not stated here. (R347, R348, R374, R375, R377, R380, R381, R382, R383, R384, R389, R390.) -/
def Obligations.PenCommandsAndTheDrain : Prop :=
  (∀ (s : State) (a : Agent) (pen arg : Nat), pen < 65536 → arg < 256 → s.rbit .chPencmdstat 0 0 63 = false → s.frozen = false →
    let go := fun (cmd ar : Nat) => s.accepts a .chPencmd 0 0 (penWord cmd ar pen)
    let u := fun (cmd : Nat) => s.rset .chPencmdstat 0 0 (BitVec.ofNat 64 (2 ^ 63 + cmd * 2 ^ 56 + pen))
    let done := fun (cmd : Nat) (t : State) => t.rget .chPencmdstat = BitVec.ofNat 64 (cmd * 2 ^ 56 + 2 ^ 52 + pen) ∧ t.rbit .evStat 48 0 63 = true ∧ t.mem = s.mem
    (∀ p, p = { Pen.reset with recd := (u 1).readRecord pen } → go 1 0 → s.penState pen = 0 → (u 1).checkRecord p = 1 →
      ∃ t, exec (.penAttach a pen) s = .next t ∧ t.penState pen = 1 ∧ t.rfld .chPenstat pen 0 39 32 = 0 ∧ t.pen pen = p ∧ done 1 t) ∧
    (go 2 0 → s.penState pen = 1 → exec (.penStop a pen) s = .next ((u 2).rput .chPenstat pen 0 63 61 2)) ∧
    (go 3 0 → s.penState pen = 2 ∨ s.penState pen = 3 → ∃ t, exec (.penResume a pen) s = .next t ∧ t.penState pen = 1 ∧ t.chans = s.chans ∧ done 3 t) ∧
    (go 4 0 → s.penState pen = 2 ∨ s.penState pen = 3 → exec (.penAbort a pen) s = .next (((u 4).penAbort pen).penDone 1)) ∧
    (go 5 0 → s.penState pen = 3 → s.waitingFor pen = [] → ∃ t, exec (.penDetach a pen) s = .next t ∧ t.penState pen = 0 ∧
      t.rfld .chPenstat pen 0 39 32 = 0 ∧ t.pen pen = Pen.reset ∧ done 5 t) ∧
    (∀ p, p = { (s.pen pen) with recd := (u 6).readRecord pen } → go 6 0 → s.penState pen = 3 → (u 6).checkRecord p = 1 → p.kind = (s.pen pen).kind → p.part = (s.pen pen).part →
      ∃ t, exec (.penReload a pen) s = .next t ∧ t.penState pen = 3 ∧ t.pen pen = { (s.pen pen) with recd := reloaded (s.pen pen).recd p.recd } ∧ done 6 t) ∧
    (go 7 arg → s.penState pen ≠ 0 → ∃ t, exec (.penRestore a pen arg) s = .next t ∧ done 7 t ∧
      ∀ i, i < 8 → if arg.testBit i then (t.pen pen).path i = PenPath.reset ∧ t.pathFailed pen i = false
        else (t.pen pen).path i = (s.pen pen).path i ∧ t.pathFailed pen i = s.pathFailed pen i) ∧
    (go 8 arg → s.penState pen ≠ 0 → ∃ t, exec (.penFail a pen arg) s = .next t ∧ done 8 t ∧ t.chans = s.chans ∧
      ∀ i, i < 8 → t.pathFailed pen i = (arg.testBit i || s.pathFailed pen i)) ∧
    (go 9 arg → arg < 32 → s.rfld .chDrovstat arg 0 63 61 = 0 → s.rbit .chDrovctl arg 0 0 = false → ∃ t, exec (.penMove a pen arg) s = .next t ∧
      t.rbit .chPengrp (pen / 64) 0 63 = true ∧ (∀ n, n / 64 = pen / 64 → t.rbit .chPenstat n 0 60 = true) ∧ t.chans.waiting = some (BitVec.ofNat 64 arg) ∧
      t.rbit .chPencmdstat 0 0 63 = true ∧ t.mem = s.mem)) ∧
  (∀ (s : State) (q : Request) (t pen : Nat), s.waitingFor pen = [(t, q)] → (∀ x ∈ s.chans.sents, x.2.pen ≠ pen) →
    s.penAbort pen = ({ s with troughs := tput [] s.troughs t (delFirst (fun r => r == q) (tget [] s.troughs t)) }).complete q 0x107 (2 ^ 34)) ∧
  (∀ (s : State) (pen g : Nat), pen < 65536 → g < 1024 →
    (s.penState pen = 2 → s.frozen = false → (∀ x ∈ s.chans.sents, x.2.pen = pen → x.2.sent = false ∧ x.2.sends = 0) → ∃ t, exec (.penStopped pen) s = .next t ∧ t.penState pen = 3 ∧
      (s.rbit .chPencmdstat 0 0 63 = true → s.rfld .chPencmdstat 0 0 59 56 = 2 → s.rfld .chPencmdstat 0 0 15 0 = pen →
        t.rbit .chPencmdstat 0 0 63 = false ∧ t.rfld .chPencmdstat 0 0 55 52 = 1 ∧ t.rbit .evStat 48 0 63 = true) ∧ t.chans = s.chans ∧ t.mem = s.mem) ∧
    (∀ v, s.chans.waiting = some v → s.rbit .chPengrp g 0 63 = true → s.frozen = false → ∃ t, exec (.penMoveComplete g) s = .next t ∧
      t.rget .chPengrp g = BitVec.ofNat 64 (v.toNat % 32) ∧ (∀ n, n / 64 = g → t.rbit .chPenstat n 0 60 = false) ∧ t.chans = { s.chans with waiting := none } ∧
      t.rbit .chPencmdstat 0 0 63 = false ∧ t.rfld .chPencmdstat 0 0 55 52 = 1 ∧ t.rbit .evStat 48 0 63 = true ∧ t.mem = s.mem)) ∧
  (∀ (s : State) (i : Nat) (e : Sent), s.entry i = some e → e.sent = true → s.frozen = false → e.pen < 65536 → e.path < 8 →
    (∃ t, exec (.commandTimeout i) s = .next t ∧ t.pathFailed e.pen e.path = true ∧ t.chans = s.chans ∧ t.mem = s.mem) ∧
    (s.pathFailed e.pen e.path = true → ∀ (again : State → Nat × Sent → State), (∀ u j (x y : Sent), y = { x with tried := x.tried ||| 2 ^ e.path, sent := false } →
        again u (j, x) = if x.once then u.recordStatus j y 0x100 0 0 0 else ((u.setEntry j y).drained u (u.pen e.pen).group).sendCommand j y) →
      exec (.pathFailureReissue e.pen e.path) s =
        .next ((s.chans.sents.filter fun x => x.2.pen == e.pen && x.2.sent && x.2.path == e.path).foldl again s))) ∧
  (∀ (s : State), s.power.held = false → (∀ d, s.chans.drain = some d → d.ended = true) → ∀ crc fails, crc = (crc32c 0 s.ledgerImage).toNat →
    fails = (!s.rbit .chDraincfg 0 0 63 || (!s.rbit .chDraincfg 0 0 62 && (s.penState (s.rfld .chDraincfg 0 0 15 0) != 1 ||
      !(List.range 8).any (s.pathOk (s.rfld .chDraincfg 0 0 15 0))))) →
    (fails = true → ∃ t, exec .powerFailDrain s = .next t ∧ t.frozen = true ∧ t.chans.sents = s.chans.sents ∧ t.rfld .chDrainstat 0 0 63 61 = 3 ∧
      t.rbit .evStat 52 0 63 = true ∧ t.mem = s.mem) ∧
    (∀ w, w = ((s.rput .chCtl 0 0 1 1 1).rset .chDrainstat 0 0 (BitVec.ofNat 64 (2 ^ 61 + s.chans.sents.length))).modCh (fun c => { c with drain := some { count := s.chans.sents.length, crc := crc, ended := false } }) →
      fails = false → w.frozen = true ∧ (s.rbit .chDraincfg 0 0 62 = false → exec .powerFailDrain s = .next w) ∧
        (s.rbit .chDraincfg 0 0 62 = true → exec .powerFailDrain s = .next ((w.cohWrite ((s.rget .chDrainaddr).toNat + 4096) s.ledgerImage).cohWrite
          (s.rget .chDrainaddr).toNat (s.drainHeader s.chans.sents.length crc ++ List.replicate 4056 0))))) ∧
  ∀ (s : State) (d : Drain), s.chans.drain = some d →
    (∀ ok late, d.ended = false → ∃ t, exec (.drainComplete ok late) s = .next t ∧ t.rfld .chDrainstat 0 0 63 61 = (if ok then 2 else 3) ∧
      t.rbit .chDrainstat 0 0 60 = (ok && late) ∧ t.rbit .evStat 52 0 63 = true ∧ t.chans.drain = some { d with ended := true } ∧ t.mem = s.mem) ∧
    (d.ended = true → s.frozen = true → (s.chans.waiting = none → exec .ledgerThaw s = .next (s.rput .chCtl 0 0 1 1 0)) ∧
      ∀ v, s.chans.waiting = some v → s.rbit .chPencmdstat 0 0 63 = true → fld v 59 56 ≠ 0 → exec .ledgerThaw s =
        .next (({ s.rput .chCtl 0 0 1 1 0 with chans := { s.chans with waiting := none } }).runPen (fld v 59 56) (fld v 55 48) (fld v 15 0)))

/-- RUN of a sentence in order, on a pen that may begin it, puts its first command HELD in the ledger entry, takes the request
from its trough and counts it in flight; a faulty clause completes it RESERVED_FIELD (CLAUSE a free value, log entry 11). A
HELD command that may be sent, whose buffers pass, that has a path with its link up, room in its ring and an operation its pen
takes, is written to that ring and rung: as a submission queue entry of its opcode for NVMe, a slot for each clause for a
ring, or a message for a remote pen; its entry becomes SENT on that path, with one more send. The doorbell posts the tail on a
mapped aperture of an up link. A new completion entry moves the head on and records its mapped status; the last command's
status ends the sentence with the completion word. MSI-X messages in order and polling read rings; others count in CH_MSIBAD.
(R353, R356, R360, R361, R362, R363, R364, R365, R366, R367, R369, R370.) -/
def Obligations.SentencesAndTheirCommands : Prop :=
  (∀ (s : State) (t entry slot pen : Nat) (q : Request) (rest : List Request), tget [] s.troughs t = q :: rest → bits q.header 63 60 = 3 → pen = bits q.header 47 32 →
    s.mayBegin pen q.part q.res = true → s.slotFree pen entry slot = true → q.part < 2047 → ∀ (u : State), u = { s with troughs := tput [] s.troughs t rest } →
    (u.descriptorFault q = none → ∃ x e, exec (.run t entry slot .none) s = .next x ∧ x.entry entry = some e ∧ e.sent = false ∧ e.clause = 0 ∧ e.req = q ∧ e.pen = pen ∧
      e.slot = slot ∧ e.tag = u.memWord (q.desc + 0x10) ∧ e.cmd = (u.clauseAt q.desc 0).map (fun w => BitVec.ofNat 64 w) ∧ x.troughs = u.troughs ∧
      x.rfld .chPenstat pen 0 12 0 = (s.rfld .chPenstat pen 0 12 0 + 1) % 2 ^ 13 ∧ x.rfld .chLused q.part 0 16 0 = (s.rfld .chLused q.part 0 16 0 + 1) % 2 ^ 17 ∧ x.mem = s.mem) ∧
    ∀ off, u.descriptorFault q = some (some off) → exec (.run t entry slot .none) s =
      .next (u.drawn.complete q 1 (Config.freeNat s.freeCtr % 128 * 2 ^ 41 + off))) ∧
  (∀ (s u : State) (i op path port : Nat) (e : Sent) (p : Pen) (cs : List Clause) (ps : List (List (Nat × Nat))), s.entry i = some e → s.maySend e = true → p = s.pen e.pen →
    cs = s.commandClauses e → op = opOf (e.cmd.map BitVec.toNat) → s.faultNow e = none →
    (if hasData op && e.owner.isNone then s.bufferCheck e cs = (u, some ps) else u = s ∧ ps = cs.map fun c => [(addrOf c, lenOf c)]) →
    u.choosePath e = some path → port = u.pathPort p.group path → u.linkState port = 2 →
    (e.sends ≠ 0 ∨ u.heldBack (132 + u.droverOf e.pen) e.req.res = false ∧ u.heldBack (4 + port) e.req.res = false) →
    let nv := fun (c : Instr) (kind o : Nat) => p.kind = kind → op = o → nvmeForm p cs = true → (u.nvmeEntries p e.slot cs).1.length ≤ u.ringFree e.pen path →
      (p.wait = none ∨ p.wait = some i) → exec c s =
        .next (((u.nvmeEntries p e.slot cs).2.foldl (fun s x => if x.2.isEmpty then s else s.cohWrite x.1 x.2) u).ringAndSend i e path 64 (u.nvmeEntries p e.slot cs).1)
    let rg := fun (c : Instr) (o : Nat) => p.kind = 3 → op = o → ringForm p cs = true → cs.length ≤ u.ringFree e.pen path →
      exec c s = .next (u.ringAndSend i e path 32 (ringSlots e.slot cs))
    nv (.read i) 1 1 ∧ nv (.write i) 1 2 ∧ nv (.flush i) 1 3 ∧ nv (.writeZeroes i) 1 4 ∧ nv (.deallocate i) 1 5 ∧ nv (.compare i) 1 6 ∧
    nv (.compareAndWrite i) 1 7 ∧ nv (.admin i) 2 8 ∧ (∀ o, 1 ≤ o ∧ o ≤ 7 → nv (.commandSend i) 1 o) ∧ nv (.commandSend i) 2 8 ∧
    rg (.ringTx i) 0x10 ∧ rg (.ringRx i) 0x11 ∧ rg (.ringCmd i) 0x12 ∧ rg (.ringQuery i) 0x13 ∧ (∀ o, 0x10 ≤ o ∧ o ≤ 0x13 → rg (.commandSend i) o) ∧
    (p.kind = 4 → (forwardClauses cs ps).length ≤ 508 → exec (.commandSend i) s =
      .next (((u.setEntry i { u.sentEntry e path with tid := u.tid }).modPen e.pen fun p => { p with last := some path }).ask 0x28 (bits (p.word 3) 58 56)
        (bits (p.word 3) 47 32 * 2 ^ 36) ((forwardClauses cs ps).length / 4 * 2 ^ 44 + bnat e.once * 2 ^ 43) (forwardClauses cs ps)))) ∧
  (∀ (s : State) (i path size : Nat) (e : Sent) (es : List (List Byte)), (s.ringAndSend i e path size es).entry i = some (s.sentEntry e path)) ∧
  (∀ (s : State) (e : Sent) (path : Nat), (s.sentEntry e path).sent = true ∧ (s.sentEntry e path).path = path ∧ (s.sentEntry e path).sends = e.sends + 1) ∧
  (∀ (s : State) (p : Pen) (slot : Nat) (c : Clause) (cs : List Clause), let x := s.nvmeEntries p slot (c :: cs)
    let opc := fun (o n : Nat) => opOf c = o → ∃ b, x.1 = [b] ∧ b.length = 64 ∧ b.take 1 = [BitVec.ofNat 8 n]
    opc 1 2 ∧ opc 2 1 ∧ opc 3 0 ∧ opc 4 8 ∧ opc 5 9 ∧ opc 6 5 ∧
      (opOf c = 7 → ∃ b d, x.1 = [b, d] ∧ b.length = 64 ∧ d.length = 64 ∧
        b.take 2 = [5, BitVec.ofNat 8 (1 + 64 * bnat (bit (p.word 0) 38))] ∧ d.take 2 = [1, BitVec.ofNat 8 (2 + 64 * bnat (bit (p.word 0) 38))])) ∧
  (∀ (s : State) (pa v rid a o : Nat), s.apertureOf pa = some (a, o) → s.aptOn a = true → s.linkState (s.lowPort (a / 4)) = 2 →
    s.doorbell pa v rid = (s.postBus (s.lowPort (a / 4)) (s.aptBus a o) (BitVec.ofNat 64 (v % 2 ^ 32)), true)) ∧
  (∀ (s w : State) (pen path lo hi head : Nat) (p : Pen) (q q' : PenPath), p = s.pen pen → q = p.path path → lo = (s.memWord (p.pathWord path 3 + 16 * q.cqHead)).toNat →
    hi = (s.memWord (p.pathWord path 3 + 16 * q.cqHead + 8)).toNat → s.frozen = false → s.penState pen ≠ 0 → s.served pen = true → s.pathFailed pen path = false →
    head = (q.cqHead + 1) % p.qsize →
    (p.kind = 1 ∨ p.kind = 2 → bit hi 48 = q.phase → q' = { q with cqHead := head, phase := if head = 0 then !q.phase else q.phase, sqHead := bits hi 15 0 } →
      (s.modPen pen fun p => { p with paths := tins p.paths path q' }).doorbell (p.pathWord path 1 + 4 * 2 ^ bits (p.word 0) 37 34) head (p.rid path) = (w, true) →
      exec (.nvmeCompletionEntry pen path .none) s = .next (w.nvmeDone pen path (bits hi 47 32) (hi / 2 ^ 49) (lo % 2 ^ 32))) ∧
    (p.kind = 3 → bit lo 63 = q.phase → q' = { q with cqHead := head, phase := if head = 0 then !q.phase else q.phase } →
      (s.modPen pen fun p => { p with paths := tins p.paths path q' }).doorbell (p.pathWord path 1 + 4 * 2 ^ bits (p.word 0) 37 34) head (p.rid path) = (w, true) →
      exec (.ringCompletionEntry pen path .none) s = .next (w.ringDone pen path (bits lo 47 32) (lo % 2 ^ 32) (hi % 2 ^ 32)))) ∧
  (∀ (s : State) (pen path i slot : Nat) (e : Sent), s.chans.sents.find? (fun x => x.2.pen == pen && x.2.sent && x.2.path == path && x.2.slot == slot) = some (i, e) → slot < 0x8000 →
    (opOf (e.cmd.map BitVec.toNat) ≠ 7 → ∀ sf dw0, nvResult sf ≠ .path → s.nvmeDone pen path slot sf dw0 =
      s.recordStatus i e (nvResult sf).status sf (s.movedBytes e) (if nvResult sf = .ok then dw0 else sf)) ∧
    (∀ d n, d < 0x80000000 ∨ 0x80000100 ≤ d → s.ringDone pen path slot d n = s.recordStatus i e (if d = 0 then 0 else 0x102) d n d) ∧
    (∀ dstat moved value e', e' = { e with status := 0, dstat := dstat, bytes := e.bytes + moved } → e.bad = false → e.owner = none → s.faultNow e' = none →
      conjOf (s.entryClause e e.last) = 0 → s.recordStatus i e 0 dstat moved value =
        ((s.unwait i e.pen).endSentence i e' 0 (if opOf (e.cmd.map BitVec.toNat) = 8 then value else e.bytes + moved)).drained s (s.pen e.pen).group)) ∧
  (∀ (s : State) (i value : Nat) (e : Sent), e.owner = none → bit ((s.pen e.pen).word 0) 39 = false → value < 2 ^ 32 → s.endSentence i e 0 value =
    (({ s with chans := { s.chans with sents := tdel s.chans.sents i } }).ledgerUse e.pen e.req.part false).complete e.req 0 (e.clause * 2 ^ 41 +
      (if e.sends = 0 then 0 else e.path) * 2 ^ 38 + e.reissues * 2 ^ 35 + (if e.sends = 0 then 0 else 2 ^ 33) + value)) ∧
  (∀ (s : State) (p rid pen path : Nat), pen < 65536 → path < 8 → s.penState pen ≠ 0 → s.pathValid (s.pen pen).group path = true → s.pathFailed pen path = false →
    s.pathPort (s.pen pen).group path = p → (s.pen pen).rid path = rid →
    exec (.msixAbsorb p rid (path * 65536 + pen)) s = .next (s.readRing pen path (s.pen pen).qsize)) ∧
  (∀ (s : State) (p rid data : Nat), 2 ^ 19 ≤ data ∨ s.penState (data % 65536) = 0 ∨ s.pathFailed (data % 65536) (bits data 18 16) = true →
    exec (.msixAbsorb p rid data) s = .next ((s.bump .chMsibad).raise 53)) ∧
  (∀ (s : State) (pen : Nat), bits ((s.pen pen).word 1) 47 40 ≠ 0 → (∃ x ∈ s.chans.sents, x.2.pen = pen ∧ x.2.sent = true) →
    exec (.completionPoll pen) s = .next ((List.range 8).foldl (fun s i => s.readRing pen i (s.pen pen).qsize) s)) ∧
  ∀ (s : State) (pen path k : Nat), s.readRing pen path (k + 1) = (match s.takeCompletion pen path .none with
    | (t, true) => t.readRing pen path k
    | (t, false) => t)

/-- Where the store is accepted and the link runs no operation: RETRAIN and REEQ take an up link to RECOVERY (REEQ of an
Ngatra link keeps it up), RELEASE a CONTAINED one to DOWN, each BUSY; a finished REEQ is UP again. A margin measurement takes
its lane from an Ngatra link and gives STEPS and the lane back. A link comes up with its rate, lanes and flit mode; an Ngatra
link that fails is DOWN, a PCIe link CONTAINED with CAUSE 6 recorded, as after a fatal error. LK_DREQ holds a read or
configuration request until its completion (data and RESULT) or timeout (RESULT 4, CAUSE 5), and posts a memory write at once.
A device's request passes the root port's checks, in order, and is served at the pieces of its buffer: written, or answered
with the bytes; one of an unknown function is refused. An ATS request answers the rights of the hurdle; a function that does
not complete its invalidation is blocked. A correctable error is a strike, a non-fatal one a record. LK_ERRLOG is cleared by a
1 in VLD. (R403, R408, R409, R411, R412, R420, R429, R430, R435, R436, R437, R438.) -/
def Obligations.LinksPortsAndDevices : Prop :=
  (∀ (s : State) (a : Agent) (p lane : Nat) (volt : Bool) (v : Word), p < 128 →
    let cmd := fun (c : Instr) (n st : Nat) => s.accepts a .lkCtl p 0 (BitVec.ofNat 64 n) → s.linkBusy p = false → s.linkRole p ≠ 0 →
      ∃ t, exec c s = .next t ∧ t.linkState p = st ∧ t.rbit .lkStat p 0 31 = true ∧ t.rbit .lkStat p 0 30 = false ∧ tget 0 t.ports.cmd p = n ∧ t.mem = s.mem
    (s.linkState p ≠ 4 → cmd (.linkRetrain a p) 1 (if s.linkState p = 1 then 1 else 3)) ∧
    (s.linkState p = 2 → s.linkRole p = 1 → cmd (.linkReeq a p) 2 3) ∧
    (s.linkState p = 2 → s.linkRole p = 2 → 1 < s.rfld .lkStat p 0 57 53 → cmd (.linkReeq a p) 2 2) ∧
    (s.linkState p = 4 → cmd (.linkRelease a p) 3 1) ∧
    (lane < 16 → s.accepts a .lkMargin p 0 (wordOf [1, lane * 2 ^ 56, bnat volt * 2 ^ 55]) → s.linkBusy p = false → (s.linkRole p = 2 → 2 ≤ s.rfld .lkStat p 0 57 53) →
      ∃ t, exec (.lkMarginGo a p lane volt) s = .next t ∧ t.rget .lkMargin p = BitVec.ofNat 64 (2 ^ 63 + lane * 2 ^ 56 + bnat volt * 2 ^ 55) ∧
        t.rfld .lkStat p 0 57 53 = (if s.linkRole p = 2 then s.rfld .lkStat p 0 57 53 - 1 else s.rfld .lkStat p 0 57 53) ∧
        (s.linkRole p = 2 → tget 0 t.ports.margin p = 1) ∧ t.mem = s.mem) ∧
    (flag v 63 = true → Stores (.lkErrlogClear a p v) s a .lkErrlog p 0 v ((s.rset .lkErrlog p 0 0).rset .lkErraddr p 0 0)) ∧
    ∀ addr wide, addr < 2 ^ 54 → s.rbit .lkDstat p 0 63 = false → s.linkState p = 2 → s.linkRole p = 1 →
      let held := fun (c : Instr) (w : Word) => s.accepts a .lkDreq p 0 w →
        ∃ t, exec c s = .next t ∧ t.rget .lkDstat p = BitVec.ofNat 64 (2 ^ 63) ∧ tfind t.ports.dreq p = some w ∧ t.mem = s.mem
      held (.dreqMemoryRead a p wide addr) (dreqWord 0 wide addr) ∧ held (.dreqConfigurationRead a p addr) (dreqWord 2 false addr) ∧
        held (.dreqConfigurationWrite a p addr) (dreqWord 3 false addr) ∧
        (s.accepts a .lkDreq p 0 (dreqWord 1 wide addr) → ∃ t, exec (.dreqMemoryWrite a p wide addr) s = .next t ∧ t.rget .lkDstat p = BitVec.ofNat 64 (2 ^ 59) ∧
          t.rbit .evStat (129 + 2 * p) 0 63 = true ∧ t.mem = s.mem ∧
          tget 0 t.chans.posted (p * 2 ^ 64 + addr) = (if wide then s.rget .lkDwdata p else s.rget .lkDwdata p &&& 0xFFFFFFFF))) ∧
  (∀ (s : State) (p : Nat), p < 128 →
    (tget 0 s.ports.cmd p = 2 → ∃ t, exec (.linkReeqComplete p) s = .next t ∧ t.linkState p = (if s.linkState p = 3 then 2 else s.linkState p) ∧
      t.rbit .lkStat p 0 31 = false ∧ tget 0 t.ports.cmd p = 0 ∧ t.rbit .evStat (128 + 2 * p) 0 63 = true ∧ t.mem = s.mem) ∧
    (∀ steps, s.rbit .lkMargin p 0 63 = true → ∃ t, exec (.marginComplete p steps) s = .next t ∧ t.rbit .lkMargin p 0 63 = false ∧ t.rfld .lkMargin p 0 62 60 = 1 ∧
      t.rfld .lkMargin p 0 54 48 = min steps 127 ∧ t.rfld .lkStat p 0 57 53 = (s.rfld .lkStat p 0 57 53 + tget 0 s.ports.margin p) % 32 ∧
      tfind t.ports.margin p = none ∧ t.rbit .evStat (128 + 2 * p) 0 63 = true ∧ t.mem = s.mem) ∧
    (∀ rate lanes flit, s.lowPort p = p → s.linkRole p ≠ 0 → (s.linkState p = 1 ∨ s.linkState p = 3) → s.rbit .ftCnt 10 p 63 = false → rate ≤ s.rfld .lkCfg p 0 7 5 →
      lanes ≠ 0 → lanes ≤ 2 ^ (s.rfld .lkCfg p 0 10 8 + 1) → tget 0 s.ports.cmd p ≠ 2 → ∃ t, exec (.linkUp p rate lanes flit) s = .next t ∧ t.linkState p = 2 ∧
        t.rfld .lkStat p 0 60 58 = rate ∧ t.rfld .lkStat p 0 57 53 = lanes % 32 ∧ t.rbit .lkStat p 0 52 = flit ∧ t.mem = s.mem) ∧
    (s.lowPort p = p → s.linkState p = 2 ∨ s.linkState p = 3 →
      (∀ protocol, s.linkRole p = 2 → ∃ t, exec (.linkDown p protocol) s = .next t ∧ t.linkState p = 1 ∧ t.mem = s.mem) ∧
      (s.linkRole p = 1 → ∃ t, (∀ protocol, exec (.linkDown p protocol) s = .next t) ∧ exec (.pcieFatalError p) s = .next t ∧ t.linkState p = 4 ∧
        (s.rbit .lkErrlog p 0 63 = false → t.rfld .lkErrlog p 0 61 58 = 6) ∧ t.rbit .evStat (129 + 2 * p) 0 63 = true ∧ t.mem = s.mem ∧
        ∀ x ∈ s.chans.pens, ∀ i, x.1 < 65536 → i < 8 → s.penState x.1 ≠ 0 → s.pathValid (s.pen x.1).group i = true → s.pathPort (s.pen x.1).group i = p →
          t.pathFailed x.1 i = true)) ∧
    (∀ w, tfind s.ports.dreq p = some w →
      (∀ result data, 1 ≤ result → result ≤ 3 → ∃ t, exec (.dreqComplete p result data) s = .next t ∧ t.rbit .lkDstat p 0 63 = false ∧ t.rfld .lkDstat p 0 61 59 = result ∧
        tfind t.ports.dreq p = none ∧ t.rbit .evStat (129 + 2 * p) 0 63 = true ∧ t.mem = s.mem ∧
        (result = 1 → fld w 63 62 = 0 ∨ fld w 63 62 = 2 → t.rget .lkDrdata p = BitVec.ofNat 64 (if flag w 61 then data else data % 2 ^ 32))) ∧
      ∃ t, exec (.dreqTimeout p) s = .next t ∧ t.rbit .lkDstat p 0 63 = false ∧ t.rfld .lkDstat p 0 61 59 = 4 ∧ tfind t.ports.dreq p = none ∧
        t.rbit .evStat (129 + 2 * p) 0 63 = true ∧ (s.rbit .lkErrlog p 0 63 = false → t.rfld .lkErrlog p 0 61 58 = 5) ∧ t.mem = s.mem) ∧
    (∀ fn, fn < 256 → s.ports.ats.contains (p, fn) = true → ∃ t, exec (.atsInvalidateTimeout p fn) s = .next t ∧ t.rbit .lkFn p fn 61 = true ∧
      t.rbit .huInvstat 0 0 61 = true ∧ t.ports.ats.contains (p, fn) = false ∧ t.rbit .evStat (129 + 2 * p) 0 63 = true ∧ t.mem = s.mem)) ∧
  (∀ (s : State) (p : Nat), s.pcieUp p = true →
    exec (.pcieCorrectableError p) s = .next (s.strike 10 p) ∧
    (∀ rid addr, exec (.pcieNonfatalError p rid addr none) s = .next ((s.lkError p 6 rid addr).answer p false 0 false) ∧
      ∀ r w, tfind s.ports.dreq p = some w → r = 2 ∨ r = 3 → exec (.pcieNonfatalError p rid addr (some r)) s = .next ((s.lkError p 6 rid addr).dreqEnd p r)) ∧
    (∀ r, r.len ≠ 0 → s.functionOf p r.rid = none → exec (.deviceMemoryRequest p r .none) s = .next (s.refuseDev p 0 r)) ∧
    (∀ (r : DevReq) (n : Nat) (fn : Word) (o : Option Nat) (u : State) (ps : List (Nat × Nat)), r.len ≠ 0 → s.functionOf p r.rid = some (n, fn) → flag fn 61 = false →
      (r.addr < 0x200000000000 ∨ 0x200000001000 ≤ r.addr) → r.kind = .memory →
      (fld fn 60 50 = 0 ∧ o = none ∧ r.addr < 2 ^ 52 ∨ fld fn 60 50 ≠ 0 ∧ ∃ res, s.resOf (fld fn 60 50) = some res ∧ o = some res) →
      s.dieBuf o r.addr r.len (if r.write then .store else .load) false = (u, ps, none) → (∀ x ∈ ps, u.reachable x.1 = true) →
      exec (.deviceMemoryRequest p r .none) s = .next (u.serveDev p r ps)) ∧
    ∀ (rid addr n : Nat) (fn : Word), s.functionOf p rid = some (n, fn) → flag fn 61 = false → flag fn 62 = true →
      (fld fn 60 50 = 0 → exec (.atsTranslationRequest p rid addr) s = .next (s.answer p true (addr / 4096 * 4096 + 1 + 2) false)) ∧
      ∀ (res : Nat) (u w : State) (x y : Except DieErr Nat), fld fn 60 50 ≠ 0 → s.resOf (fld fn 60 50) = some res →
        s.dieXlate (some res) (addr / 4096 * 4096) .load false = (u, x) → u.dieXlate (some res) (addr / 4096 * 4096) .store false = (w, y) →
        (∀ l, x ≠ .error (.poison l) ∧ y ≠ .error (.poison l)) → exec (.atsTranslationRequest p rid addr) s =
          .next (w.answer p true (addr / 4096 * 4096 + bnat x.isOk + 2 * bnat y.isOk) false)) ∧
  (∀ (s : State) (p : Nat) (r : DevReq) (ps : List (Nat × Nat)), r.write = true → r.ep = false → s.serveDev p r ps = s.dieWrites dieAgent ps (toBytes r.len r.data)) ∧
  (∀ (s w : State) (p pa n : Nat) (r : DevReq) (bs : List Byte), r.write = false → s.dieRead dieAgent pa n = (w, .ok bs) →
    s.serveDev p r [(pa, n)] = w.answer p true (ofBytes bs) false) ∧
  ∀ (s : State) (p data : Nat) (ok ep : Bool), tfind (s.answer p ok data ep).ports.answers p = some { ok := ok, data := data, ep := ep }

/-- A message that arrives in order on an up, active link whose marker has come, and is for this module, is counted (SEQ,
place, freed slots) and has its effect: a request for memory of this module is served by the home agent, answered with the
line, written under its mask and answered CMP, written back, removed from the directory, or performed; a forward, an INV, a
grant, data or an acknowledgement takes effect on this module's caches and directories; CMP and NACK end what waited; PCMD
takes a ledger entry of the pen and PSTAT ends it. One for another module goes on with HOP cleared. A message with credits, a
route and a link leaves with the next SEQ and is kept. NULL, LINK, the ACK timer, bad flits, replays, HELLO and the end of
formation do what their rules say. (R206, R368, R414, R415, R416, R417, R418, R419, R422, R424, R426, R427.) -/
def Obligations.NgatraMessagesAndLinks : Prop :=
  ∀ (s u : State) (p : Nat) (h : Hdr) (pe : PieceErr) (full bad down mark : Bool) (mask : BitVec 64) (d : BitVec 512) (ws body : List Word) (r q : Nat) (w : Word),
    let inOrder := fun (s : State) (p : Nat) (h : Hdr) (m : Msg) => s.carries p = true ∧ (s.pasture.marks.contains (s.groupPeer (p / 4)) = false ∨ m.mtype = 3) ∧
      (h.place = 0 ∧ (h.seq + 4096 - (s.lnk p).good) % 4096 ≠ 0 ∧ (h.seq + 4096 - (s.lnk p).good) % 4096 ≤ 1 + m.slots / 15 ∨
        h.place ≠ 0 ∧ h.seq = (s.lnk p).good ∧ h.place = (s.lnk p).taken)
    let counted := fun (s : State) (p : Nat) (h : Hdr) (m : Msg) =>
      s.modLnk p fun l => { l with good := h.seq, taken := h.place + 1, freed := addFreed l.freed (if h.hop then 5 else m.cls) m.slots }
    let got := fun (s u : State) (p : Nat) (h : Hdr) (m : Msg) => inOrder s p h m ∧ h.dst = s.ownModule ∧ u = counted s p h m
    let home := fun (u : State) (h : Hdr) => memModule h.addr = u.ownModule ∧ inMemRange h.addr = true ∧ u.unbacked h.addr = none ∧ u.mainMem h.addr = true
    (got s u p h (hdrMsg h 0x08 0 []) → home u h → exec (.rds p h pe) s = .next (u.serve (28 + h.src) h.tid (hdrLine h) .shared pe)) ∧
    (got s u p h (hdrMsg h 0x09 (bnat full * 2 ^ 50) []) → home u h → exec (.rdo p h full pe) s = .next (u.serve (28 + h.src) h.tid (hdrLine h) (if full then .ownNoData else .own) pe)) ∧
    (got s u p h (hdrMsg h 0x0A 0 []) → home u h → exec (.upg p h pe) s = .next (u.serve (28 + h.src) h.tid (hdrLine h) .upgrade pe)) ∧
    (got s u p h (hdrMsg h 0x0B 0 []) → home u h → exec (.rdu p h .none) s = .next (u.send 0x20 h.src h.tid h.addr (bnat (u.cohLine (hdrLine h)).2 * 2 ^ 48) (lineWords (u.cohLine (hdrLine h)).1))) ∧
    (got s u p h (hdrMsg h 0x0C 0 (mask :: 0 :: lineWords d)) → home u h → exec (.wru p h mask d) s = .next ((u.cohWriteMask (hdrLine h) d mask).send 0x1A h.src h.tid h.addr 0 [0, 0])) ∧
    (got s u p h (hdrMsg h 0x0D (bnat bad * 2 ^ 48) (lineWords d)) → (∃ e, u.dirOf (hdrLine h) = some e ∧ e.owned = true ∧ e.holders.contains (28 + h.src) = true) → exec (.wb p h bad d) s = .next ((u.memWriteLine (hdrLine h) d bad).setDir (hdrLine h) none)) ∧
    (got s u p h (hdrMsg h 0x0E 0 []) → exec (.evc p h) s = .next (u.dirRemove (hdrLine h) (28 + h.src))) ∧
    (got s u p h (hdrMsg h 0x0F 0 ws) → exec (.fmop p h ws) s = .next ((u.farServe ws).1.send 0x1A h.src h.tid h.addr 0 [(u.farServe ws).2, 0])) ∧
    (got s u p h (hdrMsg h 0x10 (r * 2 ^ 48) []) → exec (.fwds p h r) s = .next (u.guestForward h r true)) ∧
    (got s u p h (hdrMsg h 0x11 (r * 2 ^ 48) []) → exec (.fwdo p h r) s = .next (u.guestForward h r false)) ∧
    (got s u p h (hdrMsg h 0x12 0 []) → u.holderOf (hdrLine h) = none → exec (.inv p h) s = .next ((u.guestDrop (hdrLine h)).send 0x19 h.src h.tid h.addr 0 [])) ∧
    (got s u p h (hdrMsg h 0x18 (2 * 2 ^ 49) []) → exec (.gnt p h) s = .next (u.guestFill h.tid (hdrLine h) .e 0 false)) ∧
    (got s u p h (hdrMsg h 0x19 0 []) → exec (.iack p h) s = .next (u.snoopAnswer h none)) ∧
    (got s u p h (hdrMsg h 0x21 (bnat bad * 2 ^ 48) (lineWords d)) → exec (.iackd p h bad d) s = .next (u.snoopAnswer h (some (d, bad)))) ∧
    (got s u p h (hdrMsg h 0x20 (1 * 2 ^ 49 + bnat bad * 2 ^ 48) (lineWords d)) → exec (.data p h 1 bad d) s = .next (u.guestFill h.tid (hdrLine h) .s d bad)) ∧
    (got s u p h (hdrMsg h 0x20 (2 * 2 ^ 49 + bnat bad * 2 ^ 48) (lineWords d)) → exec (.data p h 2 bad d) s = .next (u.guestFill h.tid (hdrLine h) .e d bad)) ∧
    (got s u p h (hdrMsg h 0x20 (3 * 2 ^ 49 + bnat bad * 2 ^ 48) (lineWords d)) → exec (.data p h 3 bad d) s = .next (u.guestFill h.tid (hdrLine h) .m d bad)) ∧
    (got s u p h (hdrMsg h 0x1A 0 [w, 0]) → exec (.cmp p h w) s = .next ((u.heldAnswer h.tid fun a _ => a).farAnswer h.tid w)) ∧
    (got s u p h (hdrMsg h 0x1B (r * 2 ^ 48) []) → exec (.nack p h r) s = .next ((u.unserved (hdrLine h) (if r = 0 then 3 else 1)).farAnswer h.tid (BitVec.ofNat 64 (0x101 * 2 ^ 48)))) ∧
    (got s u p h (hdrMsg h 3 (r * 2 ^ 48 + q * 2 ^ 36 + bnat down * 2 ^ 35 + bnat mark * 2 ^ 34) []) → exec (.route p h r q down mark) s = .next (u.routeMsg h.src r q down mark)) ∧
    (∀ k, inOrder s p h (hdrMsg h q r body) → h.dst ≠ s.ownModule → s.receive p h (hdrMsg h q r body) k =
      (counted s p h (hdrMsg h q r body)).post { hdrMsg h q r body with hop := false }) ∧
    (∀ m g, s.msgs = [] → s.rbit .lkRoute m.dst 0 63 = true → s.rfld .lkRoute m.dst 0 58 56 = g → ∀ m', m' = { m with hop := !s.rbit .lkRoute m.dst 0 62 } →
      s.groupActive g = true → s.linkState (4 * g) = 2 → m'.slots ≤ lget 0 (s.lnk (4 * g)).credits m'.cls → (m.mtype = 3 ∨ tfind s.pasture.resync m.dst = none) →
      s.post m = s.transmit (4 * g) m') ∧
    (u.holderOf (hdrLine h) = none → u.guestForward h r full = u.send 0x19 h.src h.tid h.addr 0 []) ∧
    (∀ k o, u.holderOf (hdrLine h) = some (k, o) → r ≠ (u.guestDrop (hdrLine h)).ownModule → u.guestForward h r false =
      ((u.guestDrop (hdrLine h)).send 0x20 r h.tid h.addr ((if o.st == .m then LState.m else LState.e).code * 2 ^ 49 + bnat o.poison * 2 ^ 48) (lineWords o.data)).send 0x19
        h.src h.tid h.addr 0 []) ∧
    (r ≠ u.ownModule → u.routeMsg h.src r q down mark =
      (u.modPa fun x => { x with nbrs := tput 0 x.nbrs h.src (putBits (tget 0 x.nbrs h.src) r r (bnat (!down))) }).updateRoutes) ∧
    (u.routeMsg h.src u.ownModule q false true = (u.modPa fun x => { x with marks := x.marks.filter fun m => m != h.src }).pumpMsgs) ∧
    (∀ entry slot pen, pen = h.addr / 2 ^ 36 → s.penState pen = 1 → bit ((s.pen pen).word 3) h.src = true → s.mayBegin pen 0 0 = true → s.slotFree pen entry slot = true →
      got s u p h (hdrMsg h 0x28 (body.length / 4 * 2 ^ 44) body) → ∃ e, exec (.pcmd p h entry slot body) s = .next ((u.setEntry entry e).ledgerUse pen 0 true) ∧
        e.pen = pen ∧ e.slot = slot ∧ e.owner = some (h.src, h.tid) ∧ e.body = body ∧ e.sent = false ∧ e.clause = 0) ∧
    (∀ i e, got s u p h (hdrMsg h 0x29 (r * 2 ^ 35 + q * 2 ^ 3) []) → u.chans.sents.find? (fun x => x.2.sent && x.2.tid == h.tid && (u.pen x.2.pen).kind == 4 &&
      bits ((u.pen x.2.pen).word 3) 58 56 == h.src) = some (i, e) → u.frozen = false → u.pathFailed e.pen e.path = false →
      exec (.pstat p h r q) s = .next (u.recordStatus i e r 0 q q)) ∧
    (s.carries p = true →
      exec (.null p (((s.lnk p).good + 1) % 4096)) s = .next (s.modLnk p fun l => { l with good := ((s.lnk p).good + 1) % 4096, taken := 0 }) ∧
      exec (.ackTimer p) s = .next (s.modLnk p fun l => { l with said := some (false, true, l.good, l.freed), freed := [0, 0, 0, 0, 0, 0] }) ∧
      ((s.lnk p).kept ≠ [] → exec (.replayTimeout p) s = .next (s.replayLink p)) ∧
      ∀ (nak ackv : Bool) (credits : List Nat), ∃ (t : State), exec (.link p nak ackv q credits) s = .next (if nak then t.replayLink p else t).pumpMsgs ∧ t.mem = s.mem ∧ t.regs = s.regs ∧
        (t.lnk p).credits = (List.range 6).map (fun c => lget 0 (s.lnk p).credits c + lget 0 credits c) ∧ (ackv = false → (t.lnk p).kept = (s.lnk p).kept) ∧
        (ackv = true → (t.lnk p).kept = (s.lnk p).kept.filter fun x => decide (0 < (x.1 + 4096 - q) % 4096 ∧ (x.1 + 4096 - q) % 4096 < 2048))) ∧
    (s.linkRole p = 2 → s.linkState p = 2 → s.lowPort p = p →
      (r < 2 ^ (s.rfld .lkCfg p 0 10 8 + 1) → exec (.badFlit p (some r)) s = .next ((s.bump .lkCorr p).strike 9 (2 * p + r))) ∧
      exec (.badFlit p none) s = .next ((s.modLnk p fun l => { l with said := some (true, true, l.good, l.freed), freed := [0, 0, 0, 0, 0, 0] }).strike 10 p)) ∧
    (u = (s.bump .lkReplay p).strike 10 p → ∀ n, n = (u.lnk p).stuck + 1 →
      s.replayLink p = if 4 ≤ n then ((u.modLnk p fun l => { l with stuck := n }).lkError p 9 0 0).linkDown p 1 else u.modLnk p fun l => { l with stuck := n }) ∧
    (∀ (x : Hello) (wd : Nat) (act : Bool), p % 4 = 0 → p < 28 → 1 < s.rfld .lkPstat 0 0 57 54 → s.linkRole p ≠ 1 → x.src ≠ s.ownModule → x.src < 8 →
      x.src < s.rfld .lkPstat 0 0 57 54 → x.size + 1 = s.rfld .lkPstat 0 0 57 54 → x.ver = 1 → s.rbit .lkPstat 0 0 (31 + p / 4) = false →
      s.rbit .lkPstat 0 0 (24 + p / 4) = false → wd = (if x.width = 8 then 2 else if x.width = 4 then 1 else 0) →
      act = ((decide (s.ownModule < x.src) && !(List.range 7).any fun i => s.rbit .lkPstat 0 0 (31 + i) && s.groupPeer i == x.src) ||
        (decide (x.src < s.ownModule) && x.act)) → (x.src < s.ownModule → ∀ i, i < 7 → s.rbit .lkPstat 0 0 (31 + i) = true → s.groupPeer i ≠ x.src) →
      ∃ t, exec (.hello p x) s = .next t ∧ t.linkState p = 1 ∧ t.rfld .lkStat p 0 50 48 = x.src ∧ t.mem = s.mem ∧
        (if act then t.rbit .lkPstat 0 0 (31 + p / 4) = true else t.rbit .lkPstat 0 0 (24 + p / 4) = true) ∧
        ∀ i, p ≤ i → i < p + 2 ^ wd → t.linkRole i = 2 ∧ t.rfld .lkCfg i 0 10 8 = wd ∧ t.rget .lkCfgD i = t.rget .lkCfg i ∧ (i ≠ p → t.linkState i = 5)) ∧
    (∀ (x : Hello) (w : State), p % 4 = 0 → p < 28 → 1 < s.rfld .lkPstat 0 0 57 54 → s.linkRole p ≠ 1 → x.src < s.ownModule → x.src < s.rfld .lkPstat 0 0 57 54 →
      x.size + 1 = s.rfld .lkPstat 0 0 57 54 → x.ver = 1 → x.act = true → s.rbit .lkPstat 0 0 (24 + p / 4) = true → s.groupPeer (p / 4) = x.src →
      w = ((s.undesignate (p / 4) x.src).rput .lkPstat 0 0 (31 + p / 4) (31 + p / 4) 1).rput .lkPstat 0 0 (24 + p / 4) (24 + p / 4) 0 →
      exec (.hello p x) s = .next (if w.linkState p = 2 then w.activate (p / 4) else w)) ∧
    (s.rfld .lkPstat 0 0 63 61 = 1 → exec .formationEnd s = .next ((s.updateRoutes.rput .lkPstat 0 0 63 61
      (if (List.range (s.rfld .lkPstat 0 0 57 54)).all s.updateRoutes.present then 2 else 3)).raise 56))

/-- COMPRESS and DECOMPRESS of a RUNNING engine take the head of the next trough into the first free context, resumed from its
state words, or complete it with the status of the check that fails. COMPRESSION_UNIT_COMPLETE works the next unit of the
context whose turn it is: its input is read, the unit coded (which matches are found is a free value, log entry 12) or a block
decoded, the output written after what earlier runs wrote, the counters raised, and the job goes on or ends with its state
words, its completion and its context free. Where the store is accepted, WITHDRAW completes jobs not begun WITHDRAWN and waits
for the rest, or lets the engine run again; TEST of a WITHDRAWN engine begins, and its end gives the result and CZ_TEST;
STOPPART completes the partition's waiting jobs and raises CZ_STOP when none is left; a 1 in VLD clears CZ_VERLOG. (R444,
R445, R449, R450, R451, R453, R462, R463, R465, R470, R471, R472.) -/
def Obligations.CompressionEngines : Prop :=
  ∀ (s u w : State) (k c : Nat) (j j' : CzJob), k < 12 →
    (∀ op t q rest, c < 4 → tfind (s.czE k).jobs c = none → (∀ i, i < c → (tfind (s.czE k).jobs i).isSome = true) → s.engineHead 2 k (s.czE k).next op = some (t, q, rest) →
      s.czState k = 0 → s.flockRuns k = true → u = (s.setTrough t rest).modCz k (fun e => { e with next := t + 1 }) → j = czJob q (u.descriptor q) →
      let begun := fun (i : Instr) => (∀ st, j.refusal (u.rfld .czStat k 0 15 0) = some st → exec i s = .next (u.complete q st (j.outdone + j.skip))) ∧
        (j.refusal (u.rfld .czStat k 0 15 0) = none → u.czResume k j = (w, .ok j') → exec i s = .next (w.modCz k fun e => { e with jobs := tins e.jobs c j' }))
      (op = 1 → begun (.compress k)) ∧ (op = 2 → begun (.decompress k)) ∧ (bit (j.w 4) 63 = false → u.czResume k j = (u, .ok j))) ∧
    (∀ va vb, s.czTurn k = some c → tfind (s.czE k).jobs c = some j → u = s.modCz k (fun e => { e with turn := (c + 1) % 4 }) →
      exec (.compressionUnitComplete k va vb) s = .next (if j.op = 1 then u.czCompress k c j va vb else u.czDecompress k c j)) ∧
    (∀ len final unit bs new raw, len = min 65536 (j.inlen - j.indone) → final = decide (j.inlen ≤ j.indone + len) →
      u.engineRead k 0x21 j.req.agent (j.inaddr + j.indone) len = (w, .ok unit) → j.unit (w.rfld .czStat k 0 15 0) unit final false = (bs, new, raw) →
      u.czCompress k c j false false = w.czEmit k c j new bs fun s new =>
        let s := if raw then s.bump .czRawunits k else s
        if final then s.czFinish k c new 0 false else s.czNext k c new) ∧
    (∀ n p old new stop, n = j.inlen - j.indone → u.czFetch k j (pagesOf (n / 4096 + 2) (j.inaddr + j.indone) n) [] = (w, .piece p) →
      old = { j with indone := j.indone + p.start, head := p.head } → stop = (if p.final then (p.stop + 7) / 8 else p.stop / 8) →
      new = { old with indone := j.indone + stop, inbit := if p.final then 0 else p.stop % 8, cksum := czSum j.fmt j.cksum p.out, hist := (p.out.reverse ++ j.hist).take 32768 } →
      (p.final = false → u.czDecompress k c j = w.czEmit k c old new p.out fun s new => s.czNext k c new) ∧
        (p.final = true → p.trail = none → u.czDecompress k c j = w.czEmit k c old new p.out fun s new => s.czFinish k c new 0 false)) ∧
    (∀ (new : CzJob) bs rest fin, rest = bs.drop j.skip → s.engineWrite k 0x21 j.req.agent j.bufs (j.outdone + j.skip) (rest.take (j.cap - (j.outdone + j.skip))) = (u, .ok ()) →
      rest.length ≤ j.cap - (j.outdone + j.skip) → s.czEmit k c j new bs fin =
        fin ((if j.skip = 0 then (u.bump .czOutbytes k 0 rest.length).bump .czInbytes k 0 (new.indone - j.indone) else u.bump .czOutbytes k 0 rest.length).bump .czUnits k)
          { new with outdone := j.outdone + bs.length, skip := 0 }) ∧
    (s.czState k = 0 → (s.czE k).stopping.contains j.req.part = false → s.czNext k c j = s.modCz k fun e => { e with jobs := tins e.jobs c j }) ∧
    (∀ st vld, tfind ((s.czFinish k c j st vld).czE k).jobs c = none) ∧
    (∀ p st, s.engineTroughs 2 k = [] → s.czFlush k p st = s) ∧
    ∀ (a : Agent) (part : Nat), part < 2048 →
      (s.accepts a .czCtl k 0 (wordOf [1]) → s.czState k = 0 → u = s.rset .czCtl k 0 1 →
        exec (.czWithdraw a k true) s = .next (((u.setCzState k 1).czFlush k (fun _ => true) 0x10A).czAfter k)) ∧
      (s.accepts a .czCtl k 0 (wordOf [0]) → s.czState k = 1 ∨ s.czState k = 2 → ∃ t, exec (.czWithdraw a k false) s = .next t ∧ t.czState k = 0 ∧ t.rget .czCtl k = 0 ∧
        t.rbit .evStat (1457 + 4 * k) 0 63 = true ∧ t.mem = s.mem) ∧
      (s.accepts a .czCtl k 0 (wordOf [2, 1]) → s.czState k = 2 → s.rfld .czCtl k 0 0 0 = 1 → ∃ t, exec (.czTest a k) s = .next t ∧ (t.czE k).testing = true ∧ t.czState k = 2 ∧
        t.rget .czCtl k = 1 ∧ t.mem = s.mem) ∧
      ((s.czE k).testing = true → u = (s.modCz k fun e => { e with testing := false }) →
        (∃ t, exec (.czTestComplete k true) s = .next t ∧ t.rfld .czStat k 0 60 59 = 1 ∧ (t.czE k).testing = false ∧ t.rbit .evStat (1459 + 4 * k) 0 63 = true ∧ t.mem = s.mem) ∧
        exec (.czTestComplete k false) s = .next (((u.rput .czStat k 0 60 59 2).czStrike k).raise (1459 + 4 * k))) ∧
      (s.accepts a .czStoppart k 0 (wordOf [part]) → u = s.czFlush k (fun q => q.part == part) 0x10B → w = u.modCz k (fun e => { e with stopping := part :: e.stopping.filter fun x => x != part }) →
        exec (.czStoppart a k part) s = .next (w.czAfter k)) ∧
      ((s.czE k).stopping.contains part = true → (∀ x ∈ (s.czE k).jobs, x.2.req.part ≠ part) →
        ((s.czAfter k).czE k).stopping.contains part = false ∧ (s.czAfter k).rbit .evStat (1458 + 4 * k) 0 63 = true) ∧
      Stores (.czVerlogClear a k) s a .czVerlog k 0 (wordOf [2 ^ 63]) (s.rset .czVerlog k 0 0)

/-- Each of the nine operations takes the head of the next trough into the first free context with its key latched (GCM_ENC
with an invocation value that is then used up), or completes it with the status of the first check that fails.
CIPHER_JOB_COMPLETE reads the source and AAD, writes the destination, and writes the tag, or compares it and withholds the
output on a mismatch; OUTPUT_WITHHELD overwrites what a failed job wrote and completes it. A detected error restarts a job
once, then ends it, and strikes the engine. Where the store is accepted, ACQUIRE takes a FREE lock, RELEASE with the token
frees it through its wipe, CY_FORCE wipes the lock of a QUIESCING partition, and WITHDRAW, TEST and CY_ERRLOG do what R509 to
R518 say. The generator is seeded anew. How many blocks an interrupted job and dummy rounding count are free values (log entry
11). (R478, R479, R481, R482, R490, R495, R500, R501, R502, R507, R508, R510.) -/
def Obligations.CipherEnginesAndKeys : Prop :=
  (∀ (s u w : State) (k c n t op : Nat) (q : Request) (rest : List Request) (ws : List Word) (j : CyJob), k < 12 → c < 16 → tfind (s.cyE k).jobs c = none →
    (∀ i, i < c → (tfind (s.cyE k).jobs i).isSome = true) → s.engineHead 1 k (s.cyE k).next op = some (t, q, rest) → s.flockRuns k = true →
    u = (s.setTrough t rest).modCy k (fun e => { e with next := t + 1 }) → ws = u.descriptor q → n = bits (lget 0 ws 1).toNat 63 52 →
    j = { req := q, words := ws, slot := u.keySlot n, key2 := if (u.keySlot n).ktype = 4 then (u.keySlot (n + 1)).key else 0, invoc := 0,
          hard := bit (lget 0 ws 1).toNat 47 || u.rbit .cyHard k 0 63, dummy := u.rfld .cyHard k 0 2 0, errors := 0, fail := none } →
    let begun := fun (i : Instr) => (∀ st, u.cyRefusal k j = some st → exec i s = .next (u.cyEnd k q st 0)) ∧
      (u.cyRefusal k j = none → op ≠ 1 → exec i s = .next (u.modCy k fun e => { e with jobs := tins e.jobs c j })) ∧
      (u.cyRefusal k j = none → op = 1 → ∀ v, u.grantInvocation n = (w, some v) → exec i s = .next (w.modCy k fun e => { e with jobs := tins e.jobs c { j with invoc := v } }))
    (op = 1 → begun (.gcmEnc k)) ∧
    (op = 2 → begun (.gcmDec k)) ∧
    (op = 3 → begun (.xtsEnc k)) ∧
    (op = 4 → begun (.xtsDec k)) ∧
    (op = 5 → begun (.ctr k)) ∧
    (op = 6 → begun (.cmacGen k)) ∧
    (op = 7 → begun (.cmacVer k)) ∧
    (op = 8 → begun (.hmacGen k)) ∧
    (op = 9 → begun (.hmacVer k))) ∧
  (∀ (s : State) (n : Nat), (s.keySlot n).state ≠ 2 → (s.keySlot n).invoc ≠ 2 ^ 64 - 1 →
    (s.grantInvocation n).2 = some (s.keySlot n).invoc ∧ ((s.grantInvocation n).1.keySlot n).invoc = (s.keySlot n).invoc + 1 ∧
      ((s.grantInvocation n).1.keySlot n).key = (s.keySlot n).key ∧ ((s.grantInvocation n).1.keySlot n).state = (s.keySlot n).state) ∧
  (∀ (s u w x y : State) (k c n m : Nat) (j : CyJob) (aad src tag old : List Byte), tfind (s.cyE k).jobs c = some j →
    let good := fun (s : State) => ((s.modCy k fun e => { e with jobs := tdel e.jobs c }).cyEnd k j.req 0 j.dlen).cyAfter k
    (j.fail = none → s.heldBack (164 + k) j.req.res = false → s.flockRuns k = true → s.engineRead k 0x20 j.req.agent j.aad j.aadlen = (u, .ok aad) →
      u.engineRead k 0x20 j.req.agent j.src j.dlen = (w, .ok src) → w.engineWrite k 0x20 j.req.agent [(j.dst, j.dlen)] 0 (j.work src aad).1 = (x, .ok ()) →
      exec (.cipherJobComplete k c) s = .next ((x.cyCount k j j.blocks).cyTag k c j (j.work src aad).2)) ∧
    (j.op = 2 ∨ j.op = 7 ∨ j.op = 9 → s.engineRead k 0x20 j.req.agent j.tag j.taglen = (y, .ok old) →
      s.cyTag k c j tag = if old = tag.take j.taglen then good y else y.cyFail k c j 0x107 (if j.writes then j.dlen else 0) (if j.writes then j.dlen else 0)) ∧
    (j.op ≠ 2 → j.op ≠ 7 → j.op ≠ 9 → (j.taglen = 0 → s.cyTag k c j tag = good s) ∧
      (j.taglen ≠ 0 → s.engineWrite k 0x20 j.req.agent [(j.tag, j.taglen)] 0 (tag.take j.taglen) = (y, .ok ()) → s.cyTag k c j tag =
        good (if j.op = 1 then (y.dieWrite (y.engineAgent k 0x20 (j.req.desc + 0x30)) (j.req.desc + 0x30) j.gcmIv).1 else y))) ∧
    (∀ st lo hi, j.fail = some (st, lo, hi) → m = (if j.writes then max lo (min n hi) else 0) → exec (.outputWithheld k c n) s =
      .next ((((s.engineWrite k 0x20 j.req.agent [(j.dst, m)] 0 (List.replicate m 0)).1.modCy k fun e => { e with jobs := tdel e.jobs c }).cyEnd k j.req st 0).cyAfter k)) ∧
    (∀ kind, j.fail = none →
      (1 ≤ j.errors → u = ((s.cyCountSome k j).record .cyErrlog k 0 (kind % 4 * 2 ^ 60 + 2 ^ 59 + j.req.part * 2 ^ 48 + j.kslot)).raise (1410 + 4 * k) →
        exec (.cipherDatapathError k c kind) s = .next ((u.cyFail k c j 0x10C 0 (if j.writes then j.dlen else 0)).cyStrike k)) ∧
      (j.errors = 0 → j.op ≠ 1 → u = ((s.cyCountSome k j).record .cyErrlog k 0 (kind % 4 * 2 ^ 60 + j.req.part * 2 ^ 48 + j.kslot)).raise (1410 + 4 * k) →
        exec (.cipherDatapathError k c kind) s = .next ((u.modCy k fun e => { e with jobs := tins e.jobs c { j with errors := 1 } }).cyStrike k)))) ∧
  (∀ (j : CyJob) (src aad : List Byte), (j.op = 5 → j.work src aad = (ctr j.aesKey j.iv src, [])) ∧ (j.op = 6 ∨ j.op = 7 → j.work src aad = ([], cmac j.aesKey src)) ∧
    (j.op = 8 ∨ j.op = 9 → j.work src aad = ([], hmac384 (j.keyBytes 32) src)) ∧
    (j.op = 1 → j.work src aad = (gcmData (roundKeys j.aesKey) j.gcmIv src, gcmTag (roundKeys j.aesKey) j.gcmIv aad (gcmData (roundKeys j.aesKey) j.gcmIv src))) ∧
    (j.op = 2 → j.work src aad = (gcmData (roundKeys j.aesKey) (j.iv.take 12) src, gcmTag (roundKeys j.aesKey) (j.iv.take 12) aad src))) ∧
  (∀ (s : State) (k : Nat), k < 12 →
    (s.drbgRefuses = false → ((s.cySeed k).cyE k).masked = 0 ∧ (s.cySeed k).drbg = (if 2 ^ 20 ≤ s.drbg then 1 else s.drbg + 1) ∧ (s.cySeed k).mem = s.mem) ∧
    (2 ^ 20 ≤ (s.cyE k).masked → exec (.maskingGeneratorReseed k) s = .next (s.cySeed k)) ∧
    (s.cyLockState k = 3 → (s.cyE k).jobs = [] → s.drbgRefuses = false → ∃ t, exec (.lockWipeComplete k) s = .next t ∧ t.rget .cyLock k = 0 ∧ (t.cyE k).token = 0 ∧
      (t.cyE k).masked = 0 ∧ t.rbit .evStat (1409 + 4 * k) 0 63 = true ∧ t.mem = s.mem) ∧
    (s.cyState k = 3 → s.drbgRefuses = false → ∃ t, exec (.cyTestComplete k true) s = .next t ∧ t.rfld .cyStat k 0 60 59 = 1 ∧ t.rbit .evStat (1410 + 4 * k) 0 63 = true ∧ t.mem = s.mem ∧
      t.cyState k = (if s.rbit .ftCnt 12 k 63 then 4 else if s.rbit .cyCtl k 0 0 then 2 else 0)) ∧
    (s.cyState k = 3 → exec (.cyTestComplete k false) s = .next (((((s.rput .cyStat k 0 60 59 2).cyStrike k).cySettle k).cySeed k).raise (1410 + 4 * k))) ∧
    ∀ (a : Agent) (token part : Nat), token < 2 ^ 32 → part < 2048 → a.part < 2048 →
      (s.accepts a .cyLock k 0 (wordOf [2 ^ 32, token]) → s.cyLockState k = 0 → ∃ t, exec (.acquire a k token) s = .next t ∧ t.cyHolds k a.part = true ∧
        (t.cyE k).token = token ∧ t.mem = s.mem) ∧
      (s.accepts a .cyLock k 0 (wordOf [2 ^ 33, token]) → s.cyHolds k a.part = true → (s.cyE k).token = token →
        exec (.release a k token) s = .next (s.rput .cyLock k 0 63 61 (if (s.cyE k).jobs.isEmpty then 3 else 2))) ∧
      (s.accepts a .cyForce k 0 (wordOf [part]) → (s.cyLockState k = 1 ∨ s.cyLockState k = 2) → s.cyOwner k = part → (∃ r, s.resOf part = some r ∧ s.resState r = 2) →
        ∃ t, exec (.cyForce a k part) s = .next t ∧ t.cyLockState k = 3 ∧ t.rbit .cyStat k 0 58 = false ∧ t.mem = s.mem ∧
          ∀ x ∈ (t.cyE k).jobs, x.2.req.part = part → x.2.fail.isSome = true) ∧
      (s.accepts a .cyCtl k 0 (wordOf [1]) → s.cyState k = 0 → ((s.cyE k).jobs = [] → s.drbgRefuses = false → ∃ t, exec (.cyWithdraw a k true) s = .next t ∧
          t.cyState k = (if s.rbit .ftCnt 12 k 63 then 4 else 2) ∧ t.rget .cyCtl k = 1 ∧ t.mem = s.mem) ∧
        ((s.cyE k).jobs ≠ [] → ∃ t, exec (.cyWithdraw a k true) s = .next t ∧ t.cyState k = 1 ∧ t.rget .cyCtl k = 1 ∧ t.mem = s.mem ∧
          ∀ x ∈ (t.cyE k).jobs, x.2.fail.isSome = true)) ∧
      (s.accepts a .cyCtl k 0 (wordOf [0]) → s.cyState k = 2 → ∃ t, exec (.cyWithdraw a k false) s = .next t ∧ t.cyState k = 0 ∧ t.rget .cyCtl k = 0 ∧
        t.rbit .evStat (1408 + 4 * k) 0 63 = true ∧ t.mem = s.mem) ∧
      (s.accepts a .cyCtl k 0 (wordOf [2, 1]) → s.cyState k = 2 → s.rfld .cyCtl k 0 0 0 = 1 → s.drbgRefuses = false → ∃ t, exec (.cyTest a k) s = .next t ∧ t.cyState k = 3 ∧ t.rget .cyCtl k = 1 ∧
        t.rbit .evStat (1408 + 4 * k) 0 63 = true ∧ t.mem = s.mem) ∧
      Stores (.cyErrlogClear a k) s a .cyErrlog k 0 (wordOf [2 ^ 63]) (s.rset .cyErrlog k 0 0))

/-- Where the store is accepted: the PT_CTL commands admit, quiesce, resume, remove and seal a resident entry with RESULT
done; PT_CORE takes NEXT, and CUR of a core that does not run; HU_INV removes the cached hurdle translations it names and sets
BUSY, which HU_INVDONE clears, raising source 60. At a period boundary every meter publishes its use, takes its capacity anew
and starts at its first opportunity, and sealed modes apply; an opportunity moves its meter on and serves its owner's work, or
RECOVERY's. EV_ROUTE takes its fields, EV_STAT clears a source, EV_EOI clears the highest active priority, EV_SWRAISE and a
guest's EV_RAISE raise a source; a coalescing timer makes a pending source ready (how it advances the clock is the model's
choice). (R523, R524, R526, R533, R538, R541, R567, R568, R572, R574, R579, R580.) -/
def Obligations.PartitionsStintsAndEvents : Prop :=
  (∀ (s : State) (a : Agent) (r pid : Nat) (sealed : Bool), r < 257 → pid < 2048 →
    let sets := fun (c : Instr) (cmd sl pd st se id : Nat) => s.accepts a .ptCtl 0 0 (ptWord cmd r (decide (sl = 1)) pd) →
      exec c s = .next ((s.rset .ptRes r 0 (BitVec.ofNat 64 (st * 2 ^ 62 + se * 2 ^ 61 + id))).rset .ptCtlstat 0 0 (BitVec.ofNat 64 (cmd * 2 ^ 60 + 1 * 2 ^ 56 + r)))
    (s.resState r = 0 → pid ≠ 0 → s.resOf pid = none → sets (.ptAdmit a r pid sealed) 1 (bnat sealed) pid 1 (bnat sealed) pid) ∧
    (s.resState r = 1 → sets (.ptQuiesce a r) 2 0 0 2 (s.rfld .ptRes r 0 61 61) (s.partId r)) ∧
    (s.resState r = 2 → sets (.ptResume a r) 3 0 0 1 (s.rfld .ptRes r 0 61 61) (s.partId r)) ∧
    (s.resState r = 2 → s.partHeld r (s.partId r) = false → s.rfld .ptInfl r 0 31 0 = 0 → sets (.ptRemove a r) 4 0 0 0 0 0) ∧
    (s.resState r = 1 ∨ s.resState r = 2 → sets (.ptMode a r sealed) 5 (bnat sealed) 0 (s.resState r) (bnat sealed) (s.partId r))) ∧
  (∀ (s : State) (a : Agent) (n next : Nat), n < 216 → next < 512 → s.accepts a .ptCore n 0 (wordOf [next]) → ∃ t, exec (.ptCoreWrite a n next) s = .next t ∧
    t.rfld .ptCore n 0 8 0 = next ∧ t.rfld .ptCore n 0 24 16 = (if (match s.roleOf n with | none => true | some c => decide (4 ≤ s.lstate (s.logicalOf (foldOf n) c)))
      then next else s.rfld .ptCore n 0 24 16) ∧ { t with regs := s.regs } = s) ∧
  (∀ (s : State) (a : Agent) (v : Word), s.accepts a .huInv 0 0 v → s.rbit .huInvstat 0 0 63 = false → ∃ t, exec (.huInv a v) s = .next t ∧
    t.hurdles = s.hurdles.filter (fun e => !huNames v e) ∧ (∀ n, (t.core n).hcache = (s.core n).hcache.filter fun e => !huNames v e) ∧
    t.rget .huInvstat = BitVec.ofNat 64 (2 ^ 63) ∧ t.huWait = s.liveTickets (fld v 58 48) ∧ t.mem = s.mem) ∧
  (∀ (s : State), s.rbit .huInvstat 0 0 63 = true → (∀ n ∈ s.huWait, ∀ q ∈ s.liveRequests, q.ticket ≠ n) → ∃ t, exec .huInvdone s = .next t ∧
    t.rbit .huInvstat 0 0 63 = false ∧ t.huWait = [] ∧ t.ports.ats = [] ∧ t.rbit .evStat 60 0 63 = true ∧ t.mem = s.mem) ∧
  (∀ (s : State), ∃ t, exec .stintPeriodBoundary s = .next t ∧ t.mem = s.mem ∧ t.rfld .stStat 0 0 63 32 = (s.rfld .stStat 0 0 63 32 + 1) % 2 ^ 32 ∧
    t.sealedNow = (List.range 257).filter (fun r => s.resState r != 0 && s.rbit .ptRes r 0 61) ∧
    ∀ m, m < 192 → let x := tget Meter.reset s.meters m
      let y := tget Meter.reset t.meters m
      y.pos = 0 ∧ y.used = [] ∧ y.borrow = [] ∧ y.passed = [] ∧ y.last = x.last ∧ y.cap = s.meterCap m (s.rfld .stPeriod 0 0 14 0) ∧
        ∀ r, r < 257 → t.rget .stUse m r = BitVec.ofNat 64 (tget 0 x.borrow r % 2 ^ 24 * 2 ^ 24 + tget 0 x.used r % 2 ^ 24)) ∧
  (∀ (s : State) (m : Nat) (waiting : List Nat), let x := tget Meter.reset s.meters m
    let o := x.turn.1
    let takes := decide (x.count ownRecovery ≤ tget 0 x.passed ownRecovery) && decide (x.pos % 10 = 9) && waiting.contains ownRecovery
    x.pos < x.cap → ∃ t, exec (.stintOpportunity m waiting) s = .next t ∧ t.mem = s.mem ∧ (tget Meter.reset t.meters m).pos = x.pos + 1 ∧
      (tget Meter.reset t.meters m).credit = x.turn.2 ∧ tget 0 (tget Meter.reset t.meters m).passed o = tget 0 x.passed o + 1 ∧
      (takes = false → o ≤ 256 → waiting.contains o = true → tget 0 (tget Meter.reset t.meters m).used o = tget 0 x.used o + 1 ∧ t.regs = s.regs) ∧
      (takes = true → t.rbit .stStat 0 0 0 = true ∧ t.rbit .evStat 62 0 63 = true)) ∧
  (∀ (s : State) (src : Nat), src < 2048 → let t := s.raise src
    t.rbit .evStat src 0 63 = true ∧ t.rfld .evStat src 0 15 0 = min (s.rfld .evStat src 0 15 0 + 1) 0xFFFF ∧ t.mem = s.mem) ∧
  (∀ (s : State) (src : Nat), src < 2048 → s.rbit .evStat src 0 63 = true → s.rfld .evRoute src 0 15 0 ≠ 0 → tget 0 s.evFirst src + s.rfld .evRoute src 0 15 0 < 2 ^ 64 →
    ∃ t, exec (.coalesceTimerExpire src) s = .next t ∧ t.evReady src = true ∧ { t with regs := s.regs } = s ∧
      ∀ r i j, r.addr i j ≠ Reg.pwAotime.addr → t.rget r i j = s.rget r i j) ∧
  ∀ (s : State) (a : Agent) (src n : Nat) (v : Word), src < 2048 → n < 216 →
    Stores (.evRouteWrite a src v) s a .evRoute src 0 v (s.rset .evRoute src 0 (BitVec.ofNat 64 (writeFields Reg.evRoute.fields (s.rget .evRoute src).toNat v.toNat))) ∧
    (s.accepts a .evStat src 0 v → flag v 63 = true → ∃ t, exec (.evStatClear a src v) s = .next t ∧ t.rget .evStat src = 0 ∧ t.evReady src = false ∧ t.mem = s.mem ∧
      ∀ r i j, r.addr i j ≠ Reg.evStat.addr src → t.rget r i j = s.rget r i j) ∧
    (∀ lvl, (lvl = 1 ∧ s.accepts a .evEoi1 n 0 v ∨ lvl = 2 ∧ s.accepts a .evEoi2 n 0 v) → flag v 0 = true → s.evActiveSet (s.evCore n) lvl ≠ 0 →
      ∃ t, exec (.evEoi a n lvl v) s = .next t ∧ t.mem = s.mem ∧
        t.evActiveSet (s.evCore n) lvl = s.evActiveSet (s.evCore n) lvl - 2 ^ Nat.log2 (s.evActiveSet (s.evCore n) lvl)) ∧
    Stores (.evSwraise a v) s a .evSwraise 0 0 v (s.raise (fld v 10 0)) ∧
    (1792 ≤ fld v 10 0 → a.res ≠ 0 → s.rfld .evRoute (fld v 10 0) 0 36 28 = a.res → Stores (.evRaise a n v) s a .evRaise n 0 v (s.raise (fld v 10 0)))

/-- The release of MRST_N with every rail in range samples the straps by majority, restarts the always-on time, counts the
boot and ends the reset; with a rail out of range it ends the reset and the boot waits; its assertion resets everything but
the MRAM. A LOAD that passes its checks is recorded; drovers and engines become LOADING, training begins, or the loader is
placed and answered; each unit whose image runs becomes RUNNING with its version, training sets MC_CFG and brings the channels
ONLINE, or a failure stops the boot. SHEP_UPDATE writes the other bank and restarts the cores; a restart keeps the active bank
where its self-test passes; SHEP_COMMIT raises MINSVN. A tripped sensor wipes keys, sets the latch and counts; noise sources
strike, and the DRBG reseeds or refuses (its output is a free value, log entry 11). (R588, R589, R592, R594, R595, R596, R601,
R604, R621, R625, R655, R657.) -/
def Obligations.BootFirmwareAndTamper : Prop :=
  let wiped := fun (t : State) => t.shep.keepSram = [] ∧ ∀ n, n < 4096 → (t.keySlot n).state = 0 ∧ (t.keySlot n).key = 0
  let served := fun (s : State) (op : Nat) (c : MbCmd) (masks life : List Nat) => s.shep.cmd = some c ∧ c.op = op ∧ s.shep.up = true ∧ s.shep.restart = none ∧
      s.shep.load = none ∧ c.fits masks = true ∧ life.contains s.shep.life = true
  (∀ (s : State) (samples : List Nat) (flash : Option (List Byte)) (broken lockstep : Bool), s.power.held = true → samples.length = 5 → s.rfld .pwStat 0 0 63 55 = 0x1FF →
    ∃ t, exec (.mrstNRelease samples flash broken lockstep) s = .next t ∧ t.power.held = false ∧ t.ownModule = majority samples % 8 ∧ t.rget .pwAotime = 0 ∧
      t.shep.bootseq = (if s.shep.bootseq = 2 ^ 64 - 1 then s.shep.bootseq else s.shep.bootseq + 1) ∧ t.rget .shBootseq = BitVec.ofNat 64 t.shep.bootseq) ∧
  (∀ (s : State) (samples : List Nat) (flash : Option (List Byte)) (broken lockstep : Bool), s.power.held = true → samples.length = 5 → s.rfld .pwStat 0 0 63 55 ≠ 0x1FF →
    ∃ t, exec (.mrstNRelease samples flash broken lockstep) s = .next t ∧ t.power.held = false ∧ t.ownModule = majority samples % 8 ∧
      t.power.bootWait = some (bit (majority samples) 7, lockstep, flash) ∧ t.shep.bootseq = s.shep.bootseq) ∧
  (∀ (s : State), s.power.held = false → ∃ t, exec .mrstNAssert s = .next t ∧ t.power.held = true ∧ t.shep = s.shep.mram ∧ t.keys = s.keys ∧ t.mem = [] ∧ t.cores = [] ∧
    t.regs = readings s.regs ∧ t.pending = s.pending) ∧
  (∀ (s : State) (c : MbCmd) (flash : Option (List Byte)) (type mask src dst : Nat) (b : List Byte), mask = fld (c.w 1) 31 0 → src = (c.w 2).toNat → dst = (c.w 3).toNat →
    fld (c.w 1) 63 56 = type → (s.shep.sealed = true → type ≠ 4 ∧ type ≠ 7 ∧ src ≠ 0) → (s.shep.sealed = false → s.shep.entries.length < 200) →
    s.loadImage type src flash = .ok b → ∀ (u : State) (place : Word) (l : Loading), place = s.shep.placeWord →
    u = s.recordEvent type (imageVersion b) (if type = 7 then dst / 4096 else mask) (imageBody b) (imageLabel b) (imageDigest b) →
    l = { type := type, mask := mask, version := imageVersion b % 65536, seq := fld place 15 0, addseq := fld place 47 32, lost := false } →
    (type = 4 → served s 0x20 c [0xFF00000000000000, wordMask, 0] lifeFull → s.shep.trained = false →
      exec (.loadMemtrain flash) s = .next { u with shep := { u.shep with load := some l, trained := true } }) ∧
    (type = 5 → served s 0x20 c [0xFF000000FFFFFFFF, wordMask, 0] lifeFull → s.loadFree 5 mask 0 0 = true → mask ≠ 0 → ∃ t, exec (.loadDroverFw flash) s = .next t ∧
      t.shep.load = some l ∧ t.shep.entries = u.shep.entries ∧ t.mem = s.mem ∧ ∀ d, d < 32 → mask.testBit d = true → t.rfld .chDrovstat d 0 63 61 = 1) ∧
    (type = 6 → served s 0x20 c [0xFF00000000000FFF, wordMask, 0] lifeFull → s.loadFree 6 mask 0 0 = true → mask ≠ 0 → ∃ t, exec (.loadCzUcode flash) s = .next t ∧
      t.shep.load = some l ∧ t.shep.entries = u.shep.entries ∧ t.mem = s.mem ∧ ∀ k, k < 12 → mask.testBit k = true → t.czState k = 4) ∧
    (type = 7 → served s 0x20 c [0xFF00000000000000, wordMask, wordMask] lifeFull → s.loadFree 7 0 dst b.length = true →
      exec (.loadMloader flash) s = .next ((u.cohWrite dst b).mbReply c 0 [place]))) ∧
  (∀ (s : State) (l : Loading), s.shep.load = some l → s.shep.restart = none →
    (∀ groups speed chcap dpc, l.type = 4 → groups ≤ 2 → speed ≤ 6 → 0 < chcap → chcap ≤ 32 → ∃ t, exec (.memtrainComplete (.ok groups speed chcap dpc)) s = .next t ∧
      t.rget .mcCfg = BitVec.ofNat 64 (2 ^ 63 + groups * 2 ^ 56 + speed * 2 ^ 52 + bnat dpc * 2 ^ 51 + chcap * 2 ^ 40 + min (4 * 2 ^ groups * chcap * 32) 0x3FFF) ∧
      (∀ ch, ch < 5 * 2 ^ groups → t.chState ch = 1) ∧ t.shep.load = none) ∧
    (l.type = 4 → exec (.memtrainComplete .population) s = .next ((((s.bootStop 1).raise 1).halt 0 4).loadEnds l 0x010D) ∧
      exec (.memtrainComplete .failed) s = .next ((((s.bootStop 2).raise 1).halt 0 4).loadEnds l 0x010D)) ∧
    (∀ d, d < 32 → l.type = 5 → l.mask.testBit d = true → s.rfld .chDrovstat d 0 63 61 = 1 → ∃ t, exec (.firmwareLoadComplete d) s = .next t ∧
      t.rfld .chDrovstat d 0 63 61 = 0 ∧ t.rfld .chDrovstat d 0 47 32 = l.version % 65536 ∧ t.rbit .evStat 50 0 63 = true ∧
      t.shep.load = (if l.mask ^^^ 2 ^ d = 0 then none else some { l with mask := l.mask ^^^ 2 ^ d })) ∧
    (∀ k, k < 12 → l.type = 6 → l.mask.testBit k = true → s.czState k = 4 → ∃ t, exec (.firmwareLoadComplete k) s = .next t ∧
      t.czState k = (if s.rbit .czCtl k 0 0 then 2 else 0) ∧ t.rfld .czStat k 0 15 0 = l.version % 65536 ∧ t.rbit .evStat (1459 + 4 * k) 0 63 = true ∧
      t.shep.load = (if l.mask ^^^ 2 ^ k = 0 then none else some { l with mask := l.mask ^^^ 2 ^ k }))) ∧
  (∀ (s : State) (c : MbCmd),
    (∀ b, served s 0x30 c [wordMask] [1, 2] → s.memImage (c.w 1).toNat 2 = some b → imageOk 2 b = true → b.length ≤ 768 * 1024 → s.shep.minsvn ≤ imageSvn b →
      ∃ t, exec .shepUpdate s = .next t ∧ t.shep.restart = some .update ∧ t.shep.active = !s.shep.active ∧ t.shep.bank = b ∧ t.shep.cmd = some c ∧ t.mem = s.mem) ∧
    (served s 0x31 c [] [1, 2] → ∃ (t u : State), exec .shepCommit s = .next t ∧ t = u.mbReply c 0 [BitVec.ofNat 64 (u.shep.minsvn % 65536)] ∧
      u.shep = { s.shep with minsvn := max s.shep.minsvn (imageSvn s.shep.bank) } ∧ u.mem = s.mem)) ∧
  (∀ (s u : State), s.power.held = false → s.shep.up = true → u.shep = { s.shep with restart := some (s.shep.restart.getD .mismatch) } →
    u.tense = { s.tense with transfer := none, offering := false } → u.regs = (s.rmod .shHealth 0 0 fun v => setFld (setFlag v 61 true) 31 0 (fld v 31 0 + 1)).regs →
    { u with shep := s.shep, tense := s.tense, regs := s.regs } = s → exec .shepherdLockstepMismatch s = .next (u.strike 15 0)) ∧
  (∀ (s : State) (r : Restart), s.shep.restart = some r → ∃ t, exec (.shepherdRestartComplete true) s = .next t ∧ t.shep.restart = none ∧ t.shep.active = s.shep.active ∧
    t.rbit .shFwstat 0 0 62 = false) ∧
  (∀ (s : State) (src : Nat), s.power.held = false → src < 2 →
    exec (.noiseSourceFailure src) s = .next (({ s with shep := { s.shep with noise := s.shep.noise ||| 2 ^ src } }.trngSync).strike 16 src)) ∧
  (∀ (s : State), 2 ^ 20 ≤ s.drbg → exec .drbgReseed s = .next (if s.drbgRefuses then s.rput .shHealth 0 0 63 62 3 else { s with drbg := 0 })) ∧
  (∀ (s : State) (d : Nat), d < 32 → exec (.droverLockstepMismatch d) s = .next (s.strike 11 d)) ∧
  ∀ (s : State) (sensor : Nat), sensor < 4 →
    (s.power.held = false → s.shep.tripped.testBit sensor = false → ∃ t, exec (.tamperTrip sensor) s = .next t ∧ (sensor = 3 → exec (.meshCheck true) s = .next t) ∧
      t.shep.tripped = s.shep.tripped ||| 2 ^ sensor ∧ t.shep.latch = true ∧ t.shep.trips = min (s.shep.trips + 1) (2 ^ 32 - 1) ∧ t.rbit .shTamper 0 0 sensor = true ∧ wiped t) ∧
    (s.shep.tripped.testBit sensor = true → ∃ t, exec (.tamperSensorClear sensor) s = .next t ∧ (sensor = 3 → exec (.meshCheck false) s = .next t) ∧
      t = { s with shep := { s.shep with tripped := s.shep.tripped ^^^ 2 ^ sensor } })

/-- A mailbox command that the firmware serves, with its reserved fields 0 and in a life-cycle state that allows it, has its
effect and its reply (STATUS, data, BUSY 0, COUNT one more, source 0): GET_INFO draws a nonce (a free value, log entry 11),
GET_RECORD and GET_CERTS copy what they name, KEY_WRITE, KEY_ERASE, KEY_DESCRIBE and KEY_ERASE_OWNER work key slots, EXTEND
journals, SEAL closes the boot part, OWN, RETURN and VOID change the state, wiping keys. Entries join the boot part in order;
the seal appends its entry over the chain and queues the first piece; an addendum appends its events, its own entry and a
piece. In RAW, PROVISION makes the identity keys, CERTIFY stores the chains and enters PROVISIONED, VOID voids, each with the
factory signature; in VOID, GET_INFO and GET_RECORD answer as messages. A piece not accepted is offered again. (R484, R485,
R590, R591, R592, R593, R605, R608, R610, R612, R613, R620.) -/
def Obligations.MailboxAndRecord : Prop :=
  let served := fun (s : State) (op : Nat) (c : MbCmd) (masks life : List Nat) => s.shep.cmd = some c ∧ c.op = op ∧ s.shep.up = true ∧ s.shep.restart = none ∧
      s.shep.load = none ∧ c.fits masks = true ∧ life.contains s.shep.life = true
  (∀ (s : State) (c : MbCmd) (status : Nat) (data : List Word), status < 65536 → let t := s.mbReply c status data
    t.shep.cmd = none ∧ t.rbit .shMbstat 0 0 63 = false ∧ t.rfld .shMbstat 0 0 47 32 = status ∧ t.rfld .shMbstat 0 0 31 0 = (s.rfld .shMbstat 0 0 31 0 + 1) % 2 ^ 32 ∧
      t.rbit .evStat 0 0 63 = true ∧ t.mem = (s.cohWrite (c.addr + 0x80) (wordsBytes (BitVec.ofNat 64 (status * 2 ^ 48) :: data))).mem) ∧
  (∀ (s : State) (n : Nat) (k : KeySlot), (s.setKey n k).keySlot n = k ∧ ∀ m, m ≠ n → (s.setKey n k).keySlot m = s.keySlot m) ∧
  (∀ (s : State) (type version target length : Nat) (label digest : List Byte), s.shep.header ≠ [] → s.shep.sealed = false →
    (s.recordEvent type version target length label digest).shep = { s.shep with
      entries := s.shep.entries ++ [recEntry type s.shep.entries.length version target length s.now 0 label digest] }) ∧
  (∀ (s : State), let e := recEntry 0x10 s.shep.entries.length 0 s.shep.entries.length 0 s.now 0 [] (recordChain s.shep.header s.shep.entries)
    s.sealRecord.shep.sealed = true ∧ s.sealRecord.shep.entries = s.shep.entries ++ [e] ∧ s.sealRecord.mem = s.mem ∧
      ∃ d, s.sealRecord.shep.copy = [d] ∧ s.sealRecord.shep.pieces = s.shep.pieces ++ [{ off := 0, data := d, bootseq := s.shep.bootseq }]) ∧
  (∀ (s : State) (l : Nat) (d : List Byte), (s.transition l d).shep.life = l ∧ (s.transition l d).shep.keepSram = [] ∧ (s.transition l d).rbit .evStat 3 0 63 = true ∧
    ∀ n, n < 4096 → ((s.transition l d).keySlot n).state = 0 ∧ ((s.transition l d).keySlot n).key = 0) ∧
  (∀ (s : State) (c : MbCmd),
    (∀ nonce, served s 0x01 c [] lifeFull → s.drbgRefuses = false → nonce = toBytes 32 (Config.freeNat s.freeCtr % 2 ^ 256) →
      exec (.getInfo .mailbox) s = .next (({ s.drawn.drbgUse with shep := { s.shep with nonce := some nonce } }).mbReply c 0
        ([s.rget .shLife, s.rget .shBootseq, BitVec.ofNat 64 Config.serial] ++ bytesWords 4 nonce))) ∧
    (∀ d, served s 0x02 c [wordMask, wordMask] lifeFull → d = s.shep.copyBytes → d.length ≤ (c.w 2).toNat → s.ownMem (c.w 1).toNat (max (c.w 2).toNat 1) = true →
      exec (.getRecord .mailbox) s = .next ((s.cohWrite (c.w 1).toNat d).mbReply c 0 [BitVec.ofNat 64 d.length, BitVec.ofNat 64 d.length])) ∧
    (∀ x y, served s 0x03 c [wordMask, wordMask] lifeFull → s.shep.chains = some (x, y) → x.length + y.length ≤ (c.w 2).toNat →
      s.ownMem (c.w 1).toNat (max (c.w 2).toNat 1) = true →
      exec .getCerts s = .next ((s.cohWrite (c.w 1).toNat (x ++ y)).mbReply c 0 [BitVec.ofNat 64 x.length, BitVec.ofNat 64 y.length])) ∧
    (∀ slot ktype use pair bs u v w, served s 0x10 c [wordMask, 0xC000000000000FFF, wordMask] [2] → slot = fld (c.w 1) 63 52 → ktype = fld (c.w 1) 51 49 →
      use = fld (c.w 1) 48 43 → pair = decide (ktype = 4) → fld (c.w 2) 63 62 ≠ 3 → c.wiped = false → s.shep.tripped = 0 → keyUseOk ktype use = true → ktype ≠ 0 → ktype ≠ 7 →
      (pair = true → slot % 2 = 0) → (∀ n, n = slot ∨ pair = true ∧ n = slot + 1 → (s.keySlot n).gen ≠ 2 ^ 32 - 1) →
      s.keyMaterial (fld (c.w 2) 63 62) (fld (c.w 2) 11 0) (c.w 3).toNat (if pair then 64 else 32) = (u, .ok bs) →
      (if pair then bs.take 32 ≠ bs.drop 32 else ktype = 3 → bs.take 16 ≠ bs.drop 16) →
      v = u.setKey slot ((u.keySlot slot).written (ofBytes (bs.take 32)) ktype use (fld (c.w 1) 42 32) (fld (c.w 1) 31 0)) →
      w = (if pair then v.setKey (slot + 1) ((v.keySlot (slot + 1)).written (ofBytes (bs.drop 32)) 5 use (fld (c.w 1) 42 32) (fld (c.w 1) 31 0)) else v) →
      exec .keyWrite s = .next (w.mbReply c 0 [BitVec.ofNat 64 (w.keySlot slot).gen])) ∧
    (∀ slot u, served s 0x11 c [0xFFF0000000000000] [2] → slot = fld (c.w 1) 63 52 → c.wiped = false → u = (s.slotsWith slot).foldl State.eraseSlot s →
      exec .keyErase s = .next (u.mbReply c 0 [BitVec.ofNat 64 (u.keySlot slot).gen])) ∧
    (∀ k, served s 0x12 c [0xFFF0000000000000] lifeFull → k = s.keySlot (fld (c.w 1) 63 52) → exec .keyDescribe s = .next (s.mbReply c 0
      [BitVec.ofNat 64 (k.state * 2 ^ 62 + k.ktype * 2 ^ 59 + k.use * 2 ^ 53 + k.owner * 2 ^ 42 + k.gen), BitVec.ofNat 64 k.fixed, BitVec.ofNat 64 k.invoc])) ∧
    (∀ mine, served s 0x13 c [0x7FF] [2] → mine = (s.keys.filter fun x => x.2.state != 0 && x.2.owner == fld (c.w 1) 10 0).map (fun x => x.1) →
      exec .keyEraseOwner s = .next ((mine.foldl State.eraseSlot s).mbReply c 0 [BitVec.ofNat 64 mine.length])) ∧
    (served s 0x21 c (List.replicate 10 wordMask) lifeFull → (s.shep.sealed = false → s.shep.entries.length < 200) → exec .extend s =
      .next ((s.recordEvent 0x08 0 0 0 (wordsBytes ((c.words.drop 1).take 4)) (wordsBytes ((c.words.drop 5).take 6))).mbReply c 0 [s.shep.placeWord])) ∧
    (∀ a len u v, served s 0x22 c [wordMask - 255, wordMask] lifeFull → a = (c.w 1).toNat → len = (c.w 2).toNat → s.shep.sealed = false →
      128 * (s.shep.entries.length + 2) + 4736 ≤ len → s.ownMem a len = true → u = ({ s with shep := { s.shep with recMem := some (a, len, 0) } }).sealRecord →
      v = (u.recordMemory u.shep.copy.flatten).raise 1 → exec .seal s = .next (v.mbReply c 0 [BitVec.ofNat 64 v.shep.entries.length])) ∧
    (∀ h, served s 0x41 c [wordMask] [1] → s.ownMem (c.w 1).toNat 97 = true → h = sha384 (s.cohBytes (c.w 1).toNat 97) →
      exec .own s = .next (((s.modShep fun x => { x with ownerHash := some h }).transition 2 h).mbReply c 0 [])) ∧
    (served s 0x42 c (List.replicate 13 wordMask) [2] → s.ownMem (c.w 1).toNat 97 = true → s.ownerSigned c = true →
      exec .returnOwned s = .next (((s.modShep fun x => { x with ownerHash := none, nonce := none }).transition 3 []).mbReply c 0 [])) ∧
    (served s 0x43 c (if s.shep.life = 2 then List.replicate 13 wordMask else []) lifeFull → (s.shep.life = 2 → s.ownMem (c.w 1).toNat 97 = true ∧ s.ownerSigned c = true) →
      exec (.void .mailbox) s = .next (s.toVoid.mbReply c 0 []))) ∧
  (∀ (s : State), s.toVoid.shep.life = 4 ∧ s.toVoid.shep.idKeys = none ∧ s.toVoid.shep.chains = none) ∧
  (∀ (s : State) (words : List Word) (sig ecdsa mldsa : List Byte),
    (s.message 4 = true → exec (.getInfo (.message words sig)) s =
      .next (s.tell (.words 0x01 0 [s.rget .shLife, s.rget .shBootseq, BitVec.ofNat 64 Config.serial, 0, 0, 0, 0] [])) ∧
      ∀ part, part = (s.shep.copyBytes.drop (lget 0 words 0).toNat).take 1024 → exec (.getRecord (.message words sig)) s =
        .next (s.tell (.words 0x02 0 [BitVec.ofNat 64 part.length, BitVec.ofNat 64 s.shep.copyBytes.length] part))) ∧
    (s.message 0 = true →
      (Config.factorySigned (words.map BitVec.toNat) [] sig = true → exec (.void (.message words sig)) s = .next (s.toVoid.tell (.words 0x43 0 [] []))) ∧
      (Config.factorySigned [] [] sig = true → s.drbgRefuses = false → ∃ t k l, exec (.provision sig) s = .next t ∧ t.shep.idKeys = some (k, l) ∧ t.shep.chains = none ∧
        t.shep.trips = 0 ∧ t.shep.reply = some (.words 0 0 [] (Config.ecdsaPublic k ++ Config.mldsaPublic l)) ∧ t.mem = s.mem) ∧
      (Config.factorySigned [] (ecdsa ++ mldsa) sig = true → s.shep.idKeys.isSome = true → ecdsa.length ≤ 16384 → mldsa.length ≤ 16384 →
        ∃ t, exec (.certify sig ecdsa mldsa) s = .next t ∧ t.shep.life = 1 ∧ t.shep.chains = some (ecdsa, mldsa) ∧ t.shep.reply = some (.words 0 0 [] [])))) ∧
  ∀ (s : State),
    (s.shep.started = true → s.shep.sealed = false → s.shep.up = true → exec .autoSeal s = .next (s.sealRecord.raise 1)) ∧
    (∀ g rest, s.shep.journal = g :: rest → s.shep.restart = none → s.shep.up = true → ∃ (t : State) (e : List Word), exec .addendumSigned s = .next t ∧
      t.shep.entries = s.shep.entries ++ g ++ [e] ∧ entryType e = 0x11 ∧ t.shep.journal = rest ∧ t.shep.addseq = s.shep.addseq + 1 ∧
      t.shep.pieces.length = s.shep.pieces.length + 1 ∧ t.rbit .evStat 1 0 63 = true) ∧
    (s.shep.pieces ≠ [] → s.power.held = false → s.shep.restart = none → exec .recordReoffer s = .next { s with tense := { s.tense with offering := true } })

/-- Out of reset, with its firmware running, in PROVISIONED, OWNED or RETURNED and no restart under way, each SPDM 1.2 request
is answered as R616 and R617 say: version (also in VOID), capabilities, algorithms, the digest and the certificate chain of
slot 0 from an offset, a challenge, the measurements of an index (nonces are free values, log entry 11; signatures of the
standards' algorithms, log entry 13), and UnsupportedRequest for every other. During a restart the answer is ResponseNotReady
and the answer due is deferred, which RESPOND_IF_READY then gives. The four MCTP control commands are answered by the
endpoint. (R589, R615, R616, R617, R618.) -/
def Obligations.SpdmAndMctpAnswers : Prop :=
  ∀ (s : State), s.power.held = false → s.shep.up = true →
    (s.shep.life ≠ 0 → s.shep.life ≠ 4 → ∀ key, key = (s.shep.idKeys.map fun k => k.1).getD 0 →
      (s.shep.restart ≠ none → ∀ r, s.spdm (fun s => (s, r)) = { s with shep := { s.shep with reply := some .notReady, deferred := some r } }) ∧
      (s.shep.restart = none →
        exec .getVersion s = .next (s.tell .version) ∧ exec .getCapabilities s = .next (s.tell .capabilities) ∧ exec .negotiateAlgorithms s = .next (s.tell .algorithms) ∧
        exec .getDigests s = .next (s.tell (.digests (sha384 s.slotChain))) ∧ exec .spdmUnsupportedRequest s = .next (s.tell .unsupported) ∧
        (∀ off len, off < s.slotChain.length → exec (.getCertificate 0 off len) s =
          .next (s.tell (.certificate ((s.slotChain.drop off).take len) (s.slotChain.length - off - min len (s.slotChain.length - off))))) ∧
        (∀ slot off len, slot ≠ 0 ∨ s.slotChain.length ≤ off → exec (.getCertificate slot off len) s = .next (s.tell .invalid)) ∧
        exec (.challenge 0) s = .next (s.drawn.tell (.challengeAuth (sha384 s.slotChain) (toBytes 32 (Config.freeNat s.freeCtr))
          (Config.ecdsaSign key (Config.spdmTranscript s.freeCtr)))) ∧
        (∀ slot, slot ≠ 0 → exec (.challenge slot) s = .next (s.tell .invalid)) ∧
        (∀ signed sig, sig = (if signed then Config.ecdsaSign key (Config.spdmTranscript s.freeCtr) else []) →
          (∀ i, 1 ≤ i → i ≤ 200 → i ≤ s.shep.bootPart.length → exec (.getMeasurements i signed) s =
            .next (s.drawn.tell (.measurements [(i, entryDigest (lget [] s.shep.bootPart (i - 1)))] (toBytes 32 (Config.freeNat s.freeCtr)) sig))) ∧
          exec (.getMeasurements 0xEF signed) s =
            .next (s.drawn.tell (.measurements [(0xEF, recordChain s.shep.header s.shep.entries)] (toBytes 32 (Config.freeNat s.freeCtr)) sig)) ∧
          exec (.getMeasurements 0xFF signed) s = .next (s.drawn.tell (.measurements ((List.range (min s.shep.bootPart.length 200)).map fun i =>
            (i + 1, entryDigest (lget [] s.shep.bootPart i))) (toBytes 32 (Config.freeNat s.freeCtr)) sig)) ∧
          exec (.getMeasurements 0 signed) s = .next (s.tell .invalid)) ∧
        (∀ r, s.shep.deferred = some r → exec .respondIfReady s = .next { s with shep := { s.shep with reply := some r, deferred := none } }) ∧
        (s.shep.deferred = none → exec .respondIfReady s = .next (s.tell .invalid)))) ∧
    (s.shep.life = 4 → s.shep.restart = none → exec .getVersion s = .next (s.tell .version)) ∧
    (∀ n, exec (.setEndpointId n) s = .next { s with shep := { s.shep with eid := n % 256, reply := some (.eid (n % 256)) } }) ∧
    exec .getEndpointId s = .next (s.tell (.eid s.shep.eid)) ∧ exec .getMctpVersionSupport s = .next (s.tell .mctpVersion) ∧
    exec .getMessageTypeSupport s = .next (s.tell .mctpTypes)

/-- A strike below WARN adds one to the counter's level and total. A tick of a counter adds THRESH to its accumulator, which
at WINDOW drops by it and takes one from the level (clearing the warning at 0); a row's counter likewise, freed at 0. Where
the store is accepted, a 1 in LAME of a lame component that may be cleared clears it, and sets REJ for one that may not;
FT_CTEST starts the test of a core without a role, whose end gives the result and lets it be cleared, or strikes it and
declares it lame; FT_MCTARGET takes its fields; a 1 in VLD clears FT_MCLOG and FT_MCADDR. A waiting machine check reaches the
RUNNING core that FT_MCTARGET names. An instruction shifted into the test access port is selected; one that drives pins only
while MRST_N is asserted, else BYPASS. (R630, R631, R632, R633, R634, R640, R643, R646, R647, R650, R651.) -/
def Obligations.FaultsTestsAndTheTestPort : Prop :=
  (∀ (s : State) (c i : Nat), c < 17 → s.rfld .ftCnt c i 31 0 + 1 < s.warnAt c → s.rfld .ftCnt c i 31 0 + 1 < s.thresh c → let t := s.strike c i
    t.rfld .ftCnt c i 31 0 = s.rfld .ftCnt c i 31 0 + 1 ∧ t.rfld .ftCnt c i 61 32 = min (s.rfld .ftCnt c i 61 32 + 1) (2 ^ 30 - 1) ∧
      t.rbit .ftCnt c i 63 = s.rbit .ftCnt c i 63 ∧ { t with regs := s.regs } = s) ∧
  (∀ (s : State) (c i acc : Nat), c ≠ 7 → i < classCount c → acc = tget 0 s.strikeAcc (65536 * c + i) + s.thresh c → ∃ t, exec (.strikeDrainTick c i) s = .next t ∧ t.mem = s.mem ∧
    (acc < s.windowTicks c → tget 0 t.strikeAcc (65536 * c + i) = acc ∧ t.regs = s.regs) ∧
    (s.windowTicks c ≤ acc → tget 0 t.strikeAcc (65536 * c + i) = acc - s.windowTicks c ∧ t.rfld .ftCnt c i 31 0 = s.rfld .ftCnt c i 31 0 - 1 ∧
      t.rbit .ftCnt c i 62 = (s.rbit .ftCnt c i 62 && decide (1 < s.rfld .ftCnt c i 31 0)) ∧ t.rbit .ftCnt c i 63 = s.rbit .ftCnt c i 63)) ∧
  (∀ (s : State) (ch row k acc : Nat), row < 2 ^ 32 → (∃ x ∈ s.memctl.rows, x.channel = ch ∧ x.row = row) → k = 2 ^ 40 + ch * 2 ^ 32 + row → acc = tget 0 s.strikeAcc k + s.thresh 7 →
    (acc < s.windowTicks 7 → exec (.strikeDrainTick 7 (ch * 2 ^ 32 + row)) s = .next { s with strikeAcc := tput 0 s.strikeAcc k acc }) ∧
    (s.windowTicks 7 ≤ acc → ∃ t, exec (.strikeDrainTick 7 (ch * 2 ^ 32 + row)) s = .next t ∧ t.mem = s.mem ∧ t.regs = s.regs ∧
      t.memctl.rows = (s.memctl.rows.map fun x => if x.channel = ch ∧ x.row = row then { x with level := x.level - 1, warned := x.warned && decide (1 < x.level) } else x).filter fun x => x.level != 0 || x.lame)) ∧
  (∀ (s : State) (a : Agent) (c i : Nat) (v : Word), s.accepts a .ftCnt c i v → flag v 63 = true → s.rbit .ftCnt c i 63 = true →
    ((c = 0 → s.roleOf i = none ∧ (s.core i).tested = true) → c ≠ 1 → c ≠ 6 → c ≠ 7 → c ≠ 8 → c ≠ 14 → c ≠ 15 →
      exec (.ftCntClear a c i v) s = .next ((s.cleared c i).rput .ftStat 0 0 62 62 0)) ∧
    (c = 1 ∨ c = 6 ∨ c = 7 ∨ c = 8 ∨ c = 14 ∨ c = 15 → exec (.ftCntClear a c i v) s = .next (s.rput .ftStat 0 0 62 62 1))) ∧
  (∀ (s : State) (c i : Nat), (s.clearLame c i).rbit .ftCnt c i 63 = false ∧ (c ∉ [2, 3, 4, 11, 12, 13, 16] → s.cleared c i = s.clearLame c i)) ∧
  (∀ (s : State) (a : Agent) (v : Word),
    (s.accepts a .ftCtest 0 0 v → s.rbit .ftCtstat 0 0 63 = false → s.roleOf (fld v 7 0) = none → s.foldRuns (foldOf (fld v 7 0)) = true →
      exec (.ftCtest a v) s = .next (s.rset .ftCtstat 0 0 (BitVec.ofNat 64 (2 ^ 63 + fld v 7 0)))) ∧
    Stores (.ftMctargetWrite a v) s a .ftMctarget 0 0 v (s.rset .ftMctarget 0 0 (BitVec.ofNat 64 (writeFields Reg.ftMctarget.fields (s.rget .ftMctarget).toNat v.toNat))) ∧
    (flag v 63 = true → Stores (.ftMclogClear a v) s a .ftMclog 0 0 v ((s.rset .ftMclog 0 0 0).rset .ftMcaddr 0 0 0))) ∧
  (∀ (s u : State) (n : Nat), s.rbit .ftCtstat 0 0 63 = true → n = s.rfld .ftCtstat 0 0 7 0 →
    (∃ t, exec (.coreSelftestComplete true) s = .next t ∧ (t.core n).tested = true ∧ t.rbit .ftCtstat 0 0 63 = false ∧ t.rfld .ftCtstat 0 0 62 60 = 1 ∧ t.mem = s.mem) ∧
    (u = (s.rmod .ftCtstat 0 0 fun v => setFld (setFlag v 63 false) 62 60 2) → exec (.coreSelftestComplete false) s = .next ((u.strike 0 n).declare 0 n))) ∧
  (∀ (s : State) (m : MCheck) (n : Nat), s.asyncMc = some m → s.rbit .ftMctarget 0 0 63 = true → s.lstate (s.logical (s.rfld .ftMctarget 0 0 7 0)) = 0 →
    (s.coresOf (s.logical (s.rfld .ftMctarget 0 0 7 0))).head? = some n → ∃ t, exec .asyncMachineCheck s = .next t ∧ t.asyncMc = none ∧
      (t.core n).smchecks = (s.core n).smchecks ++ [m] ∧ t.rbit .ftStat 0 0 63 = false ∧ t.mem = s.mem) ∧
  ∀ (s : State), let tap := fun (n : Nat) => (Host.Outcome.next { s with power := { s.power with tap := n } } : Out)
    exec .samplePreload s = tap 0x01 ∧ exec .idcode s = tap 0x02 ∧ exec .bypass s = tap 0xFF ∧
      ∀ c n, (c = Instr.extest ∧ n = 0 ∨ c = Instr.clamp ∧ n = 3 ∨ c = Instr.highz ∧ n = 4 ∨ c = Instr.extestPulse ∧ n = 5 ∨ c = Instr.extestTrain ∧ n = 6) →
        exec c s = tap (if s.power.held then n else 0xFF)

/-- Rails that leave and return are shown, and logged out of reset; a boot that waits for the last of them goes on. A
temperature sample is kept, shows WARN and CRIT, caps at 400 MHz every block a sensor of 105 degrees caps, and trips at 115; a
cap steps down 200 MHz while hot and up 100 while cool. Where the store is accepted, PW_FOLD and PW_FLOCK take FREQ and SLEEP,
and SLEEP 0 begins a wake; a PLL step gives CUR the lower of FREQ and cap; an idle block falls asleep, and wakes with PW_WAKE.
The tense becomes the one due; a record piece is sent, accepted, or kept after a timeout. A UART byte joins its queue and
leaves it, in order, or sets its overflow; trace records join and leave theirs, losses reported; a SYNC edge in SERVICE takes
the time. (R658, R662, R663, R665, R666, R668, R669, R670, R674, R676, R678, R679.) -/
def Obligations.PowerClocksAndTheTensePort : Prop :=
  (∀ (s : State) (a : Agent) (i : Nat) (v : Word), i < 9 →
    (∀ high, s.power.bootWait = none → exec (.railExcursion i false high) s = .next (s.rput .pwStat 0 0 (55 + i) (55 + i) 1)) ∧
    (∀ high recov lockstep flash, s.power.bootWait = some (recov, lockstep, flash) → (s.rput .pwStat 0 0 (55 + i) (55 + i) 1).railsIn = true →
      let u := s.rput .pwStat 0 0 (55 + i) (55 + i) 1
      exec (.railExcursion i false high) s = .next ({ u with power := { u.power with bootWait := none } }.boot recov lockstep flash)) ∧
    (∀ high, s.rbit .pwStat 0 0 (55 + i) = true → ∃ t, exec (.railExcursion i true high) s = .next t ∧ t.rbit .pwStat 0 0 (55 + i) = false ∧ t.mem = s.mem ∧
      (s.power.held = false → t.rbit .evStat 17 0 63 = true ∧ (s.rbit .pwRaillog 0 0 63 = false →
        t.rget .pwRaillog = BitVec.ofNat 64 (2 ^ 63 + (i * 2 ^ 58 + bnat high * 2 ^ 57 + s.now % 2 ^ 32) % 2 ^ 62)))) ∧
    (flag v 63 = true → Stores (.pwRaillogClear a v) s a .pwRaillog 0 0 v (s.rset .pwRaillog 0 0 0))) ∧
  (∀ (s : State) (temps : List Nat), temps.length = 44 → s.power.held = false → let deg := fun (n : Nat) => (BitVec.ofNat 16 (lget 0 temps n)).toInt
    ∃ t, exec (.temperatureSample temps) s = .next t ∧ t.mem = s.mem ∧ (∀ n, n < 44 → t.temp n = deg n) ∧
      (t.rbit .pwTherm 0 0 62 = true ↔ ∃ n, n < 44 ∧ 420 ≤ deg n) ∧ (t.rbit .pwTherm 0 0 63 = true ↔ ∃ n, n < 44 ∧ 4 * (s.rfld .pwTherm 0 0 7 0 : Int) ≤ deg n) ∧
      ((∃ n, n < 44 ∧ 460 ≤ deg n) → t.power.trip = true) ∧ ∀ b, b < 36 → (∃ n ∈ capSensors b, 420 ≤ deg n) → t.blkCap b = 4) ∧
  (∀ (s : State) (b : Nat), b < 36 → let throt : Int := 4 * (s.rfld .pwTherm 0 0 15 8)
    ((∃ n ∈ capSensors b, throt ≤ s.temp n) → ∃ t, exec (.thermalCapStep b) s = .next t ∧ t.blkCap b = max 4 (s.blkCap b - 2) ∧ t.mem = s.mem) ∧
    ((∀ n ∈ capSensors b, s.temp n < throt - 12) → s.blkCap b < s.blk b 12 8 → ∃ t, exec (.thermalCapStep b) s = .next t ∧ t.blkCap b = s.blkCap b + 1 ∧ t.mem = s.mem) ∧
    (s.blk b 63 61 = 0 → ∃ t, exec (.pllStepComplete b) s = .next t ∧ t.blk b 52 48 = min (s.blkFreq b) (s.blkCap b) % 32 ∧ t.mem = s.mem) ∧
    ((s.sleep b).blk b 63 61 = 2 ∧ (s.sleep b).blk b 52 48 = 0 ∧ { s.sleep b with regs := s.regs } = s) ∧
    (s.wake b).blk b 63 61 = 0 ∧ (s.blk b 63 61 = 3 → (s.wake b).rbit .evStat 18 0 63 = true) ∧ (s.wake b).mem = s.mem) ∧
  (∀ (s : State) (a : Agent) (f : Nat) (v : Word),
    let takes := fun (c : Instr) (b : Nat) => ∃ t, exec c s = .next t ∧ t.blk b 12 8 = fld v 12 8 ∧ t.blk b 0 0 = fld v 0 0 ∧ t.mem = s.mem ∧
      t.blk b 63 61 = if fld v 0 0 = 0 ∧ s.blk b 63 61 = 2 then 3 else s.blk b 63 61
    (f < 24 → s.accepts a .pwFold f 0 v → takes (.pwFoldWrite a f v) f) ∧ (f < 12 → s.accepts a .pwFlock f 0 v → takes (.pwFlockWrite a f v) (24 + f)) ∧
    (f < 24 → s.blk f 63 61 = 0 → s.blk f 0 0 = 1 → s.foldCalled f = false → exec (.foldSleepEntry f) s = .next (s.sleep f)) ∧
    (f < 24 → s.blk f 63 61 = 3 ∨ s.blk f 63 61 = 2 ∧ s.foldCalled f = true → exec (.foldWake f) s = .next (s.wake f)) ∧
    (f < 12 → s.blk (24 + f) 63 61 = 0 → s.blk (24 + f) 0 0 = 1 → s.flockIdle f = true → exec (.flockSleepEntry f) s = .next (s.sleep (24 + f))) ∧
    (f < 12 → s.blk (24 + f) 63 61 = 3 ∨ s.blk (24 + f) 63 61 = 2 ∧ s.flockIdle f = false → exec (.flockWake f) s = .next (s.wake (24 + f)))) ∧
  (∀ (s : State), s.tense.transfer = none → ∃ t, exec .tenseChange s = .next t ∧ t.tns = s.wantTns ∧ (s.tns ≠ s.wantTns → t.rbit .evStat 24 0 63 = true) ∧ t.mem = s.mem) ∧
  (∀ (s : State) (p : Piece) (rest : List Piece), s.shep.pieces = p :: rest →
    (s.tns = 2 → s.tense.transfer = none → s.tense.offering = true → s.shep.restart = none → exec .recordPieceSend s =
      .next { s with tense := { s.tense with transfer := some p.bytes } }) ∧
    (s.tense.transfer ≠ none → ∃ t, exec .recordPieceAccept s = .next t ∧ t.shep.pieces = rest ∧ t.tense.transfer = none ∧ t.tense.offering = !rest.isEmpty ∧ t.mem = s.mem)) ∧
  (∀ (s : State), s.tense.transfer ≠ none → ∀ (t : State), t = { s with tense := { s.tense with transfer := none, offering := false } } →
    exec .recordPauseTimeout s = .next t ∧ exec .recordAcceptTimeout s = .next t) ∧
  (∀ (s : State) (a : Agent) (byte x : Byte) (rest : List Byte),
    (s.accepts a .tnUarttx 0 0 (byte.setWidth 64) → (s.tense.uartTx.length < 256 → ∃ t, exec (.uartTransmit a byte) s = .next t ∧ t.tense.uartTx = s.tense.uartTx ++ [byte] ∧
        t.rfld .tnUart 0 0 56 48 = s.tense.uartTx.length + 1 ∧ t.mem = s.mem) ∧
      (256 ≤ s.tense.uartTx.length → exec (.uartTransmit a byte) s = .next (s.rput .tnUart 0 0 63 63 1))) ∧
    (s.tns ≠ 0 → s.tense.uartTx = x :: rest → ∃ t, exec .uartByteSent s = .next t ∧ t.tense.uartTx = rest ∧ t.mem = s.mem) ∧
    (s.tns ≠ 0 → (s.tense.uartRx.length < 256 → ∃ t, exec (.uartReceive byte) s = .next t ∧ t.tense.uartRx = s.tense.uartRx ++ [byte] ∧
        t.rfld .tnUart 0 0 40 32 = s.tense.uartRx.length + 1 ∧ t.mem = s.mem) ∧
      (256 ≤ s.tense.uartRx.length → exec (.uartReceive byte) s = .next (s.rput .tnUart 0 0 62 62 1))) ∧
    (s.power.held = false → s.ownModule < 8 → s.ctlAt a (Reg.tnUartrx.addr 0) = .reg .tnUartrx 0 0 → s.tense.uartRx = x :: rest →
      ∃ t, exec (.tnUartrxRead a) s = .next t ∧ t.tense.uartRx = rest ∧ (s.ctlRead a (s.ctlPa (Reg.tnUartrx.addr 0)) 8).2 = 2 ^ 63 + x.toNat ∧ t.mem = s.mem)) ∧
  ∀ (s : State), let n := s.rfld .tnTrace 0 0 55 48
    (s.rfld .tnTrace 0 0 63 62 = 2 → s.foldRuns (foldOf n) = true → exec .tracePcSample s =
      .next (s.traceRecord (2 * 2 ^ 60 + s.now % 2 ^ 20 * 2 ^ 40 + bits (s.core n).arch.pc 43 4))) ∧
    (s.tns = 3 → s.rfld .tnTrace 0 0 63 62 ≠ 0 → (s.tense.lost = 0 → exec .traceRecordSent s = .next { s with tense := { s.tense with trace := s.tense.trace.drop 1 } }) ∧
      (s.tense.lost ≠ 0 → ∃ t w, exec .traceRecordSent s = .next t ∧ t.tense.trace = s.tense.trace.drop 1 ++ [w] ∧ fld w 63 60 = 3 ∧ t.tense.lost = 0 ∧ t.mem = s.mem)) ∧
    (s.power.held = false → s.tns = 3 → ∃ t, exec .syncEdge s = .next t ∧ t.rget .tnSynctime = s.rget .pwAotime ∧ t.rbit .tnSyncstat 0 0 63 = true ∧
      t.rbit .evStat 25 0 63 = true ∧ t.mem = s.mem) ∧
    (s.power.held = false → s.tns ≠ 3 → exec .syncEdge s = .next (s.rmod .tnSyncstat 0 0 fun v => setFld v 31 0 (fld v 31 0 + 1)))

/-- Each operation answers a next state in which all of memory is as it was, whatever its operands, form, guard and traps:
stores wait in the held entries until a gather releases them (R174, R177), and accesses that wait are performed by commands of
their own. A load alone may write memory, and only while the cache of its core's fold drains (state 2 of FC_CTL): it then
writes back, ahead of the drain's walk, the dirty copy of the line it reads (R229); in every other state of the cache a load
too leaves memory alone. (R174, R177, R224, R229.) -/
def Obligations.OperationsLeaveMemoryAlone : Prop :=
  ∀ (i : Instr) (s : State) (x : Slot), placeOf i = some x → x.core < 216 →
    (s.fcState (foldOf x.core) ≠ 2 ∨ isLoad i = false) → ∃ t, exec i s = .next t ∧ t.mem = s.mem ∧ ∀ pa, t.byte pa = s.byte pa

/-- From every state whose memory is in its canonical form (addresses strictly rising, no byte listed that reads as an
unlisted one), whose control registers stand in the order of their offsets with none twice, and whose module ID is one of
eight, each step, whichever command is at the front of the queue or none, answers a next state of which the same holds. So
equal memories are equal data, and each register and byte has one value, in every run from such a state; the state after reset
is one (ResetState). That unwritten memory reads 0 is the model's choice (log entry 4). (R4, R11, R13, R14.) -/
def Obligations.StepKeepsTablesInOrder : Prop :=
  ∀ (s t : State), s.ok = true → step s = .next t → t.ok = true
end

