-- ==== Sys2Proof/Laws/State.lean ====
section
/-! SUPPORT. What each named update of the state leaves alone: one lemma per update and field, so that no proof unfolds a record. -/

namespace Sys2Proof.Machine

open Sys2Proof

/-! ### `State.rset` -/

@[simp] theorem State.rset_pending (s : State) (r : Reg) (i j : Nat) (v : Word) : (s.rset r i j v).pending = s.pending := rfl
@[simp] theorem State.rset_mem (s : State) (r : Reg) (i j : Nat) (v : Word) : (s.rset r i j v).mem = s.mem := rfl
@[simp] theorem State.rset_spPoison (s : State) (r : Reg) (i j : Nat) (v : Word) : (s.rset r i j v).spPoison = s.spPoison := rfl
@[simp] theorem State.rset_bankTo (s : State) (r : Reg) (i j : Nat) (v : Word) : (s.rset r i j v).bankTo = s.bankTo := rfl
@[simp] theorem State.rset_ownModule (s : State) (r : Reg) (i j : Nat) (v : Word) : (s.rset r i j v).ownModule = s.ownModule := rfl
@[simp] theorem State.rset_cores (s : State) (r : Reg) (i j : Nat) (v : Word) : (s.rset r i j v).cores = s.cores := rfl
@[simp] theorem State.rset_saved (s : State) (r : Reg) (i j : Nat) (v : Word) : (s.rset r i j v).saved = s.saved := rfl
@[simp] theorem State.rset_snapC (s : State) (r : Reg) (i j : Nat) (v : Word) : (s.rset r i j v).snapC = s.snapC := rfl
@[simp] theorem State.rset_snapP (s : State) (r : Reg) (i j : Nat) (v : Word) : (s.rset r i j v).snapP = s.snapP := rfl
@[simp] theorem State.rset_pairs (s : State) (r : Reg) (i j : Nat) (v : Word) : (s.rset r i j v).pairs = s.pairs := rfl
@[simp] theorem State.rset_seqs (s : State) (r : Reg) (i j : Nat) (v : Word) : (s.rset r i j v).seqs = s.seqs := rfl
@[simp] theorem State.rset_caches (s : State) (r : Reg) (i j : Nat) (v : Word) : (s.rset r i j v).caches = s.caches := rfl
@[simp] theorem State.rset_memctl (s : State) (r : Reg) (i j : Nat) (v : Word) : (s.rset r i j v).memctl = s.memctl := rfl
@[simp] theorem State.rset_evFirst (s : State) (r : Reg) (i j : Nat) (v : Word) : (s.rset r i j v).evFirst = s.evFirst := rfl
@[simp] theorem State.rset_evBack (s : State) (r : Reg) (i j : Nat) (v : Word) : (s.rset r i j v).evBack = s.evBack := rfl
@[simp] theorem State.rset_troughs (s : State) (r : Reg) (i j : Nat) (v : Word) : (s.rset r i j v).troughs = s.troughs := rfl
@[simp] theorem State.rset_rfield (s : State) (r : Reg) (i j : Nat) (v : Word) : (s.rset r i j v).rfield = s.rfield := rfl
@[simp] theorem State.rset_ticket (s : State) (r : Reg) (i j : Nat) (v : Word) : (s.rset r i j v).ticket = s.ticket := rfl
@[simp] theorem State.rset_hurdles (s : State) (r : Reg) (i j : Nat) (v : Word) : (s.rset r i j v).hurdles = s.hurdles := rfl
@[simp] theorem State.rset_meters (s : State) (r : Reg) (i j : Nat) (v : Word) : (s.rset r i j v).meters = s.meters := rfl
@[simp] theorem State.rset_msgs (s : State) (r : Reg) (i j : Nat) (v : Word) : (s.rset r i j v).msgs = s.msgs := rfl
@[simp] theorem State.rset_chans (s : State) (r : Reg) (i j : Nat) (v : Word) : (s.rset r i j v).chans = s.chans := rfl
@[simp] theorem State.rset_pasture (s : State) (r : Reg) (i j : Nat) (v : Word) : (s.rset r i j v).pasture = s.pasture := rfl
@[simp] theorem State.rset_ports (s : State) (r : Reg) (i j : Nat) (v : Word) : (s.rset r i j v).ports = s.ports := rfl
@[simp] theorem State.rset_shep (s : State) (r : Reg) (i j : Nat) (v : Word) : (s.rset r i j v).shep = s.shep := rfl
@[simp] theorem State.rset_tense (s : State) (r : Reg) (i j : Nat) (v : Word) : (s.rset r i j v).tense = s.tense := rfl
@[simp] theorem State.rset_power (s : State) (r : Reg) (i j : Nat) (v : Word) : (s.rset r i j v).power = s.power := rfl
@[simp] theorem State.rset_cz (s : State) (r : Reg) (i j : Nat) (v : Word) : (s.rset r i j v).cz = s.cz := rfl
@[simp] theorem State.rset_cy (s : State) (r : Reg) (i j : Nat) (v : Word) : (s.rset r i j v).cy = s.cy := rfl
@[simp] theorem State.rset_keys (s : State) (r : Reg) (i j : Nat) (v : Word) : (s.rset r i j v).keys = s.keys := rfl
@[simp] theorem State.rset_drbg (s : State) (r : Reg) (i j : Nat) (v : Word) : (s.rset r i j v).drbg = s.drbg := rfl
@[simp] theorem State.rset_far (s : State) (r : Reg) (i j : Nat) (v : Word) : (s.rset r i j v).far = s.far := rfl
@[simp] theorem State.rset_huWait (s : State) (r : Reg) (i j : Nat) (v : Word) : (s.rset r i j v).huWait = s.huWait := rfl
@[simp] theorem State.rset_thermal (s : State) (r : Reg) (i j : Nat) (v : Word) : (s.rset r i j v).thermal = s.thermal := rfl
@[simp] theorem State.rset_sealedNow (s : State) (r : Reg) (i j : Nat) (v : Word) : (s.rset r i j v).sealedNow = s.sealedNow := rfl
@[simp] theorem State.rset_tid (s : State) (r : Reg) (i j : Nat) (v : Word) : (s.rset r i j v).tid = s.tid := rfl
@[simp] theorem State.rset_strikeAcc (s : State) (r : Reg) (i j : Nat) (v : Word) : (s.rset r i j v).strikeAcc = s.strikeAcc := rfl
@[simp] theorem State.rset_asyncMc (s : State) (r : Reg) (i j : Nat) (v : Word) : (s.rset r i j v).asyncMc = s.asyncMc := rfl
@[simp] theorem State.rset_freeCtr (s : State) (r : Reg) (i j : Nat) (v : Word) : (s.rset r i j v).freeCtr = s.freeCtr := rfl

/-! ### `State.rmod` -/

@[simp] theorem State.rmod_pending (s : State) (r : Reg) (i j : Nat) (f : Word → Word) : (s.rmod r i j f).pending = s.pending := rfl
@[simp] theorem State.rmod_mem (s : State) (r : Reg) (i j : Nat) (f : Word → Word) : (s.rmod r i j f).mem = s.mem := rfl
@[simp] theorem State.rmod_spPoison (s : State) (r : Reg) (i j : Nat) (f : Word → Word) : (s.rmod r i j f).spPoison = s.spPoison := rfl
@[simp] theorem State.rmod_bankTo (s : State) (r : Reg) (i j : Nat) (f : Word → Word) : (s.rmod r i j f).bankTo = s.bankTo := rfl
@[simp] theorem State.rmod_ownModule (s : State) (r : Reg) (i j : Nat) (f : Word → Word) : (s.rmod r i j f).ownModule = s.ownModule := rfl
@[simp] theorem State.rmod_cores (s : State) (r : Reg) (i j : Nat) (f : Word → Word) : (s.rmod r i j f).cores = s.cores := rfl
@[simp] theorem State.rmod_saved (s : State) (r : Reg) (i j : Nat) (f : Word → Word) : (s.rmod r i j f).saved = s.saved := rfl
@[simp] theorem State.rmod_snapC (s : State) (r : Reg) (i j : Nat) (f : Word → Word) : (s.rmod r i j f).snapC = s.snapC := rfl
@[simp] theorem State.rmod_snapP (s : State) (r : Reg) (i j : Nat) (f : Word → Word) : (s.rmod r i j f).snapP = s.snapP := rfl
@[simp] theorem State.rmod_pairs (s : State) (r : Reg) (i j : Nat) (f : Word → Word) : (s.rmod r i j f).pairs = s.pairs := rfl
@[simp] theorem State.rmod_seqs (s : State) (r : Reg) (i j : Nat) (f : Word → Word) : (s.rmod r i j f).seqs = s.seqs := rfl
@[simp] theorem State.rmod_caches (s : State) (r : Reg) (i j : Nat) (f : Word → Word) : (s.rmod r i j f).caches = s.caches := rfl
@[simp] theorem State.rmod_memctl (s : State) (r : Reg) (i j : Nat) (f : Word → Word) : (s.rmod r i j f).memctl = s.memctl := rfl
@[simp] theorem State.rmod_evFirst (s : State) (r : Reg) (i j : Nat) (f : Word → Word) : (s.rmod r i j f).evFirst = s.evFirst := rfl
@[simp] theorem State.rmod_evBack (s : State) (r : Reg) (i j : Nat) (f : Word → Word) : (s.rmod r i j f).evBack = s.evBack := rfl
@[simp] theorem State.rmod_troughs (s : State) (r : Reg) (i j : Nat) (f : Word → Word) : (s.rmod r i j f).troughs = s.troughs := rfl
@[simp] theorem State.rmod_rfield (s : State) (r : Reg) (i j : Nat) (f : Word → Word) : (s.rmod r i j f).rfield = s.rfield := rfl
@[simp] theorem State.rmod_ticket (s : State) (r : Reg) (i j : Nat) (f : Word → Word) : (s.rmod r i j f).ticket = s.ticket := rfl
@[simp] theorem State.rmod_hurdles (s : State) (r : Reg) (i j : Nat) (f : Word → Word) : (s.rmod r i j f).hurdles = s.hurdles := rfl
@[simp] theorem State.rmod_meters (s : State) (r : Reg) (i j : Nat) (f : Word → Word) : (s.rmod r i j f).meters = s.meters := rfl
@[simp] theorem State.rmod_msgs (s : State) (r : Reg) (i j : Nat) (f : Word → Word) : (s.rmod r i j f).msgs = s.msgs := rfl
@[simp] theorem State.rmod_chans (s : State) (r : Reg) (i j : Nat) (f : Word → Word) : (s.rmod r i j f).chans = s.chans := rfl
@[simp] theorem State.rmod_pasture (s : State) (r : Reg) (i j : Nat) (f : Word → Word) : (s.rmod r i j f).pasture = s.pasture := rfl
@[simp] theorem State.rmod_ports (s : State) (r : Reg) (i j : Nat) (f : Word → Word) : (s.rmod r i j f).ports = s.ports := rfl
@[simp] theorem State.rmod_shep (s : State) (r : Reg) (i j : Nat) (f : Word → Word) : (s.rmod r i j f).shep = s.shep := rfl
@[simp] theorem State.rmod_tense (s : State) (r : Reg) (i j : Nat) (f : Word → Word) : (s.rmod r i j f).tense = s.tense := rfl
@[simp] theorem State.rmod_power (s : State) (r : Reg) (i j : Nat) (f : Word → Word) : (s.rmod r i j f).power = s.power := rfl
@[simp] theorem State.rmod_cz (s : State) (r : Reg) (i j : Nat) (f : Word → Word) : (s.rmod r i j f).cz = s.cz := rfl
@[simp] theorem State.rmod_cy (s : State) (r : Reg) (i j : Nat) (f : Word → Word) : (s.rmod r i j f).cy = s.cy := rfl
@[simp] theorem State.rmod_keys (s : State) (r : Reg) (i j : Nat) (f : Word → Word) : (s.rmod r i j f).keys = s.keys := rfl
@[simp] theorem State.rmod_drbg (s : State) (r : Reg) (i j : Nat) (f : Word → Word) : (s.rmod r i j f).drbg = s.drbg := rfl
@[simp] theorem State.rmod_far (s : State) (r : Reg) (i j : Nat) (f : Word → Word) : (s.rmod r i j f).far = s.far := rfl
@[simp] theorem State.rmod_huWait (s : State) (r : Reg) (i j : Nat) (f : Word → Word) : (s.rmod r i j f).huWait = s.huWait := rfl
@[simp] theorem State.rmod_thermal (s : State) (r : Reg) (i j : Nat) (f : Word → Word) : (s.rmod r i j f).thermal = s.thermal := rfl
@[simp] theorem State.rmod_sealedNow (s : State) (r : Reg) (i j : Nat) (f : Word → Word) : (s.rmod r i j f).sealedNow = s.sealedNow := rfl
@[simp] theorem State.rmod_tid (s : State) (r : Reg) (i j : Nat) (f : Word → Word) : (s.rmod r i j f).tid = s.tid := rfl
@[simp] theorem State.rmod_strikeAcc (s : State) (r : Reg) (i j : Nat) (f : Word → Word) : (s.rmod r i j f).strikeAcc = s.strikeAcc := rfl
@[simp] theorem State.rmod_asyncMc (s : State) (r : Reg) (i j : Nat) (f : Word → Word) : (s.rmod r i j f).asyncMc = s.asyncMc := rfl
@[simp] theorem State.rmod_freeCtr (s : State) (r : Reg) (i j : Nat) (f : Word → Word) : (s.rmod r i j f).freeCtr = s.freeCtr := rfl

/-! ### `State.rput` -/

@[simp] theorem State.rput_pending (s : State) (r : Reg) (i j hi lo v : Nat) : (s.rput r i j hi lo v).pending = s.pending := rfl
@[simp] theorem State.rput_mem (s : State) (r : Reg) (i j hi lo v : Nat) : (s.rput r i j hi lo v).mem = s.mem := rfl
@[simp] theorem State.rput_spPoison (s : State) (r : Reg) (i j hi lo v : Nat) : (s.rput r i j hi lo v).spPoison = s.spPoison := rfl
@[simp] theorem State.rput_bankTo (s : State) (r : Reg) (i j hi lo v : Nat) : (s.rput r i j hi lo v).bankTo = s.bankTo := rfl
@[simp] theorem State.rput_ownModule (s : State) (r : Reg) (i j hi lo v : Nat) : (s.rput r i j hi lo v).ownModule = s.ownModule := rfl
@[simp] theorem State.rput_cores (s : State) (r : Reg) (i j hi lo v : Nat) : (s.rput r i j hi lo v).cores = s.cores := rfl
@[simp] theorem State.rput_saved (s : State) (r : Reg) (i j hi lo v : Nat) : (s.rput r i j hi lo v).saved = s.saved := rfl
@[simp] theorem State.rput_snapC (s : State) (r : Reg) (i j hi lo v : Nat) : (s.rput r i j hi lo v).snapC = s.snapC := rfl
@[simp] theorem State.rput_snapP (s : State) (r : Reg) (i j hi lo v : Nat) : (s.rput r i j hi lo v).snapP = s.snapP := rfl
@[simp] theorem State.rput_pairs (s : State) (r : Reg) (i j hi lo v : Nat) : (s.rput r i j hi lo v).pairs = s.pairs := rfl
@[simp] theorem State.rput_seqs (s : State) (r : Reg) (i j hi lo v : Nat) : (s.rput r i j hi lo v).seqs = s.seqs := rfl
@[simp] theorem State.rput_caches (s : State) (r : Reg) (i j hi lo v : Nat) : (s.rput r i j hi lo v).caches = s.caches := rfl
@[simp] theorem State.rput_memctl (s : State) (r : Reg) (i j hi lo v : Nat) : (s.rput r i j hi lo v).memctl = s.memctl := rfl
@[simp] theorem State.rput_evFirst (s : State) (r : Reg) (i j hi lo v : Nat) : (s.rput r i j hi lo v).evFirst = s.evFirst := rfl
@[simp] theorem State.rput_evBack (s : State) (r : Reg) (i j hi lo v : Nat) : (s.rput r i j hi lo v).evBack = s.evBack := rfl
@[simp] theorem State.rput_troughs (s : State) (r : Reg) (i j hi lo v : Nat) : (s.rput r i j hi lo v).troughs = s.troughs := rfl
@[simp] theorem State.rput_rfield (s : State) (r : Reg) (i j hi lo v : Nat) : (s.rput r i j hi lo v).rfield = s.rfield := rfl
@[simp] theorem State.rput_ticket (s : State) (r : Reg) (i j hi lo v : Nat) : (s.rput r i j hi lo v).ticket = s.ticket := rfl
@[simp] theorem State.rput_hurdles (s : State) (r : Reg) (i j hi lo v : Nat) : (s.rput r i j hi lo v).hurdles = s.hurdles := rfl
@[simp] theorem State.rput_meters (s : State) (r : Reg) (i j hi lo v : Nat) : (s.rput r i j hi lo v).meters = s.meters := rfl
@[simp] theorem State.rput_msgs (s : State) (r : Reg) (i j hi lo v : Nat) : (s.rput r i j hi lo v).msgs = s.msgs := rfl
@[simp] theorem State.rput_chans (s : State) (r : Reg) (i j hi lo v : Nat) : (s.rput r i j hi lo v).chans = s.chans := rfl
@[simp] theorem State.rput_pasture (s : State) (r : Reg) (i j hi lo v : Nat) : (s.rput r i j hi lo v).pasture = s.pasture := rfl
@[simp] theorem State.rput_ports (s : State) (r : Reg) (i j hi lo v : Nat) : (s.rput r i j hi lo v).ports = s.ports := rfl
@[simp] theorem State.rput_shep (s : State) (r : Reg) (i j hi lo v : Nat) : (s.rput r i j hi lo v).shep = s.shep := rfl
@[simp] theorem State.rput_tense (s : State) (r : Reg) (i j hi lo v : Nat) : (s.rput r i j hi lo v).tense = s.tense := rfl
@[simp] theorem State.rput_power (s : State) (r : Reg) (i j hi lo v : Nat) : (s.rput r i j hi lo v).power = s.power := rfl
@[simp] theorem State.rput_cz (s : State) (r : Reg) (i j hi lo v : Nat) : (s.rput r i j hi lo v).cz = s.cz := rfl
@[simp] theorem State.rput_cy (s : State) (r : Reg) (i j hi lo v : Nat) : (s.rput r i j hi lo v).cy = s.cy := rfl
@[simp] theorem State.rput_keys (s : State) (r : Reg) (i j hi lo v : Nat) : (s.rput r i j hi lo v).keys = s.keys := rfl
@[simp] theorem State.rput_drbg (s : State) (r : Reg) (i j hi lo v : Nat) : (s.rput r i j hi lo v).drbg = s.drbg := rfl
@[simp] theorem State.rput_far (s : State) (r : Reg) (i j hi lo v : Nat) : (s.rput r i j hi lo v).far = s.far := rfl
@[simp] theorem State.rput_huWait (s : State) (r : Reg) (i j hi lo v : Nat) : (s.rput r i j hi lo v).huWait = s.huWait := rfl
@[simp] theorem State.rput_thermal (s : State) (r : Reg) (i j hi lo v : Nat) : (s.rput r i j hi lo v).thermal = s.thermal := rfl
@[simp] theorem State.rput_sealedNow (s : State) (r : Reg) (i j hi lo v : Nat) : (s.rput r i j hi lo v).sealedNow = s.sealedNow := rfl
@[simp] theorem State.rput_tid (s : State) (r : Reg) (i j hi lo v : Nat) : (s.rput r i j hi lo v).tid = s.tid := rfl
@[simp] theorem State.rput_strikeAcc (s : State) (r : Reg) (i j hi lo v : Nat) : (s.rput r i j hi lo v).strikeAcc = s.strikeAcc := rfl
@[simp] theorem State.rput_asyncMc (s : State) (r : Reg) (i j hi lo v : Nat) : (s.rput r i j hi lo v).asyncMc = s.asyncMc := rfl
@[simp] theorem State.rput_freeCtr (s : State) (r : Reg) (i j hi lo v : Nat) : (s.rput r i j hi lo v).freeCtr = s.freeCtr := rfl

/-! ### `State.bump` -/

@[simp] theorem State.bump_pending (s : State) (r : Reg) (i j n : Nat) : (s.bump r i j n).pending = s.pending := rfl
@[simp] theorem State.bump_mem (s : State) (r : Reg) (i j n : Nat) : (s.bump r i j n).mem = s.mem := rfl
@[simp] theorem State.bump_spPoison (s : State) (r : Reg) (i j n : Nat) : (s.bump r i j n).spPoison = s.spPoison := rfl
@[simp] theorem State.bump_bankTo (s : State) (r : Reg) (i j n : Nat) : (s.bump r i j n).bankTo = s.bankTo := rfl
@[simp] theorem State.bump_ownModule (s : State) (r : Reg) (i j n : Nat) : (s.bump r i j n).ownModule = s.ownModule := rfl
@[simp] theorem State.bump_cores (s : State) (r : Reg) (i j n : Nat) : (s.bump r i j n).cores = s.cores := rfl
@[simp] theorem State.bump_saved (s : State) (r : Reg) (i j n : Nat) : (s.bump r i j n).saved = s.saved := rfl
@[simp] theorem State.bump_snapC (s : State) (r : Reg) (i j n : Nat) : (s.bump r i j n).snapC = s.snapC := rfl
@[simp] theorem State.bump_snapP (s : State) (r : Reg) (i j n : Nat) : (s.bump r i j n).snapP = s.snapP := rfl
@[simp] theorem State.bump_pairs (s : State) (r : Reg) (i j n : Nat) : (s.bump r i j n).pairs = s.pairs := rfl
@[simp] theorem State.bump_seqs (s : State) (r : Reg) (i j n : Nat) : (s.bump r i j n).seqs = s.seqs := rfl
@[simp] theorem State.bump_caches (s : State) (r : Reg) (i j n : Nat) : (s.bump r i j n).caches = s.caches := rfl
@[simp] theorem State.bump_memctl (s : State) (r : Reg) (i j n : Nat) : (s.bump r i j n).memctl = s.memctl := rfl
@[simp] theorem State.bump_evFirst (s : State) (r : Reg) (i j n : Nat) : (s.bump r i j n).evFirst = s.evFirst := rfl
@[simp] theorem State.bump_evBack (s : State) (r : Reg) (i j n : Nat) : (s.bump r i j n).evBack = s.evBack := rfl
@[simp] theorem State.bump_troughs (s : State) (r : Reg) (i j n : Nat) : (s.bump r i j n).troughs = s.troughs := rfl
@[simp] theorem State.bump_rfield (s : State) (r : Reg) (i j n : Nat) : (s.bump r i j n).rfield = s.rfield := rfl
@[simp] theorem State.bump_ticket (s : State) (r : Reg) (i j n : Nat) : (s.bump r i j n).ticket = s.ticket := rfl
@[simp] theorem State.bump_hurdles (s : State) (r : Reg) (i j n : Nat) : (s.bump r i j n).hurdles = s.hurdles := rfl
@[simp] theorem State.bump_meters (s : State) (r : Reg) (i j n : Nat) : (s.bump r i j n).meters = s.meters := rfl
@[simp] theorem State.bump_msgs (s : State) (r : Reg) (i j n : Nat) : (s.bump r i j n).msgs = s.msgs := rfl
@[simp] theorem State.bump_chans (s : State) (r : Reg) (i j n : Nat) : (s.bump r i j n).chans = s.chans := rfl
@[simp] theorem State.bump_pasture (s : State) (r : Reg) (i j n : Nat) : (s.bump r i j n).pasture = s.pasture := rfl
@[simp] theorem State.bump_ports (s : State) (r : Reg) (i j n : Nat) : (s.bump r i j n).ports = s.ports := rfl
@[simp] theorem State.bump_shep (s : State) (r : Reg) (i j n : Nat) : (s.bump r i j n).shep = s.shep := rfl
@[simp] theorem State.bump_tense (s : State) (r : Reg) (i j n : Nat) : (s.bump r i j n).tense = s.tense := rfl
@[simp] theorem State.bump_power (s : State) (r : Reg) (i j n : Nat) : (s.bump r i j n).power = s.power := rfl
@[simp] theorem State.bump_cz (s : State) (r : Reg) (i j n : Nat) : (s.bump r i j n).cz = s.cz := rfl
@[simp] theorem State.bump_cy (s : State) (r : Reg) (i j n : Nat) : (s.bump r i j n).cy = s.cy := rfl
@[simp] theorem State.bump_keys (s : State) (r : Reg) (i j n : Nat) : (s.bump r i j n).keys = s.keys := rfl
@[simp] theorem State.bump_drbg (s : State) (r : Reg) (i j n : Nat) : (s.bump r i j n).drbg = s.drbg := rfl
@[simp] theorem State.bump_far (s : State) (r : Reg) (i j n : Nat) : (s.bump r i j n).far = s.far := rfl
@[simp] theorem State.bump_huWait (s : State) (r : Reg) (i j n : Nat) : (s.bump r i j n).huWait = s.huWait := rfl
@[simp] theorem State.bump_thermal (s : State) (r : Reg) (i j n : Nat) : (s.bump r i j n).thermal = s.thermal := rfl
@[simp] theorem State.bump_sealedNow (s : State) (r : Reg) (i j n : Nat) : (s.bump r i j n).sealedNow = s.sealedNow := rfl
@[simp] theorem State.bump_tid (s : State) (r : Reg) (i j n : Nat) : (s.bump r i j n).tid = s.tid := rfl
@[simp] theorem State.bump_strikeAcc (s : State) (r : Reg) (i j n : Nat) : (s.bump r i j n).strikeAcc = s.strikeAcc := rfl
@[simp] theorem State.bump_asyncMc (s : State) (r : Reg) (i j n : Nat) : (s.bump r i j n).asyncMc = s.asyncMc := rfl
@[simp] theorem State.bump_freeCtr (s : State) (r : Reg) (i j n : Nat) : (s.bump r i j n).freeCtr = s.freeCtr := rfl

/-! ### `State.setByte` -/

@[simp] theorem State.setByte_pending (s : State) (pa : Nat) (b : Byte) : (s.setByte pa b).pending = s.pending := rfl
@[simp] theorem State.setByte_regs (s : State) (pa : Nat) (b : Byte) : (s.setByte pa b).regs = s.regs := rfl
@[simp] theorem State.setByte_spPoison (s : State) (pa : Nat) (b : Byte) : (s.setByte pa b).spPoison = s.spPoison := rfl
@[simp] theorem State.setByte_bankTo (s : State) (pa : Nat) (b : Byte) : (s.setByte pa b).bankTo = s.bankTo := rfl
@[simp] theorem State.setByte_ownModule (s : State) (pa : Nat) (b : Byte) : (s.setByte pa b).ownModule = s.ownModule := rfl
@[simp] theorem State.setByte_cores (s : State) (pa : Nat) (b : Byte) : (s.setByte pa b).cores = s.cores := rfl
@[simp] theorem State.setByte_saved (s : State) (pa : Nat) (b : Byte) : (s.setByte pa b).saved = s.saved := rfl
@[simp] theorem State.setByte_snapC (s : State) (pa : Nat) (b : Byte) : (s.setByte pa b).snapC = s.snapC := rfl
@[simp] theorem State.setByte_snapP (s : State) (pa : Nat) (b : Byte) : (s.setByte pa b).snapP = s.snapP := rfl
@[simp] theorem State.setByte_pairs (s : State) (pa : Nat) (b : Byte) : (s.setByte pa b).pairs = s.pairs := rfl
@[simp] theorem State.setByte_seqs (s : State) (pa : Nat) (b : Byte) : (s.setByte pa b).seqs = s.seqs := rfl
@[simp] theorem State.setByte_caches (s : State) (pa : Nat) (b : Byte) : (s.setByte pa b).caches = s.caches := rfl
@[simp] theorem State.setByte_memctl (s : State) (pa : Nat) (b : Byte) : (s.setByte pa b).memctl = s.memctl := rfl
@[simp] theorem State.setByte_evFirst (s : State) (pa : Nat) (b : Byte) : (s.setByte pa b).evFirst = s.evFirst := rfl
@[simp] theorem State.setByte_evBack (s : State) (pa : Nat) (b : Byte) : (s.setByte pa b).evBack = s.evBack := rfl
@[simp] theorem State.setByte_troughs (s : State) (pa : Nat) (b : Byte) : (s.setByte pa b).troughs = s.troughs := rfl
@[simp] theorem State.setByte_rfield (s : State) (pa : Nat) (b : Byte) : (s.setByte pa b).rfield = s.rfield := rfl
@[simp] theorem State.setByte_ticket (s : State) (pa : Nat) (b : Byte) : (s.setByte pa b).ticket = s.ticket := rfl
@[simp] theorem State.setByte_hurdles (s : State) (pa : Nat) (b : Byte) : (s.setByte pa b).hurdles = s.hurdles := rfl
@[simp] theorem State.setByte_meters (s : State) (pa : Nat) (b : Byte) : (s.setByte pa b).meters = s.meters := rfl
@[simp] theorem State.setByte_msgs (s : State) (pa : Nat) (b : Byte) : (s.setByte pa b).msgs = s.msgs := rfl
@[simp] theorem State.setByte_chans (s : State) (pa : Nat) (b : Byte) : (s.setByte pa b).chans = s.chans := rfl
@[simp] theorem State.setByte_pasture (s : State) (pa : Nat) (b : Byte) : (s.setByte pa b).pasture = s.pasture := rfl
@[simp] theorem State.setByte_ports (s : State) (pa : Nat) (b : Byte) : (s.setByte pa b).ports = s.ports := rfl
@[simp] theorem State.setByte_shep (s : State) (pa : Nat) (b : Byte) : (s.setByte pa b).shep = s.shep := rfl
@[simp] theorem State.setByte_tense (s : State) (pa : Nat) (b : Byte) : (s.setByte pa b).tense = s.tense := rfl
@[simp] theorem State.setByte_power (s : State) (pa : Nat) (b : Byte) : (s.setByte pa b).power = s.power := rfl
@[simp] theorem State.setByte_cz (s : State) (pa : Nat) (b : Byte) : (s.setByte pa b).cz = s.cz := rfl
@[simp] theorem State.setByte_cy (s : State) (pa : Nat) (b : Byte) : (s.setByte pa b).cy = s.cy := rfl
@[simp] theorem State.setByte_keys (s : State) (pa : Nat) (b : Byte) : (s.setByte pa b).keys = s.keys := rfl
@[simp] theorem State.setByte_drbg (s : State) (pa : Nat) (b : Byte) : (s.setByte pa b).drbg = s.drbg := rfl
@[simp] theorem State.setByte_far (s : State) (pa : Nat) (b : Byte) : (s.setByte pa b).far = s.far := rfl
@[simp] theorem State.setByte_huWait (s : State) (pa : Nat) (b : Byte) : (s.setByte pa b).huWait = s.huWait := rfl
@[simp] theorem State.setByte_thermal (s : State) (pa : Nat) (b : Byte) : (s.setByte pa b).thermal = s.thermal := rfl
@[simp] theorem State.setByte_sealedNow (s : State) (pa : Nat) (b : Byte) : (s.setByte pa b).sealedNow = s.sealedNow := rfl
@[simp] theorem State.setByte_tid (s : State) (pa : Nat) (b : Byte) : (s.setByte pa b).tid = s.tid := rfl
@[simp] theorem State.setByte_strikeAcc (s : State) (pa : Nat) (b : Byte) : (s.setByte pa b).strikeAcc = s.strikeAcc := rfl
@[simp] theorem State.setByte_asyncMc (s : State) (pa : Nat) (b : Byte) : (s.setByte pa b).asyncMc = s.asyncMc := rfl
@[simp] theorem State.setByte_freeCtr (s : State) (pa : Nat) (b : Byte) : (s.setByte pa b).freeCtr = s.freeCtr := rfl

/-! ### `State.setCore` -/

@[simp] theorem State.setCore_pending (s : State) (n : Nat) (c : Core) : (s.setCore n c).pending = s.pending := rfl
@[simp] theorem State.setCore_regs (s : State) (n : Nat) (c : Core) : (s.setCore n c).regs = s.regs := rfl
@[simp] theorem State.setCore_mem (s : State) (n : Nat) (c : Core) : (s.setCore n c).mem = s.mem := rfl
@[simp] theorem State.setCore_spPoison (s : State) (n : Nat) (c : Core) : (s.setCore n c).spPoison = s.spPoison := rfl
@[simp] theorem State.setCore_bankTo (s : State) (n : Nat) (c : Core) : (s.setCore n c).bankTo = s.bankTo := rfl
@[simp] theorem State.setCore_ownModule (s : State) (n : Nat) (c : Core) : (s.setCore n c).ownModule = s.ownModule := rfl
@[simp] theorem State.setCore_saved (s : State) (n : Nat) (c : Core) : (s.setCore n c).saved = s.saved := rfl
@[simp] theorem State.setCore_snapC (s : State) (n : Nat) (c : Core) : (s.setCore n c).snapC = s.snapC := rfl
@[simp] theorem State.setCore_snapP (s : State) (n : Nat) (c : Core) : (s.setCore n c).snapP = s.snapP := rfl
@[simp] theorem State.setCore_pairs (s : State) (n : Nat) (c : Core) : (s.setCore n c).pairs = s.pairs := rfl
@[simp] theorem State.setCore_seqs (s : State) (n : Nat) (c : Core) : (s.setCore n c).seqs = s.seqs := rfl
@[simp] theorem State.setCore_caches (s : State) (n : Nat) (c : Core) : (s.setCore n c).caches = s.caches := rfl
@[simp] theorem State.setCore_memctl (s : State) (n : Nat) (c : Core) : (s.setCore n c).memctl = s.memctl := rfl
@[simp] theorem State.setCore_evFirst (s : State) (n : Nat) (c : Core) : (s.setCore n c).evFirst = s.evFirst := rfl
@[simp] theorem State.setCore_evBack (s : State) (n : Nat) (c : Core) : (s.setCore n c).evBack = s.evBack := rfl
@[simp] theorem State.setCore_troughs (s : State) (n : Nat) (c : Core) : (s.setCore n c).troughs = s.troughs := rfl
@[simp] theorem State.setCore_rfield (s : State) (n : Nat) (c : Core) : (s.setCore n c).rfield = s.rfield := rfl
@[simp] theorem State.setCore_ticket (s : State) (n : Nat) (c : Core) : (s.setCore n c).ticket = s.ticket := rfl
@[simp] theorem State.setCore_hurdles (s : State) (n : Nat) (c : Core) : (s.setCore n c).hurdles = s.hurdles := rfl
@[simp] theorem State.setCore_meters (s : State) (n : Nat) (c : Core) : (s.setCore n c).meters = s.meters := rfl
@[simp] theorem State.setCore_msgs (s : State) (n : Nat) (c : Core) : (s.setCore n c).msgs = s.msgs := rfl
@[simp] theorem State.setCore_chans (s : State) (n : Nat) (c : Core) : (s.setCore n c).chans = s.chans := rfl
@[simp] theorem State.setCore_pasture (s : State) (n : Nat) (c : Core) : (s.setCore n c).pasture = s.pasture := rfl
@[simp] theorem State.setCore_ports (s : State) (n : Nat) (c : Core) : (s.setCore n c).ports = s.ports := rfl
@[simp] theorem State.setCore_shep (s : State) (n : Nat) (c : Core) : (s.setCore n c).shep = s.shep := rfl
@[simp] theorem State.setCore_tense (s : State) (n : Nat) (c : Core) : (s.setCore n c).tense = s.tense := rfl
@[simp] theorem State.setCore_power (s : State) (n : Nat) (c : Core) : (s.setCore n c).power = s.power := rfl
@[simp] theorem State.setCore_cz (s : State) (n : Nat) (c : Core) : (s.setCore n c).cz = s.cz := rfl
@[simp] theorem State.setCore_cy (s : State) (n : Nat) (c : Core) : (s.setCore n c).cy = s.cy := rfl
@[simp] theorem State.setCore_keys (s : State) (n : Nat) (c : Core) : (s.setCore n c).keys = s.keys := rfl
@[simp] theorem State.setCore_drbg (s : State) (n : Nat) (c : Core) : (s.setCore n c).drbg = s.drbg := rfl
@[simp] theorem State.setCore_far (s : State) (n : Nat) (c : Core) : (s.setCore n c).far = s.far := rfl
@[simp] theorem State.setCore_huWait (s : State) (n : Nat) (c : Core) : (s.setCore n c).huWait = s.huWait := rfl
@[simp] theorem State.setCore_thermal (s : State) (n : Nat) (c : Core) : (s.setCore n c).thermal = s.thermal := rfl
@[simp] theorem State.setCore_sealedNow (s : State) (n : Nat) (c : Core) : (s.setCore n c).sealedNow = s.sealedNow := rfl
@[simp] theorem State.setCore_tid (s : State) (n : Nat) (c : Core) : (s.setCore n c).tid = s.tid := rfl
@[simp] theorem State.setCore_strikeAcc (s : State) (n : Nat) (c : Core) : (s.setCore n c).strikeAcc = s.strikeAcc := rfl
@[simp] theorem State.setCore_asyncMc (s : State) (n : Nat) (c : Core) : (s.setCore n c).asyncMc = s.asyncMc := rfl
@[simp] theorem State.setCore_freeCtr (s : State) (n : Nat) (c : Core) : (s.setCore n c).freeCtr = s.freeCtr := rfl

/-! ### `State.modCore` -/

@[simp] theorem State.modCore_pending (s : State) (n : Nat) (f : Core → Core) : (s.modCore n f).pending = s.pending := rfl
@[simp] theorem State.modCore_regs (s : State) (n : Nat) (f : Core → Core) : (s.modCore n f).regs = s.regs := rfl
@[simp] theorem State.modCore_mem (s : State) (n : Nat) (f : Core → Core) : (s.modCore n f).mem = s.mem := rfl
@[simp] theorem State.modCore_spPoison (s : State) (n : Nat) (f : Core → Core) : (s.modCore n f).spPoison = s.spPoison := rfl
@[simp] theorem State.modCore_bankTo (s : State) (n : Nat) (f : Core → Core) : (s.modCore n f).bankTo = s.bankTo := rfl
@[simp] theorem State.modCore_ownModule (s : State) (n : Nat) (f : Core → Core) : (s.modCore n f).ownModule = s.ownModule := rfl
@[simp] theorem State.modCore_saved (s : State) (n : Nat) (f : Core → Core) : (s.modCore n f).saved = s.saved := rfl
@[simp] theorem State.modCore_snapC (s : State) (n : Nat) (f : Core → Core) : (s.modCore n f).snapC = s.snapC := rfl
@[simp] theorem State.modCore_snapP (s : State) (n : Nat) (f : Core → Core) : (s.modCore n f).snapP = s.snapP := rfl
@[simp] theorem State.modCore_pairs (s : State) (n : Nat) (f : Core → Core) : (s.modCore n f).pairs = s.pairs := rfl
@[simp] theorem State.modCore_seqs (s : State) (n : Nat) (f : Core → Core) : (s.modCore n f).seqs = s.seqs := rfl
@[simp] theorem State.modCore_caches (s : State) (n : Nat) (f : Core → Core) : (s.modCore n f).caches = s.caches := rfl
@[simp] theorem State.modCore_memctl (s : State) (n : Nat) (f : Core → Core) : (s.modCore n f).memctl = s.memctl := rfl
@[simp] theorem State.modCore_evFirst (s : State) (n : Nat) (f : Core → Core) : (s.modCore n f).evFirst = s.evFirst := rfl
@[simp] theorem State.modCore_evBack (s : State) (n : Nat) (f : Core → Core) : (s.modCore n f).evBack = s.evBack := rfl
@[simp] theorem State.modCore_troughs (s : State) (n : Nat) (f : Core → Core) : (s.modCore n f).troughs = s.troughs := rfl
@[simp] theorem State.modCore_rfield (s : State) (n : Nat) (f : Core → Core) : (s.modCore n f).rfield = s.rfield := rfl
@[simp] theorem State.modCore_ticket (s : State) (n : Nat) (f : Core → Core) : (s.modCore n f).ticket = s.ticket := rfl
@[simp] theorem State.modCore_hurdles (s : State) (n : Nat) (f : Core → Core) : (s.modCore n f).hurdles = s.hurdles := rfl
@[simp] theorem State.modCore_meters (s : State) (n : Nat) (f : Core → Core) : (s.modCore n f).meters = s.meters := rfl
@[simp] theorem State.modCore_msgs (s : State) (n : Nat) (f : Core → Core) : (s.modCore n f).msgs = s.msgs := rfl
@[simp] theorem State.modCore_chans (s : State) (n : Nat) (f : Core → Core) : (s.modCore n f).chans = s.chans := rfl
@[simp] theorem State.modCore_pasture (s : State) (n : Nat) (f : Core → Core) : (s.modCore n f).pasture = s.pasture := rfl
@[simp] theorem State.modCore_ports (s : State) (n : Nat) (f : Core → Core) : (s.modCore n f).ports = s.ports := rfl
@[simp] theorem State.modCore_shep (s : State) (n : Nat) (f : Core → Core) : (s.modCore n f).shep = s.shep := rfl
@[simp] theorem State.modCore_tense (s : State) (n : Nat) (f : Core → Core) : (s.modCore n f).tense = s.tense := rfl
@[simp] theorem State.modCore_power (s : State) (n : Nat) (f : Core → Core) : (s.modCore n f).power = s.power := rfl
@[simp] theorem State.modCore_cz (s : State) (n : Nat) (f : Core → Core) : (s.modCore n f).cz = s.cz := rfl
@[simp] theorem State.modCore_cy (s : State) (n : Nat) (f : Core → Core) : (s.modCore n f).cy = s.cy := rfl
@[simp] theorem State.modCore_keys (s : State) (n : Nat) (f : Core → Core) : (s.modCore n f).keys = s.keys := rfl
@[simp] theorem State.modCore_drbg (s : State) (n : Nat) (f : Core → Core) : (s.modCore n f).drbg = s.drbg := rfl
@[simp] theorem State.modCore_far (s : State) (n : Nat) (f : Core → Core) : (s.modCore n f).far = s.far := rfl
@[simp] theorem State.modCore_huWait (s : State) (n : Nat) (f : Core → Core) : (s.modCore n f).huWait = s.huWait := rfl
@[simp] theorem State.modCore_thermal (s : State) (n : Nat) (f : Core → Core) : (s.modCore n f).thermal = s.thermal := rfl
@[simp] theorem State.modCore_sealedNow (s : State) (n : Nat) (f : Core → Core) : (s.modCore n f).sealedNow = s.sealedNow := rfl
@[simp] theorem State.modCore_tid (s : State) (n : Nat) (f : Core → Core) : (s.modCore n f).tid = s.tid := rfl
@[simp] theorem State.modCore_strikeAcc (s : State) (n : Nat) (f : Core → Core) : (s.modCore n f).strikeAcc = s.strikeAcc := rfl
@[simp] theorem State.modCore_asyncMc (s : State) (n : Nat) (f : Core → Core) : (s.modCore n f).asyncMc = s.asyncMc := rfl
@[simp] theorem State.modCore_freeCtr (s : State) (n : Nat) (f : Core → Core) : (s.modCore n f).freeCtr = s.freeCtr := rfl

/-! ### `State.modPair` -/

@[simp] theorem State.modPair_pending (s : State) (p : Nat) (f : Pair → Pair) : (s.modPair p f).pending = s.pending := rfl
@[simp] theorem State.modPair_regs (s : State) (p : Nat) (f : Pair → Pair) : (s.modPair p f).regs = s.regs := rfl
@[simp] theorem State.modPair_mem (s : State) (p : Nat) (f : Pair → Pair) : (s.modPair p f).mem = s.mem := rfl
@[simp] theorem State.modPair_spPoison (s : State) (p : Nat) (f : Pair → Pair) : (s.modPair p f).spPoison = s.spPoison := rfl
@[simp] theorem State.modPair_bankTo (s : State) (p : Nat) (f : Pair → Pair) : (s.modPair p f).bankTo = s.bankTo := rfl
@[simp] theorem State.modPair_ownModule (s : State) (p : Nat) (f : Pair → Pair) : (s.modPair p f).ownModule = s.ownModule := rfl
@[simp] theorem State.modPair_cores (s : State) (p : Nat) (f : Pair → Pair) : (s.modPair p f).cores = s.cores := rfl
@[simp] theorem State.modPair_saved (s : State) (p : Nat) (f : Pair → Pair) : (s.modPair p f).saved = s.saved := rfl
@[simp] theorem State.modPair_snapC (s : State) (p : Nat) (f : Pair → Pair) : (s.modPair p f).snapC = s.snapC := rfl
@[simp] theorem State.modPair_snapP (s : State) (p : Nat) (f : Pair → Pair) : (s.modPair p f).snapP = s.snapP := rfl
@[simp] theorem State.modPair_seqs (s : State) (p : Nat) (f : Pair → Pair) : (s.modPair p f).seqs = s.seqs := rfl
@[simp] theorem State.modPair_caches (s : State) (p : Nat) (f : Pair → Pair) : (s.modPair p f).caches = s.caches := rfl
@[simp] theorem State.modPair_memctl (s : State) (p : Nat) (f : Pair → Pair) : (s.modPair p f).memctl = s.memctl := rfl
@[simp] theorem State.modPair_evFirst (s : State) (p : Nat) (f : Pair → Pair) : (s.modPair p f).evFirst = s.evFirst := rfl
@[simp] theorem State.modPair_evBack (s : State) (p : Nat) (f : Pair → Pair) : (s.modPair p f).evBack = s.evBack := rfl
@[simp] theorem State.modPair_troughs (s : State) (p : Nat) (f : Pair → Pair) : (s.modPair p f).troughs = s.troughs := rfl
@[simp] theorem State.modPair_rfield (s : State) (p : Nat) (f : Pair → Pair) : (s.modPair p f).rfield = s.rfield := rfl
@[simp] theorem State.modPair_ticket (s : State) (p : Nat) (f : Pair → Pair) : (s.modPair p f).ticket = s.ticket := rfl
@[simp] theorem State.modPair_hurdles (s : State) (p : Nat) (f : Pair → Pair) : (s.modPair p f).hurdles = s.hurdles := rfl
@[simp] theorem State.modPair_meters (s : State) (p : Nat) (f : Pair → Pair) : (s.modPair p f).meters = s.meters := rfl
@[simp] theorem State.modPair_msgs (s : State) (p : Nat) (f : Pair → Pair) : (s.modPair p f).msgs = s.msgs := rfl
@[simp] theorem State.modPair_chans (s : State) (p : Nat) (f : Pair → Pair) : (s.modPair p f).chans = s.chans := rfl
@[simp] theorem State.modPair_pasture (s : State) (p : Nat) (f : Pair → Pair) : (s.modPair p f).pasture = s.pasture := rfl
@[simp] theorem State.modPair_ports (s : State) (p : Nat) (f : Pair → Pair) : (s.modPair p f).ports = s.ports := rfl
@[simp] theorem State.modPair_shep (s : State) (p : Nat) (f : Pair → Pair) : (s.modPair p f).shep = s.shep := rfl
@[simp] theorem State.modPair_tense (s : State) (p : Nat) (f : Pair → Pair) : (s.modPair p f).tense = s.tense := rfl
@[simp] theorem State.modPair_power (s : State) (p : Nat) (f : Pair → Pair) : (s.modPair p f).power = s.power := rfl
@[simp] theorem State.modPair_cz (s : State) (p : Nat) (f : Pair → Pair) : (s.modPair p f).cz = s.cz := rfl
@[simp] theorem State.modPair_cy (s : State) (p : Nat) (f : Pair → Pair) : (s.modPair p f).cy = s.cy := rfl
@[simp] theorem State.modPair_keys (s : State) (p : Nat) (f : Pair → Pair) : (s.modPair p f).keys = s.keys := rfl
@[simp] theorem State.modPair_drbg (s : State) (p : Nat) (f : Pair → Pair) : (s.modPair p f).drbg = s.drbg := rfl
@[simp] theorem State.modPair_far (s : State) (p : Nat) (f : Pair → Pair) : (s.modPair p f).far = s.far := rfl
@[simp] theorem State.modPair_huWait (s : State) (p : Nat) (f : Pair → Pair) : (s.modPair p f).huWait = s.huWait := rfl
@[simp] theorem State.modPair_thermal (s : State) (p : Nat) (f : Pair → Pair) : (s.modPair p f).thermal = s.thermal := rfl
@[simp] theorem State.modPair_sealedNow (s : State) (p : Nat) (f : Pair → Pair) : (s.modPair p f).sealedNow = s.sealedNow := rfl
@[simp] theorem State.modPair_tid (s : State) (p : Nat) (f : Pair → Pair) : (s.modPair p f).tid = s.tid := rfl
@[simp] theorem State.modPair_strikeAcc (s : State) (p : Nat) (f : Pair → Pair) : (s.modPair p f).strikeAcc = s.strikeAcc := rfl
@[simp] theorem State.modPair_asyncMc (s : State) (p : Nat) (f : Pair → Pair) : (s.modPair p f).asyncMc = s.asyncMc := rfl
@[simp] theorem State.modPair_freeCtr (s : State) (p : Nat) (f : Pair → Pair) : (s.modPair p f).freeCtr = s.freeCtr := rfl

/-! ### `State.modSeq` -/

@[simp] theorem State.modSeq_pending (s : State) (l : Nat) (f : Seq → Seq) : (s.modSeq l f).pending = s.pending := rfl
@[simp] theorem State.modSeq_regs (s : State) (l : Nat) (f : Seq → Seq) : (s.modSeq l f).regs = s.regs := rfl
@[simp] theorem State.modSeq_mem (s : State) (l : Nat) (f : Seq → Seq) : (s.modSeq l f).mem = s.mem := rfl
@[simp] theorem State.modSeq_spPoison (s : State) (l : Nat) (f : Seq → Seq) : (s.modSeq l f).spPoison = s.spPoison := rfl
@[simp] theorem State.modSeq_bankTo (s : State) (l : Nat) (f : Seq → Seq) : (s.modSeq l f).bankTo = s.bankTo := rfl
@[simp] theorem State.modSeq_ownModule (s : State) (l : Nat) (f : Seq → Seq) : (s.modSeq l f).ownModule = s.ownModule := rfl
@[simp] theorem State.modSeq_cores (s : State) (l : Nat) (f : Seq → Seq) : (s.modSeq l f).cores = s.cores := rfl
@[simp] theorem State.modSeq_saved (s : State) (l : Nat) (f : Seq → Seq) : (s.modSeq l f).saved = s.saved := rfl
@[simp] theorem State.modSeq_snapC (s : State) (l : Nat) (f : Seq → Seq) : (s.modSeq l f).snapC = s.snapC := rfl
@[simp] theorem State.modSeq_snapP (s : State) (l : Nat) (f : Seq → Seq) : (s.modSeq l f).snapP = s.snapP := rfl
@[simp] theorem State.modSeq_pairs (s : State) (l : Nat) (f : Seq → Seq) : (s.modSeq l f).pairs = s.pairs := rfl
@[simp] theorem State.modSeq_caches (s : State) (l : Nat) (f : Seq → Seq) : (s.modSeq l f).caches = s.caches := rfl
@[simp] theorem State.modSeq_memctl (s : State) (l : Nat) (f : Seq → Seq) : (s.modSeq l f).memctl = s.memctl := rfl
@[simp] theorem State.modSeq_evFirst (s : State) (l : Nat) (f : Seq → Seq) : (s.modSeq l f).evFirst = s.evFirst := rfl
@[simp] theorem State.modSeq_evBack (s : State) (l : Nat) (f : Seq → Seq) : (s.modSeq l f).evBack = s.evBack := rfl
@[simp] theorem State.modSeq_troughs (s : State) (l : Nat) (f : Seq → Seq) : (s.modSeq l f).troughs = s.troughs := rfl
@[simp] theorem State.modSeq_rfield (s : State) (l : Nat) (f : Seq → Seq) : (s.modSeq l f).rfield = s.rfield := rfl
@[simp] theorem State.modSeq_ticket (s : State) (l : Nat) (f : Seq → Seq) : (s.modSeq l f).ticket = s.ticket := rfl
@[simp] theorem State.modSeq_hurdles (s : State) (l : Nat) (f : Seq → Seq) : (s.modSeq l f).hurdles = s.hurdles := rfl
@[simp] theorem State.modSeq_meters (s : State) (l : Nat) (f : Seq → Seq) : (s.modSeq l f).meters = s.meters := rfl
@[simp] theorem State.modSeq_msgs (s : State) (l : Nat) (f : Seq → Seq) : (s.modSeq l f).msgs = s.msgs := rfl
@[simp] theorem State.modSeq_chans (s : State) (l : Nat) (f : Seq → Seq) : (s.modSeq l f).chans = s.chans := rfl
@[simp] theorem State.modSeq_pasture (s : State) (l : Nat) (f : Seq → Seq) : (s.modSeq l f).pasture = s.pasture := rfl
@[simp] theorem State.modSeq_ports (s : State) (l : Nat) (f : Seq → Seq) : (s.modSeq l f).ports = s.ports := rfl
@[simp] theorem State.modSeq_shep (s : State) (l : Nat) (f : Seq → Seq) : (s.modSeq l f).shep = s.shep := rfl
@[simp] theorem State.modSeq_tense (s : State) (l : Nat) (f : Seq → Seq) : (s.modSeq l f).tense = s.tense := rfl
@[simp] theorem State.modSeq_power (s : State) (l : Nat) (f : Seq → Seq) : (s.modSeq l f).power = s.power := rfl
@[simp] theorem State.modSeq_cz (s : State) (l : Nat) (f : Seq → Seq) : (s.modSeq l f).cz = s.cz := rfl
@[simp] theorem State.modSeq_cy (s : State) (l : Nat) (f : Seq → Seq) : (s.modSeq l f).cy = s.cy := rfl
@[simp] theorem State.modSeq_keys (s : State) (l : Nat) (f : Seq → Seq) : (s.modSeq l f).keys = s.keys := rfl
@[simp] theorem State.modSeq_drbg (s : State) (l : Nat) (f : Seq → Seq) : (s.modSeq l f).drbg = s.drbg := rfl
@[simp] theorem State.modSeq_far (s : State) (l : Nat) (f : Seq → Seq) : (s.modSeq l f).far = s.far := rfl
@[simp] theorem State.modSeq_huWait (s : State) (l : Nat) (f : Seq → Seq) : (s.modSeq l f).huWait = s.huWait := rfl
@[simp] theorem State.modSeq_thermal (s : State) (l : Nat) (f : Seq → Seq) : (s.modSeq l f).thermal = s.thermal := rfl
@[simp] theorem State.modSeq_sealedNow (s : State) (l : Nat) (f : Seq → Seq) : (s.modSeq l f).sealedNow = s.sealedNow := rfl
@[simp] theorem State.modSeq_tid (s : State) (l : Nat) (f : Seq → Seq) : (s.modSeq l f).tid = s.tid := rfl
@[simp] theorem State.modSeq_strikeAcc (s : State) (l : Nat) (f : Seq → Seq) : (s.modSeq l f).strikeAcc = s.strikeAcc := rfl
@[simp] theorem State.modSeq_asyncMc (s : State) (l : Nat) (f : Seq → Seq) : (s.modSeq l f).asyncMc = s.asyncMc := rfl
@[simp] theorem State.modSeq_freeCtr (s : State) (l : Nat) (f : Seq → Seq) : (s.modSeq l f).freeCtr = s.freeCtr := rfl

/-! ### `State.drawn` -/

@[simp] theorem State.drawn_pending (s : State) : (s.drawn).pending = s.pending := rfl
@[simp] theorem State.drawn_regs (s : State) : (s.drawn).regs = s.regs := rfl
@[simp] theorem State.drawn_mem (s : State) : (s.drawn).mem = s.mem := rfl
@[simp] theorem State.drawn_spPoison (s : State) : (s.drawn).spPoison = s.spPoison := rfl
@[simp] theorem State.drawn_bankTo (s : State) : (s.drawn).bankTo = s.bankTo := rfl
@[simp] theorem State.drawn_ownModule (s : State) : (s.drawn).ownModule = s.ownModule := rfl
@[simp] theorem State.drawn_cores (s : State) : (s.drawn).cores = s.cores := rfl
@[simp] theorem State.drawn_saved (s : State) : (s.drawn).saved = s.saved := rfl
@[simp] theorem State.drawn_snapC (s : State) : (s.drawn).snapC = s.snapC := rfl
@[simp] theorem State.drawn_snapP (s : State) : (s.drawn).snapP = s.snapP := rfl
@[simp] theorem State.drawn_pairs (s : State) : (s.drawn).pairs = s.pairs := rfl
@[simp] theorem State.drawn_seqs (s : State) : (s.drawn).seqs = s.seqs := rfl
@[simp] theorem State.drawn_caches (s : State) : (s.drawn).caches = s.caches := rfl
@[simp] theorem State.drawn_memctl (s : State) : (s.drawn).memctl = s.memctl := rfl
@[simp] theorem State.drawn_evFirst (s : State) : (s.drawn).evFirst = s.evFirst := rfl
@[simp] theorem State.drawn_evBack (s : State) : (s.drawn).evBack = s.evBack := rfl
@[simp] theorem State.drawn_troughs (s : State) : (s.drawn).troughs = s.troughs := rfl
@[simp] theorem State.drawn_rfield (s : State) : (s.drawn).rfield = s.rfield := rfl
@[simp] theorem State.drawn_ticket (s : State) : (s.drawn).ticket = s.ticket := rfl
@[simp] theorem State.drawn_hurdles (s : State) : (s.drawn).hurdles = s.hurdles := rfl
@[simp] theorem State.drawn_meters (s : State) : (s.drawn).meters = s.meters := rfl
@[simp] theorem State.drawn_msgs (s : State) : (s.drawn).msgs = s.msgs := rfl
@[simp] theorem State.drawn_chans (s : State) : (s.drawn).chans = s.chans := rfl
@[simp] theorem State.drawn_pasture (s : State) : (s.drawn).pasture = s.pasture := rfl
@[simp] theorem State.drawn_ports (s : State) : (s.drawn).ports = s.ports := rfl
@[simp] theorem State.drawn_shep (s : State) : (s.drawn).shep = s.shep := rfl
@[simp] theorem State.drawn_tense (s : State) : (s.drawn).tense = s.tense := rfl
@[simp] theorem State.drawn_power (s : State) : (s.drawn).power = s.power := rfl
@[simp] theorem State.drawn_cz (s : State) : (s.drawn).cz = s.cz := rfl
@[simp] theorem State.drawn_cy (s : State) : (s.drawn).cy = s.cy := rfl
@[simp] theorem State.drawn_keys (s : State) : (s.drawn).keys = s.keys := rfl
@[simp] theorem State.drawn_drbg (s : State) : (s.drawn).drbg = s.drbg := rfl
@[simp] theorem State.drawn_far (s : State) : (s.drawn).far = s.far := rfl
@[simp] theorem State.drawn_huWait (s : State) : (s.drawn).huWait = s.huWait := rfl
@[simp] theorem State.drawn_thermal (s : State) : (s.drawn).thermal = s.thermal := rfl
@[simp] theorem State.drawn_sealedNow (s : State) : (s.drawn).sealedNow = s.sealedNow := rfl
@[simp] theorem State.drawn_tid (s : State) : (s.drawn).tid = s.tid := rfl
@[simp] theorem State.drawn_strikeAcc (s : State) : (s.drawn).strikeAcc = s.strikeAcc := rfl
@[simp] theorem State.drawn_asyncMc (s : State) : (s.drawn).asyncMc = s.asyncMc := rfl

/-! ### `State.modMc` -/

@[simp] theorem State.modMc_pending (s : State) (f : MemCtl → MemCtl) : (s.modMc f).pending = s.pending := rfl
@[simp] theorem State.modMc_regs (s : State) (f : MemCtl → MemCtl) : (s.modMc f).regs = s.regs := rfl
@[simp] theorem State.modMc_mem (s : State) (f : MemCtl → MemCtl) : (s.modMc f).mem = s.mem := rfl
@[simp] theorem State.modMc_spPoison (s : State) (f : MemCtl → MemCtl) : (s.modMc f).spPoison = s.spPoison := rfl
@[simp] theorem State.modMc_bankTo (s : State) (f : MemCtl → MemCtl) : (s.modMc f).bankTo = s.bankTo := rfl
@[simp] theorem State.modMc_ownModule (s : State) (f : MemCtl → MemCtl) : (s.modMc f).ownModule = s.ownModule := rfl
@[simp] theorem State.modMc_cores (s : State) (f : MemCtl → MemCtl) : (s.modMc f).cores = s.cores := rfl
@[simp] theorem State.modMc_saved (s : State) (f : MemCtl → MemCtl) : (s.modMc f).saved = s.saved := rfl
@[simp] theorem State.modMc_snapC (s : State) (f : MemCtl → MemCtl) : (s.modMc f).snapC = s.snapC := rfl
@[simp] theorem State.modMc_snapP (s : State) (f : MemCtl → MemCtl) : (s.modMc f).snapP = s.snapP := rfl
@[simp] theorem State.modMc_pairs (s : State) (f : MemCtl → MemCtl) : (s.modMc f).pairs = s.pairs := rfl
@[simp] theorem State.modMc_seqs (s : State) (f : MemCtl → MemCtl) : (s.modMc f).seqs = s.seqs := rfl
@[simp] theorem State.modMc_caches (s : State) (f : MemCtl → MemCtl) : (s.modMc f).caches = s.caches := rfl
@[simp] theorem State.modMc_evFirst (s : State) (f : MemCtl → MemCtl) : (s.modMc f).evFirst = s.evFirst := rfl
@[simp] theorem State.modMc_evBack (s : State) (f : MemCtl → MemCtl) : (s.modMc f).evBack = s.evBack := rfl
@[simp] theorem State.modMc_troughs (s : State) (f : MemCtl → MemCtl) : (s.modMc f).troughs = s.troughs := rfl
@[simp] theorem State.modMc_rfield (s : State) (f : MemCtl → MemCtl) : (s.modMc f).rfield = s.rfield := rfl
@[simp] theorem State.modMc_ticket (s : State) (f : MemCtl → MemCtl) : (s.modMc f).ticket = s.ticket := rfl
@[simp] theorem State.modMc_hurdles (s : State) (f : MemCtl → MemCtl) : (s.modMc f).hurdles = s.hurdles := rfl
@[simp] theorem State.modMc_meters (s : State) (f : MemCtl → MemCtl) : (s.modMc f).meters = s.meters := rfl
@[simp] theorem State.modMc_msgs (s : State) (f : MemCtl → MemCtl) : (s.modMc f).msgs = s.msgs := rfl
@[simp] theorem State.modMc_chans (s : State) (f : MemCtl → MemCtl) : (s.modMc f).chans = s.chans := rfl
@[simp] theorem State.modMc_pasture (s : State) (f : MemCtl → MemCtl) : (s.modMc f).pasture = s.pasture := rfl
@[simp] theorem State.modMc_ports (s : State) (f : MemCtl → MemCtl) : (s.modMc f).ports = s.ports := rfl
@[simp] theorem State.modMc_shep (s : State) (f : MemCtl → MemCtl) : (s.modMc f).shep = s.shep := rfl
@[simp] theorem State.modMc_tense (s : State) (f : MemCtl → MemCtl) : (s.modMc f).tense = s.tense := rfl
@[simp] theorem State.modMc_power (s : State) (f : MemCtl → MemCtl) : (s.modMc f).power = s.power := rfl
@[simp] theorem State.modMc_cz (s : State) (f : MemCtl → MemCtl) : (s.modMc f).cz = s.cz := rfl
@[simp] theorem State.modMc_cy (s : State) (f : MemCtl → MemCtl) : (s.modMc f).cy = s.cy := rfl
@[simp] theorem State.modMc_keys (s : State) (f : MemCtl → MemCtl) : (s.modMc f).keys = s.keys := rfl
@[simp] theorem State.modMc_drbg (s : State) (f : MemCtl → MemCtl) : (s.modMc f).drbg = s.drbg := rfl
@[simp] theorem State.modMc_far (s : State) (f : MemCtl → MemCtl) : (s.modMc f).far = s.far := rfl
@[simp] theorem State.modMc_huWait (s : State) (f : MemCtl → MemCtl) : (s.modMc f).huWait = s.huWait := rfl
@[simp] theorem State.modMc_thermal (s : State) (f : MemCtl → MemCtl) : (s.modMc f).thermal = s.thermal := rfl
@[simp] theorem State.modMc_sealedNow (s : State) (f : MemCtl → MemCtl) : (s.modMc f).sealedNow = s.sealedNow := rfl
@[simp] theorem State.modMc_tid (s : State) (f : MemCtl → MemCtl) : (s.modMc f).tid = s.tid := rfl
@[simp] theorem State.modMc_strikeAcc (s : State) (f : MemCtl → MemCtl) : (s.modMc f).strikeAcc = s.strikeAcc := rfl
@[simp] theorem State.modMc_asyncMc (s : State) (f : MemCtl → MemCtl) : (s.modMc f).asyncMc = s.asyncMc := rfl
@[simp] theorem State.modMc_freeCtr (s : State) (f : MemCtl → MemCtl) : (s.modMc f).freeCtr = s.freeCtr := rfl

/-! ### `State.modCa` -/

@[simp] theorem State.modCa_pending (s : State) (f : Caches → Caches) : (s.modCa f).pending = s.pending := rfl
@[simp] theorem State.modCa_regs (s : State) (f : Caches → Caches) : (s.modCa f).regs = s.regs := rfl
@[simp] theorem State.modCa_mem (s : State) (f : Caches → Caches) : (s.modCa f).mem = s.mem := rfl
@[simp] theorem State.modCa_spPoison (s : State) (f : Caches → Caches) : (s.modCa f).spPoison = s.spPoison := rfl
@[simp] theorem State.modCa_bankTo (s : State) (f : Caches → Caches) : (s.modCa f).bankTo = s.bankTo := rfl
@[simp] theorem State.modCa_ownModule (s : State) (f : Caches → Caches) : (s.modCa f).ownModule = s.ownModule := rfl
@[simp] theorem State.modCa_cores (s : State) (f : Caches → Caches) : (s.modCa f).cores = s.cores := rfl
@[simp] theorem State.modCa_saved (s : State) (f : Caches → Caches) : (s.modCa f).saved = s.saved := rfl
@[simp] theorem State.modCa_snapC (s : State) (f : Caches → Caches) : (s.modCa f).snapC = s.snapC := rfl
@[simp] theorem State.modCa_snapP (s : State) (f : Caches → Caches) : (s.modCa f).snapP = s.snapP := rfl
@[simp] theorem State.modCa_pairs (s : State) (f : Caches → Caches) : (s.modCa f).pairs = s.pairs := rfl
@[simp] theorem State.modCa_seqs (s : State) (f : Caches → Caches) : (s.modCa f).seqs = s.seqs := rfl
@[simp] theorem State.modCa_memctl (s : State) (f : Caches → Caches) : (s.modCa f).memctl = s.memctl := rfl
@[simp] theorem State.modCa_evFirst (s : State) (f : Caches → Caches) : (s.modCa f).evFirst = s.evFirst := rfl
@[simp] theorem State.modCa_evBack (s : State) (f : Caches → Caches) : (s.modCa f).evBack = s.evBack := rfl
@[simp] theorem State.modCa_troughs (s : State) (f : Caches → Caches) : (s.modCa f).troughs = s.troughs := rfl
@[simp] theorem State.modCa_rfield (s : State) (f : Caches → Caches) : (s.modCa f).rfield = s.rfield := rfl
@[simp] theorem State.modCa_ticket (s : State) (f : Caches → Caches) : (s.modCa f).ticket = s.ticket := rfl
@[simp] theorem State.modCa_hurdles (s : State) (f : Caches → Caches) : (s.modCa f).hurdles = s.hurdles := rfl
@[simp] theorem State.modCa_meters (s : State) (f : Caches → Caches) : (s.modCa f).meters = s.meters := rfl
@[simp] theorem State.modCa_msgs (s : State) (f : Caches → Caches) : (s.modCa f).msgs = s.msgs := rfl
@[simp] theorem State.modCa_chans (s : State) (f : Caches → Caches) : (s.modCa f).chans = s.chans := rfl
@[simp] theorem State.modCa_pasture (s : State) (f : Caches → Caches) : (s.modCa f).pasture = s.pasture := rfl
@[simp] theorem State.modCa_ports (s : State) (f : Caches → Caches) : (s.modCa f).ports = s.ports := rfl
@[simp] theorem State.modCa_shep (s : State) (f : Caches → Caches) : (s.modCa f).shep = s.shep := rfl
@[simp] theorem State.modCa_tense (s : State) (f : Caches → Caches) : (s.modCa f).tense = s.tense := rfl
@[simp] theorem State.modCa_power (s : State) (f : Caches → Caches) : (s.modCa f).power = s.power := rfl
@[simp] theorem State.modCa_cz (s : State) (f : Caches → Caches) : (s.modCa f).cz = s.cz := rfl
@[simp] theorem State.modCa_cy (s : State) (f : Caches → Caches) : (s.modCa f).cy = s.cy := rfl
@[simp] theorem State.modCa_keys (s : State) (f : Caches → Caches) : (s.modCa f).keys = s.keys := rfl
@[simp] theorem State.modCa_drbg (s : State) (f : Caches → Caches) : (s.modCa f).drbg = s.drbg := rfl
@[simp] theorem State.modCa_far (s : State) (f : Caches → Caches) : (s.modCa f).far = s.far := rfl
@[simp] theorem State.modCa_huWait (s : State) (f : Caches → Caches) : (s.modCa f).huWait = s.huWait := rfl
@[simp] theorem State.modCa_thermal (s : State) (f : Caches → Caches) : (s.modCa f).thermal = s.thermal := rfl
@[simp] theorem State.modCa_sealedNow (s : State) (f : Caches → Caches) : (s.modCa f).sealedNow = s.sealedNow := rfl
@[simp] theorem State.modCa_tid (s : State) (f : Caches → Caches) : (s.modCa f).tid = s.tid := rfl
@[simp] theorem State.modCa_strikeAcc (s : State) (f : Caches → Caches) : (s.modCa f).strikeAcc = s.strikeAcc := rfl
@[simp] theorem State.modCa_asyncMc (s : State) (f : Caches → Caches) : (s.modCa f).asyncMc = s.asyncMc := rfl
@[simp] theorem State.modCa_freeCtr (s : State) (f : Caches → Caches) : (s.modCa f).freeCtr = s.freeCtr := rfl

end Sys2Proof.Machine
end

