-- ==== Sys2Proof/Laws/Table.lean ====
section
/-! SUPPORT. Reading a table after writing it, and the order and canonical form that its operations keep. -/

namespace Sys2Proof.Machine

variable {α : Type}

/-! ### Reading after writing -/

@[simp] theorem tfind_tins_same (t : Tbl α) (n : Nat) (x : α) : tfind (tins t n x) n = some x := by
  induction t with
  | nil => simp [tins, tfind]
  | cons p t ih =>
    simp only [tins]
    split
    · simp [tfind]
    · split <;> simp_all [tfind]

theorem tfind_tins_ne (t : Tbl α) (n m : Nat) (x : α) (h : m ≠ n) : tfind (tins t n x) m = tfind t m := by
  induction t with
  | nil => simp [tins, tfind, h]
  | cons p t ih =>
    simp only [tins]
    split
    · rename_i e; simp [tfind, h, ← e]
    · split <;> simp [tfind, h, ih]

theorem tget_eq_tfind (d : α) (t : Tbl α) (n : Nat) : tget d t n = (tfind t n).getD d := by
  induction t with
  | nil => rfl
  | cons p t ih => simp only [tget, tfind]; split <;> simp [ih]

@[simp] theorem tget_tins_same (d : α) (t : Tbl α) (n : Nat) (x : α) : tget d (tins t n x) n = x := by
  simp [tget_eq_tfind]

theorem tget_tins_ne (d : α) (t : Tbl α) (n m : Nat) (x : α) (h : m ≠ n) : tget d (tins t n x) m = tget d t m := by
  simp [tget_eq_tfind, tfind_tins_ne _ _ _ _ h]

@[simp] theorem tins_tins (t : Tbl α) (n : Nat) (x y : α) : tins (tins t n x) n y = tins t n y := by
  induction t with
  | nil => simp [tins]
  | cons p t ih =>
    simp only [tins]
    split
    · simp [tins]
    · split <;> simp_all [tins]

@[simp] theorem tfind_tdel_same (t : Tbl α) (n : Nat) : tfind (tdel t n) n = none := by
  induction t with
  | nil => rfl
  | cons p t ih =>
    simp only [tdel]
    split
    · exact ih
    · rename_i h; simp [tfind, h, ih]

theorem tfind_tdel_ne (t : Tbl α) (n m : Nat) (h : m ≠ n) : tfind (tdel t n) m = tfind t m := by
  induction t with
  | nil => rfl
  | cons p t ih =>
    simp only [tdel]
    split
    · rename_i e; simp [tfind, ← e, h, ih]
    · simp [tfind, ih]

@[simp] theorem tget_tput_same [DecidableEq α] (d : α) (t : Tbl α) (n : Nat) (x : α) : tget d (tput d t n x) n = x := by
  unfold tput
  split
  · rename_i e; simp [tget_eq_tfind, e]
  · simp

theorem tget_tput_ne [DecidableEq α] (d : α) (t : Tbl α) (n m : Nat) (x : α) (h : m ≠ n) :
    tget d (tput d t n x) m = tget d t m := by
  unfold tput
  split
  · simp [tget_eq_tfind, tfind_tdel_ne _ _ _ h]
  · exact tget_tins_ne _ _ _ _ _ h

/-! ### Order: a table is in order where its keys rise -/

theorem tsorted_iff (t : Tbl α) : tsorted t = true ↔ t.Pairwise fun x y => x.1 < y.1 := by
  induction t with
  | nil => simp [tsorted]
  | cons p t ih =>
    cases t with
    | nil => simp [tsorted]
    | cons q t =>
      simp only [tsorted, Bool.and_eq_true, decide_eq_true_eq, ih]
      rw [List.pairwise_cons (a := p)]
      refine ⟨fun h => ⟨fun x hx => ?_, h.2⟩, fun h => ⟨h.1 q (by simp), h.2⟩⟩
      rcases List.mem_cons.1 hx with rfl | hx
      · exact h.1
      · exact h.1.trans ((List.pairwise_cons.1 h.2).1 x hx)

theorem mem_tins (t : Tbl α) (n : Nat) (x : α) (y : Nat × α) (h : y ∈ tins t n x) : y = (n, x) ∨ y ∈ t := by
  induction t with
  | nil => simpa [tins] using h
  | cons p t ih =>
    simp only [tins] at h
    split at h
    · simp only [List.mem_cons] at h ⊢; tauto
    · split at h <;> simp only [List.mem_cons] at h ⊢ <;> tauto

theorem tdel_eq_filter (t : Tbl α) (n : Nat) : tdel t n = t.filter fun p => decide (p.1 ≠ n) := by
  induction t with
  | nil => rfl
  | cons p t ih =>
    simp only [tdel, List.filter_cons]
    split
    · rename_i e; rw [ih]; simp [e]
    · rename_i e; simp [ih, Ne.symm e]

theorem tsorted_filter (t : Tbl α) (p : Nat × α → Bool) (h : tsorted t = true) : tsorted (t.filter p) = true :=
  (tsorted_iff _).2 (((tsorted_iff _).1 h).filter p)

theorem tsorted_tins (t : Tbl α) (n : Nat) (x : α) (h : tsorted t = true) : tsorted (tins t n x) = true := by
  rw [tsorted_iff] at h ⊢
  induction t with
  | nil => simp [tins]
  | cons p t ih =>
    have hp := List.pairwise_cons.1 h
    simp only [tins]
    split
    · rename_i e; rw [List.pairwise_cons]; exact ⟨fun y hy => e ▸ hp.1 y hy, hp.2⟩
    · split
      · rename_i e
        rw [List.pairwise_cons]
        refine ⟨fun y hy => ?_, h⟩
        rcases List.mem_cons.1 hy with rfl | hy
        · exact e
        · exact Nat.lt_trans e (hp.1 y hy)
      · rw [List.pairwise_cons]
        refine ⟨fun y hy => ?_, ih hp.2⟩
        rcases mem_tins _ _ _ _ hy with rfl | hy
        · show p.1 < n; omega
        · exact hp.1 y hy

/-! ### Canonical form -/

theorem twf_filter [DecidableEq α] (d : Nat → α) (t : Tbl α) (p : Nat × α → Bool) (h : twf d t = true) :
    twf d (t.filter p) = true := by
  simp only [twf, Bool.and_eq_true, List.all_eq_true] at h ⊢
  exact ⟨tsorted_filter _ _ h.1, fun x hx => h.2 x (List.mem_filter.1 hx).1⟩

theorem twf_tput [DecidableEq α] (d : α) (t : Tbl α) (n : Nat) (x : α) (h : twf (fun _ => d) t = true) :
    twf (fun _ => d) (tput d t n x) = true := by
  unfold tput
  split
  · rw [tdel_eq_filter]; exact twf_filter _ _ _ h
  · rename_i e
    simp only [twf, Bool.and_eq_true, List.all_eq_true] at h ⊢
    refine ⟨tsorted_tins _ _ _ h.1, fun y hy => ?_⟩
    rcases mem_tins _ _ _ _ hy with rfl | hy
    · simpa using e
    · exact h.2 y hy

end Sys2Proof.Machine
end

