-- ==== Sys2Proof/Laws/Memory.lean ====
section
/-! SUPPORT. Memory: reading a byte after writing one, and the canonical form that every write of bytes keeps. -/

namespace Sys2Proof.Machine

open Sys2Proof

@[simp] theorem State.byte_setByte_same (s : State) (pa : Nat) (b : Byte) : (s.setByte pa b).byte pa = b :=
  tget_tput_same _ _ _ _

theorem State.byte_setByte_ne (s : State) (pa a : Nat) (b : Byte) (h : a ≠ pa) : (s.setByte pa b).byte a = s.byte a :=
  tget_tput_ne _ _ _ _ _ h

theorem State.memOk_setByte (s : State) (pa : Nat) (b : Byte) (h : s.memOk = true) : (s.setByte pa b).memOk = true :=
  twf_tput _ _ _ _ h

theorem memOk_setBytes (s : State) (pa : Nat) (bs : List Byte) (h : s.memOk = true) : (setBytes s pa bs).memOk = true := by
  induction bs generalizing s pa with
  | nil => exact h
  | cons b bs ih => exact ih _ _ (s.memOk_setByte pa b h)

theorem State.memOk_setMemLine (s : State) (line : Nat) (d : BitVec 512) (h : s.memOk = true) :
    (s.setMemLine line d).memOk = true :=
  memOk_setBytes _ _ _ h

/-- A memory with entries taken out, as the zeroing of a scratchpad bank takes them, keeps its form. -/
theorem memOk_filter (s : State) (p : Host.Cell → Bool) (h : s.memOk = true) :
    ({ s with mem := s.mem.filter p } : State).memOk = true :=
  twf_filter _ _ _ h

/-- Memory right after reset has the form: it lists nothing. -/
theorem reset_memOk : State.reset.memOk = true := by decide

/-- The form depends on memory alone: an update that leaves memory alone keeps it. -/
theorem memOk_of_mem_eq {s t : State} (e : t.mem = s.mem) (h : s.memOk = true) : t.memOk = true := by
  simpa [State.memOk, e] using h

/-- Writing bytes changes nothing but memory. -/
theorem setBytes_frame (s : State) (pa : Nat) (bs : List Byte) : { setBytes s pa bs with mem := s.mem } = s := by
  induction bs generalizing s pa with
  | nil => rfl
  | cons b bs ih =>
    have h := ih (s.setByte pa b) (pa + 1)
    have k : ({ setBytes (s.setByte pa b) (pa + 1) bs with mem := s.mem } : State) = { s.setByte pa b with mem := s.mem } :=
      congrArg (fun t : State => { t with mem := s.mem }) h
    exact k

/-- A byte below the run that is written keeps its value. -/
theorem byte_setBytes_below (s : State) (pa a : Nat) (bs : List Byte) (h : a < pa) : (setBytes s pa bs).byte a = s.byte a := by
  induction bs generalizing s pa with
  | nil => rfl
  | cons b bs ih => exact (ih _ _ (by omega)).trans (s.byte_setByte_ne _ _ _ (by omega))

/-! ### Lines and bytes -/

theorem ofBytes_lt (bs : List Byte) : ofBytes bs < 2 ^ (8 * bs.length) := by
  induction bs with
  | nil => simp [ofBytes]
  | cons b bs ih => have := b.isLt; rw [List.length_cons, Nat.mul_succ, Nat.pow_add]; unfold ofBytes; omega

theorem ofBytes_digit (bs : List Byte) (i : Nat) (h : i < bs.length) : ofBytes bs / 2 ^ (8 * i) % 2 ^ 8 = bs[i].toNat := by
  induction bs generalizing i with
  | nil => simp at h
  | cons b bs ih =>
    have hb := b.isLt
    cases i with
    | zero => simp [ofBytes]; omega
    | succ i =>
      have e : (b.toNat + 256 * ofBytes bs) / 2 ^ (8 * (i + 1)) = ofBytes bs / 2 ^ (8 * i) := by
        rw [show 8 * (i + 1) = 8 + 8 * i by omega, Nat.pow_add, ← Nat.div_div_eq_div_mul]; congr 1; omega
      simpa only [ofBytes, e, List.getElem_cons_succ] using ih i (by simpa using h)

theorem getElem_bytes (s : State) (pa n i : Nat) (h : i < (s.bytes pa n).length) : (s.bytes pa n)[i] = s.byte (pa + i) := by
  simp only [State.bytes, rangeFrom, List.getElem_map, List.getElem_range]

/-- A byte of a number held in a wide enough word. -/
theorem low_byte (w n k : Nat) (h : n < 2 ^ w) : ((BitVec.ofNat w n) >>> k).setWidth 8 = BitVec.ofNat 8 (n / 2 ^ k) := by
  apply BitVec.eq_of_toNat_eq
  simp only [BitVec.toNat_setWidth, BitVec.toNat_ushiftRight, BitVec.toNat_ofNat, Nat.mod_eq_of_lt h, Nat.shiftRight_eq_div_pow]

/-- A line read from memory holds the bytes of its addresses. -/
theorem lineByte_memLine (s : State) (a : Nat) : lineByte (s.memLine (a / 64)) (a % 64) = s.byte a := by
  have hi : a % 64 < 64 := Nat.mod_lt _ (by decide)
  have hl : (s.bytes (a / 64 * 64) 64).length = 64 := by simp [State.bytes, rangeFrom]
  have hlt := ofBytes_lt (s.bytes (a / 64 * 64) 64)
  have hd := ofBytes_digit (s.bytes (a / 64 * 64) 64) (a % 64) (by omega)
  rw [getElem_bytes, Nat.mul_comm, Nat.div_add_mod, Nat.mul_comm] at hd
  rw [hl] at hlt
  unfold lineByte State.memLine
  generalize ofBytes (s.bytes (a / 64 * 64) 64) = n at hlt hd ⊢
  refine (low_byte (8 * 64) n (8 * (a % 64)) hlt).trans (BitVec.eq_of_toNat_eq ?_)
  rw [BitVec.toNat_ofNat]
  exact hd

/-- A module alone in its pasture, whose directory names no holder, knows the value of every line. -/
theorem State.abroad_alone (s : State) (h : ∀ m, m < 8 → m ≠ s.ownModule → s.present m = false) (hd : s.caches.dir = []) (line : Nat) :
    s.abroad line = false := by
  unfold State.abroad
  split
  · rw [hd]; rfl
  · next hm => rw [h (lineHome line) (Nat.mod_lt _ (by decide)) hm]; rfl

/-- Where this module's caches hold no line, and no line is abroad, the current bytes are those of memory. -/
theorem State.cohBytes_of_clean (s : State) (h : ∀ p l, s.copyThat p l = none) (ha : ∀ l, s.abroad l = false) (pa n : Nat) :
    s.cohBytes pa n = s.bytes pa n := by
  simp only [State.cohBytes, State.bytes]
  refine List.map_congr_left fun a _ => ?_
  simp only [State.cohLine, State.dirtyCopy, State.copyHere, h, ha, Bool.false_eq_true, if_false, Option.getD_none, ite_self]
  exact lineByte_memLine s a
end Sys2Proof.Machine
end

