-- ==== Sys2Proof/Laws/Registers.lean ====
section
/-! SUPPORT. Control registers, cores, events and logs: what a read gives after a write, and what a raise, a rejection and a record can do. -/

namespace Sys2Proof.Machine

open Sys2Proof

/-! ### Control registers -/

@[simp] theorem State.rget_rset_same (s : State) (r : Reg) (i j : Nat) (v : Word) : (s.rset r i j v).rget r i j = v := by
  simp [State.rget, State.rset]

theorem State.rget_rset_ne (s : State) (r q : Reg) (i j k l : Nat) (v : Word) (h : q.addr k l ≠ r.addr i j) :
    (s.rset r i j v).rget q k l = s.rget q k l := by
  simp [State.rget, State.rset, tfind_tins_ne _ _ _ _ h]

@[simp] theorem State.rset_rset (s : State) (r : Reg) (i j : Nat) (v w : Word) : (s.rset r i j v).rset r i j w = s.rset r i j w := by
  simp [State.rset]

theorem State.rget_of_regs_eq {s t : State} (e : t.regs = s.regs) (r : Reg) (i j : Nat) : t.rget r i j = s.rget r i j := by
  simp [State.rget, e]

theorem State.regsOk_rset (s : State) (r : Reg) (i j : Nat) (v : Word) (h : s.regsOk = true) : (s.rset r i j v).regsOk = true :=
  tsorted_tins _ _ _ h

/-- A register set keeps the tables in order. -/
theorem State.ok_rset (s : State) (r : Reg) (i j : Nat) (v : Word) (h : s.ok = true) : (s.rset r i j v).ok = true := by
  simp only [State.ok, Bool.and_eq_true] at h ⊢
  exact ⟨⟨h.1.1, s.regsOk_rset r i j v h.1.2⟩, h.2⟩

/-- A byte written keeps the tables in order. -/
theorem State.ok_setByte (s : State) (pa : Nat) (b : Byte) (h : s.ok = true) : (s.setByte pa b).ok = true := by
  simp only [State.ok, Bool.and_eq_true] at h ⊢
  exact ⟨⟨s.memOk_setByte pa b h.1.1, h.1.2⟩, h.2⟩

/-- What leaves memory, control registers and the module ID alone keeps the tables in order. -/
theorem State.ok_of_eq {s t : State} (m : t.mem = s.mem) (r : t.regs = s.regs) (o : t.ownModule = s.ownModule) (h : s.ok = true) :
    t.ok = true := by
  simpa [State.ok, State.memOk, State.regsOk, m, r, o] using h

/-! ### Cores -/

@[simp] theorem State.core_setCore_same (s : State) (n : Nat) (c : Core) : (s.setCore n c).core n = c := by
  simp [State.core, State.setCore]

theorem State.core_setCore_ne (s : State) (n m : Nat) (c : Core) (h : m ≠ n) : (s.setCore n c).core m = s.core m :=
  tget_tins_ne _ _ _ _ _ h

@[simp] theorem State.core_modCore_same (s : State) (n : Nat) (f : Core → Core) : (s.modCore n f).core n = f (s.core n) :=
  s.core_setCore_same _ _

theorem State.core_modCore_ne (s : State) (n m : Nat) (f : Core → Core) (h : m ≠ n) : (s.modCore n f).core m = s.core m :=
  s.core_setCore_ne _ _ _ h

theorem State.modCore_modCore (s : State) (n : Nat) (f g : Core → Core) :
    (s.modCore n f).modCore n g = s.modCore n fun c => g (f c) := by
  simp [State.modCore, State.setCore, State.core]

/-! ### Events, rejections, records -/

/-- A trace record changes the tense port's queue alone. -/
theorem State.traceRecord_spec (s : State) (w : Nat) : ∃ q, s.traceRecord w = { s with tense := q } := by
  unfold State.traceRecord; dsimp only; split <;> exact ⟨_, rfl⟩

/-- The event record of a raise changes the tense port's queue alone. -/
theorem State.traceEvent_spec (s : State) (src : Nat) : ∃ q, s.traceEvent src = { s with tense := q } := by
  unfold State.traceEvent; split
  · exact s.traceRecord_spec _
  · exact ⟨s.tense, rfl⟩

/-- A raise sets PEND of its source and counts; the tick of the first is kept, and nothing else changes but the trace (R567). -/
theorem State.raise_spec (s : State) (src : Nat) : ∃ q f,
    s.raise src = { s.rset .evStat src 0 (BitVec.ofNat 64 (2 ^ 63 + satAdd 0xFFFF (fld (s.rget .evStat src) 15 0) 1)) with tense := q, evFirst := f } ∧
      (flag (s.rget .evStat src) 63 = true → f = s.evFirst) := by
  unfold State.raise; dsimp only
  split
  · rename_i h
    obtain ⟨q, e⟩ := (s.rset .evStat src 0 (BitVec.ofNat 64 (2 ^ 63 + satAdd 0xFFFF (fld (s.rget .evStat src) 15 0) 1))).traceEvent_spec src
    exact ⟨q, s.evFirst, by rw [e]; rfl, fun _ => rfl⟩
  · rename_i h
    obtain ⟨q, e⟩ := (({ s with evFirst := tins s.evFirst src (s.rget .pwAotime).toNat } : State).rset .evStat src 0
      (BitVec.ofNat 64 (2 ^ 63 + satAdd 0xFFFF (fld (s.rget .evStat src) 15 0) 1))).traceEvent_spec src
    exact ⟨q, _, by rw [e]; rfl, fun k => absurd k h⟩

@[simp] theorem State.raise_mem (s : State) (src : Nat) : (s.raise src).mem = s.mem := by
  obtain ⟨q, f, e, -⟩ := s.raise_spec src; rw [e]; rfl

@[simp] theorem State.raise_cores (s : State) (src : Nat) : (s.raise src).cores = s.cores := by
  obtain ⟨q, f, e, -⟩ := s.raise_spec src; rw [e]; rfl

@[simp] theorem State.raise_ownModule (s : State) (src : Nat) : (s.raise src).ownModule = s.ownModule := by
  obtain ⟨q, f, e, -⟩ := s.raise_spec src; rw [e]; rfl

/-- A raise changes the control register of its source alone. -/
theorem State.raise_regs (s : State) (src : Nat) : (s.raise src).regs =
    (s.rset .evStat src 0 (BitVec.ofNat 64 (2 ^ 63 + satAdd 0xFFFF (fld (s.rget .evStat src) 15 0) 1))).regs := by
  obtain ⟨q, f, e, -⟩ := s.raise_spec src; rw [e]

/-- A raise keeps the tables in order. -/
theorem State.ok_raise (s : State) (src : Nat) (h : s.ok = true) : (s.raise src).ok = true :=
  ok_of_eq (s := s.rset .evStat src 0 _) (s.raise_mem src) (s.raise_regs src) (s.raise_ownModule src) (s.ok_rset _ _ _ _ h)

/-- A rejection: the first is recorded with its cause, address and data, a later one sets OVF; source 4 is raised (R18, R20 to R22). -/
theorem State.reject_spec (s : State) (cause addr data : Nat) :
    (flag (s.rget .mgCfgerrAddr) 63 = true →
      s.reject cause addr data = (s.rset .mgCfgerrAddr 0 0 (setFlag (s.rget .mgCfgerrAddr) 62 true)).raise 4) ∧
    (flag (s.rget .mgCfgerrAddr) 63 = false →
      s.reject cause addr data = ((s.rset .mgCfgerrAddr 0 0 (BitVec.ofNat 64 (2 ^ 63 + cause * 2 ^ 59 + addr % 2 ^ 52))).rset
        .mgCfgerrData 0 0 (BitVec.ofNat 64 data)).raise 4) := by
  refine ⟨fun h => ?_, fun h => ?_⟩ <;> simp [State.reject, h]

/-- A rejection leaves memory alone and keeps the tables in order. -/
theorem State.reject_mem (s : State) (cause addr data : Nat) : (s.reject cause addr data).mem = s.mem := by
  unfold State.reject; dsimp only; split <;> simp

theorem State.ok_reject (s : State) (cause addr data : Nat) (h : s.ok = true) : (s.reject cause addr data).ok = true := by
  unfold State.reject; dsimp only
  split
  · exact ok_raise _ _ (ok_rset _ _ _ _ _ h)
  · exact ok_raise _ _ (ok_rset _ _ _ _ _ (ok_rset _ _ _ _ _ h))

/-- A log register takes the first record and notes a later one in OVF (R22). -/
theorem State.record_spec (s : State) (r : Reg) (i j v : Nat) :
    (flag (s.rget r i j) 63 = true → s.record r i j v = s.rset r i j (setFlag (s.rget r i j) 62 true)) ∧
    (flag (s.rget r i j) 63 = false → s.record r i j v = s.rset r i j (BitVec.ofNat 64 (2 ^ 63 + v % 2 ^ 62))) := by
  refine ⟨fun h => ?_, fun h => ?_⟩ <;> simp [State.record, h]

/-! ### Registers of a core -/

@[simp] theorem Arch.rg_zero (a : Arch) : a.rg 0 = 0 := rfl

@[simp] theorem Arch.rp_zero (a : Arch) : a.rp 0 = true := rfl

/-- A write to g0 is discarded (R32). -/
@[simp] theorem Arch.write_g0 (a : Arch) (v : Wide) : a.write ⟨.g 0, v⟩ = a := rfl

/-- A write to p0 is discarded (R32). -/
@[simp] theorem Arch.write_p0 (a : Arch) (v : Wide) : a.write ⟨.p 0, v⟩ = a := rfl

theorem Arch.rg_write_same (a : Arch) (n : Nat) (v : Wide) (h : n ≠ 0) : (a.write ⟨.g n, v⟩).rg n = v.setWidth 64 := by
  simp [Arch.write, Arch.rg, h]

theorem Arch.rg_write_ne (a : Arch) (n m : Nat) (v : Wide) (h : m ≠ n) : (a.write ⟨.g n, v⟩).rg m = a.rg m := by
  by_cases k : n = 0
  · simp [Arch.write, k]
  · simp [Arch.write, Arch.rg, k, tget_tins_ne _ _ _ _ _ h]

@[simp] theorem Arch.rf_write_same (a : Arch) (n : Nat) (v : Wide) : (a.write ⟨.f n, v⟩).rf n = v := by
  simp [Arch.write, Arch.rf]

@[simp] theorem Arch.cr_setCr_same (a : Arch) (k : Nat) (v : Word) : (a.setCr k v).cr k = v := by
  simp [Arch.cr, Arch.setCr]

theorem Arch.cr_setCr_ne (a : Arch) (k l : Nat) (v : Word) (h : l ≠ k) : (a.setCr k v).cr l = a.cr l := by
  simp [Arch.cr, Arch.setCr, tfind_tins_ne _ _ _ _ h]

end Sys2Proof.Machine
end

