-- ==== Sys2Proof/Laws/Control.lean ====
section
/-! SUPPORT. Accesses to the control space: the address of a register, and what a store that is accepted does. -/

namespace Sys2Proof.Machine

open Sys2Proof

/-- The address of a register of the own module lies in the own control space (R11). -/
theorem State.ctlModule_ctlPa (s : State) (off : Nat) (m : s.ownModule < 8) (o : off < 2 ^ 32) :
    ctlModule (s.ctlPa off) = some s.ownModule := by
  unfold ctlModule State.ctlPa
  rw [if_pos (by omega)]
  congr 1
  omega

/-- The offset of such an address. -/
theorem State.ctlPa_mod (s : State) (off : Nat) (o : off < 2 ^ 32) : s.ctlPa off % 2 ^ 32 = off := by
  unfold State.ctlPa; omega

/-- A store that is accepted has the effect of its register, or is rejected with cause 1 where it is a COMMIT whose check
fails (R25). -/
theorem State.regWrite_accepted (s : State) (a : Agent) (r : Reg) (i j : Nat) (v : Word) (h : s.accepts a r i j v) :
    s.regWrite a r i j v = match s.ctlEffect a r i j v with
      | some t => t
      | none => s.reject 1 (s.ctlPa (r.addr i j)) v.toNat := by
  obtain ⟨held, own, lt, al, at', ca, dr, rv⟩ := h
  have d : v.toNat % 2 ^ (8 * min 8 8) = v.toNat := Nat.mod_eq_of_lt v.isLt
  have e : (s.ctlPa (r.addr i j)) % 8 = 0 := by unfold State.ctlPa; omega
  simp only [State.regWrite, at', if_true, State.ctlWrite, held, s.ctlModule_ctlPa _ own lt, s.ctlPa_mod _ lt, e, ca, dr, d, rv,
    BitVec.ofNat_toNat, BitVec.setWidth_eq, Bool.false_eq_true, if_false, ne_eq, not_true_eq_false, or_self]
  all_goals rfl

/-- A command that is a store has the register's effect where the store is accepted. -/
theorem stores_of {c : Instr} {s t : State} {a : Agent} {r : Reg} {i j : Nat} {v : Word}
    (h : exec c s = .next (s.regWrite a r i j v)) (e : s.ctlEffect a r i j v = some t) : Stores c s a r i j v t := by
  intro acc
  rw [h, s.regWrite_accepted _ _ _ _ _ acc, e]

/-- While MRST_N holds the module, no store takes effect (R655). -/
theorem State.ctlWrite_held (s : State) (a : Agent) (pa size v : Nat) (h : s.power.held = true) : s.ctlWrite a pa size v = s := by
  simp [State.ctlWrite, h]

end Sys2Proof.Machine
end

