-- ==== Sys2Proof/Laws/Issue.lean ====
section
/-! SUPPORT. What a step does, and what the operations at issue can do: take effect, only pass their slot, or nothing. -/

namespace Sys2Proof.Machine

open Sys2Proof

/-! ### Steps -/

/-- A step with a command at the front carries it out with the rest of the queue. -/
theorem step_cons (s : State) (c : Instr) (rest : List Instr) (h : s.pending = c :: rest) :
    step s = exec c { s with pending := rest } := by
  simp [step, h]

/-- A step on an empty queue is a tick of the always-on clock. -/
theorem step_nil (s : State) (h : s.pending = []) : step s = .next s.idle := by
  simp [step, h]

/-- A tick changes control registers at most. -/
theorem State.idle_spec (s : State) : s.idle = s ∨ ∃ v, s.idle = s.rset .pwAotime 0 0 v := by
  unfold State.idle
  split
  · exact .inl rfl
  · exact .inr ⟨_, rfl⟩

/-- A tick keeps the tables in order. -/
theorem State.ok_idle (s : State) (h : s.ok = true) : s.idle.ok = true := by
  obtain e | ⟨v, e⟩ := s.idle_spec <;> rw [e]
  · exact h
  · exact s.ok_rset _ _ _ _ h

/-! ### Operations that the registers decide -/

/-- Where an operation is next to issue and on, its result joins the flights (R33, R36). -/
theorem opReg_take (x : Slot) (w : OpWord) (lat : Nat) (f : Arch → OpRes) (s : State) (h : s.takes x w = true) :
    opReg x w lat f s = s.issue x w lat (f (s.regsOf x)) := by
  simp only [State.takes, Bool.and_eq_true, State.regsOf] at h
  simp only [opReg, h.1, if_true, State.modCore, h.2, State.issue, State.regsOf]

/-- Off, it only passes its slot (R33). -/
theorem opReg_skip (x : Slot) (w : OpWord) (lat : Nat) (f : Arch → OpRes) (s : State) (h : s.skips x w = true) :
    opReg x w lat f s = s.modCore x.core Core.issued := by
  simp only [State.skips, Bool.and_eq_true, Bool.not_eq_true', State.regsOf] at h
  simp only [opReg, h.1, if_true, State.modCore, h.2, Bool.false_eq_true, if_false]

/-- Where it is not the next to issue, the state stays. -/
theorem opReg_stay (x : Slot) (w : OpWord) (lat : Nat) (f : Arch → OpRes) (s : State) (h : s.canIssue x w = false) :
    opReg x w lat f s = s := by
  simp [opReg, h]

/-- Whatever happens, such an operation changes one core's record alone. -/
theorem opReg_spec (x : Slot) (w : OpWord) (lat : Nat) (f : Arch → OpRes) (s : State) :
    opReg x w lat f s = s ∨ ∃ c, opReg x w lat f s = s.setCore x.core c := by
  unfold opReg
  split
  · exact .inr ⟨_, rfl⟩
  · exact .inl rfl

@[simp] theorem opReg_mem (x : Slot) (w : OpWord) (lat : Nat) (f : Arch → OpRes) (s : State) : (opReg x w lat f s).mem = s.mem := by
  obtain e | ⟨c, e⟩ := opReg_spec x w lat f s <;> simp [e]

/-! ### Operations that act on the whole state -/

/-- Where it is next to issue and on, the operation acts. -/
theorem opAct_take (x : Slot) (w : OpWord) (f : State → State) (s : State) (h : s.takes x w = true) : opAct x w f s = f s := by
  simp only [State.takes, Bool.and_eq_true, State.regsOf] at h
  simp only [opAct, h.1, if_true, h.2]

/-- Off, it only passes its slot (R33). -/
theorem opAct_skip (x : Slot) (w : OpWord) (f : State → State) (s : State) (h : s.skips x w = true) :
    opAct x w f s = s.modCore x.core Core.issued := by
  simp only [State.skips, Bool.and_eq_true, Bool.not_eq_true', State.regsOf] at h
  simp [opAct, h.1, h.2]

/-- Where it is not the next to issue, the state stays. -/
theorem opAct_stay (x : Slot) (w : OpWord) (f : State → State) (s : State) (h : s.canIssue x w = false) : opAct x w f s = s := by
  simp [opAct, h]

/-- Such an operation keeps whatever its action keeps and the passing of a slot keeps. -/
theorem opAct_keeps {P : State → Prop} (x : Slot) (w : OpWord) (f : State → State) (s : State) (h : P s)
    (act : P (f s)) (pass : P (s.modCore x.core Core.issued)) : P (opAct x w f s) := by
  unfold opAct
  split
  · split
    · exact act
    · exact pass
  · exact h

/-- The result of an operation of this shape, from the function of the registers that gives it. -/
theorem issues_of {i : Instr} {x : Slot} {s : State} {lat : Nat} {r : OpRes} (f : Arch → OpRes)
    (h : exec i s = .next (opReg x (encode i) lat f s)) (e : f (s.regsOf x) = r) : Issues i x s lat r := by
  intro ht
  rw [h, opReg_take _ _ _ _ _ ht, e]

/-- The next state of an operation that acts. -/
theorem exec_takes {i : Instr} {s t : State} {f : State → State} (x : Slot) (hi : exec i s = .next (opAct x (encode i) f s))
    (ht : s.takes x (encode i) = true) (h : f s = t) : exec i s = .next t := by
  rw [hi, opAct_take _ _ _ _ ht, h]

end Sys2Proof.Machine
end

