-- ==== Sys2Proof/Tests/Slice0.lean ====
section
/-! SUPPORT. Tests: ill-formed commands that the checks refuse, words decoded by hand, and a state that meets the hypotheses of each statement. -/

-- One proof after another: hundreds of elaboration threads at once would not fit the memory the check allows.
set_option Elab.async false

namespace Sys2Proof.Machine

open Sys2Proof

/-! ### Helpers -/

/-- The module out of reset with fold 0 awake, 256 MiB of memory and core 0 RUNNING by itself at P2. -/
def tRun : State :=
  { (((State.reset.rput .pwFold 0 0 63 61 0).rput .mcCfg 0 0 13 0 1).setLstate 0 0) with power := { State.reset.power with held := false } }

/-- Core 0 of a state with a bundle of four words `w`, whose next slot to issue is `slot`. -/
def State.tAt (s : State) (slot : Nat) (w : OpWord) : State :=
  s.modCore 0 fun c => { c with bundle := some { Bundle.none with words := List.replicate 4 w, next := slot } }

/-- An operation command of core 0 next to issue. -/
def State.tOp (s : State) (i : Instr) : State := s.tAt ((placeOf i).elim 4 Slot.slot) (encode i)

/-- Core 0 at a level, with the stack pointer and the stack bounds of that level. -/
def State.tLevel (s : State) (pl sp hi : Nat) : State :=
  s.modCore 0 fun c =>
    let a := (c.arch.setCr 0 (BitVec.ofNat 64 (pl * 2 ^ 22))).setCr (spKey pl) (BitVec.ofNat 64 sp)
    { c with arch := a.setCr (bankKey pl 7) (BitVec.ofNat 64 hi) }

/-- Pair 0 of fold 0 in paired mode: core 0 the bellwether, core 1 the shadow. -/
def tPair : State := tRun.rput .pxCfg 0 0 19 19 1

/-- The manager, and the agent of partition 5 in entry 1. -/
def tMgr : Agent := { part := 0, res := 0 }

/-- An access that meets no error. -/
def tNo : Chance := ⟨.none, .none⟩

/-- Whether a data access translates to one half of a kind of target. -/
def oneHalf (r : DRes) (t : Tgt) : Bool :=
  match r with
  | .ok [h] _ _ => h.tgt == t
  | _ => false

/-- Whether a store is accepted, as a computation. -/
def acceptsB (s : State) (a : Agent) (r : Reg) (i j : Nat) (v : Word) : Bool :=
  !s.power.held && decide (s.ownModule < 8) && decide (r.addr i j < 2 ^ 32) && decide (r.addr i j % 8 = 0)
    && decide (regAt (r.addr i j) = some (r, i, j))
    && (match s.ctlAt a (r.addr i j) with
      | .reg r' i' j' => decide (r' = r ∧ i' = i ∧ j' = j)
      | _ => false) && !r.place.drafted && !r.reservedWrite i v.toNat

/-- The computation decides acceptance. -/
theorem accepts_of {s : State} {a : Agent} {r : Reg} {i j : Nat} {v : Word} (h : acceptsB s a r i j v = true) : s.accepts a r i j v := by
  simp only [acceptsB, Bool.and_eq_true, decide_eq_true_eq, Bool.not_eq_true'] at h
  obtain ⟨⟨⟨⟨⟨⟨⟨h1, h2⟩, h3⟩, h4⟩, h5⟩, h6⟩, h7⟩, h8⟩ := h
  refine ⟨h1, h2, h3, h4, h5, ?_, h7, h8⟩
  split at h6
  · simp only [decide_eq_true_eq] at h6; obtain ⟨rfl, rfl, rfl⟩ := h6; assumption
  · cases h6

/-! ### Well-formed commands: each check refuses an ill-formed term -/

theorem test_wf_accepts : ([.add ⟨0, 0, 0⟩ 1 2 3, .lds ⟨215, 2, 1⟩ 1 2 1 0 4 ⟨.none, .none⟩, .fadd ⟨5, 3, 0⟩ 1 2 3 2, .strikeDrainTick 16 1, .railExcursion 8 true false,
    .temperatureSample (List.replicate 44 100), .registerWrite tMgr (2 ^ 52 - 1) 8 0] : List Instr).all Instr.wf = true := by decide
theorem test_wf_core : Instr.wf (.add ⟨216, 0, 0⟩ 1 2 3) = false := by decide
theorem test_wf_slot : Instr.wf (.add ⟨0, 4, 0⟩ 1 2 3) = false := by decide
theorem test_wf_reserved : Instr.wf (.fadd ⟨0, 0, 0⟩ 1 2 3 2) = false := by decide
theorem test_wf_agent : Instr.wf (.ftCtest ⟨2048, 0⟩ 0) = false ∧ Instr.wf (.ftCtest ⟨0, 257⟩ 0) = false := by decide
theorem test_wf_address : Instr.wf (.registerWrite tMgr (2 ^ 52) 8 0) = false := by decide
theorem test_wf_header : ([⟨4096, 0, 0, 1, false, 0, 0⟩, ⟨0, 0, 8, 0, false, 0, 0⟩, ⟨0, 0, 0, 8, false, 0, 0⟩, ⟨0, 0, 0, 0, false, 0, 2 ^ 52⟩] : List Hdr).all
    (fun h => Instr.wf (.evc 0 h) == false) = true := by decide
theorem test_wf_device : Instr.wf (.deviceMemoryRequest 0 ⟨0, .memory, false, 0, 0, 0, false⟩ .none) = false := by decide
theorem test_wf_snapshot : Instr.wf (.rollbackComplete 0 (some 2048)) = false := by decide
theorem test_wf_ranges : ([.bundleFetch 216 ⟨.none, .none⟩, .fcCommit tMgr 24 0, .tcCommit tMgr 4 0, .stallDetect 0 4, .wayWalkComplete 28, .penStopped 65536, .run 8192 0 0 .none,
    .hello 128 ⟨0, false, 0, 0, 0, 0⟩, .cipherJobComplete 0 16, .stintOpportunity 192 [], .evStatClear tMgr 2048 0, .temperatureSample (List.replicate 36 0), .thermalCapStep 36,
    .link 0 false false 0 [], .fmCopy 8192, .ftCntClear tMgr 17 0 0, .railExcursion 9 true true, .tamperTrip 4] : List Instr).all
    (fun i => i.wf == false) = true := by decide

/-! ### Operation words, written out from R75, R77 and the tables of each major -/

theorem test_word_syscall : decodeOp 0 0 tNo 0b000_00001_000000000000000101_000001#32 = some (.syscall ⟨0, 0, 0⟩ 5) := by decide
theorem test_word_crd : decodeOp 0 0 tNo 0b000_00001_000111_00000011_0000_001000#32 = some (.crd ⟨0, 0, 0⟩ 7 3) := by decide
theorem test_word_twait : decodeOp 0 0 tNo 0b101_00001_000111_0000_1001_0000_001011#32 = some (.twait ⟨0, 0, 5⟩ 7 9) := by decide
theorem test_word_repn : decodeOp 0 0 tNo 0b000_00010_1_0000000000000000_1000000#32 = some (.repn ⟨0, 0, 0⟩ 64) := by decide
theorem test_word_repn_65 : decodeOp 0 0 tNo 0b000_00010_1_0000000000000000_1000001#32 = none := by decide
theorem test_word_bf : decodeOp 0 0 tNo 0b000_00011_010_0_11111111111111111111#32 = some (.bf ⟨0, 0, 0⟩ 2 0xFFFFF) := by decide
theorem test_word_bt : decodeOp 0 0 tNo 0b000_00011_010_1_00000000000000000011#32 = some (.bt ⟨0, 0, 0⟩ 2 3) := by decide
theorem test_word_call : decodeOp 0 0 tNo 0b000_00100_000000000000000000000010#32 = some (.call ⟨0, 0, 0⟩ 2) := by decide
theorem test_word_calli : decodeOp 0 0 tNo 0b000_00101_000000_000101_00000000_0001#32 = some (.calli ⟨0, 0, 0⟩ 5) := by decide
theorem test_word_ret : decodeOp 0 0 tNo 0b000_00101_000000_000000_00000000_0010#32 = some (.ret ⟨0, 0, 0⟩) := by decide
theorem test_word_sub : decodeOp 0 1 tNo 0b001_00110_000011_000010_000001_000001#32 = some (.sub ⟨0, 1, 1⟩ 3 2 1) := by decide
theorem test_word_sari : decodeOp 0 3 tNo 0b000_01001_000011_000010_10_0000_111111#32 = some (.sari ⟨0, 3, 0⟩ 3 2 63) := by decide
theorem test_word_pandn : decodeOp 0 0 tNo 0b000_01010_100_000_000011_000010_010011#32 = some (.pandn ⟨0, 0, 0⟩ 4 3 2) := by decide
theorem test_word_cmpi : decodeOp 0 0 tNo 0b000_01011_100_111_000011_100000000000#32 = some (.cmpiGeu ⟨0, 0, 0⟩ 4 3 0x800) := by decide
theorem test_word_movk : decodeOp 0 0 tNo 0b000_01101_000011_10_1010101111001101#32 = some (.movk ⟨0, 0, 0⟩ 3 2 0xABCD) := by decide
theorem test_word_spadd : decodeOp 0 0 tNo 0b000_01110_00000000_1111111111111111#32 = some (.spadd ⟨0, 0, 0⟩ 0xFFFF) := by decide
theorem test_word_dfin : decodeOp 0 1 tNo 0b000_01111_000001_000010_000011_001011#32 = some (.dfin ⟨0, 1, 0⟩ 1 2 3) := by decide
theorem test_word_dfin_same : decodeOp 0 1 tNo 0b000_01111_000001_000001_000011_001011#32 = none := by decide
theorem test_word_ld : decodeOp 0 2 tNo 0b000_10000_000001_000000_011_0_11111110#32 = some (.ld ⟨0, 2, 0⟩ 1 0 3 0 0xFE tNo) := by decide
theorem test_word_st : decodeOp 0 2 tNo 0b000_10010_000001_000010_000_1_00000001#32 = some (.st ⟨0, 2, 0⟩ 1 2 0 1 1) := by decide
theorem test_word_ldf : decodeOp 0 2 tNo 0b000_10011_011111_000010_100_0_00000000#32 = some (.ldf ⟨0, 2, 0⟩ 31 2 4 0 0 tNo) := by decide
theorem test_word_cas : decodeOp 0 2 tNo 0b000_10101_000001_000010_000011_11_0010#32 = some (.cas ⟨0, 2, 0⟩ 1 2 3 3) := by decide
theorem test_word_strel : decodeOp 0 2 tNo 0b000_10110_000001_000010_001_00000_0000#32 = some (.strel ⟨0, 2, 0⟩ 1 2 1) := by decide
theorem test_word_dzl : decodeOp 0 2 tNo 0b000_10110_000000_000010_000_00000_0101#32 = some (.dzl ⟨0, 2, 0⟩ 2) := by decide
theorem test_word_submit : decodeOp 0 2 tNo 0b000_10111_000001_000010_1111_00000000#32 = some (.submit ⟨0, 2, 0⟩ 1 2 15) := by decide
theorem test_word_fcvt : decodeOp 0 3 tNo 0b000_11000_00001_00010_00011_00_0_001000#32 = some (.fcvt ⟨0, 3, 0⟩ 1 2 3 0) := by decide
theorem test_word_fnma : decodeOp 0 3 tNo 0b000_11001_00001_00010_00011_00100_01_10#32 = some (.fnma ⟨0, 3, 0⟩ 1 2 3 4 1) := by decide
theorem test_word_gmvfh : decodeOp 0 3 tNo 0b000_11010_000001_00010_00_0000000_0011#32 = some (.gmvfh ⟨0, 3, 0⟩ 1 2) := by decide
theorem test_word_fcmp : decodeOp 0 3 tNo 0b000_11011_001_0_11_00010_00011_0000_0110#32 = some (.fcmpEqs ⟨0, 3, 0⟩ 1 2 3 3) := by decide
theorem test_word_tllg : decodeOp 0 3 tNo 0b000_11100_00001_00010_00011_0000000_10#32 = some (.tllg ⟨0, 3, 0⟩ 1 2 3 tNo) := by decide
theorem test_word_xdstep : decodeOp 0 1 tNo 0b000_11101_00001_00010_00011_10_000_1001#32 = some (.xdstep ⟨0, 1, 0⟩ 1 2 3 2) := by decide
theorem test_word_slot : decodeOp 0 2 tNo 0b000_00110_000011_000010_000001_000001#32 = none := by decide
theorem test_word_reserved : [0#32, 0b000_11110_000000000000000000000000#32, 0b000_11111_000000000000000000000000#32].all
    (fun w => (List.range 4).all fun k => (decodeOp 0 k tNo w).isNone) = true := by decide

/-! ### States that meet the hypotheses of the statements: operations (01 to 04) -/

theorem test_meets_idle : tRun.pending = [] ∧ tRun.power.held = false ∧ State.reset.pending = [] ∧ State.reset.power.held = true := by decide
theorem test_meets_memory : (setBytes tRun 0xFFF [1, 0, 2]).memOk = true ∧ (setBytes tRun 0xFFF [1, 0, 2]).byte 0x1000 = 0 ∧ (0 : Nat) < [1, 0, 2].length := by decide
theorem test_meets_round_trip : placeOf (.cwr ⟨0, 0, 0⟩ 9 5) = some ⟨0, 0, 0⟩ ∧ Instr.wf (.cwr ⟨0, 0, 0⟩ 9 5) = true ∧ Instr.wf (.cwr ⟨0, 0, 0⟩ 3 5) = true := by decide

/-- An operation of each family of the integer unit, the floating unit and the system majors, at P2. -/
def tOps : List Instr :=
  let x : Nat → Slot := fun k => ⟨0, k, 0⟩
  [.nop (x 3), .syscall (x 0) 5, .mgrcall (x 0) 5, .iret (x 0), .fenceS (x 0), .fenceF (x 0), .gath (x 0), .wfe (x 0), .crd (x 0) 1 0x0A, .crd (x 0) 1 8, .cwr (x 0) 0x8B 1, .cwr (x 0) 1 1,
   .cctlWrite (x 0) 1, .trd (x 0) 1 2, .twait (x 0) 1 2, .repi (x 0) 3, .repn (x 0) 64, .bt (x 0) 1 1, .bf (x 0) 1 1, .call (x 0) 1, .bri (x 0) 1, .calli (x 0) 1, .ret (x 0),
   .add (x 3) 0 1 2, .addi (x 1) 0 1 2, .cmpLt (x 0) 1 2 3, .pand (x 0) 1 2 3, .cmpiLt (x 0) 1 2 3, .mul (x 1) 1 2 3, .dfin (x 1) 1 2 3, .ld (x 2) 1 0 3 0 0 tNo, .st (x 2) 1 0 3 0 0,
   .swap (x 2) 1 2 3 3, .strel (x 2) 1 2 3, .dci (x 2) 1, .dcia (x 2), .submit (x 2) 1 2 3, .fadd (x 3) 1 2 3 1, .fcvt (x 3) 1 2 0 1, .fma (x 3) 1 2 3 4 0, .fmvg (x 3) 1 2,
   .fcmpEq (x 3) 1 2 3 1, .tlfl (x 3) 1 2 3 tNo, .fdivP (x 1) 1 2 3 1, .xdfin (x 1) 1 2 3 2]

theorem test_meets_takes : tOps.all (fun i => i.wf && (tRun.tOp i).takes ((placeOf i).getD ⟨0, 0, 0⟩) (encode i)) = true := by decide
theorem test_meets_skips : (tRun.tOp (.add ⟨0, 0, 7⟩ 1 2 3)).skips ⟨0, 0, 7⟩ (encode (.add ⟨0, 0, 7⟩ 1 2 3)) = true := by decide
theorem test_meets_bundle : ((tRun.tOp (.nop ⟨0, 3, 0⟩)).core 0).bundle.isSome = true := by decide
theorem test_meets_division : (divCount false 7 2).toNat ≤ (divCount false 7 2).toNat ∧ (divCount true 0x8000000000000000 0xFFFFFFFFFFFFFFFF).toNat ≤ (32 : Word).toNat := by decide
theorem test_meets_level0 : ((tRun.tLevel 0 0x1000 0x1000).regsOf ⟨0, 0, 0⟩).pl = 0 ∧
    ((tRun.tLevel 0 0x1000 0x1000).tOp (.wfe ⟨0, 0, 0⟩)).takes ⟨0, 0, 0⟩ (encode (.wfe ⟨0, 0, 0⟩)) = true := by decide

theorem test_meets_call_fails : (((tRun.tLevel 2 0x1000 0xFFF).regsOf ⟨0, 0, 0⟩)).stackOk 2 0xFF8 8 = false := by decide
theorem test_meets_call :
    let s := tRun.tLevel 2 0x1000 0x1000
    (s.regsOf ⟨0, 0, 0⟩).stackOk 2 0xFF8 8 = true ∧ s.part 0 ≠ .shadow ∧ oneHalf (s.dataXlate 0 2 0xFF8 8 .store false 0) .cache = true ∧
      ((s.core 0).mergeAll [(⟨0xFF8, 0xFF8, 8, .cache⟩, toBytes 8 16)]).isSome = true := by decide
theorem test_meets_ret :
    let s := tRun.tLevel 2 0xFF8 0x1000
    (s.regsOf ⟨0, 0, 0⟩).stackOk 2 0xFF8 8 = true ∧ oneHalf (s.dataXlate 0 2 0xFF8 8 .load false 0) .cache = true ∧ s.lvFull 0 1 = false ∧
      s.stackOverlap 0 [⟨0xFF8, 0xFF8, 8, .cache⟩] = false ∧ (s.stackRead 0 2 [⟨0xFF8, 0xFF8, 8, .cache⟩]).2.toOption = some (List.replicate 8 0) := by decide +kernel
theorem test_meets_iret :
    let s := tRun.tLevel 2 0xFC0 0x1000
    (s.core 0).allReady = true ∧ ((s.drain 0).core 0).arch.stackOk 2 0xFC0 64 = true ∧ oneHalf (s.dataXlate 0 2 0xFC0 64 .load false 0) .cache = true ∧
      (s.stackRead 0 2 [⟨0xFC0, 0xFC0, 64, .cache⟩]).2.toOption = some (List.replicate 64 0) := by decide +kernel
theorem test_meets_frame : fld (lget 0 [0, 0, 0x800000#64] 2) 23 22 = 2 ∧ fld (lget 0 [0, 0, 0x1400#64] 2) 12 10 = 5 ∧ fld (lget 0 [0, 0, 0x1000#64] 2) 12 10 = 4 ∧
    flag (lget 0 [0, 0, 0, 0, 0x8000000000000001#64] 4) 63 = true ∧ fld (lget 0 [0, 0, 0, 0, 0x8000000000000001#64] 4) 15 0 = 1 := by decide
theorem test_meets_cregs : cregPriv true 0 2 = true ∧ cregPriv false 2 0x0A = false ∧ cregPriv true 2 0x8B = false ∧ cregPriv true 2 1 = false ∧ cregPriv true 1 9 = true ∧
    cregPriv true 2 9 = false ∧ tRun.lvFull 0 1 = false ∧ tRun.part 0 ≠ .shadow ∧ fld (0x1400 : Word) 12 10 = 5 ∧ fld (0x1000 : Word) 12 10 = 4 := by decide

/-! ### Memory operations (04) -/

theorem test_meets_load_faults :
    let s := (tRun.tLevel 2 0x1000 0x1007).tOp (.ld ⟨0, 2, 0⟩ 1 0 3 0 0 tNo)
    (s.regsOf ⟨0, 2, 0⟩).stackOk 2 ((s.regsOf ⟨0, 2, 0⟩).vaOf 0 0 8) 8 = false ∧ (match s.dataXlate 0 2 (2 ^ 52) 8 .load false 0 with
      | .fault _ => true
      | _ => false) = true := by decide
theorem test_meets_load_kinds :
    let s := tRun
    oneHalf (s.dataXlate 0 2 0x3FFF0000000 8 .load true 0) .own = true ∧ oneHalf (s.dataXlate 0 2 0x100 8 .load false 0) .cache = true ∧
      oneHalf (s.dataXlate 0 2 0x3FFF1000000 8 .load false 0) .io = true ∧ oneHalf (s.dataXlate 0 2 0xF000005000000 8 .load false 0) .io = true ∧ s.lvFull 0 1 = false ∧
      (s.boundaryCore 0).forward 0x100 8 = .none := by decide

/-- Core 0 with a line of memory in its enabled L1D. -/
def tL1 : State := tRun.modCore 0 fun c => { c with l1d := [(0, { line := 4, data := 0x80FF })], arch := c.arch.setCr 9 2 }

theorem test_meets_load_hit : (tL1.boundaryCore 0).den = true ∧ tL1.unbacked 0x100 = none ∧ oneHalf (tL1.dataXlate 0 2 0x100 2 .load false 0) .cache = true ∧
    ((tL1.boundaryCore 0).l1d.find? fun v => v.2.line == 0x100 / 64).isSome = true ∧ (tL1.boundaryCore 0).forward 0x100 2 = .none ∧
    lineBytes 0x80FF 0 2 = [0xFF, 0x80] := by decide +kernel
theorem test_meets_store : oneHalf (tRun.dataXlate 0 2 0x100 8 .store false 0) .cache = true ∧ oneHalf (tRun.dataXlate 0 2 0x3FFF0000000 8 .store true 0) .own = true ∧
    ((tRun.core 0).mergeAll [(⟨0x100, 0x100, 8, .cache⟩, toBytes 8 5)]).isSome = true := by decide

/-- A merging buffer of sixteen entries, every one of another line. -/
def tFull : State := tRun.modCore 0 fun c =>
  { c with merge := (List.range 16).map fun i => { line := 100 + i, epoch := 0, data := 0, mask := 1, closed := none, age := 0 } }

theorem test_meets_store_full : ((tFull.core 0).mergeAll [(⟨0x100, 0x100, 8, .cache⟩, toBytes 8 5)]) = none := by decide
theorem test_meets_atomic : (0x101 : Nat) % 8 ≠ 0 ∧ (0x100 : Nat) % 8 = 0 ∧ oneHalf (tRun.dataXlate 0 2 0x100 8 .atomic false 0) .cache = true := by decide
theorem test_meets_line : oneHalf (tRun.halfXlate 0 2 .maint false 0 (0x100, 1)) .cache = true ∧ oneHalf (tRun.halfXlate 0 2 .dzl false 0 (0x100, 1)) .cache = true := by decide
theorem test_meets_submit : (tRun.core 0).tallyBusy 3 = false ∧ oneHalf (tRun.dataXlate 0 2 0x100 8 .hdr false 0) .cache = true ∧
    ((tRun.modCore 0 fun c => { c with arch := c.arch.write ⟨.tally 3, tallyPending.setWidth 128⟩ }).core 0).tallyBusy 3 = true := by decide

/-- A descriptor of a table of two knots in the own scratchpad, and one that extends past its end. -/
def tDesc (a : Nat) : Wide := BitVec.ofNat 128 (2 * 2 ^ 104 + a)

theorem test_meets_table : descBad .flat (tDesc 8) = true ∧ descBad .flat (tDesc 0x3FFF0000000) = false ∧ tRun.inOnePage 0 2 0x3FFF0000000 32 = true ∧
    tRun.tgt 0 0x3FFF0000000 0 = .own ∧ tRun.tgt 0 0x3FFF000001F 0 = .own ∧ tRun.inKeep 0x3FFF0000000 = false ∧ tRun.tgt 0 0x100 0 ≠ .own ∧
    (match tRun.translate 0 2 0x3FFF0000000 .load with
      | .ok pa attr tlb hur => decide (pa = 0x3FFF0000000) && (tRun.keep 0 tlb hur).lvFull 0 4 == false && attr == 0
      | _ => false) = true := by decide

/-- The shadow of pair 0 with a load next to issue and an entry at the head of its queue. -/
def tShadow (e : LvEntry) : State :=
  (tPair.modPair 0 fun p => { p with lvq := [e] }).modCore 1 fun c =>
    { c with bundle := some { Bundle.none with words := List.replicate 4 (encode (.ld ⟨1, 2, 0⟩ 1 2 3 0 0 tNo)), next := 2 } }

theorem test_meets_shadow : let s := tShadow ⟨0, 2, .load, 3, some 7, false, false⟩
    s.part 1 = .shadow ∧ s.takes ⟨1, 2, 0⟩ (encode (.ld ⟨1, 2, 0⟩ 1 2 3 0 0 tNo)) = true ∧ s.shadowLoadHeld 1 = false ∧
      s.lvHead 1 0 2 .load = .taken ⟨0, 2, .load, 3, some 7, false, false⟩ := by decide
theorem test_meets_shadow_wait : (tShadow ⟨0, 2, .load, 3, none, false, false⟩).lvHead 1 0 2 .load = .wait ∧ (tShadow ⟨1, 2, .load, 3, some 7, false, false⟩).lvHead 1 0 2 .load = .wrong ∧
    (tShadow ⟨0, 2, .load, 3, none, false, false⟩).shadowLoadHeld 1 = false := by decide

/-! ### Cycles, boundaries and entries (01, 13) -/

/-- The word of a NOP. -/
def tNop : OpWord := 0b000_00001_000000000000000000_000000#32

/-- Core 0 with its L1I enabled and holding four NOPs at PC. -/
def tFetch : State :=
  let d := BitVec.ofNat 512 (ofBytes ((List.replicate 16 tNop).flatMap fun w => toBytes 4 w.toNat))
  tRun.modCore 0 fun c => { c with l1i := [(0, { line := 0, data := d })], arch := c.arch.setCr 9 1 }

theorem test_meets_fetch : tFetch.live 0 = true ∧ tFetch.part 0 = .single ∧ (tFetch.core 0).bundle = none ∧ (tFetch.core 0).excDue = false ∧ (tFetch.core 0).gdue = none ∧
    (tFetch.core 0).applicable = [] ∧ (tFetch.core 0).fbuf = none ∧ (tFetch.core 0).ien = true ∧ tFetch.translate 0 2 0 .fetch = .ok 0 0 [] [] ∧
    (tFetch.keep 0 [] []).mainMem 0 = true ∧ ctlModule 0 = none ∧ (((tFetch.keep 0 [] []).core 0).l1i.find? fun x => x.2.line == 0).isSome = true := by decide
theorem test_meets_begin : (tRun.core 0).arch.rcount = 0 ∧ firstSlot opReserved 0 (List.replicate 4 tNop) = none ∧ (tRun.core 0).arch.waitsFor (List.replicate 4 tNop) = none := by decide
theorem test_meets_land : (tRun.tAt 4 tNop).live 0 = true ∧ ((tRun.tAt 4 tNop).core 0).allReady = true ∧ ((tRun.tAt 4 tNop).core 0).bundle.isSome = true ∧
    (∀ f ∈ ((tRun.tAt 4 tNop).core 0).flights, f.due ≠ 0) := by decide
theorem test_meets_advance : (1 : Nat) < ({ Arch.reset with rcount := 2 } : Arch).rcount ∧ ({ Arch.reset with rcount := 1 } : Arch).rcount ≤ 1 ∧ Bundle.none.rep = none ∧ Bundle.none.iret = none := by decide

/-- A load in flight whose bytes have not arrived, or have. -/
def tLoad (d : Option (List Byte)) : Flight :=
  { Core.reset.flight ⟨0, 2, 0⟩ 0 3 nores with ready := false, due := 0, need := some { segs := [{ pa := 0x100, len := 1, data := d, poison := false }], signed := false, dest := .g 1 } }

theorem test_meets_flights : (tLoad none).lvq = false ∧ (tLoad none).mcheck = none ∧ (tLoad none).trap = none ∧ (tLoad none).cwr = none ∧ (tLoad none).act = none ∧ (tLoad none).held = false ∧
    (tLoad none).ready = false ∧ ((tLoad (some [7])).need.map Need.arrived) = some true ∧ ((tLoad none).need.map Need.arrived) = some false := by decide
theorem test_meets_freeze : let s := tRun.modCore 0 fun c => { c with freeze := some .data, flights := [tLoad none], denDrain := some 0 }
    (s.core 0).freeze = some .data ∧ (s.core 0).flights = [tLoad none] ∧ (tLoad none).due = (s.core 0).cyc ∧ (s.core 0).denDrain = some 0 ∧ (s.core 0).merge = [] := by decide

/-- Core 0 with a stack at P2, events enabled, and event 10 pending for it at P2. -/
def tEvent : State :=
  (((tRun.tLevel 2 0x1000 0x1000).modCore 0 fun c => { c with arch := c.arch.setCr 0 0xA00000 }).rset .evRoute 10 0 (BitVec.ofNat 64 (3 * 2 ^ 62 + 2 ^ 56))).raise 10

/-- Whether an entry is taken. -/
def isTaken (e : Entry) : Bool :=
  match e with
  | .taken _ => true
  | _ => false

theorem test_meets_boundary : tEvent.live 0 = true ∧ tEvent.part 0 = .single ∧ (tEvent.core 0).bundle = none ∧ (tEvent.core 0).applicable = [] ∧
    isTaken ((tEvent.drain 0).enter 0 1 { vector := 1, detail := 0, info := 0 } false false) = true ∧
    isTaken (((tEvent.drain 0).settleTraps 0 none).enter 0 1 { vector := 0x0A, detail := 0, info := 0 } false false) = true := by decide
theorem test_meets_frame_push : (match tEvent.pushFrame 0 2 ((tEvent.core 0).arch.frame 0 0) with
    | .done _ => true
    | _ => false) = true := by decide
theorem test_meets_event : tEvent.atBoundary 0 = true ∧ (tEvent.core 0).takesEvents = true ∧ tEvent.evChoose (tEvent.logical 0) 2 = some 10 ∧ tEvent.evLevel 10 = 2 ∧
    tRun.evLevel 10 = 1 ∧ isTaken ((tEvent.drain 0).enter 0 2 { vector := 0x10, detail := 0, info := 10 } false false) = true ∧ tEvent.anyPresented 0 = true ∧
    tEvent.lstate (tEvent.logical 0) = 0 ∧ tEvent.foldRuns (foldOf 0) = true := by decide
theorem test_meets_completion : let s := tRun.modCore 0 fun c => { c with arrived := [(3, 7)], gated := true, arch := c.arch.write ⟨.tally 3, tallyPending.setWidth 128⟩ }
    s.atBoundary 0 = false ∧ (s.modCore 0 fun c => { c with gated := false }).atBoundary 0 = true ∧ (s.core 0).arch.rt 3 = tallyPending ∧ (s.core 0).arrived ≠ [] := by decide

/-! ### Store path, gathers and held accesses (04, 06) -/

/-- A merging entry of line 4. -/
def tMerge (closed : Option Nat) : MEntry := { line := 4, epoch := 0, data := 5, mask := 1, closed := closed, age := 0 }

theorem test_meets_merge : let s := tRun.modCore 0 fun c => { c with merge := [tMerge none, tMerge (some 0)], cyc := 16 }
    (s.core 0).merge[0]? = some (tMerge none) ∧ (tMerge none).age + 16 ≤ (s.core 0).cyc ∧ oldestClosed (s.core 0).merge = some (tMerge (some 0)) ∧
      (s.core 0).held.length + (s.core 0).rel.length < s.heldSize 0 ∧ s.power.trip = false ∧ (s.core 0).freeze = none := by decide +kernel

/-- A mark of pair 0. -/
def tMark (sig : Word) : Mark := { cause := .interval, num := 0, interval := 0, closes := 0, sig := sig, due := Due.none, ev := [0, 0, 0] }

theorem test_meets_mark : let s := tRun.modCore 0 fun c => { c with gdue := some .gath }
    s.lstate (s.logical 0) = 0 ∧ s.part 0 = .single ∧ (s.core 0).mark = none ∧ (s.core 0).rel = [] ∧ (s.core 0).hnext = [] ∧ (s.core 0).merge = [] ∧ (s.core 0).excDue = false ∧
      s.coresOf (s.logical 0) = [0] := by decide
theorem test_meets_confirm : let s := (tPair.modCore 0 fun c => { c with mark := some (tMark 1) }).modCore 1 fun c => { c with mark := some (tMark 2) }
    s.lstate (s.logical 0) = 0 ∧ s.part 0 = .bell ∧ s.coresOf (s.logical 0) = [0, 1] ∧ (s.core 0).mark = some (tMark 1) ∧ (s.core 1).mark = some (tMark 2) ∧
      (tMark 2).num = (tMark 1).num ∧ (tMark 2).sig ≠ (tMark 1).sig := by decide
theorem test_meets_release : let s := tRun.modCore 0 fun c => { c with waitRel := some .fence }
    (s.core 0).waitRel = some .fence ∧ GCause.fence ≠ .stop ∧ (s.core 0).rel = [] ∧ (s.core 0).mark = none ∧ (s.seq (s.logical 0)).cmds = [] := by decide

/-- A held access of core 0 at an address. -/
def tHeld (k : HKind) (pa : Nat) (ph : HPhase) : HeldAcc := { heldOf k [⟨pa, pa, 8, .uncached⟩] pa 8 5 2 false 1 with phase := ph }

theorem test_meets_perform : ctlModule (tHeld (.load false) 0xF000001000010 .checked).pa = some 0 ∧ tRun.mainMem (tHeld .swap 0x100 .checked).pa = true ∧ tRun.fcState 0 = 0 ∧
    tRun.cohLine 4 = (0, false) ∧ (tHeld .store 0x100 .checked).halves = [(0x100, 8)] ∧ tRun.unbacked (2 ^ 42) = some 1 ∧ tRun.unbacked (2 ^ 28) = some 2 ∧ tRun.unbacked (2 ^ 45) = some 0 ∧
    tRun.mainMem (2 ^ 28 - 8) = true := by decide +kernel
theorem test_meets_atomic_values : (tHeld .swap 0x100 .checked).kind = .swap ∧ (tHeld (.cas 7) 0x100 .checked).kind = .cas 7 ∧ (5 : Nat) ≠ 7 := by decide
theorem test_meets_home : lineHome (0x100 / 64) = tRun.ownModule ∧ (tHeld (.load false) 0x100 .atHome).left = [] ∧ (tHeld (.load false) 0x100 .atHome).mcheck = none ∧
    ((tRun.cset 0 4 0 { line := 4, st := .m, data := 9, cls := 0, hit := false, poison := false }).dirtyCopy 4) = some (9, false) := by decide +kernel
theorem test_meets_response : (HKind.load false).valued = true ∧ (tHeld (.load false) 0x100 .done).phase = .done ∧
    ({ tLoad none with held := true } : Flight).num = (tHeld (.load false) 0x100 .done).num ∧ (tRun.core 0).cyc ≤ (tLoad none).due := by decide

/-! ### Pairs and caches (05, 06) -/

theorem test_meets_stall : let s := tPair.modCore 0 fun c => { c with bnum := 5 }
    s.paired 0 = true ∧ s.degraded 0 = false ∧ s.lstate 0 = 0 ∧ 0 < s.lagOf 0 := by decide
theorem test_meets_checker : tRun.part 214 ≠ .idle ∧ tRun.part 0 ≠ .idle ∧ tRun.lstate (tRun.logical 0) = 0 := by decide
theorem test_meets_rollback : let s := tRun.setLstate 0 1
    s.lstate 0 = 1 ∧ s.paired 0 = false ∧ (s.pair 0).struck = false ∧ s.coresOf 0 = [0] ∧ (s.core 0).errs ≤ 1 ∧ (s.core 0).events = [] ∧ (s.seq 0).cmds = [] := by decide
theorem test_meets_selftest : let s := (tPair.setLstate 0 2).modSeq 0 fun q => { q with test := some 6 }
    s.lstate 0 = 2 ∧ (s.seq 0).test = some 6 ∧ ((s.modSeq 0 fun q => { q with test := some 0 }).seq 0).test = some 0 ∧ (s.seq 0).cmds = [] ∧ (s.pair 0).struck = false := by decide
theorem test_meets_copy : let s := (tRun.setLstate 0 3).modSeq 0 fun q => { q with copy := some { role := 7, ret := false, mgr := true, stopped := false } }
    s.lstate 0 = 3 ∧ ((s.seq 0).copy.map Copy.role) = some 7 ∧ (s.core (s.physOf 0 7)).rel = [] ∧ (s.seq 0).cmds = [] := by decide

/-- Pair 0 STOPPED. -/
def tStopped : State := tPair.setLstate 0 4

theorem test_accepts_px : tPair.accepts tMgr .pxCtl 0 0 1 ∧ tStopped.accepts tMgr .pxCtl 0 0 2 ∧ tStopped.accepts tMgr .pxCtl 0 0 6 ∧ tRun.accepts tMgr .pxCtl 23 3 5 ∧
    tRun.accepts tMgr .pxLog 0 0 (2 ^ 63) :=
  ⟨accepts_of (by decide), accepts_of (by decide), accepts_of (by decide), accepts_of (by decide), accepts_of (by decide)⟩
theorem test_meets_px : (tPair.coresOf 0).head? = some 0 ∧ tPair.lstate 0 = 0 ∧ (tPair.core 0).gdue = none ∧ tStopped.lstate 0 = 4 ∧ (tStopped.pair 0).snapBad = [] ∧
    (∀ n ∈ tStopped.coresOf 0, tStopped.ctestOn n = false) ∧ flag (2 ^ 63 : Word) 63 = true := by decide +kernel
theorem test_meets_subst : let s := tRun.setLstate 0 4
    s.logicalOf 0 0 = 0 ∧ s.lstate 0 = 4 ∧ s.spareFree 0 = true ∧ s.ctestOn 8 = false ∧ (s.rset .pxSpare 0 0 (2 ^ 63)).spareFor 0 = some 0 ∧ s.lame 0 = false ∧ s.ctestOn 0 = false := by decide +kernel
theorem test_meets_snap : tStopped.snapSlot 0 0 = some 0 ∧ (((tStopped.snap 0).snapWord 8).map fun w => w.bad 5) = some false ∧ tStopped.power.held = false ∧ tStopped.ownModule < 8 := by decide

/-- A fill of line 4 that fold 0 waits for. -/
def tFill (k : FillKind) (d : Option (BitVec 512 × LState × Bool)) : Fill :=
  { fold := 0, line := 4, kind := k, cls := 0, sent := none, waiters := [], served := d, install := true }

/-- A line of fold 0 on its way. -/
def tOut (st : LState) : OutLine := { src := 0, line := 4, st := st, data := 9, cls := 0, hit := false, poison := false }

theorem test_meets_request : let s := tRun.modCa fun c => { c with fills := [tFill .shared none] }
    s.caches.fills = [tFill .shared none] ∧ s.caches.txns = [] ∧ s.inTransit 0 4 = none ∧ s.copyAt (24 + tileOf 0) 4 = none ∧ lineHome 4 = s.ownModule ∧ s.dirOf 4 = none ∧ s.dirFull 4 = false ∧
      (s.setDir 4 (some { owned := false, holders := [0] })).dirOf 4 = some { owned := false, holders := [0] } := by decide
theorem test_meets_snoop :
    let q : Txn := { req := 0, tid := 0, line := 4, kind := .shared, waits := [1], data := none }
    let s := ((tRun.modCa fun c => { c with txns := [q] }).setDir 4 (some { owned := true, holders := [1] })).cset 1 4 0 { line := 4, st := .e, data := 9, cls := 0, hit := false, poison := false }
    s.caches.txns = [q] ∧ s.caches.homeq = [] ∧ s.dirFull 4 = false ∧ s.dirOf 4 = some { owned := true, holders := [1] } ∧ (s.cfind 1 4).map (fun x => (x.1, x.2.st)) = some (0, .e) ∧ q.req ≠ 1 := by decide +kernel
theorem test_meets_fill : let s := (tRun.rput .fcCtl 0 0 9 8 1).cset 0 4 3 { line := 4, st := .s, data := 9, cls := 0, hit := false, poison := false }
    s.fcState 0 = 1 ∧ (s.cfind 0 4).map (fun x => x.1) = some 3 ∧ (s.core 0).rel = [] ∧ (s.core 0).barred = [] := by decide +kernel
theorem test_meets_write_back : (tOut .m).st = .m ∧ (tOut .e).st ≠ .m ∧ (tRun.modCa fun c => { c with out := [tOut .m] }).caches.out = [tOut .m] := by decide +kernel
theorem test_meets_victim : let s := tRun.modCa fun c => { c with victims := [tOut .m], modeNow := [(0, 1)] }
    s.caches.victims = [tOut .m] ∧ s.caches.fills = [] ∧ s.caches.txns = [] ∧ s.tileMode 0 = 1 ∧ tRun.tileMode 0 = 0 ∧ (tRun.modCa fun c => { c with modeNow := [(0, 2)] }).tileMode 0 = 2 ∧ s.caches.evict = [] ∧ tileOf 0 = 0 := by decide +kernel
theorem test_meets_install : ((tRun.candidates 0 3).find? fun v => (tRun.cway 0 4 v).isNone) = some 0 := by decide
theorem test_meets_drain : (tRun.rput .fcCtl 23 0 9 8 2).fcState 23 = 2 ∧ (∀ x ∈ tRun.caches.fills, x.fold ≠ 23) ∧
    (tRun.modCa fun c => { c with walks := [{ cache := 27, ways := 1 }] }).caches.walks = [{ cache := 27, ways := 1 }] := by decide
theorem test_meets_mode : let s := tRun.rput .tcCtl 3 0 1 0 2
    tsorted s.caches.modeNow = true ∧ s.rfld .tcCtl 3 0 1 0 ≠ s.tileMode 3 ∧ s.tileMode 3 = 0 := by decide

/-! ### The control space, scratchpads, the memory controller and far memory (02, 05, 07) -/

/-- Whether a control-space offset answers an agent with one kind of target. -/
def ctlIs (s : State) (a : Agent) (off : Nat) (r : Option (Reg × Nat × Nat)) : Bool :=
  match s.ctlAt a off, r with
  | .reg r i j, some (r', i', j') => decide (r = r' ∧ i = i' ∧ j = j')
  | .nothing, none => true
  | _, _ => false

theorem test_meets_reject : let s := tRun.reject 3 7 9
    flag (s.rget .mgCfgerrAddr) 63 = true ∧ flag (tRun.rget .mgCfgerrAddr) 63 = false ∧ tPair.part 1 = .shadow ∧ tPair.part 0 ≠ .shadow := by decide
theorem test_meets_regs : regAt (Reg.ftCnt.addr 5 7) = some (.ftCnt, 5, 7) ∧ 7 < strikeCount 5 ∧ regAt (Reg.evRoute.addr 2047) = some (.evRoute, 2047, 0) := by decide +kernel
theorem test_accepts_fields : tRun.accepts tMgr .evRoute 10 0 5 ∧ tRun.accepts tMgr .mcScrub 0 0 (2 ^ 63 + 24) ∧ tRun.accepts tMgr .fcAllotD 23 15 0xFF ∧ tRun.accepts tMgr .lkApt 0 3 7 :=
  ⟨accepts_of (by decide +kernel), accepts_of (by decide +kernel), accepts_of (by decide +kernel), accepts_of (by decide +kernel)⟩
theorem test_meets_stores : tRun.power.held = false ∧ tRun.ownModule = 0 ∧ ctlIs tRun tMgr (2 ^ 32 - 8) none = true ∧ ctlIs tRun tMgr (Reg.fcAllot.addr 0) (some (.fcAllot, 0, 0)) = true ∧
    Reg.fcAllot.place.drafted = true ∧ ctlIs tRun tMgr (Reg.fcCtl.addr 0) (some (.fcCtl, 0, 0)) = true ∧ Reg.evRoute.place.drafted = false ∧ ctlModule 0 = none ∧ (8 : Nat) ≠ 4 := by decide +kernel
theorem test_meets_reserved : tRun.power.held = false ∧ ctlIs tRun tMgr (Reg.lkCtl.addr 0) (some (.lkCtl, 0, 0)) = true ∧ Reg.lkCtl.place.drafted = false ∧
    Reg.lkCtl.reservedWrite 0 7 = true := by decide +kernel
theorem test_meets_cfgerr : tRun.accepts tMgr .mgCfgerrAddr 0 0 (2 ^ 63) ∧ flag (2 ^ 63 : Word) 63 = true := ⟨accepts_of (by decide +kernel), by decide +kernel⟩

theorem test_accepts_commit : tRun.accepts tMgr .fcCommit 23 0 1 ∧ tRun.accepts tMgr .tcCommit 3 0 1 ∧ tRun.accepts tMgr .pxCommit 23 0 1 ∧ tRun.accepts tMgr .chPathcommit 0 0 1 ∧
    tRun.accepts tMgr .chDraincommit 0 0 1 ∧ tRun.accepts tMgr .lkCommit 0 0 1 ∧ tRun.accepts tMgr .ptTrcommit 0 0 1 ∧ tRun.accepts tMgr .stCommit 0 0 1 ∧ tRun.accepts tMgr .ftCommit 0 0 1 :=
  ⟨accepts_of (by decide +kernel), accepts_of (by decide +kernel), accepts_of (by decide +kernel), accepts_of (by decide +kernel), accepts_of (by decide +kernel), accepts_of (by decide +kernel),
    accepts_of (by decide +kernel), accepts_of (by decide +kernel), accepts_of (by decide +kernel)⟩
theorem test_meets_commit_passes : (tRun.fcCommit 23).isSome = true ∧ (tRun.tcCommit 3).isSome = true ∧ (tRun.pxCommit 23).isSome = true ∧ tRun.chDrainCommit.isSome = true ∧
    tRun.lkCommit.isSome = true ∧ tRun.ftCommit.isSome = true ∧ tRun.chans.pens = [] := by decide +kernel
theorem test_meets_commit_fails : ((tRun.rset .fcAllotD 0 0 0).fcCommit 0).isNone = true ∧ ((tRun.rset .chDraincfgD 0 0 (BitVec.allOnes 64)).chDrainCommit).isNone = true ∧
    ((tRun.rset .lkCfgD 0 0 (BitVec.allOnes 64)).lkCommit).isNone = true ∧ ((tRun.rset .ftThreshD 0 0 0).ftCommit).isNone = true := by decide +kernel

theorem test_meets_xinv : (9 : Nat) ∈ tRun.xinvCores 9 ∧ (0 : Nat) ∈ tPair.xinvCores 1 ∧ tRun.accepts tMgr .fcXinva1 0 5 0x1000 ∧ tRun.accepts tMgr .fcXinvall2 23 8 1 :=
  ⟨by decide, by decide, accepts_of (by decide +kernel), accepts_of (by decide +kernel)⟩
theorem test_accepts_fold : tRun.accepts tMgr .fcCtl 23 0 1 ∧ tRun.accepts tMgr .fcRepl 0 0 7 ∧ tRun.accepts tMgr .tcRepl 3 0 7 ∧ tRun.accepts tMgr .fcWaydis 0 0 3 ∧ tRun.accepts tMgr .tcWayflush 3 0 (2 ^ 23) ∧
    tRun.accepts tMgr .fcEcclog 0 0 (2 ^ 63) :=
  ⟨accepts_of (by decide +kernel), accepts_of (by decide +kernel), accepts_of (by decide +kernel), accepts_of (by decide +kernel), accepts_of (by decide +kernel), accepts_of (by decide +kernel)⟩
theorem test_meets_fold : tRun.fcState 0 = 0 ∧ (tRun.rput .fcCtl 0 0 9 8 1).fcState 0 = 1 ∧ flag (1 : Word) 0 = true ∧ fld (7 : Word) 15 0 ≠ 0 := by decide +kernel

theorem test_meets_bank : tRun.accepts tMgr .sxBankctl 11 0 1 ∧ tRun.accepts tMgr .sxKeepwipe 11 0 1 ∧ tRun.bankBusy 11 0 = false ∧ tRun.bankCur 11 0 ≠ fld (1 : Word) 1 0 ∧
    (tRun.rput .sxBankstat 11 0 31 30 1).bankCur 11 15 ≠ 2 ∧ tRun.wiping 11 = false ∧ ¬ (tRun.bankCur 11 0 = 1 ∧ fld (1 : Word) 1 0 = 2) :=
  ⟨accepts_of (by decide +kernel), accepts_of (by decide +kernel), by decide +kernel, by decide +kernel, by decide +kernel, by decide +kernel, by decide +kernel⟩
theorem test_meets_bank_change : let s := (tRun.rput .sxBankstat 11 0 32 32 1).rput .sxBankctl 11 0 1 0 1
    let t : State := { s with bankTo := tput 2 s.bankTo (16 * 11) 1 }
    t.bankBusy 11 0 = true ∧ tget 2 t.bankTo (16 * 11) = 1 ∧ t.bankTgt 11 0 = 1 := by decide +kernel
theorem test_meets_wipe : let s := tRun.rput .sxBankstat 0 0 48 48 1
    s.wiping 0 = true ∧ s.bankBusy 0 15 = false := by decide +kernel

/-- One group of five channels ONLINE, a patrol scrub begun. -/
def tMc : State :=
  let s := (List.range 5).foldl (fun s c => s.setChState c 1) ((tRun.rput .mcCfg 0 0 57 56 0).rput .mcCfg 0 0 47 40 1)
  s.rput .mcScrub 0 0 63 63 1

theorem test_meets_scrub : tMc.rbit .mcScrub 0 0 63 = true ∧ tMc.chState 1 = 1 ∧ tMc.ownLine 5 = true ∧ tMc.linePlace 5 = (0, 1, 1) ∧
    tMc.memctl.scrubPos + 1 < tMc.channelPieces * ((List.range 20).filter fun c => tMc.chState c = 1).length := by decide +kernel
theorem test_meets_service : tMc.accepts tMgr .mcCmd 0 0 (BitVec.ofNat 64 (1 + 3 * 2 ^ 8)) ∧ tMc.rbit .mcSvcstat 0 0 63 = false ∧ (∀ c, c / 5 = 3 / 5 → tMc.chState c = 1) ∧
    (tMc.rput .mcChstat 3 0 51 40 1).rfld .mcChstat 3 0 51 40 ≠ 0 := by
  refine ⟨accepts_of (by decide +kernel), by decide +kernel, ?_, by decide +kernel⟩
  intro c hc
  have h : c < 5 := by omega
  exact (by decide +kernel : ∀ c < 5, tMc.chState c = 1) c h
theorem test_meets_service_states : ∀ st, st = 1 ∨ st = 2 ∨ st = 3 → let s := (tMc.rset .mcSvcstat 0 0 (BitVec.ofNat 64 (2 ^ 63 + st * 2 ^ 59 + 3 * 2 ^ 48))).setChState 3 st
    s.rbit .mcSvcstat 0 0 63 = true ∧ s.rfld .mcSvcstat 0 0 52 48 = 3 ∧ s.rfld .mcSvcstat 0 0 61 59 = st ∧ s.chState 3 = st ∧ s.memctl.op ≠ 2 := by
  rintro st (rfl | rfl | rfl) <;> decide +kernel
theorem test_accepts_abort : (tMc.rset .mcSvcstat 0 0 (BitVec.ofNat 64 (2 ^ 63 + 2 ^ 59))).accepts tMgr .mcCmd 0 0 3 := accepts_of (by decide +kernel)

/-- A request of far memory trough 0 for COPY at 0x200, and its descriptor: 16 bytes of 0x100 to 0x180. -/
def tFarReq : Request := { ticket := 1, core := 0, tally := 3, res := 0, part := 0, pl := 2, header := 4 * 2 ^ 60 + 2 ^ 48 + 2 ^ 24, desc := 0x200 }

/-- The far memory request at the head of its trough. -/
def tFar : State :=
  let s := setBytes tRun 0x200 ([4 * 2 ^ 60 + 2 ^ 48 + 2 * 2 ^ 24, 0x100, 0x180, 16, 0, 0, 0, 0].flatMap (toBytes 8))
  { s with troughs := tput [] s.troughs 0 [tFarReq] }

theorem test_meets_far : tget [] tFar.troughs 0 = [tFarReq] ∧ tFar.far = [] ∧ bits tFarReq.header 63 60 = 4 ∧ bits tFarReq.header 34 32 = tFar.ownModule ∧
    farDesc (tFar.memWords 0x200 8) = some { op := 1, src := 0x100, dst := 0x180, len := 16 } ∧ tFar.mainMem 0x100 = true ∧ tFar.mainMem 0x180 = true ∧
    tFar.cohPoison 0x100 16 = none ∧ tFar.lstate 0 = 0 ∧ tFar.coresOf 0 = [0] := by decide +kernel

/-! ### The channel subsystem (08) -/

/-- The record of pen 1: NVME of partition 0 on path group 0, QSIZE 4, its queues and its page in main memory. -/
def tRec : List Word :=
  [BitVec.ofNat 64 (2 ^ 60 + 9 * 2 ^ 30 + 4), BitVec.ofNat 64 (2 ^ 48 + 5 * 2 ^ 40 + 1), 0x10000] ++ List.replicate 13 0 ++
    [BitVec.ofNat 64 (0x100 * 2 ^ 48 + 2 ^ 32), BitVec.ofNat 64 (tRun.ctlPa 0x10800000), 0x20000, 0x30000] ++ List.replicate 44 0

/-- PCIe link 0 UP with one function, aperture 0 on it and path 0 of group 0; drover 0 RUNNING, drovers on; pen 1's record in memory. -/
def tCh0 : State :=
  let s := (((tRun.rput .lkCfg 0 0 13 12 1).rput .lkStat 0 0 63 61 2).rset .lkFn 0 0 (BitVec.ofNat 64 (2 ^ 63 + 0x100))).rput .chPathgrp 0 0 7 0 0x80
  let s := (((s.rset .lkApt 0 0 (BitVec.ofNat 64 (2 ^ 63 + 2 ^ 14))).rput .chDrovstat 0 0 63 61 0).rput .chCtl 0 0 0 0 1).rput .chLcap 0 0 16 0 8
  { s with mem := [(0x200, 4#8), (0x203, 64#8), (0x204, 2#8), (0x207, 16#8), (0x208, 1#8), (0x20D, 5#8), (0x20E, 1#8), (0x212, 1#8), (0x284, 1#8), (0x287, 1#8), (0x28A, 128#8), (0x28B, 16#8), (0x28E, 15#8), (0x292, 2#8), (0x29A, 3#8)] }

/-- Pen 1 ATTACHED. -/
def tCh : State := (tCh0.modPen 1 fun p => { p with recd := tRec }).rput .chPenstat 1 0 63 61 1

/-- A sentence of one READ of 512 bytes at 0x2000 on pen 1, its context record at 0x1800. -/
def tReq : Request := { ticket := 1, core := 0, tally := 3, res := 0, part := 0, pl := 2, header := 3 * 2 ^ 60 + 2 ^ 48 + 2 ^ 32 + 2 * 2 ^ 24, desc := 0x1000 }

/-- The sentence at the head of drover trough 0. -/
def tRd : State :=
  { tCh with mem := tCh.mem ++ [(0x1003, 2#8), (0x1004, 1#8), (0x1006, 1#8), (0x1007, 48#8), (0x1009, 24#8), (0x1010, 77#8), (0x1021, 2#8), (0x1026, 1#8), (0x1029, 32#8)], troughs := [(0, [tReq])] }

/-- A module alone in its pasture, with nothing cached. -/
abbrev Alone (s : State) : Prop := (∀ p l, s.copyThat p l = none) ∧ ∀ l, s.abroad l = false

/-- Such a state is one whose caches and directory are empty and which shows no other module. -/
theorem alone_of (s : State) (h : ∀ p l, s.copyThat p l = none) (hd : s.caches.dir = [])
    (hp : (List.range 8).all (fun m => m == s.ownModule || !s.present m) = true) : Alone s := by
  refine ⟨h, s.abroad_alone (fun m hm hn => ?_) hd⟩
  have := List.all_eq_true.mp hp m (List.mem_range.mpr hm)
  simpa [hn] using this

/-- The words of a state whose caches hold nothing. -/
theorem memWords_of_clean (s : State) (h : Alone s) (pa n : Nat) :
    s.memWords pa n = (List.range n).map fun i => BitVec.ofNat 64 (ofBytes (s.bytes (pa + 8 * i) 8)) := by
  simp only [State.memWords, State.memWord, s.cohBytes_of_clean h.1 h.2]

/-- One word of such a state. -/
theorem memWord_of_clean (s : State) (h : Alone s) (pa : Nat) : s.memWord pa = BitVec.ofNat 64 (ofBytes (s.bytes pa 8)) := by
  simp only [State.memWord, s.cohBytes_of_clean h.1 h.2]

/-- A clause of a descriptor in such a state. -/
theorem clauseAt_of_clean (s : State) (h : Alone s) :
    s.clauseAt = fun d i => ((List.range 4).map fun k => BitVec.ofNat 64 (ofBytes (s.bytes (d + 0x20 + 32 * i + 8 * k) 8))).map BitVec.toNat := by
  funext d i
  simp only [State.clauseAt, memWords_of_clean s h]

/-- A clause of an entry in such a state. -/
theorem entryClause_of_clean (s : State) (h : Alone s) :
    s.entryClause = fun e i => if e.owner.isSome then (List.range 4).map fun w => (lget 0 e.body (4 * i + w)).toNat
      else ((List.range 4).map fun k => BitVec.ofNat 64 (ofBytes (s.bytes (e.req.desc + 0x20 + 32 * i + 8 * k) 8))).map BitVec.toNat := by
  funext e i
  simp only [State.entryClause, clauseAt_of_clean s h]

theorem test_meets_pen_record_read : tCh0.readRecord 1 = tRec := by
  rw [State.readRecord, memWords_of_clean tCh0 (alone_of tCh0 (fun _ _ => rfl) rfl (by decide +kernel))]
  decide +kernel
theorem test_meets_pen_record : tCh0.penState 1 = 0 ∧ tCh0.checkRecord { Pen.reset with recd := tRec } = 1 := by decide +kernel
theorem test_meets_pen_commands : tCh.rbit .chPencmdstat 0 0 63 = false ∧ tCh.frozen = false ∧ tCh.penState 1 = 1 ∧ tCh.waitingFor 1 = [] ∧ ((tCh.pen 1).kind = 1 ∧ (tCh.pen 1).part = 0) ∧
    tCh.rfld .chDrovstat 0 0 63 61 = 0 ∧ tCh.rbit .chDrovctl 0 0 0 = false ∧ (tCh.rput .chPenstat 1 0 63 61 2).penState 1 = 2 ∧ (tCh.rput .chPenstat 1 0 63 61 3).penState 1 = 3 := by decide +kernel
theorem test_accepts_pen : ∀ cmd, 1 ≤ cmd → cmd ≤ 9 → tCh.accepts tMgr .chPencmd 0 0 (penWord cmd 0 1) := by
  have h : (List.range 10).all (fun c => c == 0 || acceptsB tCh tMgr .chPencmd 0 0 (penWord c 0 1)) = true := by decide +kernel
  intro c h1 h2
  have := List.all_eq_true.mp h c (List.mem_range.mpr (by omega))
  exact accepts_of (by simpa [show c ≠ 0 by omega] using this)
theorem test_meets_pen_abort : tRd.waitingFor 1 = [(0, tReq)] ∧ tRd.chans.sents = [] := by decide +kernel
theorem test_meets_pen_stopped : let s := (tCh.rput .chPenstat 1 0 63 61 2).rset .chPencmdstat 0 0 (BitVec.ofNat 64 (2 ^ 63 + 2 * 2 ^ 56 + 1))
    s.penState 1 = 2 ∧ s.chans.sents = [] ∧ s.rbit .chPencmdstat 0 0 63 = true ∧ s.rfld .chPencmdstat 0 0 59 56 = 2 ∧ s.rfld .chPencmdstat 0 0 15 0 = 1 := by decide +kernel
theorem test_meets_move : let s := (tCh.rput .chPengrp 0 0 63 63 1).modCh fun c => { c with waiting := some 1 }
    s.chans.waiting = some 1 ∧ s.rbit .chPengrp 0 0 63 = true ∧ s.frozen = false := by decide +kernel

/-- The entry of the sentence, begun, HELD. -/
def tEntry : Sent := { (entryOf tReq 1 0 77 none []) with cmd := [0x1000000000200, 0x2000, 0, 0] }

/-- The sentence begun in ledger entry 5. -/
def tHeldCmd : State := tRd.setEntry 5 tEntry
/-- Its command SENT on path 0. -/
def tSentCmd : State := tRd.setEntry 5 (tRd.sentEntry tEntry 0)

theorem test_meets_sent : tSentCmd.entry 5 = some (tRd.sentEntry tEntry 0) ∧ (tRd.sentEntry tEntry 0).sent = true ∧ tSentCmd.frozen = false ∧ (tRd.sentEntry tEntry 0).pen = 1 ∧
    (tRd.sentEntry tEntry 0).path = 0 ∧ (tSentCmd.rput .chPenstat 1 0 32 32 1).pathFailed 1 0 = true := by decide +kernel
theorem test_meets_drain_begins : tRun.chans.drain = none ∧ tRun.rbit .chDraincfg 0 0 63 = false ∧ (tRun.rput .chDraincfg 0 0 63 62 3).rbit .chDraincfg 0 0 62 = true := by decide +kernel
theorem test_meets_drain_ends : let d : Drain := { count := 0, crc := 0, ended := true }
    let s := (tCh.rput .chCtl 0 0 1 1 1).modCh fun c => { c with drain := some d, waiting := some (penWord 3 0 1) }
    s.chans.drain = some d ∧ s.frozen = true ∧ fld (penWord 3 0 1) 59 56 ≠ 0 ∧ (s.rput .chPencmdstat 0 0 63 63 1).rbit .chPencmdstat 0 0 63 = true := by decide +kernel

theorem test_meets_run : tget [] tRd.troughs 0 = [tReq] ∧ bits tReq.header 63 60 = 3 ∧ bits tReq.header 47 32 = 1 ∧ tRd.mayBegin 1 0 0 = true ∧ tRd.slotFree 1 5 0 = true := by decide +kernel
theorem test_meets_run_descriptor : ({ tRd with troughs := [] } : State).descriptorFault tReq = none := by
  simp only [State.descriptorFault, State.ctxAddr, memWord_of_clean { tRd with troughs := [] } (alone_of { tRd with troughs := [] } (fun _ _ => rfl) rfl (by decide +kernel)), clauseAt_of_clean { tRd with troughs := [] } (alone_of { tRd with troughs := [] } (fun _ _ => rfl) rfl (by decide +kernel))]
  decide +kernel

/-- The sentence with a reserved value in its clause. -/
def tBad : State := { tRd with mem := tRd.mem ++ [(0x1030, 1#8), (0x1032, 4#8)] }

theorem test_meets_run_fault : tBad.descriptorFault tReq = some (some 0x20) := by
  simp only [State.descriptorFault, State.ctxAddr, memWord_of_clean tBad (alone_of tBad (fun _ _ => rfl) rfl (by decide +kernel)), clauseAt_of_clean tBad (alone_of tBad (fun _ _ => rfl) rfl (by decide +kernel))]
  decide +kernel
theorem test_meets_send : tHeldCmd.entry 5 = some tEntry ∧ tHeldCmd.maySend tEntry = true ∧
    (tHeldCmd.bufferCheck tEntry [[2 ^ 48 + 512, 0x2000, 0, 0]]).2 = some [[(0x2000, 512)]] ∧ tHeldCmd.choosePath tEntry = some 0 ∧ tHeldCmd.pathPort 0 0 = 0 ∧ tHeldCmd.linkState 0 = 2 := by decide +kernel
theorem test_meets_send_clauses : tHeldCmd.commandClauses tEntry = [[2 ^ 48 + 512, 0x2000, 0, 0]] ∧ tHeldCmd.faultNow tEntry = none := by
  simp only [State.commandClauses, State.faultNow, entryClause_of_clean tHeldCmd (alone_of tHeldCmd (fun _ _ => rfl) rfl (by decide +kernel))]
  decide +kernel
theorem test_meets_send_form : tHeldCmd.heldBack (132 + tHeldCmd.droverOf 1) 0 = false ∧ tHeldCmd.heldBack 4 0 = false ∧ (tHeldCmd.pen 1).kind = 1 ∧ nvmeForm (tHeldCmd.pen 1) [[2 ^ 48 + 512, 0x2000, 0, 0]] = true ∧
    (tHeldCmd.nvmeEntries (tHeldCmd.pen 1) 0 [[2 ^ 48 + 512, 0x2000, 0, 0]]).1.length ≤ tHeldCmd.ringFree 1 0 ∧ (tHeldCmd.pen 1).wait = none := by decide +kernel
theorem test_meets_ring_form : let p : Pen := { Pen.reset with recd := [BitVec.ofNat 64 (3 * 2 ^ 60 + 4)] }
    p.kind = 3 ∧ ringForm p [[0x10 * 2 ^ 48 + 64, 0x2000, 0, 0]] = true ∧ opOf [0x10 * 2 ^ 48 + 64, 0x2000, 0, 0] = 0x10 ∧ 1 ≤ (tRd.modPen 1 fun _ => p).ringFree 1 0 ∧
    ({ Pen.reset with recd := [BitVec.ofNat 64 (4 * 2 ^ 60)] } : Pen).kind = 4 ∧ (forwardClauses [[2 ^ 48 + 512, 0x2000, 0, 0]] [[(0x2000, 512)]]).length ≤ 508 := by decide +kernel
theorem test_meets_doorbell : tCh.apertureOf (tCh.ctlPa 0x10800000) = some (0, 0) ∧ tCh.aptOn 0 = true ∧ tCh.linkState (tCh.lowPort 0) = 2 := by decide +kernel

/-- The completion of slot 0 with success in the completion queue of path 0, its phase 1. -/
def tCqe : State := { tSentCmd with mem := tSentCmd.mem ++ [(0x30008, 1#8), (0x3000E, 1#8)] }

theorem test_meets_completion_entry : let q := (tCqe.pen 1).path 0
    tCqe.served 1 = true ∧ tCqe.penState 1 ≠ 0 ∧ tCqe.pathFailed 1 0 = false ∧ bit (tCqe.memWord ((tCqe.pen 1).pathWord 0 3 + 8)).toNat 48 = q.phase ∧ q.cqHead = 0 ∧
      (tCqe.doorbell ((tCqe.pen 1).pathWord 0 1 + 4) 1 0x100).2 = true := by decide +kernel
theorem test_meets_recorded : (tCqe.chans.sents.find? fun x => x.2.pen == 1 && x.2.sent && x.2.path == 0 && x.2.slot == 0).map (fun x => x.1) = some 5 ∧ nvResult 0 ≠ .path ∧
    tEntry.bad = false ∧ tEntry.owner = none ∧ bit ((tCqe.pen 1).word 0) 39 = false := by decide +kernel
theorem test_meets_recorded_clauses : tCqe.faultNow tEntry = none ∧ conjOf (tCqe.entryClause tEntry tEntry.last) = 0 := by
  simp only [State.faultNow, entryClause_of_clean tCqe (alone_of tCqe (fun _ _ => rfl) rfl (by decide +kernel))]
  decide +kernel
theorem test_meets_msix : tCqe.pathValid 0 0 = true ∧ tCqe.pathPort 0 0 = 0 ∧ (tCqe.pen 1).rid 0 = 0x100 ∧ (2 ^ 19 : Nat) ≤ 2 ^ 19 ∧ tCqe.penState 2 = 0 ∧
    bits ((tCqe.pen 1).word 1) 47 40 ≠ 0 ∧ (tCqe.chans.sents.any fun x => x.2.pen == 1 && x.2.sent) = true := by decide +kernel

/-! ### Links, devices and the pasture (09) -/

theorem test_accepts_link : tCh.accepts tMgr .lkCtl 0 0 1 ∧ tCh.accepts tMgr .lkCtl 0 0 2 ∧ tCh.accepts tMgr .lkCtl 0 0 3 ∧ tCh.accepts tMgr .lkMargin 0 0 (wordOf [1, 15 * 2 ^ 56, 2 ^ 55]) ∧
    tCh.accepts tMgr .lkErrlog 0 0 (2 ^ 63) :=
  ⟨accepts_of (by decide +kernel), accepts_of (by decide +kernel), accepts_of (by decide +kernel), accepts_of (by decide +kernel), accepts_of (by decide +kernel)⟩
theorem test_accepts_dreq : tCh.accepts tMgr .lkDreq 0 0 (dreqWord 0 true 0x40) ∧ tCh.accepts tMgr .lkDreq 0 0 (dreqWord 1 true 0x40) ∧ tCh.accepts tMgr .lkDreq 0 0 (dreqWord 2 false 0x40) ∧
    tCh.accepts tMgr .lkDreq 0 0 (dreqWord 3 false 0x40) :=
  ⟨accepts_of (by decide +kernel), accepts_of (by decide +kernel), accepts_of (by decide +kernel), accepts_of (by decide +kernel)⟩
theorem test_meets_link : tCh.linkBusy 0 = false ∧ tCh.linkRole 0 = 1 ∧ tCh.linkState 0 = 2 ∧ tCh.rbit .lkDstat 0 0 63 = false ∧ tCh.lowPort 0 = 0 ∧ tCh.pcieUp 0 = true ∧
    (tCh.rput .lkStat 0 0 63 61 4).linkState 0 = 4 ∧ (tCh.rput .lkMargin 0 0 63 63 1).rbit .lkMargin 0 0 63 = true := by decide +kernel
theorem test_meets_link_up : let s := tCh.rput .lkStat 0 0 63 61 1
    s.linkState 0 = 1 ∧ s.rbit .ftCnt 10 0 63 = false ∧ (0 : Nat) ≤ s.rfld .lkCfg 0 0 7 5 ∧ (2 : Nat) ≤ 2 ^ (s.rfld .lkCfg 0 0 10 8 + 1) ∧ tget 0 s.ports.cmd 0 ≠ 2 := by decide +kernel
theorem test_meets_dreq : let s : State := { tCh with ports := { tCh.ports with dreq := [(0, dreqWord 0 true 0x40)], ats := [(0, 7)], cmd := [(0, 2)] } }
    tfind s.ports.dreq 0 = some (dreqWord 0 true 0x40) ∧ s.ports.ats.contains (0, 7) = true ∧ tget 0 s.ports.cmd 0 = 2 ∧ fld (dreqWord 0 true 0x40) 63 62 = 0 := by decide +kernel

/-- A device's read of 8 bytes at 0x100 of memory. -/
def tDev : DevReq := { rid := 0x100, kind := .memory, write := false, addr := 0x100, len := 8, data := 0, ep := false }

theorem test_meets_device : (tCh.functionOf 0 0x100).map (fun x => x.1) = some 0 ∧ tCh.functionOf 0 0x101 = none ∧ (tCh.dieBuf none 0x100 8 .load false).2.1 = [(0x100, 8)] ∧
    (tCh.dieBuf none 0x100 8 .load false).2.2.isNone = true ∧ tCh.reachable 0x100 = true ∧ tDev.kind = .memory ∧ (tCh.dieRead dieAgent 0x100 8).2.isOk = true := by decide +kernel
theorem test_meets_ats : let s := tCh.rput .lkFn 0 0 62 62 1
    ((s.functionOf 0 0x100).map fun x => (flag x.2 61, flag x.2 62)) = some (false, true) ∧ ((s.dieXlate (some 0) 0 .load false).2.isOk = true ∨ (s.dieXlate (some 0) 0 .load false).2.isOk = false) := by decide +kernel

/-- Module 0 of a pasture of two, its link to module 1 active and up, 8 GiB of its memory backed. -/
def tPast : State :=
  let s := ((tRun.rput .lkCfg 0 0 13 12 2).rput .lkCfg 0 0 10 8 2).rput .lkStat 0 0 63 61 2
  let s := (s.rput .lkStat 0 0 50 48 1).rput .lkPstat 0 0 57 54 2
  (s.rput .lkPstat 0 0 31 31 1).rset .lkRoute 1 0 (BitVec.ofNat 64 (3 * 2 ^ 62 + 2 ^ 59))

/-- A header from module 1 to this one, in order. -/
def tHdr : Hdr := { seq := 0, place := 0, src := 1, dst := 0, hop := false, tid := 5, addr := 0x100 }

theorem test_meets_in_order : tPast.carries 0 = true ∧ tPast.pasture.marks = [] ∧ (tHdr.seq + 4096 - (tPast.lnk 0).good) % 4096 = 1 ∧ tHdr.dst = tPast.ownModule := by decide +kernel
theorem test_meets_home_of : memModule tHdr.addr = tPast.ownModule ∧ inMemRange tHdr.addr = true ∧ tPast.unbacked tHdr.addr = none ∧ tPast.mainMem tHdr.addr = true ∧
    (tPast.setDir 4 (some { owned := true, holders := [29] })).dirOf 4 = some { owned := true, holders := [29] } ∧ tPast.holderOf 4 = none := by decide +kernel
theorem test_meets_forward : let s := tPast.cset 0 4 0 { line := 4, st := .m, data := 9, cls := 0, hit := false, poison := false }
    (s.holderOf 4).map (fun x => x.1) = some 0 ∧ (2 : Nat) ≠ (s.guestDrop 4).ownModule ∧ hdrLine tHdr = 4 := by decide +kernel
theorem test_meets_post : tPast.msgs = [] ∧ tPast.rbit .lkRoute 1 0 63 = true ∧ tPast.rfld .lkRoute 1 0 58 56 = 0 ∧ tPast.groupActive 0 = true ∧ tPast.linkState 0 = 2 ∧
    (hdrMsg tHdr 0x08 0 []).slots ≤ lget 0 (tPast.lnk 0).credits (hdrMsg tHdr 0x08 0 []).cls ∧ tfind tPast.pasture.resync 1 = none := by decide +kernel
theorem test_meets_pcmd : let s := ((tPast.modPen 1 fun p => { p with recd := [BitVec.ofNat 64 (2 ^ 60 + 4), 0, 0, 2] }).rput .chPenstat 1 0 63 61 1).rput .chDrovstat 0 0 63 61 0
    let t := (s.rput .chCtl 0 0 0 0 1).rput .chLcap 0 0 16 0 8
    (2 ^ 36 : Nat) / 2 ^ 36 = 1 ∧ t.penState 1 = 1 ∧ bit ((t.pen 1).word 3) 1 = true ∧ t.mayBegin 1 0 0 = true ∧ t.slotFree 1 5 0 = true := by decide +kernel
theorem test_meets_pstat : let e : Sent := { tEntry with sent := true, tid := 5 }
    let s := (tPast.modPen 1 fun p => { p with recd := [BitVec.ofNat 64 (4 * 2 ^ 60), 0, 0, BitVec.ofNat 64 (2 ^ 56)] }).setEntry 5 e
    s.chans.sents.find? (fun x => x.2.sent && x.2.tid == tHdr.tid && (s.pen x.2.pen).kind == 4 && bits ((s.pen x.2.pen).word 3) 58 56 == tHdr.src) = some (5, e) ∧ s.frozen = false ∧
      s.pathFailed 1 0 = false := by decide +kernel
theorem test_meets_flits : tPast.linkRole 0 = 2 ∧ tPast.linkState 0 = 2 ∧ tPast.lowPort 0 = 0 ∧ ((tPast.transmit 0 (hdrMsg tHdr 0x08 0 [])).lnk 0).kept ≠ [] := by decide +kernel
theorem test_meets_hello : let s := tRun.rput .lkPstat 0 0 57 54 2
    let x : Hello := { src := 1, act := false, size := 1, ver := 1, width := 8, group := 0 }
    1 < s.rfld .lkPstat 0 0 57 54 ∧ s.linkRole 4 ≠ 1 ∧ x.src ≠ s.ownModule ∧ x.src < s.rfld .lkPstat 0 0 57 54 ∧ x.size + 1 = s.rfld .lkPstat 0 0 57 54 ∧ x.ver = 1 ∧
      s.rbit .lkPstat 0 0 32 = false ∧ s.rbit .lkPstat 0 0 25 = false := by decide +kernel
theorem test_meets_designated : let s := { (tRun.rput .lkPstat 0 0 57 54 2).rput .lkPstat 0 0 25 25 1 with ownModule := 1 }
    let x : Hello := { src := 0, act := true, size := 1, ver := 1, width := 8, group := 0 }
    1 < s.rfld .lkPstat 0 0 57 54 ∧ s.linkRole 4 ≠ 1 ∧ x.src < s.ownModule ∧ x.src < s.rfld .lkPstat 0 0 57 54 ∧ x.size + 1 = s.rfld .lkPstat 0 0 57 54 ∧
      s.rbit .lkPstat 0 0 25 = true ∧ s.groupPeer 1 = x.src := by decide +kernel
theorem test_meets_formation : (tPast.rput .lkPstat 0 0 63 61 1).rfld .lkPstat 0 0 63 61 = 1 := by decide +kernel

/-! ### Compression and cipher engines (10, 11) -/

/-- A request of partition 0 at P2 for operation `op` of an engine, its descriptor at 0x1000. -/
def tEng (op : Nat) : Request := { ticket := 1, core := 0, tally := 3, res := 0, part := 0, pl := 2, header := op * 2 ^ 48 + 3 * 2 ^ 24, desc := 0x1000 }

/-- A COMPRESS job of 4 bytes at 0x2000 into 256 bytes at 0x3000, stored DEFLATE. -/
def tJob (op : Nat) : CzJob := czJob (tEng op) [BitVec.ofNat 64 (op * 2 ^ 48 + 3 * 2 ^ 24), BitVec.ofNat 64 (2 ^ 32), 0x2000, 4, 0, 0, 0, 0, 0x3000, 256, 0, 0]

/-- Flock 0 awake, compression engine 0 RUNNING with trough 0 its own. -/
def tCz : State :=
  let s := ((tRun.rput .czStat 0 0 63 61 0).rput .pwFlock 0 0 63 61 0).rset .ptTrough 0 0 (BitVec.ofNat 64 (2 ^ 63 + 2 * 2 ^ 60))
  { s with troughs := [(0, [tEng 1])] }

theorem test_meets_cz_begin : tfind (tCz.czE 0).jobs 0 = none ∧ tCz.engineHead 2 0 (tCz.czE 0).next 1 = some (0, tEng 1, []) ∧ tCz.czState 0 = 0 ∧ tCz.flockRuns 0 = true ∧
    (tJob 1).refusal 0 = none ∧ (tJob 1).reserved = false ∧ bit ((tJob 1).w 4) 63 = false ∧ (tJob 0).op = 0 := by decide +kernel
theorem test_meets_cz_refusal : { tJob 1 with words := [] }.refusal 0 = some 1 := by decide +kernel
theorem test_meets_cz_unit : let s := tCz.modCz 0 fun e => { e with jobs := [(0, tJob 1)] }
    s.czTurn 0 = some 0 ∧ tfind (s.czE 0).jobs 0 = some (tJob 1) ∧ (s.engineRead 0 0x21 none 0x2000 4).2.isOk = true ∧ (tJob 1).inlen = 4 ∧
      (s.engineWrite 0 0x21 none (tJob 1).bufs 0 [1, 2]).2.isOk = true ∧ (2 : Nat) ≤ (tJob 1).cap := by decide +kernel
theorem test_meets_cz_piece : let j : CzJob := { tJob 2 with words := [BitVec.ofNat 64 (2 * 2 ^ 48), BitVec.ofNat 64 (2 ^ 32), 0x2000, 2, 0, 0, 0, 0, 0x3000, 256] }
    (match ({ tCz with mem := [(0x2000, 3#8)] } : State).czFetch 0 j [(0x2000, 2)] [] with
      | (_, .piece p) => p.final && p.trail.isNone
      | _ => false) = true := by decide +kernel
theorem test_accepts_cz : tCz.accepts tMgr .czCtl 0 0 (wordOf [1]) ∧ tCz.accepts tMgr .czCtl 0 0 (wordOf [0]) ∧ tCz.accepts tMgr .czCtl 0 0 (wordOf [2, 1]) ∧ tCz.accepts tMgr .czStoppart 0 0 (wordOf [5]) ∧
    tCz.accepts tMgr .czVerlog 0 0 (wordOf [2 ^ 63]) :=
  ⟨accepts_of (by decide +kernel), accepts_of (by decide +kernel), accepts_of (by decide +kernel), accepts_of (by decide +kernel), accepts_of (by decide +kernel)⟩
theorem test_meets_cz_states : (tCz.rput .czStat 0 0 63 61 2).czState 0 = 2 ∧ (tCz.rput .czCtl 0 0 0 0 1).rfld .czCtl 0 0 0 0 = 1 ∧
    (let s := tCz.modCz 0 fun e => { e with testing := true, stopping := [5] }; (s.czE 0).testing = true ∧ (s.czE 0).stopping.contains 5 = true ∧ (s.czE 0).jobs = []) ∧
    tRun.engineTroughs 2 0 = [] := by decide +kernel

/-- A cipher job of operation `op` on 16 bytes, key slot 7 at generation 1, the tag at 0x4000. -/
def tCipher (op : Nat) : CyJob :=
  { req := tEng op, words := [BitVec.ofNat 64 (op * 2 ^ 48 + 3 * 2 ^ 24), BitVec.ofNat 64 (7 * 2 ^ 52 + (if op = 5 then 0 else 16 * 2 ^ 40) + 1), 0x2000, if op ≤ 5 then 0x3000 else 0, 0,
      BitVec.ofNat 64 (16 * 2 ^ 24), 0, 0, if op = 5 then 0 else 0x4000, 0, 0, 0],
    slot := { KeySlot.reset with key := 1, state := 1, ktype := 1, use := 63, gen := 1 }, key2 := 0, invoc := 0, hard := false, dummy := 0, errors := 0, fail := none }

/-- Cipher engine 0 RUNNING, its lock held by partition 0, key slot 7 LIVE, trough 0 its own. -/
def tCy : State :=
  let s := (((tRun.rput .cyStat 0 0 63 61 0).rput .pwFlock 0 0 63 61 0).rset .cyLock 0 0 (BitVec.ofNat 64 (2 ^ 61))).setKey 7 (tCipher 1).slot
  let s := s.rset .ptTrough 0 0 (BitVec.ofNat 64 (2 ^ 63 + 2 ^ 60))
  { s with troughs := [(0, [tEng 1])] }

theorem test_meets_cy_begin : tfind (tCy.cyE 0).jobs 15 = none ∧ tCy.engineHead 1 0 (tCy.cyE 0).next 1 = some (0, tEng 1, []) ∧ tCy.flockRuns 0 = true ∧ tCy.cyRefusal 0 (tCipher 1) = none ∧
    tCy.cyRefusal 0 (tCipher 5) = none ∧ tCy.cyRefusal 0 (tCipher 7) = none ∧ tRun.cyRefusal 0 (tCipher 1) = some 0x100 ∧ (tCy.grantInvocation 7).2 = some 0 ∧
    (tCy.keySlot 7).state ≠ 2 ∧ (tCy.keySlot 7).invoc ≠ 2 ^ 64 - 1 := by decide +kernel

/-- Engine 0 with a job in context 3. -/
def tCyJob (j : CyJob) : State := tCy.modCy 0 fun e => { e with jobs := [(3, j)] }

theorem test_meets_cy_complete : tfind ((tCyJob (tCipher 5)).cyE 0).jobs 3 = some (tCipher 5) ∧ (tCipher 5).fail = none ∧ (tCyJob (tCipher 5)).heldBack 164 0 = false ∧
    ((tCyJob (tCipher 5)).engineRead 0 0x20 none 0x2000 16).2.isOk = true ∧ ((tCyJob (tCipher 5)).engineWrite 0 0x20 none [(0x3000, 16)] 0 (List.replicate 16 1)).2.isOk = true ∧
    (tCipher 5).taglen = 0 ∧ (tCipher 7).taglen = 16 ∧ (tCipher 7).op = 7 ∧ (tCipher 8).op = 8 := by decide +kernel
theorem test_meets_cy_fail : { tCipher 5 with fail := some (0x107, 0, 16) }.fail = some (0x107, 0, 16) ∧ 1 ≤ { tCipher 5 with errors := 1 }.errors ∧ (tCipher 5).errors = 0 ∧ (tCipher 5).op ≠ 1 := by decide
theorem test_accepts_cy : tCy.accepts tMgr .cyLock 0 0 (wordOf [2 ^ 32, 9]) ∧ tCy.accepts tMgr .cyLock 0 0 (wordOf [2 ^ 33, 9]) ∧ tCy.accepts tMgr .cyForce 0 0 (wordOf [0]) ∧
    tCy.accepts tMgr .cyCtl 0 0 (wordOf [1]) ∧ tCy.accepts tMgr .cyCtl 0 0 (wordOf [0]) ∧ tCy.accepts tMgr .cyCtl 0 0 (wordOf [2, 1]) ∧ tCy.accepts tMgr .cyErrlog 0 0 (wordOf [2 ^ 63]) :=
  ⟨accepts_of (by decide +kernel), accepts_of (by decide +kernel), accepts_of (by decide +kernel), accepts_of (by decide +kernel), accepts_of (by decide +kernel), accepts_of (by decide +kernel),
    accepts_of (by decide +kernel)⟩
theorem test_meets_cy_states : tRun.cyLockState 0 = 0 ∧ tCy.cyHolds 0 0 = true ∧ (tCy.cyE 0).token = 0 ∧ (tCy.cyE 0).jobs = [] ∧ tCy.drbgRefuses = false ∧ tCy.cyState 0 = 0 ∧
    (tCy.rput .cyStat 0 0 63 61 2).cyState 0 = 2 ∧ (tCy.rput .cyStat 0 0 63 61 3).cyState 0 = 3 ∧ (tCy.setCyLock 0 3).cyLockState 0 = 3 ∧
    2 ^ 20 ≤ ((tCy.modCy 0 fun e => { e with masked := 2 ^ 20 }).cyE 0).masked := by decide +kernel

/-! ### Partitions, events, the Shepherd (12, 13, 14) -/

/-- Entry 5 resident as partition 7, ACTIVE, QUIESCING where `st` is 2. -/
def tRes (st : Nat) : State := tRun.rset .ptRes 5 0 (BitVec.ofNat 64 (st * 2 ^ 62 + 7))

theorem test_accepts_pt : (tRes 1).accepts tMgr .ptCtl 0 0 (ptWord 1 6 true 9) ∧ (tRes 1).accepts tMgr .ptCtl 0 0 (ptWord 2 5 false 0) ∧ (tRes 2).accepts tMgr .ptCtl 0 0 (ptWord 3 5 false 0) ∧
    (tRes 2).accepts tMgr .ptCtl 0 0 (ptWord 4 5 false 0) ∧ (tRes 2).accepts tMgr .ptCtl 0 0 (ptWord 5 5 true 0) ∧ tRun.accepts tMgr .ptCore 215 0 (wordOf [5]) ∧ tRun.accepts tMgr .huInv 0 0 (7 <<< 48) :=
  ⟨accepts_of (by decide +kernel), accepts_of (by decide +kernel), accepts_of (by decide +kernel), accepts_of (by decide +kernel), accepts_of (by decide +kernel), accepts_of (by decide +kernel),
    accepts_of (by decide +kernel)⟩
theorem test_meets_pt : tRun.resState 6 = 0 ∧ tRun.resOf 9 = none ∧ (tRes 1).resState 5 = 1 ∧ (tRes 2).resState 5 = 2 ∧ (tRes 2).rfld .ptInfl 5 0 31 0 = 0 := by decide +kernel

/-- A register whose offset is not listed reads as after reset. -/
theorem rget_of_unlisted (s : State) (r : Reg) (i j : Nat) (h : ∀ x ∈ s.regs, x.1 ≠ r.addr i j) : s.rget r i j = BitVec.ofNat 64 (r.reset i j) := by
  have e : tfind s.regs (r.addr i j) = none := by
    generalize s.regs = t at h
    induction t with
    | nil => rfl
    | cons x t ih =>
      have h1 := h x (by simp)
      simp only [tfind, Ne.symm h1, if_false]
      exact ih fun y hy => h y (by simp [hy])
  simp only [State.rget, e, Option.getD_none]

theorem test_meets_remove : (tRes 2).partHeld 5 7 = false := by
  have hr : (tRes 2).regs.all (fun x => x.1 < 0x04010000 || (0x04020000 ≤ x.1 && x.1 < 0x10001000) || 0x10801000 ≤ x.1) = true := by decide +kernel
  have ht : ∀ t, t < 8192 → (tRes 2).rbit .ptTrough t 0 63 = false := by
    intro t ht
    rw [State.rbit, rget_of_unlisted]
    · exact (by decide : flag (BitVec.ofNat 64 0) 63 = false)
    · intro x hx
      have := List.all_eq_true.mp hr x hx
      simp only [Bool.or_eq_true, Bool.and_eq_true, decide_eq_true_eq] at this
      simp only [Reg.addr, Reg.place]; omega
  have hl : ∀ l n, l < 128 → n < 256 → (tRes 2).rbit .lkFn l n 63 = false := by
    intro l n hl hn
    rw [State.rbit, rget_of_unlisted]
    · exact (by decide : flag (BitVec.ofNat 64 0) 63 = false)
    · intro x hx
      have := List.all_eq_true.mp hr x hx
      simp only [Bool.or_eq_true, Bool.and_eq_true, decide_eq_true_eq] at this
      simp only [Reg.addr, Reg.place]; omega
  have a : ((List.range 8192).any fun t => (tRes 2).rbit .ptTrough t 0 63 && (tRes 2).rfld .ptTrough t 0 40 32 == 5) = false :=
    List.any_eq_false.mpr fun t h => by simp [ht t (List.mem_range.mp h)]
  have b : ((List.range 128).any fun l => (List.range 256).any fun n => (tRes 2).rbit .lkFn l n 63 && (tRes 2).rfld .lkFn l n 60 50 == 7) = false :=
    List.any_eq_false.mpr fun l h => by
      simp only [Bool.not_eq_true]
      exact List.any_eq_false.mpr fun n k => by simp [hl l n (List.mem_range.mp h) (List.mem_range.mp k)]
  rw [State.partHeld, a, b]
  decide +kernel
theorem test_meets_hu : tRun.rbit .huInvstat 0 0 63 = false ∧ (tRun.rput .huInvstat 0 0 63 63 1).rbit .huInvstat 0 0 63 = true ∧ tRun.huWait = [] := by decide +kernel

/-- Meter 0 in a period of 30 opportunities, 20 of entry 3 and 10 of RECOVERY. -/
def tMeter : Meter := { Meter.reset with pos := 9, cap := 30, counts := [(512, 10), (3, 20)], credit := [(512, 0), (3, 5)] }

theorem test_meets_stint : let s : State := { tRun with meters := [(0, tMeter)] }
    let x := tget Meter.reset s.meters 0
    x.pos < x.cap ∧ x.turn.1 = 3 ∧ x.count ownRecovery = 10 ∧ ¬ x.count ownRecovery ≤ tget 0 x.passed ownRecovery ∧ [3, 512].contains 3 = true ∧
      ({ x with passed := [(512, 10)] } : Meter).count ownRecovery ≤ tget 0 [(512, 10)] ownRecovery := by decide +kernel
theorem test_meets_coalesce : let s := (tRun.raise 10).rput .evRoute 10 0 15 0 100
    s.rbit .evStat 10 0 63 = true ∧ s.rfld .evRoute 10 0 15 0 ≠ 0 ∧ tget 0 s.evFirst 10 + s.rfld .evRoute 10 0 15 0 < 2 ^ 64 := by decide +kernel
theorem test_accepts_ev : tRun.accepts tMgr .evStat 10 0 (2 ^ 63) ∧ tRun.accepts tMgr .evEoi1 215 0 1 ∧ tRun.accepts tMgr .evEoi2 0 0 1 ∧ tRun.accepts tMgr .evSwraise 0 0 1800 ∧
    tRun.accepts ⟨7, 5⟩ .evRaise 0 0 1800 :=
  ⟨accepts_of (by decide +kernel), accepts_of (by decide +kernel), accepts_of (by decide +kernel), accepts_of (by decide +kernel), accepts_of (by decide +kernel)⟩
theorem test_meets_ev : (tRun.rset .evActive 0 0 4).evActiveSet (tRun.evCore 0) 1 ≠ 0 ∧ (tRun.rset .evActive 0 0 (2 ^ 18)).evActiveSet (tRun.evCore 0) 2 ≠ 0 ∧
    1792 ≤ fld (1800 : Word) 10 0 ∧ (tRun.rput .evRoute 1800 0 36 28 5).rfld .evRoute 1800 0 36 28 = 5 := by decide +kernel

/-- A mailbox command of an OP with operand words, waiting to be served in a life-cycle state. -/
def tMb (op life : Nat) (ws : List Nat) : State :=
  { tRun with shep := { tRun.shep with up := true, life := life, cmd := some { addr := 0x4000, words := BitVec.ofNat 64 (op * 2 ^ 56) :: ws.map (BitVec.ofNat 64), wiped := false } } }

/-- Whether a command is served: its OP, the firmware, its reserved fields and its life-cycle state. -/
def servedB (s : State) (op : Nat) (masks life : List Nat) : Bool :=
  match s.shep.cmd with
  | some c => c.op == op && s.shep.up && s.shep.restart.isNone && s.shep.load.isNone && c.fits masks && life.contains s.shep.life
  | none => false

theorem test_meets_reset_release : State.reset.power.held = true ∧ State.reset.rfld .pwStat 0 0 63 55 = 0x1FF ∧ majority [0, 0, 0, 5, 0] = 0 ∧ tRun.power.held = false := by decide +kernel

/-- A flash that holds a main loader image (type 7) without a payload at 4096. -/
def tFlash : List Byte :=
  [7, 0, 0, 0, 0, 16, 0, 0, 128, 0, 0, 0, 0, 0, 0, 0] ++ List.replicate 4080 0 ++ ([0, 0, 0, 7, 0x31, 0x47, 0x4D, 0x49] ++ List.replicate 120 0)

theorem test_meets_load_image : (match State.reset.loadImage 7 0 (some tFlash) with
    | .ok b => b.length == 128
    | .error _ => false) = true := by decide +kernel
theorem test_meets_load : servedB (tMb 0x20 2 [7 * 2 ^ 56, 0, 0x8000]) 0x20 [0xFF00000000000000, wordMask, wordMask] lifeFull = true ∧
    servedB (tMb 0x20 2 [5 * 2 ^ 56 + 3, 0x5000]) 0x20 [0xFF000000FFFFFFFF, wordMask, 0] lifeFull = true ∧ tRun.loadFree 7 0 0x8000 128 = true ∧ tRun.loadFree 5 3 0 0 = true ∧
    tRun.loadFree 6 3 0 0 = true ∧ tRun.shep.trained = false ∧ tRun.shep.sealed = false ∧ tRun.shep.entries.length < 200 := by decide +kernel
theorem test_meets_loading : let l : Loading := { type := 5, mask := 3, version := 1, seq := 0, addseq := 0, lost := false }
    let s := ({ tRun with shep := { tRun.shep with load := some l } }.rput .chDrovstat 0 0 63 61 1).rput .czStat 0 0 63 61 4
    s.shep.load = some l ∧ s.shep.restart = none ∧ l.mask.testBit 0 = true ∧ s.rfld .chDrovstat 0 0 63 61 = 1 ∧ s.czState 0 = 4 := by decide +kernel
theorem test_meets_update : servedB (tMb 0x30 2 [0x5000]) 0x30 [wordMask] [1, 2] = true ∧ servedB (tMb 0x31 1 []) 0x31 [] [1, 2] = true := by decide +kernel
theorem test_meets_tamper : tRun.shep.tripped.testBit 3 = false ∧ tRun.shep.restart = none ∧ (2 ^ 20 : Nat) ≤ { tRun with drbg := 2 ^ 20 }.drbg := by decide

theorem test_meets_mailbox : servedB (tMb 0x01 1 []) 0x01 [] lifeFull = true ∧ servedB (tMb 0x02 1 [0x5000, 64]) 0x02 [wordMask, wordMask] lifeFull = true ∧
    servedB (tMb 0x03 1 [0x5000, 64]) 0x03 [wordMask, wordMask] lifeFull = true ∧ servedB (tMb 0x11 2 [7 * 2 ^ 52]) 0x11 [0xFFF0000000000000] [2] = true ∧
    servedB (tMb 0x12 2 [7 * 2 ^ 52]) 0x12 [0xFFF0000000000000] lifeFull = true ∧ servedB (tMb 0x13 2 [5]) 0x13 [0x7FF] [2] = true ∧
    servedB (tMb 0x21 1 [1]) 0x21 (List.replicate 10 wordMask) lifeFull = true ∧ servedB (tMb 0x22 1 [0x10000, 8192]) 0x22 [wordMask - 255, wordMask] lifeFull = true := by decide +kernel
theorem test_meets_states_of_life : servedB (tMb 0x41 1 [0x5000]) 0x41 [wordMask] [1] = true ∧ servedB (tMb 0x42 2 [0x5000]) 0x42 (List.replicate 13 wordMask) [2] = true ∧
    servedB (tMb 0x43 1 []) 0x43 [] lifeFull = true ∧ tRun.ownMem 0x5000 97 = true ∧ tRun.ownMem 0x10000 8192 = true ∧ 128 * (tRun.shep.entries.length + 2) + 4736 ≤ 8192 := by decide +kernel
theorem test_meets_key_write : let s := tMb 0x10 2 [7 * 2 ^ 52 + 2 ^ 49 + 3 * 2 ^ 43, 2 ^ 62, 0]
    servedB s 0x10 [wordMask, 0xC000000000000FFF, wordMask] [2] = true ∧ keyUseOk 1 3 = true ∧ (s.keySlot 7).gen ≠ 2 ^ 32 - 1 ∧ s.shep.tripped = 0 ∧ (s.keyMaterial 1 0 0 32).2.isOk = true := by decide +kernel
theorem test_meets_record : let x := { tRun.shep with header := [1], pieces := [{ off := 0, data := [], bootseq := 1 }], journal := [[[1]]], up := true, started := true }
    x.header ≠ [] ∧ x.sealed = false ∧ x.pieces ≠ [] ∧ x.journal = [[1]] :: [] ∧ x.up = true ∧ x.started = true ∧ x.restart = none := by decide
theorem test_meets_messages : { tRun with shep := { tRun.shep with up := true } }.message 0 = true ∧ { tRun with shep := { tRun.shep with up := true, life := 4 } }.message 4 = true ∧
    tRun.drbgRefuses = false := by decide +kernel

/-! ### The I3C port, faults, power and the tense port (13 to 16) -/

theorem test_meets_spdm : let s : State := { tRun with shep := { tRun.shep with up := true, life := 2, idKeys := some (1, 2), chains := some ([1], [2]), entries := [[0, 0, 0, 0]] } }
    s.power.held = false ∧ s.shep.up = true ∧ s.shep.life ≠ 0 ∧ s.shep.life ≠ 4 ∧ s.shep.restart = none ∧ (0 : Nat) < s.slotChain.length ∧ 1 ≤ s.shep.bootPart.length ∧
      s.shep.deferred = none ∧ ({ s with shep := { s.shep with restart := some .update } } : State).shep.restart ≠ none := by decide
theorem test_meets_strike : tRun.rfld .ftCnt 5 0 31 0 + 1 < tRun.warnAt 5 ∧ tRun.rfld .ftCnt 5 0 31 0 + 1 < tRun.thresh 5 := by decide +kernel
theorem test_meets_drain_tick : (5 : Nat) ≠ 7 ∧ 0 < classCount 5 ∧ tget 0 tRun.strikeAcc (65536 * 5) + tRun.thresh 5 < tRun.windowTicks 5 ∧
    tRun.windowTicks 5 ≤ tget 0 { tRun with strikeAcc := [(65536 * 5, tRun.windowTicks 5)] }.strikeAcc (65536 * 5) + tRun.thresh 5 := by decide +kernel
theorem test_meets_row_tick : let s := tRun.modMc fun m => { m with rows := [{ channel := 3, row := 9, level := 1, warned := false, lame := false }] }
    ∃ x ∈ s.memctl.rows, x.channel = 3 ∧ x.row = 9 := ⟨{ channel := 3, row := 9, level := 1, warned := false, lame := false }, by decide, by decide⟩
theorem test_meets_clear : (tRun.rset .ftCnt 5 0 (2 ^ 63)).rbit .ftCnt 5 0 63 = true ∧ ((tRun.rset .ftCnt 0 8 (2 ^ 63)).modCore 8 fun c => { c with tested := true }).roleOf 8 = none ∧
    ((tRun.modCore 8 fun c => { c with tested := true }).core 8).tested = true ∧ tRun.roleOf 8 = none ∧ tRun.foldRuns (foldOf 8) = true ∧ tRun.rbit .ftCtstat 0 0 63 = false := by decide +kernel
theorem test_accepts_ft : tRun.accepts tMgr .ftCnt 5 0 (2 ^ 63) ∧ tRun.accepts tMgr .ftCtest 0 0 8 ∧ tRun.accepts tMgr .ftMctarget 0 0 (2 ^ 63) ∧ tRun.accepts tMgr .ftMclog 0 0 (2 ^ 63) :=
  ⟨accepts_of (by decide +kernel), accepts_of (by decide +kernel), accepts_of (by decide +kernel), accepts_of (by decide +kernel)⟩
theorem test_meets_ctest : let s := tRun.rset .ftCtstat 0 0 (BitVec.ofNat 64 (2 ^ 63 + 8))
    s.rbit .ftCtstat 0 0 63 = true ∧ s.rfld .ftCtstat 0 0 7 0 = 8 := by decide +kernel
theorem test_meets_async : let s : State := { tRun.rset .ftMctarget 0 0 (2 ^ 63) with asyncMc := some (mcheckOf 1 0 64) }
    s.asyncMc = some (mcheckOf 1 0 64) ∧ s.rbit .ftMctarget 0 0 63 = true ∧ s.lstate (s.logical (s.rfld .ftMctarget 0 0 7 0)) = 0 ∧
      (s.coresOf (s.logical (s.rfld .ftMctarget 0 0 7 0))).head? = some 0 := by decide +kernel

theorem test_meets_rail : tRun.rbit .pwStat 0 0 63 = true ∧ tRun.rbit .pwRaillog 0 0 63 = false ∧ tRun.accepts tMgr .pwRaillog 0 0 (2 ^ 63) := ⟨by decide +kernel, by decide +kernel, accepts_of (by decide +kernel)⟩
theorem test_meets_boot_wait : let s := State.reset.rput .pwStat 0 0 58 58 0
    s.power.held = true ∧ s.rfld .pwStat 0 0 63 55 ≠ 0x1FF ∧ State.reset.power.bootWait = none ∧ (s.rput .pwStat 0 0 (55 + 3) (55 + 3) 1).railsIn = true ∧
      ({ s with power := { s.power with bootWait := some (false, true, none) } } : State).power.bootWait = some (false, true, none) := by decide +kernel
theorem test_meets_hot : let s := tRun.rset .pwTemp 0 0 440
    (∃ n ∈ capSensors 0, (4 * (s.rfld .pwTherm 0 0 15 8) : Int) ≤ s.temp n) ∧ (List.replicate 44 460).length = 44 := ⟨⟨0, by decide, by decide +kernel⟩, by decide⟩
theorem test_meets_cool : (∀ n ∈ capSensors 35, tRun.temp n < (4 * (tRun.rfld .pwTherm 0 0 15 8) : Int) - 12) ∧
    ({ tRun with thermal := [(35, 6)] } : State).blkCap 35 < tRun.blk 35 12 8 ∧ tRun.blk 0 63 61 = 0 := by decide +kernel
theorem test_accepts_pw : tRun.accepts tMgr .pwFold 23 0 0x1601 ∧ tRun.accepts tMgr .pwFlock 11 0 0x1400 := ⟨accepts_of (by decide +kernel), accepts_of (by decide +kernel)⟩
theorem test_meets_fold_wake : (let s := tRun.setBlk 5 63 61 3; s.blk 5 63 61 = 3) ∧ (let s := tRun.setBlk 29 63 61 3; s.blk (24 + 5) 63 61 = 3) := by decide +kernel
theorem test_meets_fold_sleep : let s := (tRun.setBlk 5 63 61 0).setBlk 5 0 0 1
    s.blk 5 63 61 = 0 ∧ s.blk 5 0 0 = 1 ∧ s.foldCalled 5 = false := by decide +kernel
theorem test_meets_flock_sleep : let s := (tRun.setBlk 29 63 61 0).setBlk 29 0 0 1
    s.blk (24 + 5) 63 61 = 0 ∧ s.blk (24 + 5) 0 0 = 1 ∧ s.flockIdle 5 = true := by decide +kernel

/-- The tense port in RECORD with one piece on offer. -/
def tTense (t : Option (List Byte)) : State :=
  let s := tRun.setTns 2
  { s with shep := { s.shep with pieces := [{ off := 0, data := [1], bootseq := 1 }] }, tense := { s.tense with offering := true, transfer := t } }

theorem test_meets_piece : (tTense none).tns = 2 ∧ (tTense none).tense.transfer = none ∧ (tTense none).tense.offering = true ∧ (tTense (some [1])).tense.transfer ≠ none ∧
    (tTense none).shep.pieces = { off := 0, data := [1], bootseq := 1 } :: [] ∧ (tTense none).shep.restart = none := by decide +kernel
theorem test_meets_uart : tRun.accepts tMgr .tnUarttx 0 0 ((0x41 : Byte).setWidth 64) ∧ tRun.tense.uartTx.length < 256 ∧ (tRun.setTns 2).tns ≠ 0 ∧
    ctlIs tRun tMgr (Reg.tnUartrx.addr 0) (some (.tnUartrx, 0, 0)) = true :=
  ⟨accepts_of (by decide +kernel), by decide, by decide +kernel, by decide +kernel⟩
theorem test_meets_trace : let s := (tRun.setTns 3).rput .tnTrace 0 0 63 62 2
    s.rfld .tnTrace 0 0 63 62 = 2 ∧ s.foldRuns (foldOf (s.rfld .tnTrace 0 0 55 48)) = true ∧ s.tns = 3 ∧ s.tense.lost = 0 ∧ s.power.held = false ∧ tRun.tns ≠ 3 := by decide +kernel

/-! ### Operations and memory, and steps (O59, O60) -/

theorem test_meets_operation : placeOf (.st ⟨215, 2, 0⟩ 0 0 1 2 3) = some ⟨215, 2, 0⟩ ∧ (215 : Nat) < 216 ∧ isLoad (.st ⟨215, 2, 0⟩ 0 0 1 2 3) = false ∧ tRun.fcState (foldOf 215) ≠ 2 ∧ tRun.ok = true := by decide +kernel
theorem test_meets_step : tRun.ok = true ∧ isNext (step { tRun with pending := [.bypass] }) = true := by decide +kernel

end Sys2Proof.Machine
end

section
/-! The tables of memory: what a run of written bytes reads, and that a canonical table is what it reads as. -/

namespace Sys2Proof.Machine

variable {α : Type}

/-! ### What a table reads -/

/-- A listed pair is what its key reads: the keys of a table in order are different. -/
theorem tget_of_mem (d : α) {t : Tbl α} (ht : tsorted t = true) {p : Nat × α} (hp : p ∈ t) : tget d t p.1 = p.2 := by
  induction t with
  | nil => cases hp
  | cons q t ih =>
    rw [tsorted_iff, List.pairwise_cons, ← tsorted_iff] at ht
    obtain ⟨hlow, ht⟩ := ht
    rcases List.mem_cons.1 hp with rfl | hp
    · exact if_pos rfl
    · exact (if_neg (Nat.ne_of_gt (hlow p hp))).trans (ih ht hp)

/-- A key that no pair of the table has reads as the default. -/
theorem tget_of_not_mem (d : α) {t : Tbl α} {n : Nat} (h : ∀ p ∈ t, p.1 ≠ n) : tget d t n = d := by
  induction t with
  | nil => rfl
  | cons q t ih =>
    obtain ⟨hq, ht⟩ := List.forall_mem_cons.1 h
    exact (if_neg (Ne.symm hq)).trans (ih ht)

/-- A pair is listed in a canonical table exactly where its key reads its value and the value is no default. -/
theorem mem_iff_tget [DecidableEq α] (d : α) {t : Tbl α} (ht : twf (fun _ => d) t = true) (p : Nat × α) :
    p ∈ t ↔ tget d t p.1 = p.2 ∧ p.2 ≠ d := by
  simp only [twf, Bool.and_eq_true, List.all_eq_true, decide_eq_true_eq] at ht
  obtain ⟨hs, hd⟩ := ht
  refine ⟨fun hp => ⟨tget_of_mem d hs hp, hd p hp⟩, fun ⟨hr, hne⟩ => ?_⟩
  by_contra hp
  refine hne (hr.symm.trans (tget_of_not_mem d fun q hq hk => hp ?_))
  have hv : q.2 = p.2 := by rw [← tget_of_mem d hs hq, hk, hr]
  rwa [show p = q from Prod.ext hk.symm hv.symm]

/-- Canonical tables that read the same at every key are the same list: they list the same pairs, each once and in the same
order. -/
theorem eq_of_tget_eq [DecidableEq α] (d : α) {t u : Tbl α} (ht : twf (fun _ => d) t = true) (hu : twf (fun _ => d) u = true)
    (h : ∀ n, tget d t n = tget d u n) : t = u := by
  have hmem (p : Nat × α) : p ∈ t ↔ p ∈ u := by rw [mem_iff_tget d ht, mem_iff_tget d hu, h]
  have sorted {v : Tbl α} (hv : twf (fun _ => d) v = true) : v.Pairwise fun x y => x.1 < y.1 :=
    (tsorted_iff v).1 (Bool.and_eq_true_iff.1 hv).1
  have nodup {v : Tbl α} (hv : twf (fun _ => d) v = true) : v.Nodup := (sorted hv).imp fun hlt he => absurd (he ▸ hlt) (lt_irrefl _)
  exact ((List.perm_ext_iff_of_nodup (nodup ht) (nodup hu)).2 hmem).eq_of_pairwise
    (fun _ _ _ _ hab hba => absurd hab (Nat.lt_asymm hba)) (sorted ht) (sorted hu)

/-- With the pairs of some keys taken out, those keys read as the default and the others as before. -/
theorem tget_filter (d : α) (keep : Nat → Bool) (t : Tbl α) (n : Nat) :
    tget d (t.filter fun p => keep p.1) n = if keep n = true then tget d t n else d := by
  induction t with
  | nil => exact (ite_self d).symm
  | cons q t ih =>
    rw [List.filter_cons]
    by_cases hn : n = q.1
    · subst hn
      split
      · exact (if_pos rfl).trans (if_pos rfl).symm
      · rw [ih]; simp [*]
    · have hq : tget d (q :: t) n = tget d t n := if_neg hn
      rw [hq, ← ih]
      split
      · exact if_neg hn
      · rfl

/-! ### What a run of written bytes reads -/

/-- A byte above a run of written bytes reads as before. -/
theorem byte_setBytes_above (s : State) (pa a : Nat) (bs : List Byte) (h : pa + bs.length ≤ a) :
    (setBytes s pa bs).byte a = s.byte a := by
  induction bs generalizing s pa with
  | nil => rfl
  | cons b bs ih =>
    rw [List.length_cons] at h
    exact (ih _ _ (by omega)).trans (s.byte_setByte_ne _ _ _ (by omega))

/-- A byte of a run of written bytes reads as written: the writes after its own are above it. -/
theorem byte_setBytes_run (s : State) (pa i : Nat) (bs : List Byte) (h : i < bs.length) :
    (setBytes s pa bs).byte (pa + i) = lget 0 bs i := by
  induction bs generalizing s pa i with
  | nil => cases h
  | cons b bs ih =>
    cases i with
    | zero => exact (byte_setBytes_below _ _ _ _ (Nat.lt_succ_self pa)).trans (s.byte_setByte_same pa b)
    | succ i =>
      have hi := ih (s.setByte pa b) (pa + 1) i (Nat.lt_of_succ_lt_succ h)
      rwa [Nat.add_right_comm] at hi

/-- What the zeroing of a scratchpad bank leaves of each byte. -/
theorem byte_zeroBank (s : State) (k b pa : Nat) : (s.zeroBank k b).byte pa =
    if s.spBase k + b * 2 ^ 20 ≤ pa ∧ pa < s.spBase k + (b + 1) * 2 ^ 20 then memDefault else s.byte pa := by
  have hr := tget_filter memDefault
    (fun a => decide (a < s.spBase k + b * 2 ^ 20) || decide (s.spBase k + b * 2 ^ 20 + 2 ^ 20 ≤ a)) s.mem pa
  refine hr.trans ?_
  simp only [Bool.or_eq_true, decide_eq_true_eq]
  split
  · exact (if_neg (by omega)).symm
  · exact (if_pos (by omega)).symm

end Sys2Proof.Machine

open Sys2Proof Sys2Proof.Machine

/-- Settles O1: the step of a queue with a front command is that command's `exec`, by definition. -/
theorem stepRunsFrontCommand : Obligations.StepRunsFrontCommand := by
  unfold Obligations.StepRunsFrontCommand
  intro c s
  exact step_cons _ c s.pending rfl

/-- Settles O5, from the reads of a run of written bytes. -/
theorem memoryReadsWhatWasWritten : Obligations.MemoryReadsWhatWasWritten := by
  unfold Obligations.MemoryReadsWhatWasWritten
  intro s pa bs _
  refine ⟨fun i => byte_setBytes_run s pa i bs, fun a ha => ?_, setBytes_frame s pa bs⟩
  rcases ha with hb | ha
  · exact byte_setBytes_below s pa a bs hb
  · exact byte_setBytes_above s pa a bs ha

/-- Settles O6: a canonical table is what it reads as. -/
theorem equalMemoriesAreEqualData : Obligations.EqualMemoriesAreEqualData := by
  unfold Obligations.EqualMemoriesAreEqualData
  intro s t hs ht h
  exact eq_of_tget_eq memDefault hs ht h

end

section
/-! Every function of the model keeps memory canonical, the control registers in order and the module ID below 8. Only five
functions write a register, memory or the module ID themselves: `rset`, `setByte`, `zeroBank`, the strap that gives the module
its ID, and MRST_N, which resets them; each other one builds its state from theirs. So there is one lemma per function, in the order of the model's
files: if its argument keeps what `u` has, its result does. A chain of calls is a chain of their lemmas; where a function has
branches, they are walked with the lemmas of the functions it calls. -/

/- One proof after another: with a task for each of these many proofs, the build runs out of threads under its memory limit. -/
set_option Elab.async false

namespace Sys2Proof.Machine

/-- What `u` has of order, `s` has too: a canonical memory, control registers in order, a module ID below 8. -/
def KeepsOrder (u s : State) : Prop :=
  (u.memOk = true → s.memOk = true) ∧ (u.regsOk = true → s.regsOk = true) ∧ (u.ownModule < 8 → s.ownModule < 8)

/-- An outcome keeps order where its next state does. -/
def OutKeepsOrder (u : State) (o : Out) : Prop := ∀ t, o = .next t → KeepsOrder u t

namespace KeepsOrder

variable {u s : State}

/-! ### Rules -/

theorem refl (s : State) : KeepsOrder s s := ⟨id, id, id⟩

/-- An update of any fields but memory, the control registers and the module ID. -/
theorem frame (h : KeepsOrder u s)
    (p sp b co sa sc sn pa sq ca mc ef eb tr rf ti hu me ms ch pt po sh te pw cz cy ke dr fa hw th se td st as_ fc) :
    KeepsOrder u ⟨p, s.regs, s.mem, sp, b, s.ownModule, co, sa, sc, sn, pa, sq, ca, mc, ef, eb, tr, rf, ti, hu, me, ms, ch, pt, po, sh,
      te, pw, cz, cy, ke, dr, fa, hw, th, se, td, st, as_, fc⟩ := h

theorem next (h : KeepsOrder u s) : OutKeepsOrder u (.next s) := by
  rintro _ ⟨⟩
  exact h

theorem ite {p : Prop} {_ : Decidable p} {a b : State} (ha : KeepsOrder u a) (hb : KeepsOrder u b) :
    KeepsOrder u (if p then a else b) := by
  split
  · exact ha
  · exact hb

theorem iteOut {p : Prop} {_ : Decidable p} {a b : Out} (ha : OutKeepsOrder u a) (hb : OutKeepsOrder u b) :
    OutKeepsOrder u (if p then a else b) := by
  split
  · exact ha
  · exact hb

theorem foldl {α : Type} (h : KeepsOrder u s) (f : State → α → State) (hf : ∀ s a, KeepsOrder u s → KeepsOrder u (f s a))
    (l : List α) : KeepsOrder u (l.foldl f s) := by
  induction l generalizing s with
  | nil => exact h
  | cons a l ih => exact ih (hf _ _ h)

theorem foldl_fst {α β : Type} {p : State × β} (f : State × β → α → State × β) (h : KeepsOrder u p.1)
    (hf : ∀ p a, KeepsOrder u p.1 → KeepsOrder u (f p a).1) (l : List α) : KeepsOrder u (l.foldl f p).1 := by
  induction l generalizing p with
  | nil => exact h
  | cons a l ih => exact ih (hf _ _ h)

theorem getD {o : Option State} (h : KeepsOrder u s) (ho : ∀ t, o = some t → KeepsOrder u t) : KeepsOrder u (o.getD s) := by
  cases o with
  | none => exact h
  | some t => exact ho t rfl

theorem ofSome (h : KeepsOrder u s) : ∀ t, some s = some t → KeepsOrder u t := by
  rintro _ ⟨⟩
  exact h

theorem rset (h : KeepsOrder u s) (r : Reg) (i j : Nat) (v : Word) : KeepsOrder u (s.rset r i j v) := by
  obtain ⟨hmem, hregs, hmod⟩ := h
  exact ⟨hmem, fun k => s.regsOk_rset r i j v (hregs k), hmod⟩

theorem setByte (h : KeepsOrder u s) (pa : Nat) (b : Byte) : KeepsOrder u (s.setByte pa b) := by
  obtain ⟨hmem, hregs, hmod⟩ := h
  exact ⟨fun k => s.memOk_setByte pa b (hmem k), hregs, hmod⟩

theorem setBytes (h : KeepsOrder u s) (pa : Nat) (bs : List Byte) : KeepsOrder u (Machine.setBytes s pa bs) := by
  induction bs generalizing s pa with
  | nil => exact h
  | cons b bs ih => exact ih (h.setByte pa b) _

/-! ### The functions of Ops -/

theorem rmod (h : KeepsOrder u s) (r : Reg) (i j : Nat) (f : Word → Word) : KeepsOrder u (s.rmod r i j f) := h.rset _ _ _ _

theorem rput (h : KeepsOrder u s) (r : Reg) (i j hi lo v : Nat) : KeepsOrder u (s.rput r i j hi lo v) := h.rmod _ _ _ _

theorem bump (h : KeepsOrder u s) (r : Reg) (i j n : Nat) : KeepsOrder u (s.bump r i j n) := h.rmod _ _ _ _

theorem drawn (h : KeepsOrder u s) : KeepsOrder u s.drawn := h

theorem traceRecord (h : KeepsOrder u s) (w : Nat) : KeepsOrder u (s.traceRecord w) := by
  unfold State.traceRecord
  grind [frame]

theorem traceEvent (h : KeepsOrder u s) (src : Nat) : KeepsOrder u (s.traceEvent src) := by
  unfold State.traceEvent
  grind [traceRecord]

theorem raise (h : KeepsOrder u s) (src : Nat) : KeepsOrder u (s.raise src) := by
  unfold State.raise
  grind [frame, rset, traceEvent]

theorem reject (h : KeepsOrder u s) (cause addr data : Nat) : KeepsOrder u (s.reject cause addr data) := by
  unfold State.reject
  grind [raise, rset]

theorem record (h : KeepsOrder u s) (r : Reg) (i j v : Nat) : KeepsOrder u (s.record r i j v) := h.rset _ _ _ _

theorem recordMc (h : KeepsOrder u s) (m : MCheck) (core : Nat) : KeepsOrder u (s.recordMc m core) := by
  unfold State.recordMc
  grind [raise, rset]

theorem setMemLine (h : KeepsOrder u s) (line : Nat) (d : BitVec 512) : KeepsOrder u (s.setMemLine line d) := h.setBytes _ _

theorem setCore (h : KeepsOrder u s) (n : Nat) (c : Core) : KeepsOrder u (s.setCore n c) := h

theorem modCore (h : KeepsOrder u s) (n : Nat) (f : Core → Core) : KeepsOrder u (s.modCore n f) := h.setCore _ _

theorem modPair (h : KeepsOrder u s) (p : Nat) (f : Pair → Pair) : KeepsOrder u (s.modPair p f) := h

theorem modSeq (h : KeepsOrder u s) (l : Nat) (f : Seq → Seq) : KeepsOrder u (s.modSeq l f) := h

theorem setLstate (h : KeepsOrder u s) (l v : Nat) : KeepsOrder u (s.setLstate l v) := h.modCore _ _

/-! ### The functions of Chan -/

theorem setChState (h : KeepsOrder u s) (ch v : Nat) : KeepsOrder u (s.setChState ch v) := h.rput _ _ _ _ _ _

theorem modMc (h : KeepsOrder u s) (f : MemCtl → MemCtl) : KeepsOrder u (s.modMc f) := h

theorem poisonMem (h : KeepsOrder u s) (line : Nat) : KeepsOrder u (s.poisonMem line) := by
  unfold State.poisonMem
  grind [modMc]

theorem memWriteLine (h : KeepsOrder u s) (line : Nat) (d : BitVec 512) (poison : Bool) : KeepsOrder u (s.memWriteLine line d poison) := by
  unfold State.memWriteLine
  grind [modMc, rput, setMemLine]

theorem endService (h : KeepsOrder u s) (result : Nat) : KeepsOrder u (s.endService result) := (h.rset _ _ _ _).raise _

theorem failChannel (h : KeepsOrder u s) (ch : Nat) : KeepsOrder u (s.failChannel ch) := by
  unfold State.failChannel
  extract_lets g busy lost s1 s2 s3 s4
  have h2 : KeepsOrder u s2 := ite (((h.setChState ch 4).modMc _).endService 4) (h.setChState ch 4)
  have h3 : KeepsOrder u s3 := by
    clear_value busy
    dsimp only [s3]
    split
    · exact ((((foldl h2 _ (fun _ _ h => h.poisonMem _) _).setChState _ _).modMc _).endService _).raise _
    · exact h2
  have h4 : KeepsOrder u s4 := ite h3 (h3.raise _)
  exact ite h (h4.raise _)

/-! ### The functions of Ports -/

theorem lkLink (h : KeepsOrder u s) (p : Nat) : KeepsOrder u (s.lkLink p) := h.raise _

theorem setLink (h : KeepsOrder u s) (p v : Nat) : KeepsOrder u (s.setLink p v) := by
  unfold State.setLink
  grind [lkLink, rput]

theorem lkError (h : KeepsOrder u s) (p cause rid addr : Nat) : KeepsOrder u (s.lkError p cause rid addr) := by
  unfold State.lkError
  grind [raise, rset]

theorem modCh (h : KeepsOrder u s) (f : Chans → Chans) : KeepsOrder u (s.modCh f) := h

theorem modPen (h : KeepsOrder u s) (n : Nat) (f : Pen → Pen) : KeepsOrder u (s.modPen n f) := h.modCh _

theorem failPath (h : KeepsOrder u s) (n i : Nat) : KeepsOrder u (s.failPath n i) := by
  unfold State.failPath
  grind [raise, rput]

theorem failPort (h : KeepsOrder u s) (p : Nat) : KeepsOrder u (s.failPort p) := by
  unfold State.failPort
  grind [failPath, raise, foldl]

theorem unserved (h : KeepsOrder u s) (line place : Nat) : KeepsOrder u (s.unserved line place) := by
  unfold State.unserved
  grind [frame, modCore, foldl]

theorem moduleLost (h : KeepsOrder u s) (m : Nat) : KeepsOrder u (s.moduleLost m) := by
  unfold State.moduleLost
  grind [frame, unserved, foldl]

theorem modPa (h : KeepsOrder u s) (f : Pasture → Pasture) : KeepsOrder u (s.modPa f) := h

theorem modLnk (h : KeepsOrder u s) (p : Nat) (f : LinkS → LinkS) : KeepsOrder u (s.modLnk p f) := h.modPa _

theorem transmit (h : KeepsOrder u s) (p : Nat) (m : Msg) : KeepsOrder u (s.transmit p m) := h.modLnk _ _

theorem sendMsgs (h : KeepsOrder u s) (ms : List Msg) (blocked : List (Nat × Nat)) :
    KeepsOrder u (Machine.sendMsgs ms blocked s) := by
  induction ms generalizing s blocked with
  | nil => exact h
  | cons m ms ih => exact ite (ih h _) (ite (ih (show KeepsOrder u { s with msgs := s.msgs ++ [m] } from h) _) (ih (h.transmit _ _) _))

theorem pumpMsgs (h : KeepsOrder u s) : KeepsOrder u s.pumpMsgs :=
  (show KeepsOrder u { s with msgs := [] } from h).sendMsgs _ _

theorem post (h : KeepsOrder u s) (m : Msg) : KeepsOrder u (s.post m) :=
  (show KeepsOrder u { s with msgs := s.msgs ++ [m] } from h).pumpMsgs

theorem send (h : KeepsOrder u s) (mtype dst tid addr param : Nat) (body : List Word) :
    KeepsOrder u (s.send mtype dst tid addr param body) :=
  h.post _

theorem ask (h : KeepsOrder u s) (mtype dst addr param : Nat) (body : List Word) : KeepsOrder u (s.ask mtype dst addr param body) :=
  h.send _ _ _ _ _ _

theorem updateRoutes (h : KeepsOrder u s) : KeepsOrder u s.updateRoutes := by
  unfold State.updateRoutes
  grind [moduleLost, pumpMsgs, raise, rput, rset, foldl]

theorem tellNeighbours (h : KeepsOrder u s) (d : Nat) (down : Bool) : KeepsOrder u (s.tellNeighbours d down) := by
  unfold State.tellNeighbours
  grind [send, foldl]

theorem activate (h : KeepsOrder u s) (g : Nat) : KeepsOrder u (s.activate g) := by
  unfold State.activate
  grind [modPa, rput, send, tellNeighbours, updateRoutes]

theorem ngatraDown (h : KeepsOrder u s) (p : Nat) : KeepsOrder u (s.ngatraDown p) := by
  unfold State.ngatraDown
  grind [activate, modLnk, modPa, rput, send, tellNeighbours, updateRoutes]

theorem linkDown (h : KeepsOrder u s) (p v : Nat) : KeepsOrder u (s.linkDown p v) := by
  unfold State.linkDown
  grind [failPort, ngatraDown, rmod, setLink]

theorem abortPortOp (h : KeepsOrder u s) (p : Nat) : KeepsOrder u (s.abortPortOp p) := by
  unfold State.abortPortOp
  grind [frame, lkLink, rmod, rput]

theorem lameLane (h : KeepsOrder u s) (lane : Nat) : KeepsOrder u (s.lameLane lane) := by
  unfold State.lameLane
  grind [abortPortOp, linkDown, lkLink, rput, setLink]

theorem lameLink (h : KeepsOrder u s) (p : Nat) : KeepsOrder u (s.lameLink p) := h.linkDown _ _

theorem lameDrover (h : KeepsOrder u s) (d : Nat) : KeepsOrder u (s.lameDrover d) := by
  unfold State.lameDrover
  grind [raise, rput, foldl]

/-! ### The functions of Strike -/

theorem setWaydisHw (h : KeepsOrder u s) (k v : Nat) : KeepsOrder u (s.setWaydisHw k v) := by
  unfold State.setWaydisHw
  grind [rput]

theorem setWaydisSw (h : KeepsOrder u s) (k v : Nat) : KeepsOrder u (s.setWaydisSw k v) := by
  unfold State.setWaydisSw
  grind [rput]

theorem startWalk (h : KeepsOrder u s) (k mask : Nat) : KeepsOrder u (s.startWalk k mask) := by
  unfold State.startWalk
  grind [frame, rput]

theorem wayThreshold (h : KeepsOrder u s) (k : Nat) : KeepsOrder u (s.wayThreshold k) := by
  unfold State.wayThreshold
  grind [raise]

theorem armCommands (h : KeepsOrder u s) (l : Nat) : KeepsOrder u (s.armCommands l) := by
  unfold State.armCommands
  grind [modCore]

theorem commandDue (h : KeepsOrder u s) (l cmd : Nat) : KeepsOrder u (s.commandDue l cmd) := by
  unfold State.commandDue
  grind [armCommands, modSeq]

theorem startCopy (h : KeepsOrder u s) (l : Nat) (c : Copy) : KeepsOrder u (s.startCopy l c) := (h.modSeq _ _).setLstate _ _

theorem lameStopped (h : KeepsOrder u s) (l role : Nat) : KeepsOrder u (s.lameStopped l role) := by
  unfold State.lameStopped
  grind [modPair, raise, rput, setLstate, startCopy]

theorem lameCoreDue (h : KeepsOrder u s) (n : Nat) : KeepsOrder u (s.lameCoreDue n) := by
  unfold State.lameCoreDue
  grind [commandDue, lameStopped]

theorem pairTestDue (h : KeepsOrder u s) (p : Nat) : KeepsOrder u (s.pairTestDue p) := by
  unfold State.pairTestDue
  grind [commandDue, modPair, modSeq, setLstate, foldl]

theorem spareDevice (h : KeepsOrder u s) (i : Nat) : KeepsOrder u (s.spareDevice i) := by
  unfold State.spareDevice
  grind [failChannel, modMc, raise, rmod]

theorem repairRow (h : KeepsOrder u s) (ch loc : Nat) : KeepsOrder u (s.repairRow ch loc) := by
  unfold State.repairRow
  grind [modMc, rmod, rset, setChState]

theorem declareLame (h : KeepsOrder u s) (c i : Nat) : KeepsOrder u (s.declareLame c i) := by
  unfold State.declareLame
  grind [failChannel, lameCoreDue, lameDrover, lameLane, lameLink, modCore, raise, setWaydisHw, spareDevice, startWalk, wayThreshold]

theorem lameCount (h : KeepsOrder u s) (up : Bool) : KeepsOrder u (s.lameCount up) := h.rmod _ _ _ _

theorem fallLame (h : KeepsOrder u s) (c i : Nat) : KeepsOrder u (s.fallLame c i) := ((h.lameCount _).declareLame _ _).raise _

theorem declare (h : KeepsOrder u s) (c i : Nat) : KeepsOrder u (s.declare c i) := by
  unfold State.declare
  grind [fallLame, rmod]

theorem strike (h : KeepsOrder u s) (c i : Nat) : KeepsOrder u (s.strike c i) := by
  unfold State.strike
  grind [fallLame, pairTestDue, raise, rset]

theorem rowCounter (h : KeepsOrder u s) (ch row : Nat) : KeepsOrder u (s.rowCounter ch row).2 := by
  unfold State.rowCounter
  grind [frame, lameCount, modMc, foldl]

theorem strikeRow (h : KeepsOrder u s) (ch row loc : Nat) : KeepsOrder u (s.strikeRow ch row loc) := by
  unfold State.strikeRow
  grind [lameCount, modMc, raise, repairRow, rowCounter]

/-! ### The functions of CacheArr -/

theorem modCa (h : KeepsOrder u s) (f : Caches → Caches) : KeepsOrder u (s.modCa f) := h

theorem cset (h : KeepsOrder u s) (k line w : Nat) (l : CLine) : KeepsOrder u (s.cset k line w l) := h.modCa _

theorem cclear (h : KeepsOrder u s) (k line w : Nat) : KeepsOrder u (s.cclear k line w) := h.modCa _

theorem mapCores (h : KeepsOrder u s) (p : Nat → Bool) (f : Core → Core) : KeepsOrder u (s.mapCores p f) := h

theorem dropL1 (h : KeepsOrder u s) (f line : Nat) : KeepsOrder u (s.dropL1 f line) := h.mapCores _ _

theorem dropL1d (h : KeepsOrder u s) (f line : Nat) : KeepsOrder u (s.dropL1d f line) := h.mapCores _ _

theorem cdrop (h : KeepsOrder u s) (k line : Nat) : KeepsOrder u (s.cdrop k line) := by
  unfold State.cdrop
  grind [cclear, dropL1]

theorem setDir (h : KeepsOrder u s) (line : Nat) (e : Option DirE) : KeepsOrder u (s.setDir line e) := h.modCa _

theorem dirRemove (h : KeepsOrder u s) (line h' : Nat) : KeepsOrder u (s.dirRemove line h') := by
  unfold State.dirRemove
  grind [setDir]

theorem dirMove (h : KeepsOrder u s) (line old new : Nat) : KeepsOrder u (s.dirMove line old new) := by
  unfold State.dirMove
  grind [setDir]

theorem copiesGo (h : KeepsOrder u s) (line : Nat) : KeepsOrder u (s.copiesGo line) := by
  unfold State.copiesGo
  grind [ask, memWriteLine, foldl]

theorem invalidateAll (h : KeepsOrder u s) (line : Nat) : KeepsOrder u (s.invalidateAll line) :=
  (((h.copiesGo _).modCa _).mapCores _ _).setDir _ _

theorem cleanAll (h : KeepsOrder u s) (line : Nat) : KeepsOrder u (s.cleanAll line) := by
  unfold State.cleanAll
  grind [memWriteLine, modCa]

theorem cohWriteMask (h : KeepsOrder u s) (line : Nat) (d : BitVec 512) (m : BitVec 64) : KeepsOrder u (s.cohWriteMask line d m) := by
  unfold State.cohWriteMask
  grind [ask, invalidateAll, memWriteLine]

theorem cohWriteLine (h : KeepsOrder u s) (line i : Nat) (bs : List Byte) : KeepsOrder u (s.cohWriteLine line i bs) := by
  unfold State.cohWriteLine
  grind [cohWriteMask]

theorem cohWrite (h : KeepsOrder u s) (pa : Nat) (bs : List Byte) : KeepsOrder u (s.cohWrite pa bs) := by
  unfold State.cohWrite
  grind [cohWriteLine, foldl]

theorem putDir (h : KeepsOrder u s) (line : Nat) (e : DirE) : KeepsOrder u (s.putDir line e) := by
  unfold State.putDir
  grind [drawn, invalidateAll, setDir]

theorem plruUse (h : KeepsOrder u s) (k line w : Nat) : KeepsOrder u (s.plruUse k line w) := h.modCa _

theorem setRepl (h : KeepsOrder u s) (k : Nat) (v : Word) : KeepsOrder u (s.setRepl k v) := by
  unfold State.setRepl
  grind [rset]

theorem checkLfsr (h : KeepsOrder u s) (k : Nat) : KeepsOrder u (s.checkLfsr k) := by
  unfold State.checkLfsr
  grind [raise, setRepl, strike]

theorem stepLfsr (h : KeepsOrder u s) (k : Nat) : KeepsOrder u (s.stepLfsr k) := ((h.setRepl _ _).modCa _).checkLfsr _

theorem sendHome (h : KeepsOrder u s) (o : OutLine) : KeepsOrder u (s.sendHome o) := h.modCa _

theorem evictWay (h : KeepsOrder u s) (k line w : Nat) : KeepsOrder u (s.evictWay k line w) := by
  unfold State.evictWay
  grind [cclear, dropL1, modCa, sendHome]

theorem install (h : KeepsOrder u s) (k mask : Nat) (l : CLine) : KeepsOrder u (s.install k mask l).1 := by
  unfold State.install
  grind [cset, evictWay, plruUse, raise, stepLfsr]

theorem arrayLog (h : KeepsOrder u s) (k line w : Nat) (ue tag : Bool) : KeepsOrder u (s.arrayLog k line w ue tag) := by
  unfold State.arrayLog
  grind [raise, record, strike]

theorem lookup (h : KeepsOrder u s) (k line : Nat) (err : ArrayErr) : KeepsOrder u (s.lookup k line err).1 := by
  have ha (w b c) := h.arrayLog k line w b c
  unfold State.lookup
  split
  · exact h
  next w l _ =>
    cases err with
    | none => exact h
    | dataCorrected => exact ha _ _ _
    | tagCorrected => exact ha _ _ _
    | dataUncorrectable =>
      dsimp only
      split
      · exact (ha _ _ _).cset _ _ _ _
      · exact ((ha _ _ _).cdrop _ _).dirRemove _ _
    | tagUncorrectable =>
      have hd := (ha w true true).cdrop k line
      dsimp only
      split
      · exact (ite hd (ite (hd.poisonMem _) (hd.ask _ _ _ _ _))).dirRemove _ _
      · exact hd

theorem logRefusal (h : KeepsOrder u s) (k agent cause : Nat) (wr : Bool) (off : Nat) : KeepsOrder u (s.logRefusal k agent cause wr off) :=
  (h.record _ _ _ _).raise _

theorem spRead (h : KeepsOrder u s) (agent pa n : Nat) (err : WordErr) : KeepsOrder u (s.spRead agent pa n err).1 := by
  unfold State.spRead
  split
  · exact h
  split
  · exact h.logRefusal _ _ _ _ _
  dsimp only
  generalize hs : (if s.spPoison.contains (pa / 16) then s else _) = s1
  have h1 : KeepsOrder u s1 := by
    subst hs
    split
    · exact h
    split
    · exact h
    · exact ((h.record _ _ _ _).raise _).strike _ _
    · have hp : KeepsOrder u { s with spPoison := pa / 16 :: s.spPoison } := h
      exact ((hp.record _ _ _ _).raise _).strike _ _
  split <;> exact h1

theorem spWrite (h : KeepsOrder u s) (agent pa : Nat) (bs : List Byte) : KeepsOrder u (s.spWrite agent pa bs).1 := by
  unfold State.spWrite
  grind [frame, logRefusal, setBytes]

theorem spWriteMask (h : KeepsOrder u s) (agent line : Nat) (d : BitVec 512) (m : BitVec 64) :
    KeepsOrder u (s.spWriteMask agent line d m).1 := by
  unfold State.spWriteMask
  grind [frame, logRefusal, setMemLine]

/-! ### The functions of MemCtl -/

theorem eccRecord (h : KeepsOrder u s) (ch loc line device : Nat) (ue rebuilt : Bool) :
    KeepsOrder u (s.eccRecord ch loc line device ue rebuilt) := by
  unfold State.eccRecord
  grind [record, rset]

theorem pieceCorrected (h : KeepsOrder u s) (ch loc line device : Nat) : KeepsOrder u (s.pieceCorrected ch loc line device) :=
  ((((h.eccRecord _ _ _ _ _ _).bump _ _ _ _).raise _).strike _ _).strikeRow _ _ _

theorem pieceRebuilt (h : KeepsOrder u s) (ch loc line : Nat) : KeepsOrder u (s.pieceRebuilt ch loc line) :=
  (((h.eccRecord _ _ _ _ _ _).bump _ _ _ _).raise _).strike _ _

theorem pieceLost (h : KeepsOrder u s) (ch loc line : Nat) : KeepsOrder u (s.pieceLost ch loc line) :=
  ((h.eccRecord _ _ _ _ _ _).poisonMem _).raise _

theorem checkLost (h : KeepsOrder u s) (ch loc line : Nat) : KeepsOrder u (s.checkLost ch loc line) := (h.eccRecord _ _ _ _ _ _).raise _

theorem pieceError (h : KeepsOrder u s) (line : Nat) (pe : PieceErr) : KeepsOrder u (s.pieceError line pe) := by
  unfold State.pieceError
  grind [pieceCorrected, pieceLost, pieceRebuilt]

theorem execPatrolScrub (h : KeepsOrder u s) (ch line : Nat) (pe : PieceErr) :
    OutKeepsOrder u (Machine.execPatrolScrub ch line pe s) := by
  unfold Machine.execPatrolScrub
  split
  · exact next h
  dsimp only
  split
  · exact next h
  generalize hs : (if ch % 5 ≠ 4 then s.pieceError line pe else _) = s1
  have h1 : KeepsOrder u s1 := by
    subst hs
    refine ite (h.pieceError _ _) ?_
    split
    · exact h
    · exact h.pieceCorrected _ _ _ _
    · exact ite (h.pieceRebuilt _ _ _) (h.checkLost _ _ _)
    · exact h.checkLost _ _ _
  split
  · exact next (((h1.modMc _).rset _ _ _ _).raise _)
  · exact next ((h1.modMc _).rput _ _ _ _ _ _)

theorem mcCommand (h : KeepsOrder u s) (ch cmd : Nat) : KeepsOrder u (s.mcCommand ch cmd) := by
  unfold State.mcCommand
  grind [modMc, rput, rset, setChState]

theorem execChannelOffline (h : KeepsOrder u s) (ch : Nat) : OutKeepsOrder u (Machine.execChannelOffline ch s) := by
  unfold Machine.execChannelOffline
  grind [next, modMc, rset, setChState, foldl]

theorem execTrainingOrRepairComplete (h : KeepsOrder u s) (ok restored : Bool) :
    OutKeepsOrder u (Machine.execTrainingOrRepairComplete ok restored s) := by
  unfold Machine.execTrainingOrRepairComplete
  grind [next, endService, failChannel, modMc, rput, setChState, strike]

theorem execResyncComplete (h : KeepsOrder u s) : OutKeepsOrder u (Machine.execResyncComplete s) := by
  unfold Machine.execResyncComplete
  grind [next, endService, modMc, setChState]

/-! ### The functions of Events -/

theorem evClear (h : KeepsOrder u s) (src : Nat) : KeepsOrder u (s.evClear src) := h.rset _ _ _ _

theorem evTake (h : KeepsOrder u s) (l src : Nat) : KeepsOrder u (s.evTake l src) := by
  unfold State.evTake
  grind [evClear, rput, rset]

theorem evEoiAt (h : KeepsOrder u s) (l lvl : Nat) : KeepsOrder u (s.evEoiAt l lvl) := by
  unfold State.evEoiAt
  grind [modCore, rput]

theorem evGuestRaise (h : KeepsOrder u s) (a : Agent) (src : Nat) : KeepsOrder u (s.evGuestRaise a src) := by
  unfold State.evGuestRaise
  grind [raise]

theorem execCoalesceTimerExpire (h : KeepsOrder u s) (src : Nat) : OutKeepsOrder u (Machine.execCoalesceTimerExpire src s) := by
  unfold Machine.execCoalesceTimerExpire
  grind [next, rset]

theorem evRestore (h : KeepsOrder u s) (l : Nat) (events : List (Nat × Nat)) : KeepsOrder u (s.evRestore l events) := by
  unfold State.evRestore
  grind [frame, rset, foldl]

theorem evStart (h : KeepsOrder u s) (l : Nat) : KeepsOrder u (s.evStart l) := (((h.rset _ _ _ _).rset _ _ _ _).rset _ _ _ _).modCore _ _

/-! ### The functions of Translate -/

theorem keep (h : KeepsOrder u s) (n : Nat) (tlb : List TlbE) (hs : List HurdleE) : KeepsOrder u (s.keep n tlb hs) := h.modCore _ _

theorem logFault (h : KeepsOrder u s) (n : Nat) (f : Flt) : KeepsOrder u (s.logFault n f) := by
  unfold State.logFault
  grind [drawn, rset]

/-! ### The functions of Issue -/

theorem opReg (h : KeepsOrder u s) (x : Slot) (w : OpWord) (lat : Nat) (f : Arch → OpRes) : KeepsOrder u (Machine.opReg x w lat f s) := by
  unfold Machine.opReg
  grind [modCore]

theorem opAct (h : KeepsOrder u s) (x : Slot) (w : OpWord) (act : State → State) (ha : KeepsOrder u (act s)) :
    KeepsOrder u (Machine.opAct x w act s) :=
  ite (ite ha (h.modCore _ _)) h

theorem undo (h : KeepsOrder u s) (n : Nat) : KeepsOrder u (s.undo n) := by
  unfold State.undo
  grind [modPair, setCore]

theorem lvPush (h : KeepsOrder u s) (n : Nat) (e : LvEntry) : KeepsOrder u (s.lvPush n e) := by
  unfold State.lvPush
  grind [modPair]

theorem opFreeze (h : KeepsOrder u s) (n : Nat) (fz : Freeze) : KeepsOrder u (s.opFreeze n fz) := (h.undo _).modCore _ _

theorem withQueue (h : KeepsOrder u s) (n k : Nat) (go : State → State) (hg : KeepsOrder u (go s)) :
    KeepsOrder u (s.withQueue n k go) :=
  ite (h.opFreeze _ _) hg

theorem handOn (h : KeepsOrder u s) (n : Nat) (b : Bundle) : KeepsOrder u (s.handOn n b) := by
  unfold State.handOn
  grind [modPair]

theorem opFault (h : KeepsOrder u s) (n : Nat) (e : Exc) (queued : Bool) : KeepsOrder u (s.opFault n e queued) := by
  unfold State.opFault
  grind [handOn, lvPush, modCore, modPair, undo, withQueue]

theorem opMcheck (h : KeepsOrder u s) (n : Nat) (m : MCheck) : KeepsOrder u (s.opMcheck n m) := ((h.undo _).modCore _ _).lvPush _ _

theorem accessFault (h : KeepsOrder u s) (n : Nat) (f : Flt) : KeepsOrder u (s.accessFault n f) := (h.logFault _ _).opFault _ _ _

theorem cregReject (h : KeepsOrder u s) (n creg : Nat) (v : Word) : KeepsOrder u (s.cregReject n creg v) := by
  unfold State.cregReject
  grind [reject]

theorem landCwr (h : KeepsOrder u s) (n creg : Nat) (v : Word) : KeepsOrder u (s.landCwr n creg v) := by
  unfold State.landCwr
  grind [cregReject, modCore]

theorem lvFill (h : KeepsOrder u s) (n : Nat) (f : Flight) : KeepsOrder u (s.lvFill n f) := by
  unfold State.lvFill
  grind [modCore, modPair, foldl]

theorem land (h : KeepsOrder u s) (n : Nat) (f : Flight) : KeepsOrder u (s.land n f) := by
  unfold State.land
  grind [landCwr, lvFill, lvPush, modCore, foldl]

theorem landAt (h : KeepsOrder u s) (n cy : Nat) : KeepsOrder u (s.landAt n cy) := by
  unfold State.landAt
  grind [land, modCore, foldl]

theorem drain (h : KeepsOrder u s) (n : Nat) : KeepsOrder u (s.drain n) := by
  unfold State.drain
  grind [landAt, modCore, foldl]

/-! ### The functions of Path -/

theorem dropWaiters (h : KeepsOrder u s) (ns : List Nat) : KeepsOrder u (s.dropWaiters ns) := h.modCa _

theorem noteCause (h : KeepsOrder u s) (l cause core : Nat) (sigB sigS : Word) : KeepsOrder u (s.noteCause l cause core sigB sigS) :=
  h.modSeq _ _

theorem startRollback (h : KeepsOrder u s) (l cause core : Nat) (sigB sigS : Word) :
    KeepsOrder u (s.startRollback l cause core sigB sigS) := by
  have hb := foldl (h.noteCause l cause core sigB sigS) (fun s n => s.modCore n Core.abandon) (fun _ _ h => h.modCore _ _) (s.coresOf l)
  have hr := (((hb.dropWaiters (s.coresOf l)).modPair (4 * foldOf l + l % 9 / 2) fun q => { q with lvq := [], fetched := [] }).modSeq l
    fun q => { q with cmds := q.cmds.filter fun k => k != 6 }).setLstate l 1
  exact ite ((hr.raise _).strike _ _) ((hr.raise _).strike _ _)

theorem mismatch (h : KeepsOrder u s) (n cause : Nat) : KeepsOrder u (s.mismatch n cause) := h.startRollback _ _ _ _ _

theorem lvPop (h : KeepsOrder u s) (n : Nat) : KeepsOrder u (s.lvPop n) := by
  unfold State.lvPop
  grind [modPair, setCore]

theorem lvTake (h : KeepsOrder u s) (n slot : Nat) (kind : LvKind) (k : LvEntry → State → State)
    (hk : ∀ e s, KeepsOrder u s → KeepsOrder u (k e s)) : KeepsOrder u (s.lvTake n slot kind k) := by
  unfold State.lvTake
  split
  · exact h
  split
  · exact hk _ _ (h.lvPop _)
  · exact h.opFreeze _ _
  · exact h.mismatch _ _

theorem moveOne (h : KeepsOrder u s) (n : Nat) : KeepsOrder u (s.moveOne n) := by
  unfold State.moveOne
  grind [setCore]

theorem moveAll (h : KeepsOrder u s) (n k : Nat) : KeepsOrder u (s.moveAll n k) := by
  induction k generalizing s with
  | zero => exact h
  | succ k ih => exact ih (h.moveOne n)

theorem pathStore (h : KeepsOrder u s) (n : Nat) (hs : List (Half × List Byte)) (k : State → State)
    (hk : ∀ s, KeepsOrder u s → KeepsOrder u (k s)) : KeepsOrder u (s.pathStore n hs k) := by
  unfold State.pathStore
  split
  · exact hk _ (h.setCore _ _)
  · exact (h.opFreeze _ _).modCore _ _

/-! ### The functions of Mem -/

theorem l1dPut (h : KeepsOrder u s) (n line : Nat) (d : BitVec 512) : KeepsOrder u (s.l1dPut n line d) := by
  unfold State.l1dPut
  grind [drawn, setCore]

theorem l1iPut (h : KeepsOrder u s) (n line : Nat) (d : BitVec 512) : KeepsOrder u (s.l1iPut n line d) := by
  unfold State.l1iPut
  grind [drawn, setCore]

theorem drainAhead (h : KeepsOrder u s) (f line : Nat) : KeepsOrder u (s.drainAhead f line) := by
  unfold State.drainAhead
  grind [cdrop, dirRemove, memWriteLine]

theorem awaitLine (h : KeepsOrder u s) (f n line : Nat) (fetch : Bool) (kind : FillKind) : KeepsOrder u (s.awaitLine f n line fetch kind) :=
  h.modCa _

theorem missLine (h : KeepsOrder u s) (f n line : Nat) (fetch : Bool) : KeepsOrder u (s.missLine f n line fetch) :=
  (h.bump _ _ _ _).awaitLine _ _ _ _ _

theorem leaveWay (h : KeepsOrder u s) (k line w : Nat) : KeepsOrder u (s.leaveWay k line w) := by
  unfold State.leaveWay
  grind [cdrop, sendHome]

theorem foldRead (h : KeepsOrder u s) (n line : Nat) (fetch : Bool) (err : ArrayErr) : KeepsOrder u (s.foldRead n line fetch err).1 := by
  unfold State.foldRead
  extract_lets f s1
  have h1 : KeepsOrder u s1 := h.drainAhead f line
  have hl := h.lookup f line err
  split
  · split
    · exact h1.awaitLine _ _ _ _ _
    · exact h1
  · split <;> rename_i e <;> rw [e] at hl
    · exact (((hl.cset _ _ _ _).plruUse _ _ _).bump _ _ _ _).leaveWay _ _ _
    · exact hl.missLine _ _ _ _

theorem cacheHalf (h : KeepsOrder u s) (n : Nat) (h' : Half) (err : ArrayErr) : KeepsOrder u (s.cacheHalf n h' err).1 := by
  unfold State.cacheHalf
  grind [foldRead, l1dPut, modCore, strike]

theorem cacheHalves (h : KeepsOrder u s) (n : Nat) (err : ArrayErr) (hs : List Half) : KeepsOrder u (s.cacheHalves n err hs).1 := by
  induction hs generalizing s with
  | nil => exact h
  | cons x hs ih =>
    unfold State.cacheHalves
    refine ih ?_
    split
    · exact h
    · exact h.cacheHalf _ _ _

theorem ownHalves (h : KeepsOrder u s) (n : Nat) (err : WordErr) (hs : List Half) : KeepsOrder u (s.ownHalves n err hs).1 := by
  induction hs generalizing s with
  | nil => exact h
  | cons x hs ih =>
    unfold State.ownHalves
    have hr := h.spRead (bankAgent n) x.pa x.len err
    refine ih ?_
    split <;> rename_i e <;> rw [e] at hr <;> exact hr

theorem flyLoad (h : KeepsOrder u s) (x : Slot) (w : OpWord) (va lat : Nat) (dest : Dest) (signed : Bool) (gs : List Got) :
    KeepsOrder u (s.flyLoad x w va lat dest signed gs) :=
  (h.lvPush _ _).setCore _ _

theorem flyHeld (h : KeepsOrder u s) (x : Slot) (w : OpWord) (h' : HeldAcc) (post : List Word) (valued : Bool) :
    KeepsOrder u (s.flyHeld x w h' post valued) := by
  unfold State.flyHeld
  grind [lvPush, setCore]

theorem shadowLoad (h : KeepsOrder u s) (x : Slot) (w : OpWord) (va : Nat) (dest : Dest) : KeepsOrder u (s.shadowLoad x w va dest) := by
  unfold State.shadowLoad
  grind [lvTake, modCore]

theorem shadowHeld (h : KeepsOrder u s) (x : Slot) (w : OpWord) (post : List Word) (dest : Option Dest) (subm : Option Nat) :
    KeepsOrder u (s.shadowHeld x w post dest subm) :=
  h.modCore _ _

theorem loadOp (h : KeepsOrder u s) (x : Slot) (w : OpWord) (base : BitVec 6) (z : Nat) (h' : BitVec 1) (off : BitVec 8) (ch : Chance) (dest : Dest)
    (signed isF : Bool) (rd : Nat) :
    KeepsOrder u (s.loadOp x w base z h' off ch dest signed isF rd) := by
  unfold State.loadOp
  grind [accessFault, cacheHalves, flyHeld, flyLoad, keep, modCore, opFault, opFreeze, opMcheck, ownHalves, shadowHeld, shadowLoad,
    withQueue, foldl]

theorem execLd (h : KeepsOrder u s) (x : Slot) (rd base : BitVec 6) (w : BitVec 3) (h' : BitVec 1) (off : BitVec 8) (ch : Chance) :
    OutKeepsOrder u (Machine.execLd x rd base w h' off ch s) := by
  unfold Machine.execLd
  grind [next, loadOp, opAct]

theorem execLds (h : KeepsOrder u s) (x : Slot) (rd base : BitVec 6) (w : BitVec 3) (h' : BitVec 1) (off : BitVec 8) (ch : Chance) :
    OutKeepsOrder u (Machine.execLds x rd base w h' off ch s) := by
  unfold Machine.execLds
  grind [next, loadOp, opAct]

theorem execLdf (h : KeepsOrder u s) (x : Slot) (rd base : BitVec 6) (w : BitVec 3) (h' : BitVec 1) (off : BitVec 8) (ch : Chance) :
    OutKeepsOrder u (Machine.execLdf x rd base w h' off ch s) := by
  unfold Machine.execLdf
  grind [next, loadOp, opAct]

theorem storeOp (h : KeepsOrder u s) (x : Slot) (w : OpWord) (base : BitVec 6) (z : Nat) (h' : BitVec 1) (off : BitVec 8) (data : Nat) (rel : Bool) :
    KeepsOrder u (s.storeOp x w base z h' off data rel) := by
  unfold State.storeOp
  grind [accessFault, flyHeld, keep, modCore, opFault, opMcheck, pathStore]

theorem execSt (h : KeepsOrder u s) (x : Slot) (rs base : BitVec 6) (w : BitVec 3) (h' : BitVec 1) (off : BitVec 8) :
    OutKeepsOrder u (Machine.execSt x rs base w h' off s) := by
  unfold Machine.execSt
  grind [next, opAct, storeOp]

theorem execStf (h : KeepsOrder u s) (x : Slot) (rs base : BitVec 6) (w : BitVec 3) (h' : BitVec 1) (off : BitVec 8) :
    OutKeepsOrder u (Machine.execStf x rs base w h' off s) := by
  unfold Machine.execStf
  grind [next, opAct, storeOp]

theorem execStrel (h : KeepsOrder u s) (x : Slot) (rs base : BitVec 6) (w : BitVec 3) :
    OutKeepsOrder u (Machine.execStrel x rs base w s) := by
  unfold Machine.execStrel
  grind [next, opAct, storeOp]

theorem atomOp (h : KeepsOrder u s) (x : Slot) (w : OpWord) (kind : Nat → HKind) (base rd rs : BitVec 6) (wf : BitVec 2) (cas : Bool) :
    KeepsOrder u (s.atomOp x w kind base rd rs wf cas) := by
  unfold State.atomOp
  grind [accessFault, flyHeld, keep, opFault, opMcheck, shadowHeld, withQueue]

theorem execSwap (h : KeepsOrder u s) (x : Slot) (rd base rs : BitVec 6) (w : BitVec 2) :
    OutKeepsOrder u (Machine.execSwap x rd base rs w s) := by
  unfold Machine.execSwap
  grind [next, atomOp, opAct]

theorem execAtomicFadd (h : KeepsOrder u s) (x : Slot) (rd base rs : BitVec 6) (w : BitVec 2) :
    OutKeepsOrder u (Machine.execAtomicFadd x rd base rs w s) := by
  unfold Machine.execAtomicFadd
  grind [next, atomOp, opAct]

theorem execCas (h : KeepsOrder u s) (x : Slot) (rd base rs : BitVec 6) (w : BitVec 2) :
    OutKeepsOrder u (Machine.execCas x rd base rs w s) := by
  unfold Machine.execCas
  grind [next, atomOp, opAct]

theorem maintOp (h : KeepsOrder u s) (x : Slot) (w : OpWord) (base : BitVec 6) (kind : AKind) (k : Nat → Half → State → State)
    (hk : ∀ va x s, KeepsOrder u s → KeepsOrder u (k va x s)) : KeepsOrder u (s.maintOp x w base kind k) := by
  unfold State.maintOp
  dsimp only
  split
  · exact h.modCore _ _
  split
  · exact h.accessFault _ _
  · exact h.opMcheck _ _
  split
  · exact hk _ _ _ (h.keep _ _ _)
  · exact h

theorem flyMaint (h : KeepsOrder u s) (x : Slot) (w : OpWord) (post : List Word) (m : Maint) : KeepsOrder u (s.flyMaint x w post m) :=
  h.modCore _ _

theorem execDci (h : KeepsOrder u s) (x : Slot) (base : BitVec 6) : OutKeepsOrder u (Machine.execDci x base s) := by
  unfold Machine.execDci
  grind [next, flyMaint, maintOp, opAct]

theorem execIci (h : KeepsOrder u s) (x : Slot) (base : BitVec 6) : OutKeepsOrder u (Machine.execIci x base s) := by
  unfold Machine.execIci
  grind [next, flyMaint, maintOp, opAct]

theorem heldMaint (h : KeepsOrder u s) (x : Slot) (w : OpWord) (kind : HKind) (va : Nat) (h' : Half) :
    KeepsOrder u (s.heldMaint x w kind va h') :=
  h.flyHeld _ _ _ _ _

theorem execDcf (h : KeepsOrder u s) (x : Slot) (base : BitVec 6) : OutKeepsOrder u (Machine.execDcf x base s) := by
  unfold Machine.execDcf
  grind [next, heldMaint, maintOp, opAct]

theorem execDcfi (h : KeepsOrder u s) (x : Slot) (base : BitVec 6) : OutKeepsOrder u (Machine.execDcfi x base s) := by
  unfold Machine.execDcfi
  grind [next, heldMaint, maintOp, opAct]

theorem execDzl (h : KeepsOrder u s) (x : Slot) (base : BitVec 6) : OutKeepsOrder u (Machine.execDzl x base s) := by
  unfold Machine.execDzl
  grind [next, heldMaint, maintOp, opAct]

theorem privFault (h : KeepsOrder u s) (x : Slot) (w : OpWord) : KeepsOrder u (s.privFault x w) := h.opFault _ _ _

theorem execDcia (h : KeepsOrder u s) (x : Slot) : OutKeepsOrder u (Machine.execDcia x s) := by
  unfold Machine.execDcia
  grind [next, flyMaint, opAct, privFault]

theorem execIcia (h : KeepsOrder u s) (x : Slot) : OutKeepsOrder u (Machine.execIcia x s) := by
  unfold Machine.execIcia
  grind [next, flyMaint, opAct, privFault]

theorem execSubmit (h : KeepsOrder u s) (x : Slot) (gd ga : BitVec 6) (tn : BitVec 4) :
    OutKeepsOrder u (Machine.execSubmit x gd ga tn s) := by
  unfold Machine.execSubmit
  grind [next, accessFault, flyHeld, keep, lvPush, lvTake, modCore, opAct, opMcheck, setCore, shadowHeld, withQueue]

theorem readKnots (h : KeepsOrder u s) (n pa : Nat) (err : WordErr) (is : List Nat) : KeepsOrder u (s.readKnots n pa err is).1 := by
  induction is generalizing s err with
  | nil => exact h
  | cons i is ih =>
    have hr := h.spRead (bankAgent n) (pa + 16 * i) 16 err
    unfold State.readKnots
    split <;> rename_i e <;> rw [e] at hr
    · exact hr
    · exact ih hr _

theorem shadowTable (h : KeepsOrder u s) (x : Slot) (w : OpWord) (k : TblKind) (fd : BitVec 5) (xr d : Wide) :
    KeepsOrder u (s.shadowTable x w k fd xr d) := by
  unfold State.shadowTable
  grind [drawn, mismatch, modCore, modPair]

theorem tableOp (h : KeepsOrder u s) (x : Slot) (w : OpWord) (k : TblKind) (fd fx fdesc : BitVec 5) (ch : Chance) :
    KeepsOrder u (s.tableOp x w k fd fx fdesc ch) := by
  unfold State.tableOp
  grind [accessFault, drawn, keep, lvPush, modCore, opFault, opMcheck, readKnots, shadowTable, withQueue, foldl]

theorem execTlfl (h : KeepsOrder u s) (x : Slot) (fd fx fdesc : BitVec 5) (ch : Chance) :
    OutKeepsOrder u (Machine.execTlfl x fd fx fdesc ch s) := by
  unfold Machine.execTlfl
  grind [next, opAct, tableOp]

theorem execTlin (h : KeepsOrder u s) (x : Slot) (fd fx fdesc : BitVec 5) (ch : Chance) :
    OutKeepsOrder u (Machine.execTlin x fd fx fdesc ch s) := by
  unfold Machine.execTlin
  grind [next, opAct, tableOp]

theorem execTllg (h : KeepsOrder u s) (x : Slot) (fd fx fdesc : BitVec 5) (ch : Chance) :
    OutKeepsOrder u (Machine.execTllg x fd fx fdesc ch s) := by
  unfold Machine.execTllg
  grind [next, opAct, tableOp]

/-! ### The functions of Sys -/

theorem noteOp (h : KeepsOrder u s) (x : Slot) (w : OpWord) (note : Bundle → Bundle) : KeepsOrder u (s.noteOp x w note) := h.modCore _ _

theorem execSyscall (h : KeepsOrder u s) (x : Slot) (code : BitVec 18) : OutKeepsOrder u (Machine.execSyscall x code s) := by
  unfold Machine.execSyscall
  grind [next, noteOp, opAct]

theorem execMgrcall (h : KeepsOrder u s) (x : Slot) (code : BitVec 18) : OutKeepsOrder u (Machine.execMgrcall x code s) := by
  unfold Machine.execMgrcall
  grind [next, noteOp, opAct, privFault]

theorem execFenceS (h : KeepsOrder u s) (x : Slot) : OutKeepsOrder u (Machine.execFenceS x s) := by
  unfold Machine.execFenceS
  grind [next, modCore, opAct]

theorem execFenceF (h : KeepsOrder u s) (x : Slot) : OutKeepsOrder u (Machine.execFenceF x s) := by
  unfold Machine.execFenceF
  grind [next, modCore, opAct]

theorem execGath (h : KeepsOrder u s) (x : Slot) : OutKeepsOrder u (Machine.execGath x s) := by
  unfold Machine.execGath
  grind [next, noteOp, opAct]

theorem execWfe (h : KeepsOrder u s) (x : Slot) : OutKeepsOrder u (Machine.execWfe x s) := by
  unfold Machine.execWfe
  grind [next, noteOp, opAct, privFault]

theorem execCrd (h : KeepsOrder u s) (x : Slot) (rd : BitVec 6) (creg : BitVec 8) : OutKeepsOrder u (Machine.execCrd x rd creg s) := by
  unfold Machine.execCrd
  grind [next, lvPush, lvTake, modCore, opAct, privFault, setCore, withQueue]

theorem cwrOp (h : KeepsOrder u s) (x : Slot) (w : OpWord) (creg : Nat) (v : Word) : KeepsOrder u (s.cwrOp x w creg v) := by
  unfold State.cwrOp
  grind [privFault, setCore]

theorem execCwr (h : KeepsOrder u s) (x : Slot) (creg : BitVec 8) (rs : BitVec 6) : OutKeepsOrder u (Machine.execCwr x creg rs s) := by
  unfold Machine.execCwr
  grind [next, cwrOp, opAct]

theorem execCctlWrite (h : KeepsOrder u s) (x : Slot) (rs : BitVec 6) : OutKeepsOrder u (Machine.execCctlWrite x rs s) := by
  unfold Machine.execCctlWrite
  grind [next, cwrOp, opAct]

theorem execDenDisableDrained (h : KeepsOrder u s) (c : Nat) : OutKeepsOrder u (Machine.execDenDisableDrained c s) := by
  unfold Machine.execDenDisableDrained
  grind [next, setCore]

theorem execRepi (h : KeepsOrder u s) (x : Slot) (n : BitVec 16) : OutKeepsOrder u (Machine.execRepi x n s) := by
  unfold Machine.execRepi
  grind [next, noteOp, opAct]

theorem execRepn (h : KeepsOrder u s) (x : Slot) (n : BitVec 7) : OutKeepsOrder u (Machine.execRepn x n s) := by
  unfold Machine.execRepn
  grind [next, noteOp, opAct]

theorem branchOp (h : KeepsOrder u s) (x : Slot) (w : OpWord) (taken : Bool) (target : Nat) : KeepsOrder u (s.branchOp x w taken target) :=
  h.noteOp _ _ _

theorem execBt (h : KeepsOrder u s) (x : Slot) (pc : BitVec 3) (disp : BitVec 20) : OutKeepsOrder u (Machine.execBt x pc disp s) := by
  unfold Machine.execBt
  grind [next, branchOp, opAct]

theorem execBf (h : KeepsOrder u s) (x : Slot) (pc : BitVec 3) (disp : BitVec 20) : OutKeepsOrder u (Machine.execBf x pc disp s) := by
  unfold Machine.execBf
  grind [next, branchOp, opAct]

theorem execBri (h : KeepsOrder u s) (x : Slot) (ra : BitVec 6) : OutKeepsOrder u (Machine.execBri x ra s) := by
  unfold Machine.execBri
  grind [next, branchOp, opAct]

theorem callOp (h : KeepsOrder u s) (x : Slot) (w : OpWord) (target : Nat) : KeepsOrder u (s.callOp x w target) := by
  unfold State.callOp
  grind [accessFault, keep, modCore, opFault, opMcheck, pathStore]

theorem execCall (h : KeepsOrder u s) (x : Slot) (disp : BitVec 24) : OutKeepsOrder u (Machine.execCall x disp s) := by
  unfold Machine.execCall
  grind [next, callOp, opAct]

theorem execCalli (h : KeepsOrder u s) (x : Slot) (ra : BitVec 6) : OutKeepsOrder u (Machine.execCalli x ra s) := by
  unfold Machine.execCalli
  grind [next, callOp, opAct]

/-! ### The functions of Bound -/

theorem beginBundle (h : KeepsOrder u s) (n : Nat) (words : List OpWord) : KeepsOrder u (s.beginBundle n words) := by
  unfold State.beginBundle
  grind [frame, opFault, setCore]

theorem fetchLine (h : KeepsOrder u s) (n pa attr : Nat) (err : ArrayErr) : KeepsOrder u (s.fetchLine n pa attr err) := by
  have got (s : State) (h : KeepsOrder u s) (p : Bool) (l : Nat) (ws : List OpWord) :
      KeepsOrder u (if p then s.opMcheck n (lineMcheck l) else s.beginBundle n ws) := ite (h.opMcheck _ _) (h.beginBundle _ _)
  unfold State.fetchLine
  extract_lets c line g hit s1
  have h1 : KeepsOrder u s1 := ite ((h.setCore _ _).strike _ _) h
  clear_value hit s1
  split
  · exact ite (got _ (h.setCore _ _) _ _ _) (h.setCore _ _)
  split
  · exact got s h false _ _
  refine ite (ite ((h1.awaitLine _ _ _ _ _).modCore _ _) (got _ h1 _ _ _)) ?_
  have hr := h1.foldRead n line true (if hit.isSome then .none else err)
  split <;> rename_i e <;> rw [e] at hr
  · exact got _ (ite hr (hr.l1iPut _ _ _)) _ _ _
  · exact hr.modCore _ _

theorem fetch (h : KeepsOrder u s) (n : Nat) (ch : Chance) : KeepsOrder u (s.fetch n ch) := by
  unfold State.fetch
  dsimp only
  split
  · exact h.accessFault _ _
  · exact h.opMcheck _ _
  next pa attr tlb hur _ =>
    have hk := h.keep n tlb hur
    split
    · exact (hk.reject _ _ _).beginBundle _ _
    refine ite (ite (hk.opFault _ _ _) ?_) ?_
    · have hr := hk.spRead (bankAgent n) pa 16 ch.word
      split <;> rename_i e <;> rw [e] at hr
      · exact ((hr.bump _ _ _ _).modCore _ _).beginBundle _ _
      · exact hr.opMcheck _ _
    · split
      · exact hk.opMcheck _ _
      · exact hk.fetchLine _ _ _ _

theorem shadowFill (h : KeepsOrder u s) (n : Nat) (f : Flight) : ∀ t, s.shadowFill n f = some t → KeepsOrder u t := by
  unfold State.shadowFill
  grind [modCore, modPair]

theorem lateFlight (h : KeepsOrder u s) (n : Nat) : KeepsOrder u (s.lateFlight n) := by
  unfold State.lateFlight
  grind [landAt, setCore, shadowFill]

theorem shadowFills (h : KeepsOrder u s) (n : Nat) (fs : List Flight) :
    KeepsOrder u (fs.foldl (fun s f => if f.ready then s else (s.shadowFill n f).getD s) s) :=
  foldl h _ (fun _ _ h => ite h (getD h (h.shadowFill _ _))) _

theorem awaitData (h : KeepsOrder u s) (n : Nat) : KeepsOrder u (s.awaitData n) :=
  ite (h.shadowFills _ _) (h.modCore _ _)

theorem execBundleFetch (h : KeepsOrder u s) (c : Nat) (ch : Chance) : OutKeepsOrder u (Machine.execBundleFetch c ch s) := by
  unfold Machine.execBundleFetch
  grind [next, beginBundle, fetch, lateFlight, lvPop, mismatch, modCore, modPair]

theorem endBundle (h : KeepsOrder u s) (n : Nat) (b : Bundle) : KeepsOrder u (s.endBundle n b) := by
  unfold State.endBundle
  grind [frame, drain, handOn, modCore]

theorem execOperationLand (h : KeepsOrder u s) (c : Nat) : OutKeepsOrder u (Machine.execOperationLand c s) := by
  unfold Machine.execOperationLand
  dsimp only
  split
  · exact next h
  split
  · exact next h
  split
  · split
    · split
      · next e => exact next ((h.shadowFill _ _ _ e).modCore _ _)
      · exact next (h.modCore _ _)
    · exact next (h.modCore _ _)
  · have hl := ((h.bump .fcCnti (foldOf c) ((s.roleOf c).getD 8) 1).landAt c (s.core c).cyc).modCore c
    exact next (ite ((hl _).endBundle _ _) (hl _))

theorem freezeCycles (h : KeepsOrder u s) (n cycles : Nat) : KeepsOrder u (s.freezeCycles n cycles) := (h.bump _ _ _ _).modCore _ _

theorem execLoadDataArrival (h : KeepsOrder u s) (c cycles : Nat) : OutKeepsOrder u (Machine.execLoadDataArrival c cycles s) := by
  unfold Machine.execLoadDataArrival
  grind [next, freezeCycles, setCore]

theorem execFreezeLimit (h : KeepsOrder u s) (c : Nat) : OutKeepsOrder u (Machine.execFreezeLimit c s) := by
  unfold Machine.execFreezeLimit
  grind [next, modCa, modCore, opMcheck, setCore]

theorem stopCore (h : KeepsOrder u s) (n : Nat) : KeepsOrder u (s.stopCore n) := h.modCore _ _

theorem settleTraps (h : KeepsOrder u s) (n : Nat) (chosen : Option Flight) : KeepsOrder u (s.settleTraps n chosen) := by
  unfold State.settleTraps
  grind [modCore, foldl]

theorem shadowMchecks (h : KeepsOrder u s) (n k : Nat) : KeepsOrder u (s.shadowMchecks n k) := by
  induction k generalizing s with
  | zero => exact h
  | succ k ih =>
    unfold State.shadowMchecks
    split
    · exact ite (ih ((h.lvPop _).modCore _ _)) h
    · exact h

theorem storeMchecks (h : KeepsOrder u s) (n : Nat) : KeepsOrder u (s.storeMchecks n) := by
  unfold State.storeMchecks
  grind [lvPush, setCore, foldl]

/-- Where a frame push ends: each state it may leave is in order where `u` is. -/
def PushKeeps (u : State) : Push → Prop
  | .done t | .full t | .faulted t _ => KeepsOrder u t
  | .poison _ => True

theorem pushFrame (h : KeepsOrder u s) (n lvl : Nat) (fr : List Word) : PushKeeps u (s.pushFrame n lvl fr) := by
  unfold State.pushFrame
  dsimp only
  split
  · exact h
  split
  · split
    · split
      · exact (h.lvPop _).modCore _ _
      · exact h
    · exact h
  split
  · exact h
  · trivial
  next hs tlb hur _ =>
    have hk := h.keep n tlb hur
    have hp : PushKeeps u (match ((s.keep n tlb hur).core n).mergeAll (splitBytes hs (frameBytes fr)) with
        | some c => Push.done ((s.keep n tlb hur).setCore n c)
        | none => Push.full ((s.keep n tlb hur).modCore n fun c => { c.closeOldest with freeze := some .mergeFull })) := by
      split
      · exact hk.setCore _ _
      · exact hk.modCore _ _
    split
    · exact hp
    · exact hp
    · exact hk.modCore _ _

/-- Where an entry into a handler ends: the state it leaves is in order where `u` is. -/
def EntryKeeps (u : State) : Entry → Prop
  | .taken t | .again t | .stopped t => KeepsOrder u t

theorem enterAt (h : KeepsOrder u s) (n lvl : Nat) (e : Exc) (nest multi cpend : Bool) :
    EntryKeeps u (s.enterAt n lvl e nest multi cpend) := by
  have hp := h.pushFrame n lvl ((s.core n).arch.frame (xcauseOf e nest multi cpend) (BitVec.ofNat 64 e.info))
  unfold State.enterAt
  dsimp only
  split <;> rename_i e <;> rw [e] at hp
  · exact hp
  · exact (h.modCore _ _).lvPush _ _
  · exact modCore hp _ _
  · exact ite (lvPush hp _ _) hp

theorem enter (h : KeepsOrder u s) (n evLvl : Nat) (e : Exc) (multi cpend : Bool) : EntryKeeps u (s.enter n evLvl e multi cpend) := by
  have he := h.enterAt n (takenAt e.vector evLvl (s.core n).arch.pl) e false multi cpend
  unfold State.enter
  dsimp only
  split
  next t e =>
    rw [e] at he
    split
    · exact enterAt he _ _ _ _ _ _
    · exact he
  · exact he

theorem execExceptionEntry (h : KeepsOrder u s) (c : Nat) : OutKeepsOrder u (Machine.execExceptionEntry c s) := by
  unfold Machine.execExceptionEntry
  extract_lets s0 s1 k s2 k2 record keep finish
  have h1 : KeepsOrder u s1 := ite (h.shadowMchecks _ _) (h.storeMchecks _)
  have h2 : KeepsOrder u s2 := h1.drain c
  have hfin (e : Entry) (ok : State → State) (he : EntryKeeps u e) (hok : ∀ t, KeepsOrder u t → KeepsOrder u (ok t)) :
      OutKeepsOrder u (finish e ok) := by
    cases e with
    | taken t => exact next (hok t he)
    | again t => exact next (modCore he _ _)
    | stopped t => exact next ((modCore he _ _).stopCore _)
  have hrec (t : State) (m : MCheck) (ht : KeepsOrder u t) : KeepsOrder u (record t m) := ite ht (ht.recordMc _ _)
  clear_value record finish s2 k2 k s1
  split
  · exact next h
  split
  · exact next (h1.awaitData _)
  split
  · exact hfin _ _ ((h2.settleTraps _ _).enter _ _ _ _ _) fun t ht => hrec _ _ (ht.modCore _ _)
  · exact hfin _ _ ((h2.settleTraps _ _).enter _ _ _ _ _) fun t ht => ht.modCore _ _
  · exact hfin _ _ ((h2.settleTraps _ _).enter _ _ _ _ _) fun t ht => ht.modCore _ _
  · exact hfin _ _ (h2.enter _ _ _ _ _) fun t ht => ht.modCore _ _
  · exact next h2

theorem execEventAccept (h : KeepsOrder u s) (c source : Nat) : OutKeepsOrder u (Machine.execEventAccept c source s) := by
  unfold Machine.execEventAccept
  dsimp only
  split
  · exact next h
  split
  · split
    · split
      · exact next h
      split
      · exact next (h.awaitData _)
      · have he := (((h.drain c).lvPop c).modCore c fun k => { k with popped := [], fault := none }).enter c
        split <;> rename_i e
        · exact next (e ▸ he _ _ _ _ : EntryKeeps u (.taken _))
        · exact next (e ▸ he _ _ _ _ : EntryKeeps u (.again _))
        · exact next (stopCore (e ▸ he _ _ _ _ : EntryKeeps u (.stopped _)) _)
    · exact next h
  split
  · exact next h
  split
  · exact next (h.awaitData _)
  split
  · exact next (h.drain _)
  · have he (v) := ((h.drain c).lvPush c v).enter c
    split <;> rename_i e
    · exact next ((evTake (e ▸ he _ _ _ _ _ : EntryKeeps u (.taken _)) _ _).modCore _ _)
    · exact next (modPair (e ▸ he _ _ _ _ _ : EntryKeeps u (.again _)) _ _)
    · exact next (stopCore (e ▸ he _ _ _ _ _ : EntryKeeps u (.stopped _)) _)

theorem shadowCompl (h : KeepsOrder u s) (n k : Nat) : KeepsOrder u (s.shadowCompl n k) := by
  induction k generalizing s with
  | zero => exact h
  | succ k ih =>
    unfold State.shadowCompl
    split
    · exact ite (ih ((h.lvPop _).modCore _ _)) h
    · exact h

theorem execCompletionApply (h : KeepsOrder u s) (c : Nat) : OutKeepsOrder u (Machine.execCompletionApply c s) := by
  unfold Machine.execCompletionApply
  grind [next, lvPush, setCore, shadowCompl, foldl]

theorem execWfeWake (h : KeepsOrder u s) (c : Nat) : OutKeepsOrder u (Machine.execWfeWake c s) := by
  unfold Machine.execWfeWake
  grind [next, setCore]

theorem deliver (h : KeepsOrder u s) (l tally : Nat) (word : Word) : KeepsOrder u (s.deliver l tally word) := by
  unfold State.deliver
  grind [frame, modCore]

theorem park (h : KeepsOrder u s) (l : Nat) : KeepsOrder u (s.park l) := by
  unfold State.park
  grind [deliver, modCore, foldl]

theorem complete (h : KeepsOrder u s) (r : Request) (status detail : Nat) : KeepsOrder u (s.complete r status detail) :=
  (h.rmod _ _ _ _).deliver _ _ _

theorem execReservedFieldCompletion (h : KeepsOrder u s) (c tn : Nat) : OutKeepsOrder u (Machine.execReservedFieldCompletion c tn s) := by
  unfold Machine.execReservedFieldCompletion
  grind [next, frame, complete]

theorem xinv (h : KeepsOrder u s) (n : Nat) (p : TlbE → Bool) : KeepsOrder u (s.xinv n p) := by
  unfold State.xinv
  grind [modCore, foldl]

theorem xinva (h : KeepsOrder u s) (n : Nat) (p2 : Bool) (v : Word) : KeepsOrder u (s.xinva n p2 v) := h.xinv _ _

theorem xinvall (h : KeepsOrder u s) (n : Nat) (p2 : Bool) (v : Word) : KeepsOrder u (s.xinvall n p2 v) := h.xinv _ _

/-! ### The functions of Gather -/

theorem execMergeEntryTimeout (h : KeepsOrder u s) (c k : Nat) : OutKeepsOrder u (Machine.execMergeEntryTimeout c k s) := by
  unfold Machine.execMergeEntryTimeout
  grind [next, setCore]

theorem execMergeEntryMove (h : KeepsOrder u s) (c : Nat) : OutKeepsOrder u (Machine.execMergeEntryMove c s) := by
  unfold Machine.execMergeEntryMove
  grind [next, freezeCycles, modCore, moveOne]

theorem setSnapP (h : KeepsOrder u s) (x : List (Nat × Arch)) : KeepsOrder u { s with snapP := x } := h

theorem markLead (h : KeepsOrder u s) (n : Nat) (cause : GCause) : KeepsOrder u (s.markLead n cause) :=
  ((((h.drain n).modCore n Core.closeAll).moveAll n mergeSize).setCore n _).setSnapP _

theorem markShadow (h : KeepsOrder u s) (n : Nat) : KeepsOrder u (s.markShadow n) :=
  ite (h.shadowFills _ _) (((h.shadowFills _ _).drain _).modCore _ _)

theorem execGatherMark (h : KeepsOrder u s) (c : Nat) : OutKeepsOrder u (Machine.execGatherMark c s) := by
  unfold Machine.execGatherMark
  grind [next, markLead, markShadow, setCore]

theorem foldStore (h : KeepsOrder u s) (n f w : Nat) (l : CLine) (d : BitVec 512) (m : BitVec 64) :
    KeepsOrder u (s.foldStore n f w l d m) :=
  (((h.cset _ _ _ _).plruUse _ _ _).mapCores _ _).leaveWay _ _ _

theorem wantOwn (h : KeepsOrder u s) (n line : Nat) (m : BitVec 64) : KeepsOrder u (s.wantOwn n line m) := by
  unfold State.wantOwn
  grind [modCa]

theorem releaseOne (h : KeepsOrder u s) (n : Nat) (h' : HEntry) : KeepsOrder u (s.releaseOne n h').1 := by
  unfold State.releaseOne
  grind [bump, cohWriteMask, drainAhead, foldStore, modCore, spWriteMask, wantOwn]

theorem pump (h : KeepsOrder u s) (n k : Nat) : KeepsOrder u (s.pump n k) := by
  induction k generalizing s with
  | zero => exact h
  | succ k ih =>
    unfold State.pump
    split
    · exact h
    next x _ _ =>
      have hr := h.releaseOne n x
      split <;> rename_i e <;> rw [e] at hr
      · exact ih (hr.modCore _ _)
      · exact hr

theorem pumpAll (h : KeepsOrder u s) (n : Nat) : KeepsOrder u (s.pumpAll n) := h.pump _ _

theorem startRelease (h : KeepsOrder u s) (n : Nat) : KeepsOrder u (s.startRelease n) := (h.bump _ _ _ _).pumpAll _

theorem execGatherConfirm (h : KeepsOrder u s) (c : Nat) : OutKeepsOrder u (Machine.execGatherConfirm c s) := by
  unfold Machine.execGatherConfirm
  dsimp only
  split
  · exact next h
  split
  · exact next h
  split
  · exact next h
  split
  · exact next (h.startRollback _ _ _ _ _)
  next m _ _ _ =>
    have hs : KeepsOrder u { s with snapC := tins s.snapC (s.logical c) (tget Arch.reset s.snapP (s.logical c)) } := h
    have hf := foldl hs (fun s n => s.modCore n fun k => match k.mark with
      | some y => k.confirm y
      | none => k) (fun _ _ h => h.modCore _ _) (c :: (s.coresOf (s.logical c)).drop 1)
    exact next ((((hf.modCore _ _).modPair _ _).bump _ _ _ _).startRelease _)

/-! ### The functions of Pairs -/

theorem logEnd (h : KeepsOrder u s) (l result : Nat) : KeepsOrder u (s.logEnd l result) := by
  unfold State.logEnd
  grind [modSeq, record, rset]

theorem halt (h : KeepsOrder u s) (l v : Nat) : KeepsOrder u (s.halt l v) := by
  unfold State.halt
  grind [modCore, modPair, park, setLstate, foldl]

theorem enterSafe (h : KeepsOrder u s) (l : Nat) : KeepsOrder u (s.enterSafe l) := (((h.halt _ _).raise _).modSeq _ _).logEnd _ _

theorem snapFails (h : KeepsOrder u s) (l off : Nat) : KeepsOrder u (s.snapFails l off) :=
  (((h.modPair _ _).modSeq _ _).enterSafe _).strike _ _

theorem recallHeld (h : KeepsOrder u s) (l : Nat) : KeepsOrder u (s.recallHeld l) := by
  unfold State.recallHeld
  grind [lvPush, modCore, foldl]

theorem restore (h : KeepsOrder u s) (l : Nat) : KeepsOrder u (s.restore l) := by
  unfold State.restore
  grind [evRestore, lvPush, modCore, foldl]

theorem resume (h : KeepsOrder u s) (l result : Nat) : KeepsOrder u (s.resume l result) := by
  have hr := (((h.modSeq l fun q => { q with copy := none, test := none }).logEnd l result).setLstate l 0).recallHeld l
  unfold State.resume
  dsimp only
  split
  · exact ite (hr.modCore _ _) ((hr.modCore _ _).armCommands _)
  · exact hr

theorem testFails (h : KeepsOrder u s) (n : Nat) : KeepsOrder u (s.testFails n) := by
  unfold State.testFails
  grind [modCore, raise, rmod, rput, strike]

theorem replaceCore (h : KeepsOrder u s) (l role : Nat) : KeepsOrder u (s.replaceCore l role) := by
  unfold State.replaceCore
  grind [enterSafe, modPair, raise, resume, rput, startCopy]

theorem unstrike (h : KeepsOrder u s) (p : Nat) : KeepsOrder u (s.unstrike p) := by
  unfold State.unstrike
  grind [frame, modPair, rmod]

theorem afterStop (h : KeepsOrder u s) (l : Nat) : KeepsOrder u (s.afterStop l) := by
  unfold State.afterStop
  grind [modSeq, setLstate, startCopy]

theorem goOn (h : KeepsOrder u s) (l : Nat) : KeepsOrder u (s.goOn l) := by
  unfold State.goOn
  grind [afterStop, armCommands]

theorem afterGather (h : KeepsOrder u s) (l cmd : Nat) : KeepsOrder u (s.afterGather l cmd) := by
  unfold State.afterGather
  grind [halt, modSeq, raise, replaceCore, setLstate, startCopy]

theorem execReleaseAcknowledged (h : KeepsOrder u s) (c cycles : Nat) : OutKeepsOrder u (Machine.execReleaseAcknowledged c cycles s) := by
  unfold Machine.execReleaseAcknowledged
  dsimp only
  split
  · exact next h
  split
  · exact next h
  have hm := (h.freezeCycles c cycles).modCore c
  split
  · exact next ((((hm _).halt _ _).raise _).goOn _)
  split
  · exact next (hm _)
  · exact iteOut (next ((((hm _).modSeq _ _).afterGather _ _).goOn _)) (next ((hm _).modCore _ _))

theorem execHeldAccessResponse (h : KeepsOrder u s) (c cycles : Nat) : OutKeepsOrder u (Machine.execHeldAccessResponse c cycles s) := by
  unfold Machine.execHeldAccessResponse
  grind [next, frame, freezeCycles, landAt, setCore]

theorem execStallDetect (h : KeepsOrder u s) (f j : Nat) : OutKeepsOrder u (Machine.execStallDetect f j s) := by
  unfold Machine.execStallDetect
  grind [next, startRollback]

theorem execCheckerError (h : KeepsOrder u s) (c : Nat) : OutKeepsOrder u (Machine.execCheckerError c s) := by
  unfold Machine.execCheckerError
  grind [next, modCore, startRollback]

theorem execRollbackComplete (h : KeepsOrder u s) (l : Nat) (dbe : Option Nat) :
    OutKeepsOrder u (Machine.execRollbackComplete l dbe s) := by
  unfold Machine.execRollbackComplete
  grind [next, bump, enterSafe, modSeq, restore, resume, setLstate, snapFails]

theorem testedAlone (h : KeepsOrder u s) (l n : Nat) (pass : Bool) : KeepsOrder u (s.testedAlone l n pass) := by
  unfold State.testedAlone
  grind [modSeq, replaceCore, resume, testFails]

theorem testFails_foldl (h : KeepsOrder u s) (ns : List Nat) : KeepsOrder u (ns.foldl State.testFails s) :=
  foldl h _ (fun _ _ h => h.testFails _) _

theorem execSelftestComplete (h : KeepsOrder u s) (f j : Nat) (passA passB : Bool) :
    OutKeepsOrder u (Machine.execSelftestComplete f j passA passB s) := by
  unfold Machine.execSelftestComplete
  extract_lets p ls nA passOf one manual s1
  have hone (t : State) (l : Nat) (ht : KeepsOrder u t) : KeepsOrder u (one t l) := by
    dsimp only [one]
    split
    · split
      · split
        · exact (ht.modPair _ _).resume _ _
        · exact ((ht.testFails _).modSeq _ _).replaceCore _ _
        · exact (((ht.testFails _).testFails _).modSeq _ _).enterSafe _
      · exact ht.testedAlone _ _ _
      · exact ht
    · exact ((ht.testFails_foldl _).modSeq _ _).setLstate _ _
    · exact ((ht.testFails_foldl _).modSeq _ _).setLstate _ _
    · exact ht
  have h1 : KeepsOrder u s1 := (foldl h one hone ls).unstrike p
  clear_value s1 one
  split
  · exact next h
  · exact next (ite (h1.raise _) h1)

theorem execSpareStateCopyComplete (h : KeepsOrder u s) (l : Nat) (dbe : Option Nat) :
    OutKeepsOrder u (Machine.execSpareStateCopyComplete l dbe s) := by
  unfold Machine.execSpareStateCopyComplete
  split
  · exact next h
  next cp _ =>
    extract_lets f old new a lead oldCore others cur s1 s2 s3 s4 s5 p s6 s7
    have h4 : KeepsOrder u s4 := (((h.rset _ _ _ _).rput _ _ _ _ _ _).modCore _ _).modCore _ _
    have h5 : KeepsOrder u s5 := foldl h4 _ (fun _ _ h => h.modCore _ _) _
    have h6 : KeepsOrder u s6 := ite ((h5.rput _ _ _ _ _ _).modPair _ _) h5
    have h7 : KeepsOrder u s7 := h6.raise _
    clear_value s7
    split
    · exact next h
    split
    · exact next (h.snapFails _ _)
    · exact next (ite ((h7.modSeq _ _).setLstate _ _) (h7.resume _ _))

theorem startLogical (h : KeepsOrder u s) (l : Nat) : KeepsOrder u (s.startLogical l) := by
  unfold State.startLogical
  grind [evStart, modCore, modPair, modSeq, rput, setLstate, foldl]

theorem pxCommand (h : KeepsOrder u s) (f j cmd : Nat) : KeepsOrder u (s.pxCommand f j cmd) := by
  unfold State.pxCommand
  grind [commandDue, modSeq, rput, setLstate, startCopy, startLogical, foldl]

theorem pxLogClear (h : KeepsOrder u s) (f : Nat) : KeepsOrder u (s.pxLogClear f) :=
  (((h.rset _ _ _ _).rset _ _ _ _).rset _ _ _ _).rset _ _ _ _

theorem pxCommit (h : KeepsOrder u s) (f : Nat) : ∀ t, s.pxCommit f = some t → KeepsOrder u t := by
  unfold State.pxCommit
  grind [frame, modPair, rput, rset, setLstate, foldl]

theorem snapSet (h : KeepsOrder u s) (l off : Nat) (a : Arch) : KeepsOrder u (s.snapSet l off a) :=
  (show KeepsOrder u { s with snapC := tins s.snapC l a } from h).modPair _ _

theorem snapError (h : KeepsOrder u s) (l off : Nat) : KeepsOrder u (s.snapError l off) := by
  unfold State.snapError
  grind [snapFails]

/-! ### The functions of Caches -/

theorem dropTransit (h : KeepsOrder u s) (k line : Nat) : KeepsOrder u (s.dropTransit k line) := h.modCa _

theorem dropCopy (h : KeepsOrder u s) (k line : Nat) : KeepsOrder u (s.dropCopy k line) := (h.cdrop _ _).dropTransit _ _

theorem barFill (h : KeepsOrder u s) (f line : Nat) : KeepsOrder u (s.barFill f line) := h.modCa _

theorem grant (h : KeepsOrder u s) (req tid line : Nat) (st : LState) (d : BitVec 512) (poison noData : Bool) :
    KeepsOrder u (s.grant req tid line st d poison noData) := by
  unfold State.grant
  grind [modCa, send]

theorem grantOwn (h : KeepsOrder u s) (req tid line : Nat) (kind : FillKind) : KeepsOrder u (s.grantOwn req tid line kind) :=
  (h.grant _ _ _ _ _ _ _).putDir _ _

theorem serve (h : KeepsOrder u s) (req tid line : Nat) (kind : FillKind) (pe : PieceErr) :
    KeepsOrder u (s.serve req tid line kind pe) := by
  unfold State.serve
  grind [grant, grantOwn, modCa, pieceError, putDir, send, setDir, foldl]

theorem homeNext (h : KeepsOrder u s) (line : Nat) : KeepsOrder u (s.homeNext line) := by
  unfold State.homeNext
  grind [modCa, serve]

theorem request (h : KeepsOrder u s) (f line : Nat) (pe : PieceErr) (p : FillKind → Bool) : KeepsOrder u (s.request f line pe p) := by
  unfold State.request
  grind [ask, modCa, serve]

theorem invDone (h : KeepsOrder u s) (k line : Nat) : KeepsOrder u (s.invDone k line) := by
  unfold State.invDone
  grind [dirRemove, grantOwn, homeNext, modCa]

theorem execSnoopInvalidate (h : KeepsOrder u s) (k line : Nat) : OutKeepsOrder u (Machine.execSnoopInvalidate k line s) := by
  unfold Machine.execSnoopInvalidate
  grind [next, barFill, dropCopy, invDone]

theorem fwdDone (h : KeepsOrder u s) (k line : Nat) (data : Option (BitVec 512 × LState × Bool)) (keeps sup : Bool) :
    KeepsOrder u (s.fwdDone k line data keeps sup) := by
  unfold State.fwdDone
  grind [grant, homeNext, memWriteLine, modCa, setDir]

theorem execSnoopForward (h : KeepsOrder u s) (k line : Nat) (err : ArrayErr) : OutKeepsOrder u (Machine.execSnoopForward k line err s) := by
  have hl := h.lookup k line err
  unfold Machine.execSnoopForward
  dsimp only
  split
  · split
    · exact next h
    split
    · exact iteOut (next ((hl.cset _ _ _ _).fwdDone _ _ _ _ _)) (next (((hl.dropCopy _ _).barFill _ _).fwdDone _ _ _ _ _))
    · exact next (((hl.dropTransit _ _).barFill _ _).fwdDone _ _ _ _ _)
  · exact next h

theorem giveUp (h : KeepsOrder u s) (k line : Nat) (st : LState) (d : BitVec 512) (poison : Bool) :
    KeepsOrder u (s.giveUp k line st d poison) := by
  unfold State.giveUp
  grind [ask, dirRemove, memWriteLine, setDir]

theorem sendOut (h : KeepsOrder u s) (k line : Nat) (dirty : Bool) : KeepsOrder u (s.sendOut k line dirty) := by
  unfold State.sendOut
  grind [giveUp, modCa]

theorem tileInstall (h : KeepsOrder u s) (t : Nat) (o : OutLine) (from_ : Nat) : KeepsOrder u (s.tileInstall t o from_) := by
  unfold State.tileInstall
  grind [dirMove, dirRemove, install, sendHome]

theorem execVictimMoved (h : KeepsOrder u s) (f : Nat) : OutKeepsOrder u (Machine.execVictimMoved f s) := by
  unfold Machine.execVictimMoved
  grind [next, bump, dirMove, dirRemove, modCa, sendHome, tileInstall]

theorem execEvictionBufferInstall (h : KeepsOrder u s) (t : Nat) : OutKeepsOrder u (Machine.execEvictionBufferInstall t s) := by
  unfold Machine.execEvictionBufferInstall
  grind [next, modCa, tileInstall]

theorem execTileCacheHitMoved (h : KeepsOrder u s) (f line : Nat) (err : ArrayErr) :
    OutKeepsOrder u (Machine.execTileCacheHitMoved f line err s) := by
  have hl := h.lookup (24 + tileOf f) line err
  unfold Machine.execTileCacheHitMoved
  dsimp only
  split
  · exact next h
  split
  · exact next ((((h.modCa _).modCa _).bump _ _ _ _).dirMove _ _ _)
  split <;> rename_i e <;> rw [e] at hl
  · exact next (((((hl.plruUse _ _ _).cclear _ _ _).modCa _).bump _ _ _ _).dirMove _ _ _)
  · exact next hl

theorem fillDeliver (h : KeepsOrder u s) (x : Fill) (d : BitVec 512) (p installed : Bool) :
    KeepsOrder u (s.fillDeliver x d p installed) := by
  unfold State.fillDeliver
  grind [l1dPut, l1iPut, modCore, foldl]

theorem releaseAround (h : KeepsOrder u s) (f line : Nat) : KeepsOrder u (s.releaseAround f line) := by
  unfold State.releaseAround
  grind [cohWriteMask, modCore, foldl]

theorem pumpWaiting (h : KeepsOrder u s) (ns : List Nat) :
    KeepsOrder u (ns.foldl (fun s n => if (s.core n).rel.isEmpty then s else s.pumpAll n) s) :=
  foldl h _ (fun _ _ h => ite h (h.pumpAll _)) _

theorem execFillLand (h : KeepsOrder u s) (f line : Nat) : OutKeepsOrder u (Machine.execFillLand f line s) := by
  unfold Machine.execFillLand
  split
  · exact next h
  next x _ =>
    split
    · exact next h
    split
    · exact next h
    next d st po _ _ =>
      extract_lets s1 own
      have h1 : KeepsOrder u s1 := h.modCa _
      clear_value s1
      generalize hr : (if x.install && x.kind != .uncached && decide (s1.fcState f = 1) then _ else (s1, false) : State × Bool) = r
      have h2 : KeepsOrder u r.1 := by
        subst hr
        split
        · split
          · exact h1.cset _ _ _ _
          · exact (h1.dropTransit _ _).install _ _ _
        · exact h1
      obtain ⟨s2, ok⟩ := r
      have h3 {p : Prop} {_ : Decidable p} : KeepsOrder u (if p then s2.dropCopy f line else s2) := ite (h2.dropCopy _ _) h2
      have h4 {p q r : Prop} {_ : Decidable p} {_ : Decidable q} {_ : Decidable r} :
          KeepsOrder u (if p then (if q then s2.dropCopy f line else s2) else if r then (if q then s2.dropCopy f line else s2).dirRemove line f
            else (if q then s2.dropCopy f line else s2).giveUp f line st d po) := ite h3 (ite (h3.dirRemove _ _) (h3.giveUp _ _ _ _ _))
      exact next (pumpWaiting (ite ((fillDeliver h4 _ _ _ _).releaseAround _ _) (fillDeliver h4 _ _ _ _)) _)

theorem flushLine (h : KeepsOrder u s) (k : Nat) (l : CLine) : KeepsOrder u (s.flushLine k l) := (h.cdrop _ _).giveUp _ _ _ _ _

theorem flushAll (h : KeepsOrder u s) (k : Nat) (p : Nat → Bool) : KeepsOrder u (s.flushAll k p) := by
  unfold State.flushAll
  grind [flushLine, foldl]

theorem fcControl (h : KeepsOrder u s) (f : Nat) (en : Bool) : KeepsOrder u (s.fcControl f en) := by
  unfold State.fcControl
  grind [modCa, rput]

theorem execFcDrainComplete (h : KeepsOrder u s) (f : Nat) : OutKeepsOrder u (Machine.execFcDrainComplete f s) := by
  unfold Machine.execFcDrainComplete
  grind [next, flushAll, raise, rput]

theorem execWayWalkComplete (h : KeepsOrder u s) (k : Nat) : OutKeepsOrder u (Machine.execWayWalkComplete k s) := by
  unfold Machine.execWayWalkComplete
  grind [next, flushAll, modCa, raise, rput]

theorem execBypassWalkComplete (h : KeepsOrder u s) (t : Nat) : OutKeepsOrder u (Machine.execBypassWalkComplete t s) := by
  unfold Machine.execBypassWalkComplete
  grind [next, flushAll, modCa, raise]

theorem execTcModeTakeEffect (h : KeepsOrder u s) (t : Nat) : OutKeepsOrder u (Machine.execTcModeTakeEffect t s) := by
  unfold Machine.execTcModeTakeEffect
  grind [next, modCa]

theorem replWrite (h : KeepsOrder u s) (k : Nat) (v : Word) : KeepsOrder u (s.replWrite k v) := ((h.setRepl _ _).modCa _).checkLfsr _

theorem clearLame (h : KeepsOrder u s) (c i : Nat) : KeepsOrder u (s.clearLame c i) := by
  unfold State.clearLame
  grind [frame, rmod]

theorem waydisWrite (h : KeepsOrder u s) (k hw sw : Nat) : KeepsOrder u (s.waydisWrite k hw sw) := by
  unfold State.waydisWrite
  extract_lets clear s1 s2 fresh s3
  have h1 : KeepsOrder u s1 := foldl h _ (fun _ _ h => h.clearLame _ _) _
  have h3 : KeepsOrder u s3 := (h1.setWaydisHw _ _).setWaydisSw _ _
  exact ite h3 ((h3.startWalk _ _).wayThreshold _)

theorem fcCommit (h : KeepsOrder u s) (f : Nat) : ∀ t, s.fcCommit f = some t → KeepsOrder u t := by
  unfold State.fcCommit
  grind [rset, foldl]

theorem tcCommit (h : KeepsOrder u s) (i : Nat) (t : State) (e : s.tcCommit i = some t) : KeepsOrder u t := by
  unfold State.tcCommit at e
  dsimp only at e
  split at e
  · cases e
    exact foldl (h.rset _ _ _ _) _ (fun _ _ h => h.rset _ _ _ _) _
  · cases e

theorem execUncachedLoad (h : KeepsOrder u s) (c : Nat) (pe : PieceErr) : OutKeepsOrder u (Machine.execUncachedLoad c pe s) := by
  unfold Machine.execUncachedLoad
  split
  · exact next h
  split
  · dsimp only
    refine next (modCore (foldl_fst _ h (fun q x hq => ?_) _) _ _)
    split
    · exact ite hq (hq.pieceError _ _)
    · exact hq.ask _ _ _ _ _
  · exact next h

theorem execUncachedStore (h : KeepsOrder u s) (c : Nat) : OutKeepsOrder u (Machine.execUncachedStore c s) := by
  unfold Machine.execUncachedStore
  split
  · exact next h
  split
  · dsimp only
    refine next (modCore (foldl_fst _ h (fun q x hq => ?_) _) _ _)
    split
    · exact hq.cohWrite _ _
    · exact hq.ask _ _ _ _ _
  · exact next h

/-! ### The functions of Die -/

theorem dieXlate (h : KeepsOrder u s) (r : Option Nat) (a : Nat) (kind : AKind) (secure : Bool) :
    KeepsOrder u (s.dieXlate r a kind secure).1 := by
  unfold State.dieXlate
  grind [frame]

theorem diePieces (h : KeepsOrder u s) (r : Option Nat) (kind : AKind) (secure : Bool) (ps : List (Nat × Nat)) :
    KeepsOrder u (s.diePieces r kind secure ps).1 := by
  induction ps generalizing s with
  | nil => exact h
  | cons x ps ih =>
    have hx := h.dieXlate r x.1 kind secure
    unfold State.diePieces
    split <;> rename_i e <;> rw [e] at hx
    · exact hx
    · exact ih hx

theorem dieBuf (h : KeepsOrder u s) (r : Option Nat) (a n : Nat) (kind : AKind) (secure : Bool) :
    KeepsOrder u (s.dieBuf r a n kind secure).1 := by
  unfold State.dieBuf
  grind [diePieces]

theorem dieRead (h : KeepsOrder u s) (agent pa n : Nat) : KeepsOrder u (s.dieRead agent pa n).1 := by
  unfold State.dieRead
  grind [spRead]

theorem dieWrite (h : KeepsOrder u s) (agent pa : Nat) (bs : List Byte) : KeepsOrder u (s.dieWrite agent pa bs).1 := by
  unfold State.dieWrite
  grind [cohWrite, spWrite]

theorem dieWrites (h : KeepsOrder u s) (agent : Nat) (ps : List (Nat × Nat)) (bs : List Byte) :
    KeepsOrder u (s.dieWrites agent ps bs) := by
  induction ps generalizing s bs with
  | nil => exact h
  | cons x ps ih => exact ih (h.dieWrite _ _ _) _

/-! ### The functions of Engine -/

theorem setTrough (h : KeepsOrder u s) (t : Nat) (l : List Request) : KeepsOrder u (s.setTrough t l) := h

theorem flushTroughs (h : KeepsOrder u s) (unit k : Nat) (p : Request → Bool) (status : Nat) (detail : State → Request → Nat) :
    KeepsOrder u (s.flushTroughs unit k p status detail) := by
  unfold State.flushTroughs
  grind [complete, setTrough, foldl]

theorem enginePiece (h : KeepsOrder u s) (k own pa n : Nat) : KeepsOrder u (s.enginePiece k own pa n).1 := by
  unfold State.enginePiece
  grind [dieRead]

theorem enginePieces (h : KeepsOrder u s) (k own : Nat) (r : Option Nat) (ps : List (Nat × Nat)) :
    KeepsOrder u (s.enginePieces k own r ps).1 := by
  induction ps generalizing s with
  | nil => exact h
  | cons x ps ih =>
    have hx := h.dieXlate r x.1 .load (decide (own = 0x20))
    unfold State.enginePieces
    split <;> rename_i e <;> rw [e] at hx
    · exact hx
    · exact hx
    next pa =>
      have hp := enginePiece hx k own pa x.2
      split <;> rename_i e <;> rw [e] at hp
      · exact hp
      · exact ih hp

theorem engineRead (h : KeepsOrder u s) (k own : Nat) (r : Option Nat) (a n : Nat) : KeepsOrder u (s.engineRead k own r a n).1 := by
  unfold State.engineRead
  grind [enginePieces]

theorem engineXlate (h : KeepsOrder u s) (own : Nat) (r : Option Nat) (ps : List (Nat × Nat)) :
    KeepsOrder u (s.engineXlate own r ps).1 := by
  induction ps generalizing s with
  | nil => exact h
  | cons x ps ih =>
    have hx := h.dieXlate r x.1 .store (decide (own = 0x20))
    unfold State.engineXlate
    split <;> rename_i e <;> rw [e] at hx
    · exact hx
    · exact hx
    split
    · exact ih hx
    · exact hx

theorem enginePut (h : KeepsOrder u s) (k own : Nat) (ps : List (Nat × Nat)) (bs : List Byte) :
    KeepsOrder u (s.enginePut k own ps bs).1 := by
  induction ps generalizing s bs with
  | nil => exact h
  | cons x ps ih =>
    have hx := h.dieWrite (s.engineAgent k own x.1) x.1 (bs.take x.2)
    unfold State.enginePut
    split <;> rename_i e <;> rw [e] at hx
    · exact ih hx _
    · exact hx

theorem engineWrite (h : KeepsOrder u s) (k own : Nat) (r : Option Nat) (bufs : List (Nat × Nat)) (off : Nat) (bs : List Byte) :
    KeepsOrder u (s.engineWrite k own r bufs off bs).1 := by
  unfold State.engineWrite
  grind [enginePut, engineXlate]

/-! ### The functions of Cipher -/

theorem modCy (h : KeepsOrder u s) (k : Nat) (f : CyEngine → CyEngine) : KeepsOrder u (s.modCy k f) := h.rput _ _ _ _ _ _

theorem setCyState (h : KeepsOrder u s) (k v : Nat) : KeepsOrder u (s.setCyState k v) := by
  unfold State.setCyState
  grind [raise, rput]

theorem setCyLock (h : KeepsOrder u s) (k st : Nat) : KeepsOrder u (s.setCyLock k st) := h.rput _ _ _ _ _ _

theorem drbgUse (h : KeepsOrder u s) : KeepsOrder u s.drbgUse := h

theorem cyAbort (h : KeepsOrder u s) (k : Nat) (p : CyJob → Bool) (status : Nat) : KeepsOrder u (s.cyAbort k p status) := h.modCy _ _

theorem cySettle (h : KeepsOrder u s) (k : Nat) : KeepsOrder u (s.cySettle k) := h.setCyState _ _

theorem cyWithdraw (h : KeepsOrder u s) (k : Nat) : KeepsOrder u (s.cyWithdraw k) := by
  unfold State.cyWithdraw
  grind [cyAbort, cySettle, setCyState]

theorem cyLameFrom (h : KeepsOrder u s) (k : Nat) (was : Bool) : KeepsOrder u (s.cyLameFrom k was) := by
  unfold State.cyLameFrom
  grind [cyWithdraw, setCyState]

theorem cyStrike (h : KeepsOrder u s) (k : Nat) : KeepsOrder u (s.cyStrike k) := (h.strike _ _).cyLameFrom _ _

theorem cySeed (h : KeepsOrder u s) (k : Nat) : KeepsOrder u (s.cySeed k) := by
  unfold State.cySeed
  grind [cyLameFrom, declare, drbgUse, modCy]

theorem cyAfter (h : KeepsOrder u s) (k : Nat) : KeepsOrder u (s.cyAfter k) := by
  unfold State.cyAfter
  grind [cySeed, cySettle, setCyLock]

theorem cyLockWrite (h : KeepsOrder u s) (k p : Nat) (v : Word) : KeepsOrder u (s.cyLockWrite k p v) := by
  unfold State.cyLockWrite
  grind [modCy, rset, setCyLock]

theorem execLockWipeComplete (h : KeepsOrder u s) (k : Nat) : OutKeepsOrder u (Machine.execLockWipeComplete k s) := by
  unfold Machine.execLockWipeComplete
  grind [next, cySeed, modCy, raise, rset]

theorem cyForce (h : KeepsOrder u s) (k p : Nat) : KeepsOrder u (s.cyForce k p) := by
  unfold State.cyForce
  grind [cyAbort, rput, setCyLock]

theorem cyControl (h : KeepsOrder u s) (k : Nat) (v : Word) : KeepsOrder u (s.cyControl k v) := by
  unfold State.cyControl
  grind [cySeed, cyWithdraw, rput, rset, setCyState]

theorem execCyTestComplete (h : KeepsOrder u s) (k : Nat) (pass : Bool) : OutKeepsOrder u (Machine.execCyTestComplete k pass s) := by
  unfold Machine.execCyTestComplete
  grind [next, cySeed, cySettle, cyStrike, raise, rput]

theorem execMaskingGeneratorReseed (h : KeepsOrder u s) (k : Nat) : OutKeepsOrder u (Machine.execMaskingGeneratorReseed k s) := by
  unfold Machine.execMaskingGeneratorReseed
  grind [next, cySeed]

theorem setKey (h : KeepsOrder u s) (n : Nat) (k : KeySlot) : KeepsOrder u (s.setKey n k) := h

theorem grantInvocation (h : KeepsOrder u s) (n : Nat) : KeepsOrder u (s.grantInvocation n).1 := by
  unfold State.grantInvocation
  grind [setKey]

theorem cyRevoke (h : KeepsOrder u s) (n : Nat) : KeepsOrder u (s.cyRevoke n) := by
  unfold State.cyRevoke
  grind [cyAbort, foldl]

theorem cyEnd (h : KeepsOrder u s) (k : Nat) (q : Request) (status detail : Nat) : KeepsOrder u (s.cyEnd k q status detail) := by
  unfold State.cyEnd
  grind [bump, complete, raise]

theorem cyBegin (h : KeepsOrder u s) (k op : Nat) : KeepsOrder u (s.cyBegin k op) := by
  unfold State.cyBegin
  dsimp only
  split
  · split
    · exact h
    next c t q rest _ _ _ =>
      generalize hs : (s.setTrough t rest).modCy k _ = s1
      have h1 : KeepsOrder u s1 := hs ▸ (h.setTrough _ _).modCy _ _
      split
      · exact h1.cyEnd _ _ _ _
      split
      · have hg := h1.grantInvocation (bits (lget 0 (s1.descriptor q) 1).toNat 63 52)
        split <;> rename_i e <;> rw [e] at hg
        · exact hg.cyEnd _ _ _ _
        · exact hg.modCy _ _
      · exact h1.modCy _ _
  · exact h

theorem cyCount (h : KeepsOrder u s) (k : Nat) (j : CyJob) (n : Nat) : KeepsOrder u (s.cyCount k j n) := by
  unfold State.cyCount
  grind [bump, drawn, modCy]

theorem cyCountSome (h : KeepsOrder u s) (k : Nat) (j : CyJob) : KeepsOrder u (s.cyCountSome k j) := (h.drawn).cyCount _ _ _

theorem cyFail (h : KeepsOrder u s) (k c : Nat) (j : CyJob) (status lo hi : Nat) : KeepsOrder u (s.cyFail k c j status lo hi) := h.modCy _ _

theorem cyTag (h : KeepsOrder u s) (k c : Nat) (j : CyJob) (tag : List Byte) : KeepsOrder u (s.cyTag k c j tag) := by
  unfold State.cyTag
  grind [cyAfter, cyEnd, cyFail, dieWrite, engineRead, engineWrite, modCy]

theorem execCipherJobComplete (h : KeepsOrder u s) (k c : Nat) : OutKeepsOrder u (Machine.execCipherJobComplete k c s) := by
  unfold Machine.execCipherJobComplete
  split
  · exact next h
  next j _ =>
    split
    · exact next h
    dsimp only
    have ha := h.engineRead k 0x20 j.req.agent j.aad j.aadlen
    split <;> rename_i e <;> rw [e] at ha
    · exact next ((ha.cyCountSome _ _).cyFail _ _ _ _ _ _)
    have hd := ha.engineRead k 0x20 j.req.agent j.src j.dlen
    split <;> rename_i e <;> rw [e] at hd
    · exact next ((hd.cyCountSome _ _).cyFail _ _ _ _ _ _)
    next _ _ aad _ _ s2 src =>
      have hw := hd.engineWrite k 0x20 j.req.agent [(j.dst, j.dlen)] 0 (j.work src aad).1
      split <;> rename_i e <;> rw [e] at hw
      · exact next ((hw.cyCountSome _ _).cyFail _ _ _ _ _ _)
      · exact next ((hw.cyCount _ _ _).cyTag _ _ _ _)

theorem execOutputWithheld (h : KeepsOrder u s) (k c n : Nat) : OutKeepsOrder u (Machine.execOutputWithheld k c n s) := by
  unfold Machine.execOutputWithheld
  split
  · exact next h
  split
  · exact next h
  · exact next ((((h.engineWrite _ _ _ _ _ _).modCy _ _).cyEnd _ _ _ _).cyAfter _)

theorem execCipherDatapathError (h : KeepsOrder u s) (k c kind : Nat) : OutKeepsOrder u (Machine.execCipherDatapathError k c kind s) := by
  unfold Machine.execCipherDatapathError
  split
  · exact next h
  next j _ =>
    split
    · exact next h
    extract_lets final s1 s2 hi s3
    have h2 : KeepsOrder u s2 := ((h.cyCountSome _ _).record _ _ _ _).raise _
    clear_value s2
    have h3 : KeepsOrder u s3 := by
      dsimp only [s3]
      split
      · exact h2.cyFail _ _ _ _ _ _
      split
      · have hg := h2.grantInvocation j.kslot
        split <;> rename_i e <;> rw [e] at hg
        · exact hg.cyFail _ _ _ _ _ _
        · exact hg.modCy _ _
      · exact h2.modCy _ _
    exact next (h3.cyStrike _)

/-! ### The functions of Compress -/

theorem modCz (h : KeepsOrder u s) (k : Nat) (f : CzEngine → CzEngine) : KeepsOrder u (s.modCz k f) := h.rput _ _ _ _ _ _

theorem setCzState (h : KeepsOrder u s) (k v : Nat) : KeepsOrder u (s.setCzState k v) := by
  unfold State.setCzState
  grind [raise, rput]

theorem czAfter (h : KeepsOrder u s) (k : Nat) : KeepsOrder u (s.czAfter k) := by
  unfold State.czAfter
  grind [modCz, raise, setCzState]

theorem czFlush (h : KeepsOrder u s) (k : Nat) (p : Request → Bool) (status : Nat) : KeepsOrder u (s.czFlush k p status) := by
  unfold State.czFlush
  grind [flushTroughs]

theorem czLame (h : KeepsOrder u s) (k : Nat) : KeepsOrder u (s.czLame k) := (h.setCzState _ _).czFlush _ _ _

theorem czStrike (h : KeepsOrder u s) (k : Nat) : KeepsOrder u (s.czStrike k) := by
  unfold State.czStrike
  grind [czLame, strike]

theorem czFinish (h : KeepsOrder u s) (k c : Nat) (j : CzJob) (status : Nat) (vld : Bool) : KeepsOrder u (s.czFinish k c j status vld) := by
  unfold State.czFinish
  grind [complete, czAfter, dieWrite, modCz]

theorem czEmit (h : KeepsOrder u s) (k c : Nat) (old new : CzJob) (bs : List Byte) (fin : State → CzJob → State)
    (hf : ∀ s j, KeepsOrder u s → KeepsOrder u (fin s j)) : KeepsOrder u (s.czEmit k c old new bs fin) := by
  unfold State.czEmit
  extract_lets at_ rest w
  have hw := h.engineWrite k 0x21 old.req.agent old.bufs at_ w
  split <;> rename_i e <;> rw [e] at hw
  · exact hw.czFinish _ _ _ _ _
  · extract_lets s1 s2
    have h2 : KeepsOrder u s2 := ite ((bump hw _ _ _ _).bump _ _ _ _) (bump hw _ _ _ _)
    exact ite (h2.czFinish _ _ _ _ _) (hf _ _ (h2.bump _ _ _ _))

theorem czNext (h : KeepsOrder u s) (k c : Nat) (j : CzJob) : KeepsOrder u (s.czNext k c j) := by
  unfold State.czNext
  grind [czFinish, modCz]

theorem czMismatch (h : KeepsOrder u s) (k : Nat) (j : CzJob) (va vb : Bool) : KeepsOrder u (s.czMismatch k j va vb) :=
  (((h.record _ _ _ _).bump _ _ _ _).raise _).czStrike _

theorem czCompress (h : KeepsOrder u s) (k c : Nat) (j : CzJob) (va vb : Bool) : KeepsOrder u (s.czCompress k c j va vb) := by
  unfold State.czCompress
  grind [bump, czEmit, czFinish, czMismatch, czNext, engineRead]

theorem czFetch (h : KeepsOrder u s) (k : Nat) (j : CzJob) (ps : List (Nat × Nat)) (acc : List Byte) :
    KeepsOrder u (s.czFetch k j ps acc).1 := by
  induction ps generalizing s acc with
  | nil => exact h
  | cons x ps ih =>
    unfold State.czFetch
    extract_lets more
    clear_value more
    dsimp only
    split
    · exact h
    have hr := h.engineRead k 0x21 j.req.agent x.1 x.2
    split <;> rename_i e <;> rw [e] at hr
    · exact hr
    · exact ih hr _

theorem czDecompress (h : KeepsOrder u s) (k c : Nat) (j : CzJob) : KeepsOrder u (s.czDecompress k c j) := by
  unfold State.czDecompress
  grind [bump, czEmit, czFetch, czFinish, czNext]

theorem czHead (h : KeepsOrder u s) (k : Nat) (j : CzJob) : KeepsOrder u (s.czHead k j).1 := by
  unfold State.czHead
  grind [engineRead]

theorem czResume (h : KeepsOrder u s) (k : Nat) (j : CzJob) : KeepsOrder u (s.czResume k j).1 := by
  unfold State.czResume
  grind [czHead, enginePieces, engineRead]

theorem czBegin (h : KeepsOrder u s) (k op : Nat) : KeepsOrder u (s.czBegin k op) := by
  unfold State.czBegin
  dsimp only
  split
  · split
    · exact h
    next c t q rest _ _ _ =>
      generalize hs : (s.setTrough t rest).modCz k _ = s1
      have h1 : KeepsOrder u s1 := hs ▸ (h.setTrough _ _).modCz _ _
      split
      · exact h1.complete _ _ _
      have hr := h1.czResume k (czJob q (s1.descriptor q))
      split <;> rename_i e <;> rw [e] at hr
      · exact hr.czFinish _ _ _ _ _
      · exact hr.modCz _ _
  · exact h

theorem execCompressionUnitComplete (h : KeepsOrder u s) (k : Nat) (va vb : Bool) :
    OutKeepsOrder u (Machine.execCompressionUnitComplete k va vb s) := by
  unfold Machine.execCompressionUnitComplete
  grind [next, czCompress, czDecompress, modCz]

theorem czControl (h : KeepsOrder u s) (k : Nat) (v : Word) : KeepsOrder u (s.czControl k v) := by
  unfold State.czControl
  grind [czAfter, czFlush, modCz, rput, rset, setCzState]

theorem execCzTestComplete (h : KeepsOrder u s) (k : Nat) (pass : Bool) : OutKeepsOrder u (Machine.execCzTestComplete k pass s) := by
  unfold Machine.execCzTestComplete
  grind [next, czStrike, modCz, raise, rput]

theorem czStoppart (h : KeepsOrder u s) (k p : Nat) : KeepsOrder u (s.czStoppart k p) := ((h.czFlush _ _ _).modCz _ _).czAfter _

/-! ### The functions of Sentence -/

theorem setEntry (h : KeepsOrder u s) (i : Nat) (e : Sent) : KeepsOrder u (s.setEntry i e) := h.modCh _

theorem asyncArise (h : KeepsOrder u s) (code info : Nat) : KeepsOrder u (s.asyncArise code info) := by
  unfold State.asyncArise
  grind [frame, raise, recordMc, rput, rset]

theorem ledgerRead (h : KeepsOrder u s) (i : Nat) (le : LedgerErr) : KeepsOrder u (s.ledgerRead i le).1 := by
  unfold State.ledgerRead
  grind [asyncArise, raise, setEntry, strike]

theorem writeContext (h : KeepsOrder u s) (e : Sent) : KeepsOrder u (s.writeContext e).1 := by
  unfold State.writeContext
  grind [dieBuf, dieWrites]

theorem ledgerUse (h : KeepsOrder u s) (pen part : Nat) (up : Bool) : KeepsOrder u (s.ledgerUse pen part up) :=
  (h.rmod _ _ _ _).rmod _ _ _ _

theorem endSentence (h : KeepsOrder u s) (i : Nat) (e : Sent) (status value : Nat) : KeepsOrder u (s.endSentence i e status value) := by
  unfold State.endSentence
  grind [complete, ledgerUse, modCh, raise, rput, send, writeContext]

theorem drained (h : KeepsOrder u s) (old : State) (g : Nat) : KeepsOrder u (s.drained old g) := by
  unfold State.drained
  grind [raise, foldl]

theorem unwait (h : KeepsOrder u s) (i pen : Nat) : KeepsOrder u (s.unwait i pen) := by
  unfold State.unwait
  grind [modPen]

theorem closeCommand (h : KeepsOrder u s) (i : Nat) (e : Sent) (status dstat moved value : Nat) :
    KeepsOrder u (s.closeCommand i e status dstat moved value) := by
  unfold State.closeCommand
  grind [endSentence, setEntry]

theorem recordStatus (h : KeepsOrder u s) (i : Nat) (e : Sent) (status dstat moved value : Nat) :
    KeepsOrder u (s.recordStatus i e status dstat moved value) := by
  unfold State.recordStatus
  grind [closeCommand, drained, unwait]

theorem execRun (h : KeepsOrder u s) (t entry slot : Nat) (le : LedgerErr) : OutKeepsOrder u (Machine.execRun t entry slot le s) := by
  unfold Machine.execRun
  split
  · exact next h
  next q rest _ =>
    dsimp only
    split
    · exact next h
    have h1 := h.ledgerRead entry le
    have h2 : KeepsOrder u { (s.ledgerRead entry le).1 with troughs := tput [] (s.ledgerRead entry le).1.troughs t rest } := h1
    split
    · exact next (h2.drawn.complete _ _ _)
    · exact next (h2.drawn.complete _ _ _)
    · exact next ((h2.setEntry _ _).ledgerUse _ _ _)

theorem postBus (h : KeepsOrder u s) (p bus : Nat) (v : Word) : KeepsOrder u (s.postBus p bus v) := h.modCh _

/-- `apertureOf` compares with numbers too large for the kernel to unfold, so `doorbell` is unfolded as a function, before it is
applied; so are the functions below that ring it. -/
theorem doorbell (h : KeepsOrder u s) (pa v rid : Nat) {t : State} {b : Bool} (e : s.doorbell pa v rid = (t, b)) : KeepsOrder u t := by
  obtain ⟨f, hf⟩ : ∃ f, f = @State.doorbell := ⟨_, rfl⟩
  rw [← hf] at e
  delta State.doorbell at hf
  subst hf
  beta_reduce at e
  generalize s.apertureOf pa = o at e
  cases o with
  | none => cases e; exact h
  | some x =>
    dsimp only at e
    split at e
    · cases e; exact h.lkError _ _ _ _
    split at e
    · cases e; exact h.lkError _ _ _ _
    · cases e; exact h.postBus _ _ _

theorem writeRing (h : KeepsOrder u s) (n i size : Nat) (bs : List (List Byte)) : KeepsOrder u (s.writeRing n i size bs) := by
  induction bs generalizing s with
  | nil => exact h
  | cons b bs ih => exact ih ((h.cohWrite _ _).modPen _ _)

theorem bufferCheck (h : KeepsOrder u s) (e : Sent) (cs : List Clause) : KeepsOrder u (s.bufferCheck e cs).1 := by
  induction cs generalizing s with
  | nil => exact h
  | cons c cs ih =>
    have hb (kind) := h.dieBuf e.req.agent (addrOf c) (lenOf c) kind false
    unfold State.bufferCheck
    dsimp only
    split <;> rename_i e1
    · have hr := ih (show KeepsOrder u _ from (congrArg Prod.fst e1) ▸ hb _)
      split <;> rename_i e2
      · rw [e2] at hr; exact hr
      · exact hr
    · exact (congrArg Prod.fst e1) ▸ hb _

theorem ringAndSend (h : KeepsOrder u s) (idx : Nat) (e : Sent) (i size : Nat) (es : List (List Byte)) :
    KeepsOrder u (s.ringAndSend idx e i size es) := by
  obtain ⟨f, hf⟩ : ∃ f, f = @State.ringAndSend := ⟨_, rfl⟩
  rw [← hf]
  delta State.ringAndSend at hf
  subst hf
  beta_reduce
  extract_lets p s1 s2
  have h2 : KeepsOrder u s2 := ((h.writeRing _ _ _ _).setEntry _ _).modPen _ _
  clear_value s2
  generalize hd : s2.doorbell _ _ _ = r
  obtain ⟨t, b⟩ := r
  have ht := h2.doorbell _ _ _ hd
  cases b with
  | true => exact ht
  | false => exact ht.failPath _ _

theorem sendCommand (h : KeepsOrder u s) (idx : Nat) (e : Sent) : KeepsOrder u (s.sendCommand idx e) := by
  unfold State.sendCommand
  extract_lets p cs op check
  have hs (status : Nat) := h.recordStatus idx e status 0 0 0
  refine ite ((h.unwait _ _).endSentence _ _ _ _) (ite (hs _) (ite (hs _) (ite (hs _) ?_)))
  generalize hr : (if check = true then s.bufferCheck e cs else (s, some (cs.map fun c => [(addrOf c, lenOf c)]))) = r
  have h1 : KeepsOrder u r.1 := by
    subst hr
    split
    · exact h.bufferCheck _ _
    · exact h
  obtain ⟨s1, _ | pieces⟩ := r
  · exact recordStatus h1 _ _ _ _ _ _
  dsimp only
  split
  · exact recordStatus h1 _ _ _ _ _ _
  next i _ =>
    split
    · exact h1
    split
    · exact h1
    split
    · exact ite (recordStatus h1 _ _ _ _ _ _) (((setEntry h1 _ _).modPen _ _).ask _ _ _ _ _)
    split
    · exact ite h1 (ringAndSend h1 _ _ _ _ _)
    · exact ite (ite (modPen h1 _ _) h1) ((foldl h1 _ (fun _ _ h => ite h (h.cohWrite _ _)) _).ringAndSend _ _ _ _ _)

theorem sendIf (h : KeepsOrder u s) (idx : Nat) (f : Pen → Nat → Bool) : KeepsOrder u (s.sendIf idx f) := by
  unfold State.sendIf
  grind [sendCommand]

/-! ### The functions of Channel -/

theorem execPathFailureReissue (h : KeepsOrder u s) (pen path : Nat) : OutKeepsOrder u (Machine.execPathFailureReissue pen path s) := by
  unfold Machine.execPathFailureReissue
  grind [next, drained, recordStatus, sendCommand, setEntry, foldl]

theorem execCommandTimeout (h : KeepsOrder u s) (entry : Nat) : OutKeepsOrder u (Machine.execCommandTimeout entry s) := by
  unfold Machine.execCommandTimeout
  grind [next, failPath, rset]

theorem nvmeDone (h : KeepsOrder u s) (pen path cid sf dw0 : Nat) : KeepsOrder u (s.nvmeDone pen path cid sf dw0) := by
  unfold State.nvmeDone
  grind [failPath, recordStatus, setEntry]

theorem ringDone (h : KeepsOrder u s) (pen path cid dstatus moved : Nat) : KeepsOrder u (s.ringDone pen path cid dstatus moved) := by
  unfold State.ringDone
  grind [failPath, recordStatus]

theorem takeCompletion (h : KeepsOrder u s) (pen path : Nat) (le : LedgerErr) {t : State} {b : Bool}
    (e : s.takeCompletion pen path le = (t, b)) : KeepsOrder u t := by
  obtain ⟨f, hf⟩ : ∃ f, f = @State.takeCompletion := ⟨_, rfl⟩
  rw [← hf] at e
  delta State.takeCompletion at hf
  subst hf
  beta_reduce at e
  extract_lets p q pa lo hi nvme phase head q1 s1 s2 cid idx at e
  have h2 : KeepsOrder u s2 := by
    have h1 : KeepsOrder u s1 := h.modPen _ _
    dsimp only [s2]
    generalize hd : s1.doorbell _ _ _ = r
    obtain ⟨t, b⟩ := r
    have ht := h1.doorbell _ _ _ hd
    cases b with
    | true => exact ht
    | false => exact ht.failPath _ _
  clear_value s2 idx
  split at e
  · cases e; exact h
  have hl := h2.ledgerRead idx le
  split at e <;> rename_i e' <;> rw [e'] at hl <;> cases e
  · exact hl
  · exact ite (hl.nvmeDone _ _ _ _ _) (hl.ringDone _ _ _ _ _)

theorem takeCompletion_fst (h : KeepsOrder u s) (pen path : Nat) (le : LedgerErr) : KeepsOrder u (s.takeCompletion pen path le).1 :=
  h.takeCompletion pen path le rfl

theorem execNvmeCompletionEntry (h : KeepsOrder u s) (pen path : Nat) (le : LedgerErr) :
    OutKeepsOrder u (Machine.execNvmeCompletionEntry pen path le s) :=
  next (ite (h.takeCompletion_fst _ _ _) h)

theorem execRingCompletionEntry (h : KeepsOrder u s) (pen path : Nat) (le : LedgerErr) :
    OutKeepsOrder u (Machine.execRingCompletionEntry pen path le s) :=
  next (ite (h.takeCompletion_fst _ _ _) h)

theorem readRing (h : KeepsOrder u s) (pen path k : Nat) : KeepsOrder u (s.readRing pen path k) := by
  induction k generalizing s with
  | zero => exact h
  | succ k ih =>
    unfold State.readRing
    split
    · next e => exact ih (h.takeCompletion _ _ _ e)
    · next e => exact h.takeCompletion _ _ _ e

theorem msiBad (h : KeepsOrder u s) : KeepsOrder u s.msiBad := (h.bump _ _ _ _).raise _

theorem absorbMsix (h : KeepsOrder u s) (p rid data : Nat) : KeepsOrder u (s.absorbMsix p rid data) := by
  unfold State.absorbMsix
  grind [msiBad, readRing]

theorem execCompletionPoll (h : KeepsOrder u s) (pen : Nat) : OutKeepsOrder u (Machine.execCompletionPoll pen s) := by
  unfold Machine.execCompletionPoll
  grind [next, readRing, foldl]

theorem penDone (h : KeepsOrder u s) (result : Nat) : KeepsOrder u (s.penDone result) := (h.rmod _ _ _ _).raise _

theorem setPenState (h : KeepsOrder u s) (n v : Nat) : KeepsOrder u (s.setPenState n v) := h.rput _ _ _ _ _ _

theorem penAbort (h : KeepsOrder u s) (pen : Nat) : KeepsOrder u (s.penAbort pen) := by
  unfold State.penAbort
  grind [frame, complete, recordStatus, foldl]

theorem clearPaths (h : KeepsOrder u s) (pen : Nat) (is : List Nat) : KeepsOrder u
    (is.foldl (fun s i => (s.modPen pen fun p => { p with paths := tdel p.paths i }).rput .chPenstat pen 0 (32 + i) (32 + i) 0) s) :=
  foldl h _ (fun _ _ h => (h.modPen _ _).rput _ _ _ _ _ _) _

theorem freezeGroup (h : KeepsOrder u s) (ns : List Nat) : KeepsOrder u (ns.foldl (fun s n => s.rput .chPenstat n 0 60 60 1) s) :=
  foldl h _ (fun _ _ h => h.rput _ _ _ _ _ _) _

theorem runPen (h : KeepsOrder u s) (cmd arg pen : Nat) : KeepsOrder u (s.runPen cmd arg pen) := by
  have no := h.penDone 2
  unfold State.runPen
  dsimp only
  split
  · exact ite no (ite (h.penDone _) ((((h.modPen _ _).rput _ _ _ _ _ _).setPenState _ _).penDone _))
  · exact ite no (h.setPenState _ _)
  · exact ite ((h.setPenState _ _).penDone _) no
  · exact ite ((h.penAbort _).penDone _) no
  · exact ite no (ite (h.penDone _) (((h.modCh _).rmod _ _ _ _).penDone _))
  · exact ite no (ite (h.penDone _) (ite no ((h.modPen _ _).penDone _)))
  · exact ite no ((h.clearPaths _ _).penDone _)
  · exact ite no ((foldl h _ (fun _ _ h => h.failPath _ _) _).penDone _)
  · exact ite no (((h.rput _ _ _ _ _ _).freezeGroup _).modCh _)
  · exact h

theorem penCommand (h : KeepsOrder u s) (v : Word) : KeepsOrder u (s.penCommand v) := by
  unfold State.penCommand
  grind [modCh, rset, runPen]

theorem execPenStopped (h : KeepsOrder u s) (pen : Nat) : OutKeepsOrder u (Machine.execPenStopped pen s) := by
  unfold Machine.execPenStopped
  grind [next, penDone, setPenState]

theorem execPenMoveComplete (h : KeepsOrder u s) (g : Nat) : OutKeepsOrder u (Machine.execPenMoveComplete g s) := by
  unfold Machine.execPenMoveComplete
  grind [next, modCh, penDone, rput, rset, foldl]

theorem chPathCommit (h : KeepsOrder u s) : ∀ t, s.chPathCommit = some t → KeepsOrder u t := by
  unfold State.chPathCommit
  grind [raise, rset, foldl]

theorem chDrainCommit (h : KeepsOrder u s) : ∀ t, s.chDrainCommit = some t → KeepsOrder u t := by
  unfold State.chDrainCommit
  grind [rset]

theorem drainEnd (h : KeepsOrder u s) (ok late : Bool) : KeepsOrder u (s.drainEnd ok late) := ((h.modCh _).rmod _ _ _ _).raise _

theorem execPowerFailDrain (h : KeepsOrder u s) : OutKeepsOrder u (Machine.execPowerFailDrain s) := by
  unfold Machine.execPowerFailDrain
  grind [next, cohWrite, drainEnd, modCh, rput, rset]

theorem execDrainComplete (h : KeepsOrder u s) (ok late : Bool) : OutKeepsOrder u (Machine.execDrainComplete ok late s) := by
  unfold Machine.execDrainComplete
  grind [next, drainEnd]

theorem execLedgerThaw (h : KeepsOrder u s) : OutKeepsOrder u (Machine.execLedgerThaw s) := by
  unfold Machine.execLedgerThaw
  grind [next, modCh, rput, runPen]

/-! ### The functions of Links -/

theorem modPorts (h : KeepsOrder u s) (f : PortOps → PortOps) : KeepsOrder u (s.modPorts f) := h

theorem linkCommand (h : KeepsOrder u s) (p cmd : Nat) : KeepsOrder u (s.linkCommand p cmd) := by
  unfold State.linkCommand
  grind [modPorts, rmod, rput, setLink]

theorem linkCmdDone (h : KeepsOrder u s) (p : Nat) : KeepsOrder u (s.linkCmdDone p) := (h.rput _ _ _ _ _ _).modPorts _

theorem execLinkReeqComplete (h : KeepsOrder u s) (p : Nat) : OutKeepsOrder u (Machine.execLinkReeqComplete p s) := by
  unfold Machine.execLinkReeqComplete
  grind [next, linkCmdDone, lkLink, setLink]

theorem marginGo (h : KeepsOrder u s) (p lane : Nat) (volt : Bool) : KeepsOrder u (s.marginGo p lane volt) := by
  unfold State.marginGo
  grind [modPorts, rput, rset]

theorem execMarginComplete (h : KeepsOrder u s) (p steps : Nat) : OutKeepsOrder u (Machine.execMarginComplete p steps s) := by
  unfold Machine.execMarginComplete
  grind [next, lkLink, modPorts, rmod]

theorem execLinkUp (h : KeepsOrder u s) (p rate lanes : Nat) (flit : Bool) : OutKeepsOrder u (Machine.execLinkUp p rate lanes flit s) := by
  unfold Machine.execLinkUp
  grind [next, activate, linkCmdDone, modLnk, raise, rmod, setLink, updateRoutes, foldl]

theorem execLinkDown (h : KeepsOrder u s) (p : Nat) (protocol : Bool) : OutKeepsOrder u (Machine.execLinkDown p protocol s) := by
  unfold Machine.execLinkDown
  grind [next, linkCmdDone, linkDown, lkError]

theorem dreqEnd (h : KeepsOrder u s) (p result : Nat) : KeepsOrder u (s.dreqEnd p result) := ((h.rmod _ _ _ _).modPorts _).raise _

theorem dreq (h : KeepsOrder u s) (p : Nat) (v : Word) : KeepsOrder u (s.dreq p v) := by
  unfold State.dreq
  grind [dreqEnd, modPorts, postBus, rput, rset]

theorem execDreqComplete (h : KeepsOrder u s) (p result data : Nat) : OutKeepsOrder u (Machine.execDreqComplete p result data s) := by
  unfold Machine.execDreqComplete
  grind [next, dreqEnd, rset]

theorem execDreqTimeout (h : KeepsOrder u s) (p : Nat) : OutKeepsOrder u (Machine.execDreqTimeout p s) := by
  unfold Machine.execDreqTimeout
  grind [next, dreqEnd, lkError]

theorem answer (h : KeepsOrder u s) (p : Nat) (ok : Bool) (data : Nat) (ep : Bool) : KeepsOrder u (s.answer p ok data ep) := h.modPorts _

theorem refuseDev (h : KeepsOrder u s) (p cause : Nat) (r : DevReq) : KeepsOrder u (s.refuseDev p cause r) := by
  unfold State.refuseDev
  grind [answer, lkError]

theorem serveDev (h : KeepsOrder u s) (p : Nat) (r : DevReq) (ps : List (Nat × Nat)) : KeepsOrder u (s.serveDev p r ps) := by
  unfold State.serveDev
  split
  · have hw := h.dieWrites dieAgent ps (toBytes r.len r.data)
    refine ite (lkError (foldl hw _ (fun t l ht => ?_) _) _ _ _ _) hw
    exact ite (ite (ht.poisonMem _) ht) ht
  · dsimp only
    have hf := foldl_fst (fun acc (x : Nat × Nat) =>
      match acc.1.dieRead dieAgent x.1 x.2 with
      | (s, .ok bs) => (s, acc.2.1 ++ bs, acc.2.2)
      | (s, .error _) => (s, acc.2.1 ++ List.replicate x.2 0, true)) (show KeepsOrder u (s, ([] : List Byte), false).1 from h) (fun q x hq => by
        have hr := hq.dieRead dieAgent x.1 x.2
        split <;> rename_i e <;> rw [e] at hr <;> exact hr) ps
    exact answer (ite (lkError hf _ _ _ _) hf) _ _ _ _

theorem forwardPeer (h : KeepsOrder u s) (p : Nat) (r : DevReq) (a o : Nat) : KeepsOrder u (s.forwardPeer p r a o) := by
  unfold State.forwardPeer
  grind [answer, postBus]

theorem inbound (h : KeepsOrder u s) (p : Nat) (r : DevReq) (pe : PieceErr) : KeepsOrder u (s.inbound p r pe) := by
  unfold State.inbound
  split
  · exact h.refuseDev _ _ _
  next fn _ =>
    split
    · exact h.refuseDev _ _ _
    split
    · exact ite (h.absorbMsix _ _ _) (h.refuseDev _ _ _)
    split
    · exact h.refuseDev _ _ _
    extract_lets part owner
    clear_value owner
    split
    · exact h.refuseDev _ _ _
    split
    · exact h.refuseDev _ _ _
    next o =>
      have hb := h.dieBuf o r.addr r.len (if r.write then .store else .load) false
      split <;> rename_i e <;> rw [e] at hb
      · exact hb.refuseDev _ _ _
      · exact hb.refuseDev _ _ _
      next s1 ps =>
        extract_lets pa s2
        have h2 : KeepsOrder u s2 := ite (pieceError hb _ _) hb
        refine ite (h2.serveDev _ _ _) ?_
        generalize s2.apertureOf pa = a
        cases a with
        | none => exact h2.refuseDev _ _ _
        | some x => exact ite (h2.forwardPeer _ _ _ _) (h2.refuseDev _ _ _)

theorem execDeviceMemoryRequest (h : KeepsOrder u s) (p : Nat) (req : DevReq) (pe : PieceErr) :
    OutKeepsOrder u (Machine.execDeviceMemoryRequest p req pe s) := by
  unfold Machine.execDeviceMemoryRequest
  grind [next, inbound]

theorem execAtsTranslationRequest (h : KeepsOrder u s) (p rid addr : Nat) :
    OutKeepsOrder u (Machine.execAtsTranslationRequest p rid addr s) := by
  unfold Machine.execAtsTranslationRequest
  split
  · exact next h
  dsimp only
  split
  · exact next (h.refuseDev _ _ _)
  split
  · exact next (h.refuseDev _ _ _)
  split
  · exact next (h.answer _ _ _ _)
  split
  · exact next (h.answer _ _ _ _)
  next res _ =>
    have hx := h.dieXlate (some res) (addr / 4096 * 4096) .load false
    split <;> rename_i e <;> rw [e] at hx
    · exact next (hx.refuseDev _ _ _)
    · have hy := dieXlate hx (some res) (addr / 4096 * 4096) .store false
      split <;> rename_i e <;> rw [e] at hy
      · exact next (hy.refuseDev _ _ _)
      · exact next (answer hy _ _ _ _)

theorem execAtsInvalidateTimeout (h : KeepsOrder u s) (p fn : Nat) : OutKeepsOrder u (Machine.execAtsInvalidateTimeout p fn s) := by
  unfold Machine.execAtsInvalidateTimeout
  grind [next, lkError, modPorts, rput]

theorem execPcieCorrectableError (h : KeepsOrder u s) (p : Nat) : OutKeepsOrder u (Machine.execPcieCorrectableError p s) := by
  unfold Machine.execPcieCorrectableError
  grind [next, strike]

theorem execPcieNonfatalError (h : KeepsOrder u s) (p rid addr : Nat) (result : Option Nat) :
    OutKeepsOrder u (Machine.execPcieNonfatalError p rid addr result s) := by
  unfold Machine.execPcieNonfatalError
  grind [next, answer, dreqEnd, lkError]

theorem execPcieFatalError (h : KeepsOrder u s) (p : Nat) : OutKeepsOrder u (Machine.execPcieFatalError p s) := by
  unfold Machine.execPcieFatalError
  grind [next, linkCmdDone, linkDown, lkError]

theorem aptStore (h : KeepsOrder u s) (a o : Nat) (v : Word) : ∀ t, s.aptStore a o v = some t → KeepsOrder u t := by
  unfold State.aptStore
  grind [lkError, postBus]

theorem lkCommit (h : KeepsOrder u s) : ∀ t, s.lkCommit = some t → KeepsOrder u t := by
  unfold State.lkCommit
  grind [linkDown, lkLink, modPorts, rset, foldl]

/-! ### The functions of Partition -/

theorem ptResult (h : KeepsOrder u s) (cmd result r : Nat) : KeepsOrder u (s.ptResult cmd result r) := h.rset _ _ _ _

theorem setRes (h : KeepsOrder u s) (r st sealed pid : Nat) : KeepsOrder u (s.setRes r st sealed pid) := h.rset _ _ _ _

theorem ptControl (h : KeepsOrder u s) (v : Word) : KeepsOrder u (s.ptControl v) := by
  unfold State.ptControl
  grind [ptResult, setRes]

theorem ptCoreWrite (h : KeepsOrder u s) (n : Nat) (v : Word) : KeepsOrder u (s.ptCoreWrite n v) := by
  unfold State.ptCoreWrite
  grind [rput]

theorem huInvalidate (h : KeepsOrder u s) (v : Word) : KeepsOrder u (s.huInvalidate v) := by
  unfold State.huInvalidate
  grind [frame, modPorts, rput, rset]

theorem execHuInvdone (h : KeepsOrder u s) : OutKeepsOrder u (Machine.execHuInvdone s) := by
  unfold Machine.execHuInvdone
  grind [next, frame, modPorts, raise, rput]

theorem trCommit (h : KeepsOrder u s) : ∀ t, s.trCommit = some t → KeepsOrder u t := by
  unfold State.trCommit
  grind [rset, foldl]

theorem stCommit (h : KeepsOrder u s) : ∀ t, s.stCommit = some t → KeepsOrder u t := by
  unfold State.stCommit
  grind [rput, rset, foldl]

theorem meterBoundary (h : KeepsOrder u s) (m : Nat) : KeepsOrder u (s.meterBoundary m) := by
  unfold State.meterBoundary
  grind [frame, raise, rput, rset, foldl]

theorem execStintPeriodBoundary (h : KeepsOrder u s) : OutKeepsOrder u (Machine.execStintPeriodBoundary s) := by
  unfold Machine.execStintPeriodBoundary
  grind [next, frame, meterBoundary, rmod, foldl]

theorem execStintOpportunity (h : KeepsOrder u s) (m : Nat) (waiting : List Nat) :
    OutKeepsOrder u (Machine.execStintOpportunity m waiting s) := by
  unfold Machine.execStintOpportunity
  grind [next, frame, raise, rput]

/-! ### The functions of Scratch -/

theorem zeroBank (h : KeepsOrder u s) (k b : Nat) : KeepsOrder u (s.zeroBank k b) :=
  ⟨fun hm => memOk_filter s _ (h.1 hm), h.2⟩

theorem bankEnter (h : KeepsOrder u s) (k b v : Nat) : KeepsOrder u (s.bankEnter k b v) := by
  unfold State.bankEnter
  grind [raise, rput, zeroBank]

theorem bankStart (h : KeepsOrder u s) (k b : Nat) : KeepsOrder u (s.bankStart k b) := by
  unfold State.bankStart
  grind [frame, bankEnter, rput]

theorem bankTargets (h : KeepsOrder u s) (k : Nat) : KeepsOrder u (s.bankTargets k) := by
  unfold State.bankTargets
  grind [bankStart, foldl]

theorem execBankStateChangeComplete (h : KeepsOrder u s) (k b : Nat) : OutKeepsOrder u (Machine.execBankStateChangeComplete k b s) := by
  unfold Machine.execBankStateChangeComplete
  grind [next, frame, bankEnter, bankStart]

theorem wipeDone (h : KeepsOrder u s) (k : Nat) : KeepsOrder u (s.wipeDone k) := (((h.zeroBank _ _).rput _ _ _ _ _ _).raise _).bankStart _ _

theorem wipeKeep (h : KeepsOrder u s) (k : Nat) : KeepsOrder u (s.wipeKeep k) := by
  unfold State.wipeKeep
  grind [rput, wipeDone]

theorem wipeKeeps (h : KeepsOrder u s) : KeepsOrder u s.wipeKeeps := by
  unfold State.wipeKeeps
  grind [wipeKeep, foldl]

theorem execKeepWipeComplete (h : KeepsOrder u s) (k : Nat) : OutKeepsOrder u (Machine.execKeepWipeComplete k s) := by
  unfold Machine.execKeepWipeComplete
  grind [next, wipeDone]

/-! ### The functions of Record -/

theorem shepSync (h : KeepsOrder u s) : KeepsOrder u s.shepSync := (((h.rset _ _ _ _).rmod _ _ _ _).rput _ _ _ _ _ _).rmod _ _ _ _

theorem modShep (h : KeepsOrder u s) (f : Shep → Shep) : KeepsOrder u (s.modShep f) :=
  (show KeepsOrder u { s with shep := f s.shep } from h).shepSync

theorem queuePiece (h : KeepsOrder u s) (off : Nat) (data : List Byte) (bootseq : Nat) : KeepsOrder u (s.queuePiece off data bootseq) := by
  unfold State.queuePiece
  grind [frame, modShep]

theorem recordMemory (h : KeepsOrder u s) (data : List Byte) : KeepsOrder u (s.recordMemory data) := by
  unfold State.recordMemory
  grind [cohWrite, modShep, rput]

theorem recordEvent (h : KeepsOrder u s) (type version target length : Nat) (label digest : List Byte) :
    KeepsOrder u (s.recordEvent type version target length label digest) := by
  unfold State.recordEvent
  grind [modShep]

theorem signAddendum (h : KeepsOrder u s) (late : Bool) : KeepsOrder u (s.signAddendum late) := by
  unfold State.signAddendum
  grind [modShep, queuePiece, recordMemory]

theorem execAddendumSigned (h : KeepsOrder u s) : OutKeepsOrder u (Machine.execAddendumSigned s) := by
  unfold Machine.execAddendumSigned
  grind [next, raise, signAddendum]

theorem sealRecord (h : KeepsOrder u s) : KeepsOrder u s.sealRecord := (h.modShep _).queuePiece _ _ _

theorem execAutoSeal (h : KeepsOrder u s) : OutKeepsOrder u (Machine.execAutoSeal s) := by
  unfold Machine.execAutoSeal
  grind [next, raise, sealRecord]

theorem bootStop (h : KeepsOrder u s) (reason : Nat) : KeepsOrder u (s.bootStop reason) :=
  ((h.recordEvent _ _ _ _ _ _).sealRecord).rput _ _ _ _ _ _

/-! ### The functions of Shepherd -/

theorem mbEnd (h : KeepsOrder u s) (status : Nat) : KeepsOrder u (s.mbEnd status) :=
  ((show KeepsOrder u { s with shep := { s.shep with cmd := none } } from h).rmod _ _ _ _).raise _

theorem mbReply (h : KeepsOrder u s) (c : MbCmd) (status : Nat) (data : List Word) : KeepsOrder u (s.mbReply c status data) :=
  (h.cohWrite _ _).mbEnd _

theorem mbUnknown (h : KeepsOrder u s) : KeepsOrder u s.mbUnknown := by
  unfold State.mbUnknown
  grind [mbReply]

theorem mbGo (h : KeepsOrder u s) (v : Word) : KeepsOrder u (s.mbGo v) := by
  unfold State.mbGo
  grind [frame, mbEnd, mbUnknown, rmod, rput]

theorem mbServe (h : KeepsOrder u s) (op : Nat) (masks life : List Nat) (k : State → MbCmd → State)
    (hk : ∀ c, KeepsOrder u (k s c)) : KeepsOrder u (s.mbServe op masks life k) := by
  unfold State.mbServe
  split
  · exact h
  · exact ite h (ite (h.mbReply _ _ _) (ite (h.mbReply _ _ _) (hk _)))

theorem tell (h : KeepsOrder u s) (r : Reply) : KeepsOrder u (s.tell r) := h

theorem drbgNat (h : KeepsOrder u s) : KeepsOrder u s.drbgNat.1 := by
  unfold State.drbgNat
  grind [drawn, drbgUse]

theorem trngSync (h : KeepsOrder u s) : KeepsOrder u s.trngSync := h.rmod _ _ _ _

theorem execNoiseSourceFailure (h : KeepsOrder u s) (src : Nat) : OutKeepsOrder u (Machine.execNoiseSourceFailure src s) := by
  unfold Machine.execNoiseSourceFailure
  grind [next, frame, strike, trngSync]

theorem execDrbgReseed (h : KeepsOrder u s) : OutKeepsOrder u (Machine.execDrbgReseed s) := by
  unfold Machine.execDrbgReseed
  grind [next, frame, rput]

theorem wipeKeys (h : KeepsOrder u s) : KeepsOrder u s.wipeKeys := by
  unfold State.wipeKeys
  grind [frame, cyAbort, foldl]

theorem keepWipe (h : KeepsOrder u s) : KeepsOrder u s.keepWipe := by
  unfold State.keepWipe
  grind [frame, drbgNat, wipeKeeps, wipeKeys]

theorem tamperRecord (h : KeepsOrder u s) (sensor : Nat) : KeepsOrder u (s.tamperRecord sensor) := by
  unfold State.tamperRecord
  grind [raise, recordEvent]

theorem tamper (h : KeepsOrder u s) (sensor : Nat) : KeepsOrder u (s.tamper sensor) := by
  unfold State.tamper
  grind [frame, keepWipe, modShep, rput, tamperRecord]

theorem execTamperTrip (h : KeepsOrder u s) (sensor : Nat) : OutKeepsOrder u (Machine.execTamperTrip sensor s) := by
  unfold Machine.execTamperTrip
  grind [next, tamper]

theorem execTamperSensorClear (h : KeepsOrder u s) (sensor : Nat) : OutKeepsOrder u (Machine.execTamperSensorClear sensor s) := by
  unfold Machine.execTamperSensorClear
  grind [next, frame]

theorem execMeshCheck (h : KeepsOrder u s) (broken : Bool) : OutKeepsOrder u (Machine.execMeshCheck broken s) := by
  unfold Machine.execMeshCheck
  grind [next, execTamperSensorClear, execTamperTrip]

theorem execGetInfo (h : KeepsOrder u s) (via : Via) : OutKeepsOrder u (Machine.execGetInfo via s) := by
  unfold Machine.execGetInfo
  grind [next, frame, drbgNat, mbReply, mbServe, tell]

theorem execGetRecord (h : KeepsOrder u s) (via : Via) : OutKeepsOrder u (Machine.execGetRecord via s) := by
  unfold Machine.execGetRecord
  grind [next, cohWrite, mbReply, mbServe, tell]

theorem execGetCerts (h : KeepsOrder u s) : OutKeepsOrder u (Machine.execGetCerts s) := by
  unfold Machine.execGetCerts
  grind [next, cohWrite, mbReply, mbServe]

theorem eraseSlot (h : KeepsOrder u s) (n : Nat) : KeepsOrder u (s.eraseSlot n) := (h.setKey _ _).cyRevoke _

theorem keyMaterial (h : KeepsOrder u s) (src wslot addr n : Nat) : KeepsOrder u (s.keyMaterial src wslot addr n).1 := by
  unfold State.keyMaterial
  grind [cohWrite, drbgNat]

theorem execKeyWrite (h : KeepsOrder u s) : OutKeepsOrder u (Machine.execKeyWrite s) := by
  unfold Machine.execKeyWrite
  grind [next, keyMaterial, mbReply, mbServe, setKey]

theorem execKeyErase (h : KeepsOrder u s) : OutKeepsOrder u (Machine.execKeyErase s) := by
  unfold Machine.execKeyErase
  grind [next, eraseSlot, mbReply, mbServe, foldl]

theorem execKeyDescribe (h : KeepsOrder u s) : OutKeepsOrder u (Machine.execKeyDescribe s) := by
  unfold Machine.execKeyDescribe
  grind [next, mbReply, mbServe]

theorem execKeyEraseOwner (h : KeepsOrder u s) : OutKeepsOrder u (Machine.execKeyEraseOwner s) := by
  unfold Machine.execKeyEraseOwner
  grind [next, eraseSlot, mbReply, mbServe, foldl]

theorem load (h : KeepsOrder u s) (type : Nat) (flash : Option (List Byte)) : KeepsOrder u (s.load type flash) := by
  unfold State.load
  split
  · exact h
  refine ite h (h.mbServe _ _ _ _ fun c => ?_)
  extract_lets mask src dst
  refine ite (h.mbReply _ _ _) (ite (h.mbReply _ _ _) (ite (h.mbReply _ _ _) ?_))
  split
  · exact h.mbReply _ _ _
  refine ite (h.mbReply _ _ _) ?_
  extract_lets s1 l sh1 s2 sh2 s3 sh3
  have h1 : KeepsOrder u s1 := h.recordEvent _ _ _ _ _ _
  have h2 : KeepsOrder u s2 := foldl h1 _ (fun _ _ h => ite (h.rput _ _ _ _ _ _) h) _
  have h3 : KeepsOrder u s3 := foldl h1 _ (fun _ _ h => ite (h.setCzState _ _) h) _
  have hr (w : List Word) : KeepsOrder u (s1.mbReply c 0 w) := h1.mbReply _ _ _
  clear_value s2 s3 s1
  split
  · exact h1
  · exact ite (hr _) h2
  · exact ite (hr _) h3
  · exact (h1.cohWrite _ _).mbReply _ _ _

theorem loadEnds (h : KeepsOrder u s) (l : Loading) (status : Nat) : KeepsOrder u (s.loadEnds l status) := by
  unfold State.loadEnds
  grind [frame, mbReply]

theorem execFirmwareLoadComplete (h : KeepsOrder u s) (u' : Nat) : OutKeepsOrder u (Machine.execFirmwareLoadComplete u' s) := by
  unfold Machine.execFirmwareLoadComplete
  grind [next, frame, loadEnds, raise, rmod, rput, setCzState]

theorem releaseLinks (h : KeepsOrder u s) : KeepsOrder u s.releaseLinks := by
  unfold State.releaseLinks
  grind [rput]

theorem execMemtrainComplete (h : KeepsOrder u s) (o : TrainOutcome) : OutKeepsOrder u (Machine.execMemtrainComplete o s) := by
  unfold Machine.execMemtrainComplete
  split
  · exact next h
  split
  · exact next h
  dsimp only
  split
  · split
    · exact next h
    · exact next ((foldl (h.rset _ _ _ _) _ (fun _ _ h => h.setChState _ _) _).releaseLinks.loadEnds _ _)
  · exact next ((((h.bootStop _).raise _).halt _ _).loadEnds _ _)
  · exact next ((((h.bootStop _).raise _).halt _ _).loadEnds _ _)

theorem execExtend (h : KeepsOrder u s) : OutKeepsOrder u (Machine.execExtend s) := by
  unfold Machine.execExtend
  grind [next, mbReply, mbServe, recordEvent]

theorem execSeal (h : KeepsOrder u s) : OutKeepsOrder u (Machine.execSeal s) := by
  unfold Machine.execSeal
  grind [next, frame, mbReply, mbServe, raise, recordMemory, sealRecord]

theorem execShepUpdate (h : KeepsOrder u s) : OutKeepsOrder u (Machine.execShepUpdate s) := by
  unfold Machine.execShepUpdate
  grind [next, mbReply, mbServe, modShep, recordEvent]

theorem execShepCommit (h : KeepsOrder u s) : OutKeepsOrder u (Machine.execShepCommit s) := by
  unfold Machine.execShepCommit
  grind [next, mbReply, mbServe, modShep]

theorem execShepherdLockstepMismatch (h : KeepsOrder u s) : OutKeepsOrder u (Machine.execShepherdLockstepMismatch s) := by
  unfold Machine.execShepherdLockstepMismatch
  grind [next, frame, rmod, strike]

theorem execShepherdRestartComplete (h : KeepsOrder u s) (ok : Bool) : OutKeepsOrder u (Machine.execShepherdRestartComplete ok s) := by
  unfold Machine.execShepherdRestartComplete
  split
  · exact next h
  next r _ =>
    extract_lets back failed s1 s2 s3 s4 due sh s6
    have h2 : KeepsOrder u s2 := (h.modShep _).rput _ _ _ _ _ _
    have h3 : KeepsOrder u s3 := ite (h2.rmod _ _ _ _) h2
    have h4 : KeepsOrder u s4 := ite (h3.recordEvent _ _ _ _ _ _) h3
    clear_value s4
    have h5 : KeepsOrder u { s4 with shep := { sh with trippedDue := [] } } := h4
    have h6 : KeepsOrder u s6 := foldl h5 _ (fun _ _ h => h.tamperRecord _) _
    refine iteOut (next h) ?_
    clear_value s6
    split
    · have h7 : KeepsOrder u { s6 with shep := { s6.shep with load := none } } := h6
      exact iteOut (next (ite (h7.mbReply _ _ _) (h7.mbReply _ _ _))) (next h6)
    · exact next (ite (ite (h6.mbReply _ _ _) h6.mbUnknown) h6.mbUnknown)
    · exact next h6

theorem transition (h : KeepsOrder u s) (to_ : Nat) (digest : List Byte) : KeepsOrder u (s.transition to_ digest) :=
  (((h.keepWipe).modShep _).recordEvent _ _ _ _ _ _).raise _

theorem execOwn (h : KeepsOrder u s) : OutKeepsOrder u (Machine.execOwn s) := by
  unfold Machine.execOwn
  grind [next, mbReply, mbServe, modShep, transition]

theorem execReturn (h : KeepsOrder u s) : OutKeepsOrder u (Machine.execReturn s) := by
  unfold Machine.execReturn
  grind [next, mbReply, mbServe, modShep, transition]

theorem signAll (h : KeepsOrder u s) (late : Bool) : KeepsOrder u (s.signAll late) := by
  unfold State.signAll
  grind [signAddendum, foldl]

theorem toVoid (h : KeepsOrder u s) : KeepsOrder u s.toVoid := by
  unfold State.toVoid
  grind [frame, modShep, raise, signAll, transition]

theorem execVoid (h : KeepsOrder u s) (via : Via) : OutKeepsOrder u (Machine.execVoid via s) := by
  unfold Machine.execVoid
  grind [next, mbReply, mbServe, tell, toVoid]

theorem execProvision (h : KeepsOrder u s) (sig : List Byte) : OutKeepsOrder u (Machine.execProvision sig s) := by
  unfold Machine.execProvision
  grind [next, drbgNat, modShep, tell]

theorem execCertify (h : KeepsOrder u s) (sig ecdsa mldsa : List Byte) : OutKeepsOrder u (Machine.execCertify sig ecdsa mldsa s) := by
  unfold Machine.execCertify
  grind [next, modShep, tell, transition]

theorem execRecordReoffer (h : KeepsOrder u s) : OutKeepsOrder u (Machine.execRecordReoffer s) := by
  unfold Machine.execRecordReoffer
  grind [next, frame]

/-! ### The functions of Power -/

theorem setBlk (h : KeepsOrder u s) (b hi lo v : Nat) : KeepsOrder u (s.setBlk b hi lo v) := by
  unfold State.setBlk
  grind [rput]

theorem thrSync (h : KeepsOrder u s) (b : Nat) : KeepsOrder u (s.thrSync b) := by
  unfold State.thrSync
  grind [raise, setBlk]

theorem setCap (h : KeepsOrder u s) (b v : Nat) : KeepsOrder u (s.setCap b v) :=
  (show KeepsOrder u { s with thermal := tput (blkMax b) s.thermal b v } from h).thrSync _

theorem execPllStepComplete (h : KeepsOrder u s) (b : Nat) : OutKeepsOrder u (Machine.execPllStepComplete b s) := by
  unfold Machine.execPllStepComplete
  grind [next, setBlk]

theorem thermTrip (h : KeepsOrder u s) : KeepsOrder u s.thermTrip := h

theorem execTemperatureSample (h : KeepsOrder u s) (temps : List Nat) : OutKeepsOrder u (Machine.execTemperatureSample temps s) := by
  unfold Machine.execTemperatureSample
  split
  · exact next h
  extract_lets s1 any warn crit s2 s3 warned hot pw s4 s5 s6
  have h1 : KeepsOrder u s1 := foldl h _ (fun _ _ h => h.rset _ _ _ _) _
  have h2 : KeepsOrder u s2 := ite (h1.raise _) h1
  have h3 : KeepsOrder u s3 := ite (h2.raise _) h2
  clear_value s3 crit any warned hot
  have h4 : KeepsOrder u s4 := h3
  clear_value s4
  have h5 : KeepsOrder u s5 := h4.rmod _ _ _ _
  have h6 : KeepsOrder u s6 := foldl h5 _ (fun _ _ h => ite (h.setCap _ _) h) _
  exact next (ite h6.thermTrip h6)

theorem execThermalCapStep (h : KeepsOrder u s) (b : Nat) : OutKeepsOrder u (Machine.execThermalCapStep b s) := by
  unfold Machine.execThermalCapStep
  grind [next, setCap]

theorem wake (h : KeepsOrder u s) (b : Nat) : KeepsOrder u (s.wake b) := by
  unfold State.wake
  grind [frame, raise, setBlk]

theorem sleep (h : KeepsOrder u s) (b : Nat) : KeepsOrder u (s.sleep b) := (h.setBlk _ _ _ _).setBlk _ _ _ _

theorem pwWrite (h : KeepsOrder u s) (b : Nat) (v : Word) : KeepsOrder u (s.pwWrite b v) := by
  unfold State.pwWrite
  grind [setBlk, thrSync]

theorem execFoldSleepEntry (h : KeepsOrder u s) (f : Nat) : OutKeepsOrder u (Machine.execFoldSleepEntry f s) := by
  unfold Machine.execFoldSleepEntry
  grind [next, sleep]

theorem execFoldWake (h : KeepsOrder u s) (f : Nat) : OutKeepsOrder u (Machine.execFoldWake f s) := by
  unfold Machine.execFoldWake
  grind [next, wake]

theorem execFlockSleepEntry (h : KeepsOrder u s) (k : Nat) : OutKeepsOrder u (Machine.execFlockSleepEntry k s) := by
  unfold Machine.execFlockSleepEntry
  grind [next, sleep]

theorem execFlockWake (h : KeepsOrder u s) (k : Nat) : OutKeepsOrder u (Machine.execFlockWake k s) := by
  unfold Machine.execFlockWake
  grind [next, wake]

/-! ### The functions of Tense -/

theorem modTense (h : KeepsOrder u s) (f : Tense → Tense) : KeepsOrder u (s.modTense f) := h

theorem setTns (h : KeepsOrder u s) (v : Nat) : KeepsOrder u (s.setTns v) := by
  unfold State.setTns
  grind [raise, rput]

theorem execTenseChange (h : KeepsOrder u s) : OutKeepsOrder u (Machine.execTenseChange s) := by
  unfold Machine.execTenseChange
  grind [next, setTns]

theorem execRecordPieceSend (h : KeepsOrder u s) : OutKeepsOrder u (Machine.execRecordPieceSend s) := by
  unfold Machine.execRecordPieceSend
  grind [next, modTense]

theorem execRecordPieceAccept (h : KeepsOrder u s) : OutKeepsOrder u (Machine.execRecordPieceAccept s) := by
  unfold Machine.execRecordPieceAccept
  grind [next, modShep, modTense]

theorem pieceFails (h : KeepsOrder u s) : KeepsOrder u s.pieceFails := by
  unfold State.pieceFails
  grind [modTense]

theorem uartSync (h : KeepsOrder u s) : KeepsOrder u s.uartSync := h.rmod _ _ _ _

theorem uartPut (h : KeepsOrder u s) (b : Nat) : KeepsOrder u (s.uartPut b) := by
  unfold State.uartPut
  grind [modTense, rput, uartSync]

theorem execUartByteSent (h : KeepsOrder u s) : OutKeepsOrder u (Machine.execUartByteSent s) := by
  unfold Machine.execUartByteSent
  grind [next, modTense, uartSync]

theorem execUartReceive (h : KeepsOrder u s) (byte : BitVec 8) : OutKeepsOrder u (Machine.execUartReceive byte s) := by
  unfold Machine.execUartReceive
  grind [next, modTense, rput, uartSync]

theorem uartGet (h : KeepsOrder u s) : KeepsOrder u s.uartGet.1 := by
  unfold State.uartGet
  grind [modTense, uartSync]

theorem execTracePcSample (h : KeepsOrder u s) : OutKeepsOrder u (Machine.execTracePcSample s) := by
  unfold Machine.execTracePcSample
  grind [next, traceRecord]

theorem execTraceRecordSent (h : KeepsOrder u s) : OutKeepsOrder u (Machine.execTraceRecordSent s) := by
  unfold Machine.execTraceRecordSent
  grind [next, modTense]

theorem execSyncEdge (h : KeepsOrder u s) : OutKeepsOrder u (Machine.execSyncEdge s) := by
  unfold Machine.execSyncEdge
  grind [next, raise, rmod, rput, rset]

/-! ### The functions of Boot -/

theorem withOwnModule (h : KeepsOrder u s) (m : Nat) (hm : m < 8) : KeepsOrder u { s with ownModule := m } :=
  ⟨h.1, h.2.1, fun _ => hm⟩

theorem strap (h : KeepsOrder u s) (samples : List Nat) : KeepsOrder u (s.strap samples) :=
  ((h.rset _ _ _ _).rset _ _ _ _).withOwnModule _ (Nat.mod_lt _ (by decide))

theorem firstStage (h : KeepsOrder u s) (b : List Byte) : KeepsOrder u (s.firstStage b) := by
  unfold State.firstStage
  extract_lets s1 s2 s3 a0 a sh s4
  have h2 : KeepsOrder u s2 := foldl (h.recordEvent _ _ _ _ _ _) _ (fun _ _ h => ((h.zeroBank _ _).rput _ _ _ _ _ _).rput _ _ _ _ _ _) _
  have h3 : KeepsOrder u s3 := h2.setBytes _ _
  clear_value s3
  have h4 : KeepsOrder u s4 := h3
  exact (h4.wake _).startLogical _

theorem newRecord (h : KeepsOrder u s) (exhausted fallback : Bool) : KeepsOrder u (s.newRecord exhausted fallback) := by
  have hs := h.signAll true
  unfold State.newRecord
  generalize s.signAll true = s1 at hs
  exact hs.modShep _

theorem boot (h : KeepsOrder u s) (recov lockstep : Bool) (flash : Option (List Byte)) : KeepsOrder u (s.boot recov lockstep flash) := by
  unfold State.boot
  extract_lets exhausted life img failed fallback s1 s2
  have h1 : KeepsOrder u s1 := ite (h.modShep _) (h.newRecord _ _)
  have h2 : KeepsOrder u s2 := h1.rset _ _ _ _
  clear_value s2 img
  split
  · exact (h2.setTns _).bootStop _
  next bank b =>
    extract_lets s3 s4 s5 s6 s7
    have h4 : KeepsOrder u s4 := (h2.modShep _).rput _ _ _ _ _ _
    have h6 : KeepsOrder u s6 := ite ((h4.recordEvent _ _ _ _ _ _).recordEvent _ _ _ _ _ _) (h4.recordEvent _ _ _ _ _ _)
    have h7 : KeepsOrder u s7 := h6.setTns _
    refine ite (h4.setTns _) (ite ((h6.setTns _).bootStop _) (ite (h6.setTns _) ?_))
    split
    · exact ite (h7.firstStage _) h7
    · exact h7

theorem bootOrWait (h : KeepsOrder u s) (recov lockstep : Bool) (flash : Option (List Byte)) :
    KeepsOrder u (s.bootOrWait recov lockstep flash) := by
  unfold State.bootOrWait
  grind [frame, boot]

theorem execMrstNRelease (h : KeepsOrder u s) (samples : List Nat) (flash : Option (List Byte)) (broken lockstep : Bool) :
    OutKeepsOrder u (Machine.execMrstNRelease samples flash broken lockstep s) := by
  unfold Machine.execMrstNRelease
  grind [next, frame, bootOrWait, rset, strap, tamper]

theorem execRailExcursion (h : KeepsOrder u s) (i : Nat) (leaves high : Bool) :
    OutKeepsOrder u (Machine.execRailExcursion i leaves high s) := by
  unfold Machine.execRailExcursion
  grind [next, frame, boot, raise, record, rput]

theorem execMrstNAssert (h : KeepsOrder u s) : OutKeepsOrder u (Machine.execMrstNAssert s) :=
  iteOut (next h) (next ⟨fun _ => reset_memOk, fun hr => tsorted_filter _ _ (h.2.1 hr), fun _ => (by decide : 0 < 8)⟩)

/-! ### The functions of Faults -/

theorem drainCounter (h : KeepsOrder u s) (c i : Nat) : KeepsOrder u (s.drainCounter c i) := by
  unfold State.drainCounter
  grind [frame, rmod]

theorem drainRow (h : KeepsOrder u s) (ch row : Nat) : KeepsOrder u (s.drainRow ch row) := by
  unfold State.drainRow
  grind [frame, modMc]

theorem execStrikeDrainTick (h : KeepsOrder u s) (c i : Nat) : OutKeepsOrder u (Machine.execStrikeDrainTick c i s) := by
  unfold Machine.execStrikeDrainTick
  grind [next, drainCounter, drainRow]

theorem ftCommit (h : KeepsOrder u s) : ∀ t, s.ftCommit = some t → KeepsOrder u t := by
  unfold State.ftCommit
  grind [frame, rset, foldl]

theorem cleared (h : KeepsOrder u s) (c i : Nat) : KeepsOrder u (s.cleared c i) := by
  unfold State.cleared
  grind [frame, clearLame, replWrite, rput, setCyState, setCzState, trngSync, waydisWrite]

theorem ftClear (h : KeepsOrder u s) (c i : Nat) : KeepsOrder u (s.ftClear c i) := by
  unfold State.ftClear
  grind [cleared, rput]

theorem ftCtest (h : KeepsOrder u s) (n : Nat) : KeepsOrder u (s.ftCtest n) := by
  unfold State.ftCtest
  grind [rput, rset]

theorem execCoreSelftestComplete (h : KeepsOrder u s) (pass : Bool) : OutKeepsOrder u (Machine.execCoreSelftestComplete pass s) := by
  unfold Machine.execCoreSelftestComplete
  grind [next, declare, modCore, rmod, strike]

theorem execAsyncMachineCheck (h : KeepsOrder u s) : OutKeepsOrder u (Machine.execAsyncMachineCheck s) := by
  unfold Machine.execAsyncMachineCheck
  split
  · exact next h
  dsimp only
  split
  · exact next h
  split
  · exact next h
  · have h1 : KeepsOrder u { s with asyncMc := none } := h
    have h2 := (h1.rput .ftStat 0 0 63 63 0).modCore
    exact next (ite ((h2 _ _).rput _ _ _ _ _ _) (h2 _ _))

theorem execDroverLockstepMismatch (h : KeepsOrder u s) (d : Nat) : OutKeepsOrder u (Machine.execDroverLockstepMismatch d s) := by
  unfold Machine.execDroverLockstepMismatch
  grind [next, strike]

theorem tapSelect (h : KeepsOrder u s) (code : Nat) (drives : Bool) : KeepsOrder u (s.tapSelect code drives) := h

/-! ### The functions of Ctl -/

theorem ctlRead (h : KeepsOrder u s) (a : Agent) (pa size : Nat) : KeepsOrder u (s.ctlRead a pa size).1 := by
  unfold State.ctlRead
  grind [reject, snapError, uartGet]

theorem clearLog (h : KeepsOrder u s) (rs : List Reg) (i : Nat) (v : Word) : KeepsOrder u (s.clearLog rs i v) := by
  unfold State.clearLog
  grind [rset, foldl]

theorem writeReg (h : KeepsOrder u s) (r : Reg) (i j : Nat) (v : Word) : KeepsOrder u (s.writeReg r i j v) := h.rset _ _ _ _

theorem ctlEffect (h : KeepsOrder u s) (a : Agent) (r : Reg) (i j : Nat) (v : Word) :
    ∀ t, s.ctlEffect a r i j v = some t → KeepsOrder u t := by
  have hw (r : Reg) (i j : Nat) := h.writeReg r i j v
  unfold State.ctlEffect
  dsimp only
  split
  · exact ofSome (h.clearLog _ _ _)
  · exact ofSome (hw _ _ _)
  · exact ofSome (hw _ _ _)
  · exact ofSome (h.xinva _ _ _)
  · exact ofSome (h.xinva _ _ _)
  · exact ofSome (h.xinvall _ _ _)
  · exact ofSome (h.xinvall _ _ _)
  · exact ofSome (h.fcControl _ _)
  · exact ofSome (h.replWrite _ _)
  · exact ofSome (h.replWrite _ _)
  · exact ofSome (h.waydisWrite _ _ _)
  · exact ofSome (h.waydisWrite _ _ _)
  · exact ofSome (h.startWalk _ _)
  · exact ofSome (h.startWalk _ _)
  · exact ofSome (h.clearLog _ _ _)
  · exact ofSome (h.clearLog _ _ _)
  · exact ofSome (h.clearLog _ _ _)
  · exact ofSome (h.clearLog _ _ _)
  · exact ofSome (h.clearLog _ _ _)
  · exact ofSome (h.clearLog _ _ _)
  · exact ofSome (h.clearLog _ _ _)
  · exact ofSome (h.clearLog _ _ _)
  · exact ofSome (h.clearLog _ _ _)
  · exact ofSome (h.clearLog _ _ _)
  · exact ofSome (ite (h.pxLogClear _) h)
  · exact h.fcCommit _
  · exact h.tcCommit _
  · exact h.pxCommit _
  · exact h.chPathCommit
  · exact h.chDrainCommit
  · exact h.lkCommit
  · exact h.trCommit
  · exact h.stCommit
  · exact h.ftCommit
  · exact ofSome (h.pxCommand _ _ _)
  · exact ofSome ((hw _ _ _).bankTargets _)
  · exact ofSome (ite (h.wipeKeep _) h)
  · exact ofSome (h.mcCommand _ _)
  · exact ofSome (h.penCommand _)
  · exact ofSome (h.linkCommand _ _)
  · exact ofSome (ite ((hw _ _ _).marginGo _ _ _) (hw _ _ _))
  · exact ofSome (h.dreq _ _)
  · exact ofSome (h.czControl _ _)
  · exact ofSome (h.czStoppart _ _)
  · exact ofSome (h.cyControl _ _)
  · exact ofSome (h.cyForce _ _)
  · exact ofSome (h.cyLockWrite _ _ _)
  · exact ofSome (h.ptControl _)
  · exact ofSome (h.ptCoreWrite _ _)
  · exact ofSome (h.huInvalidate _)
  · exact ofSome (ite (h.evClear _) h)
  · exact ofSome (h.raise _)
  · exact ofSome (h.evGuestRaise _ _)
  · exact ofSome (hw _ _ _)
  · exact ofSome (hw _ _ _)
  · exact ofSome (ite (h.evEoiAt _ _) h)
  · exact ofSome (ite (h.evEoiAt _ _) h)
  · exact ofSome (h.mbGo _)
  · exact ofSome (h.ftCtest _)
  · exact ofSome (ite (h.ftClear _ _) h)
  · exact ofSome (h.pwWrite _ _)
  · exact ofSome (h.pwWrite _ _)
  · exact ofSome (h.uartPut _)
  · exact ofSome (hw _ _ _)

theorem ctlWrite (h : KeepsOrder u s) (a : Agent) (pa size v : Nat) : KeepsOrder u (s.ctlWrite a pa size v) := by
  unfold State.ctlWrite
  grind [aptStore, ctlEffect, reject, snapSet]

theorem regWrite (h : KeepsOrder u s) (a : Agent) (r : Reg) (i j : Nat) (v : Word) : KeepsOrder u (s.regWrite a r i j v) := by
  unfold State.regWrite
  grind [ctlWrite]

/-! ### The functions of Ret -/

theorem ctlReads (h : KeepsOrder u s) (a : Agent) (pa len : Nat) : KeepsOrder u (s.ctlReads a pa len).1 :=
  foldl_fst _ (show KeepsOrder u (s, ([] : List Byte)).1 from h) (fun _ _ hq => hq.ctlRead _ _ _) _

theorem stackHalf (h : KeepsOrder u s) (n pl : Nat) (h' : Half) : KeepsOrder u (s.stackHalf n pl h').1 := by
  unfold State.stackHalf
  grind [ctlReads, spRead]

theorem stackRead (h : KeepsOrder u s) (n pl : Nat) (hs : List Half) : KeepsOrder u (s.stackRead n pl hs).1 := by
  induction hs generalizing s with
  | nil => exact h
  | cons x hs ih =>
    have hx := h.stackHalf n pl x
    unfold State.stackRead
    split <;> rename_i e <;> rw [e] at hx
    · exact hx
    have hr := ih hx
    split
    · next e => rw [e] at hr; exact hr
    · exact hr

theorem overlapFreeze (h : KeepsOrder u s) (n : Nat) (hs : List Half) : KeepsOrder u (s.overlapFreeze n hs) := (h.opFreeze _ _).modCore _ _

theorem execRet (h : KeepsOrder u s) (x : Slot) : OutKeepsOrder u (Machine.execRet x s) := by
  refine next (h.opAct _ _ _ ?_)
  extract_lets n a va
  refine ite (h.opFault _ _ _) (ite (h.lvTake _ _ _ _ fun _ _ h => h.modCore _ _) ?_)
  split
  next => exact h.accessFault _ _
  next => exact h.opMcheck _ _
  next hs tlb hur _ =>
  have hk := h.keep n tlb hur
  have hr := hk.stackRead n a.pl hs
  refine h.withQueue _ _ _ (ite (hk.overlapFreeze _ _) ?_)
  split <;> rename_i e <;> rw [e] at hr <;> exact (hr.lvPush _ _).modCore _ _

theorem iretWith (h : KeepsOrder u s) (x : Slot) (w : OpWord) (pl : Nat) (fr : List Word) : KeepsOrder u (s.iretWith x w pl fr) := by
  unfold State.iretWith
  grind [modCore, opFault]

theorem takeFrame (h : KeepsOrder u s) (n slot i : Nat) (fr : List Word) (k : List Word → State → State)
    (hk : ∀ fr s, KeepsOrder u s → KeepsOrder u (k fr s)) : KeepsOrder u (s.takeFrame n slot i fr k) := by
  induction i generalizing s fr with
  | zero => exact hk _ _ h
  | succ i ih => exact h.lvTake _ _ _ _ fun _ _ ht => ih ht _

theorem execIret (h : KeepsOrder u s) (x : Slot) : OutKeepsOrder u (Machine.execIret x s) := by
  refine next (h.opAct _ _ _ (ite (h.privFault _ _) (ite (h.opFreeze _ _) ?_)))
  extract_lets a va
  refine ite (h.opFault _ _ _) (ite (h.takeFrame _ _ _ _ _ fun _ _ h => h.iretWith _ _ _ _) ?_)
  split
  next => exact h.accessFault _ _
  next => exact h.opMcheck _ _
  next hs tlb hur _ =>
  have hk := h.keep x.core tlb hur
  have hr := hk.stackRead x.core a.pl hs
  refine h.withQueue _ _ _ (ite (hk.overlapFreeze _ _) ?_)
  split <;> rename_i e <;> rw [e] at hr
  · exact hr.opMcheck _ _
  · exact (foldl hr _ (fun _ _ h => h.lvPush _ _) _).iretWith _ _ _ _

/-! ### The functions of CtlCmds -/

theorem execReplWrite (h : KeepsOrder u s) (a : Agent) (k : Nat) (v : Word) : OutKeepsOrder u (Machine.execReplWrite a k v s) := by
  unfold Machine.execReplWrite
  grind [next, regWrite]

theorem execWaydisWrite (h : KeepsOrder u s) (a : Agent) (k : Nat) (v : Word) : OutKeepsOrder u (Machine.execWaydisWrite a k v s) := by
  unfold Machine.execWaydisWrite
  grind [next, regWrite]

theorem execWayflushWrite (h : KeepsOrder u s) (a : Agent) (k : Nat) (v : Word) : OutKeepsOrder u (Machine.execWayflushWrite a k v s) := by
  unfold Machine.execWayflushWrite
  grind [next, regWrite]

theorem execFcEcclogClear (h : KeepsOrder u s) (a : Agent) (k : Nat) (v : Word) : OutKeepsOrder u (Machine.execFcEcclogClear a k v s) := by
  unfold Machine.execFcEcclogClear
  grind [next, regWrite]

theorem startFinds (h : KeepsOrder u s) (f j off : Nat) : KeepsOrder u (s.startFinds f j off) := by
  unfold State.startFinds
  grind [snapError]

theorem execPxCtlStart (h : KeepsOrder u s) (a : Agent) (f j : Nat) (dbe : Option Nat) :
    OutKeepsOrder u (Machine.execPxCtlStart a f j dbe s) := by
  unfold Machine.execPxCtlStart
  grind [next, regWrite, startFinds]

theorem execPxSnapWrite (h : KeepsOrder u s) (a : Agent) (f slot off : Nat) (v : Word) :
    OutKeepsOrder u (Machine.execPxSnapWrite a f slot off v s) := by
  unfold Machine.execPxSnapWrite
  grind [next, ctlWrite]

theorem execPxSnapRead (h : KeepsOrder u s) (a : Agent) (f slot off : Nat) (dbe : Bool) :
    OutKeepsOrder u (Machine.execPxSnapRead a f slot off dbe s) := by
  unfold Machine.execPxSnapRead
  grind [next, ctlRead, snapError]

theorem execTnUartrxRead (h : KeepsOrder u s) (a : Agent) : OutKeepsOrder u (Machine.execTnUartrxRead a s) := by
  unfold Machine.execTnUartrxRead
  grind [next, ctlRead]

/-! ### The functions of Far -/

theorem farXlate (h : KeepsOrder u s) (r : Option Nat) (a : Nat) (kind : AKind) : KeepsOrder u (s.farXlate r a kind).1 := by
  unfold State.farXlate
  grind [dieXlate]

theorem farCopy (h : KeepsOrder u s) (s0 : State) (sp dp n : Nat) : KeepsOrder u (s0.farCopy s sp dp n) := by
  unfold State.farCopy
  dsimp only
  exact ite (h.cohWrite _ _) (h.cohWrite _ _)

theorem farPiece (h : KeepsOrder u s) (s0 : State) (op src sp dst dp n : Nat) : KeepsOrder u (s0.farPiece s op src sp dst dp n).1 := by
  unfold State.farPiece
  split
  · split
    · exact h
    · exact h.farCopy _ _ _ _
  · exact h.cohWrite _ _
  · exact h.cleanAll _
  · exact h.invalidateAll _

theorem farXlateIf (h : KeepsOrder u s) (p : Prop) [Decidable p] (r : Option Nat) (src v : Nat) (kind : AKind) :
    KeepsOrder u (if p then s.farXlate r src kind else (s, .ok v)).1 := by
  split
  · exact h.farXlate _ _ _
  · exact h

theorem farRun (h : KeepsOrder u s) (s0 : State) (r : Option Nat) (d : FarDesc) (fuel k : Nat) : KeepsOrder u (s0.farRun s r d fuel k).1 := by
  induction fuel generalizing s k with
  | zero => exact h
  | succ fuel ih =>
    unfold State.farRun
    split
    · exact h
    extract_lets src dst n
    have hs := h.farXlateIf (d.op = 1) r src 0 .load
    split <;> rename_i e <;> rw [e] at hs
    · exact hs
    have hd := farXlate hs r dst (if d.op ≤ 2 then .store else .maint)
    split <;> rename_i e <;> rw [e] at hd
    · exact hd
    next _ sp _ _ _ dp =>
      have hp := farPiece hd s0 d.op (if d.op = 1 then src else d.src) sp dst dp n
      split <;> rename_i e <;> rw [e] at hp
      · exact ih hp _
      · exact hp

theorem farSend (h : KeepsOrder u s) (r : Option Nat) (m : Nat) (d : FarDesc) (fuel k : Nat) : KeepsOrder u (s.farSend r m d fuel k).1 := by
  induction fuel generalizing s k with
  | zero => exact h
  | succ fuel ih =>
    unfold State.farSend
    split
    · exact h
    extract_lets src dst n
    have hs := h.farXlateIf (d.op = 1) r src d.src .load
    split <;> rename_i e <;> rw [e] at hs
    · exact hs
    have hd := farXlate hs r dst (if d.op ≤ 2 then .store else .maint)
    split <;> rename_i e <;> rw [e] at hd
    · exact hd
    · exact ih (ask hd _ _ _ _ _) _

theorem farOp (h : KeepsOrder u s) (t op : Nat) : KeepsOrder u (s.farOp t op) := by
  unfold State.farOp
  grind [frame, farRun, farSend]

theorem execFarMemoryComplete (h : KeepsOrder u s) (n : Nat) : OutKeepsOrder u (Machine.execFarMemoryComplete n s) := by
  unfold Machine.execFarMemoryComplete
  grind [next, frame, complete]

theorem farAnswer (h : KeepsOrder u s) (tid : Nat) (w : Word) : KeepsOrder u (s.farAnswer tid w) := h

theorem farServe (h : KeepsOrder u s) (ws : List Word) : KeepsOrder u (s.farServe ws).1 := by
  unfold State.farServe
  grind [farRun]

/-! ### The functions of Held -/

theorem setHeld (h : KeepsOrder u s) (c : Nat) (h' : HeldAcc) : KeepsOrder u (s.setHeld c h') := h.modCore _ _

theorem heldDone (h : KeepsOrder u s) (c : Nat) (h' : HeldAcc) (v : Nat) (m : Option MCheck) : KeepsOrder u (s.heldDone c h' v m) :=
  h.setHeld _ _

theorem heldEnd (h : KeepsOrder u s) (c : Nat) (h' : HeldAcc) (m : Option MCheck) : KeepsOrder u (s.heldEnd c h' m) :=
  (h.modCore _ _).setHeld _ _

theorem heldSpRead (h : KeepsOrder u s) (c : Nat) (err : WordErr) (ps : List (Nat × Nat × Nat)) (v : Nat) :
    KeepsOrder u (s.heldSpRead c err ps v).1 := by
  induction ps generalizing s err v with
  | nil => exact h
  | cons x ps ih =>
    have hr := h.spRead (s.portAgent c x.1) x.1 x.2.1 err
    unfold State.heldSpRead
    split <;> rename_i e <;> rw [e] at hr
    · exact hr
    · exact ih hr _ _

theorem heldLoad (h : KeepsOrder u s) (c : Nat) (h' : HeldAcc) (err : WordErr) : KeepsOrder u (s.heldLoad c h' err) := by
  unfold State.heldLoad
  grind [ctlRead, heldDone, heldSpRead, setHeld]

theorem heldStore (h : KeepsOrder u s) (c : Nat) (x : HeldAcc) : KeepsOrder u (s.heldStore c x) := by
  unfold State.heldStore
  split
  · exact (h.ctlWrite _ _ _ _).heldEnd _ _ _
  split
  · exact h.heldEnd _ _ _
  split
  · dsimp only
    exact heldEnd (foldl_fst _ (show KeepsOrder u (s, (none : Option MCheck)).1 from h) (fun _ _ hq => spWrite hq _ _ _) _) _ _ _
  · exact h.setHeld _ _

theorem atomBank (h : KeepsOrder u s) (c : Nat) (h' : HeldAcc) (k b w : Nat) (err : WordErr) :
    KeepsOrder u (s.atomBank c h' k b w err) := by
  unfold State.atomBank
  grind [heldDone, logRefusal, spRead, spWrite]

theorem atomLine (h : KeepsOrder u s) (c : Nat) (h' : HeldAcc) (f w : Nat) (l : CLine) : KeepsOrder u (s.atomLine c h' f w l) := by
  unfold State.atomLine
  grind [bump, cset, dropL1d, foldStore, heldDone, leaveWay, plruUse]

theorem atomHome (h : KeepsOrder u s) (c : Nat) (h' : HeldAcc) : KeepsOrder u (s.atomHome c h') := by
  unfold State.atomHome
  grind [cohWrite, heldDone]

theorem heldWait (h : KeepsOrder u s) (c : Nat) (h' : HeldAcc) (line : Nat) (m : BitVec 64) : KeepsOrder u (s.heldWait c h' line m) := by
  unfold State.heldWait
  grind [bump, setHeld, wantOwn]

theorem heldAtom (h : KeepsOrder u s) (c : Nat) (h' : HeldAcc) (ch : Chance) : KeepsOrder u (s.heldAtom c h' ch) := by
  unfold State.heldAtom
  grind [atomBank, atomHome, atomLine, drainAhead, heldDone, heldWait, lookup, raise]

theorem heldMaintain (h : KeepsOrder u s) (c : Nat) (h' : HeldAcc) : KeepsOrder u (s.heldMaintain c h') := by
  unfold State.heldMaintain
  grind [bump, cleanAll, cohWriteMask, drainAhead, dropL1d, foldStore, heldEnd, heldWait, invalidateAll, raise]

theorem submit (h : KeepsOrder u s) (c pl tally va pa hdr : Nat) : KeepsOrder u (s.submit c pl tally va pa hdr).1 := by
  unfold State.submit
  grind [frame, rmod, setTrough]

theorem heldSubmit (h : KeepsOrder u s) (c : Nat) (h' : HeldAcc) (tally : Nat) (err : WordErr) :
    KeepsOrder u (s.heldSubmit c h' tally err) := by
  unfold State.heldSubmit
  grind [heldDone, heldSpRead, submit, foldl]

theorem execHeldAccessPerform (h : KeepsOrder u s) (c : Nat) (ch : Chance) : OutKeepsOrder u (Machine.execHeldAccessPerform c ch s) := by
  unfold Machine.execHeldAccessPerform
  grind [next, heldAtom, heldLoad, heldMaintain, heldStore, heldSubmit]

/-! ### The functions of Ngatra -/

theorem receive (h : KeepsOrder u s) (p : Nat) (hd : Hdr) (m : Msg) (k : State → State)
    (hk : ∀ s, KeepsOrder u s → KeepsOrder u (k s)) : KeepsOrder u (s.receive p hd m k) :=
  ite h (ite (hk _ (h.modLnk _ _)) ((h.modLnk _ _).post _))

theorem execNull (h : KeepsOrder u s) (p seq : Nat) : OutKeepsOrder u (Machine.execNull p seq s) := by
  unfold Machine.execNull
  grind [next, modLnk]

theorem replayLink (h : KeepsOrder u s) (p : Nat) : KeepsOrder u (s.replayLink p) := by
  unfold State.replayLink
  grind [bump, linkDown, lkError, modLnk, strike]

theorem execLink (h : KeepsOrder u s) (p : Nat) (nak ackv : Bool) (ackseq : Nat) (credits : List Nat) :
    OutKeepsOrder u (Machine.execLink p nak ackv ackseq credits s) := by
  unfold Machine.execLink
  grind [next, modLnk, pumpMsgs, replayLink]

theorem execBadFlit (h : KeepsOrder u s) (p : Nat) (lane : Option Nat) : OutKeepsOrder u (Machine.execBadFlit p lane s) := by
  unfold Machine.execBadFlit
  grind [next, bump, modLnk, strike]

theorem execAckTimer (h : KeepsOrder u s) (p : Nat) : OutKeepsOrder u (Machine.execAckTimer p s) := by
  unfold Machine.execAckTimer
  grind [next, modLnk]

theorem execReplayTimeout (h : KeepsOrder u s) (p : Nat) : OutKeepsOrder u (Machine.execReplayTimeout p s) := by
  unfold Machine.execReplayTimeout
  grind [next, replayLink]

theorem undesignate (h : KeepsOrder u s) (g d : Nat) : KeepsOrder u (s.undesignate g d) := by
  unfold State.undesignate
  grind [linkDown, rput, foldl]

theorem execHello (h : KeepsOrder u s) (p : Nat) (h' : Hello) : OutKeepsOrder u (Machine.execHello p h' s) := by
  unfold Machine.execHello
  grind [next, activate, raise, rput, rset, setLink, undesignate, foldl]

theorem routeMsg (h : KeepsOrder u s) (src lost lastseq : Nat) (down mark : Bool) :
    KeepsOrder u (s.routeMsg src lost lastseq down mark) := by
  unfold State.routeMsg
  grind [frame, linkDown, modPa, pumpMsgs, updateRoutes]

theorem execRoute (h : KeepsOrder u s) (p : Nat) (h' : Hdr) (lost lastseq : Nat) (down mark : Bool) :
    OutKeepsOrder u (Machine.execRoute p h' lost lastseq down mark s) := by
  unfold Machine.execRoute
  grind [next, receive, routeMsg]

theorem execFormationEnd (h : KeepsOrder u s) : OutKeepsOrder u (Machine.execFormationEnd s) := by
  unfold Machine.execFormationEnd
  grind [next, raise, rput, updateRoutes]

theorem homeServe (h : KeepsOrder u s) (hd : Hdr) (cached : Bool) (k : State → State)
    (hk : KeepsOrder u (k s)) : KeepsOrder u (s.homeServe hd cached k) :=
  ite (h.send _ _ _ _ _ _) (ite (h.send _ _ _ _ _ _) hk)

theorem execRds (h : KeepsOrder u s) (p : Nat) (h' : Hdr) (pe : PieceErr) : OutKeepsOrder u (Machine.execRds p h' pe s) := by
  unfold Machine.execRds
  grind [next, homeServe, receive, serve]

theorem execRdo (h : KeepsOrder u s) (p : Nat) (h' : Hdr) (full : Bool) (pe : PieceErr) :
    OutKeepsOrder u (Machine.execRdo p h' full pe s) := by
  unfold Machine.execRdo
  grind [next, homeServe, receive, serve]

theorem execUpg (h : KeepsOrder u s) (p : Nat) (h' : Hdr) (pe : PieceErr) : OutKeepsOrder u (Machine.execUpg p h' pe s) := by
  unfold Machine.execUpg
  grind [next, homeServe, receive, serve]

theorem execRdu (h : KeepsOrder u s) (p : Nat) (h' : Hdr) (pe : PieceErr) : OutKeepsOrder u (Machine.execRdu p h' pe s) := by
  unfold Machine.execRdu
  grind [next, homeServe, pieceError, receive, send, spRead]

theorem execWru (h : KeepsOrder u s) (p : Nat) (h' : Hdr) (mask : BitVec 64) (data : BitVec 512) :
    OutKeepsOrder u (Machine.execWru p h' mask data s) := by
  unfold Machine.execWru
  grind [next, cohWriteMask, homeServe, receive, send, spWriteMask]

theorem execWb (h : KeepsOrder u s) (p : Nat) (h' : Hdr) (poison : Bool) (data : BitVec 512) :
    OutKeepsOrder u (Machine.execWb p h' poison data s) := by
  unfold Machine.execWb
  grind [next, memWriteLine, receive, setDir]

theorem execEvc (h : KeepsOrder u s) (p : Nat) (h' : Hdr) : OutKeepsOrder u (Machine.execEvc p h' s) := by
  unfold Machine.execEvc
  grind [next, dirRemove, receive]

theorem execFmop (h : KeepsOrder u s) (p : Nat) (h' : Hdr) (desc : List Word) : OutKeepsOrder u (Machine.execFmop p h' desc s) := by
  unfold Machine.execFmop
  grind [next, farServe, receive, send]

theorem guestDrop (h : KeepsOrder u s) (line : Nat) : KeepsOrder u (s.guestDrop line) := by
  unfold State.guestDrop
  grind [barFill, dropCopy, setDir, foldl]

theorem guestFill (h : KeepsOrder u s) (tid line : Nat) (st : LState) (d : BitVec 512) (poison : Bool) :
    KeepsOrder u (s.guestFill tid line st d poison) := by
  unfold State.guestFill
  grind [barFill, dropCopy, modCa, putDir, foldl]

theorem guestForward (h : KeepsOrder u s) (h' : Hdr) (reqmod : Nat) (keep : Bool) : KeepsOrder u (s.guestForward h' reqmod keep) := by
  unfold State.guestForward
  grind [cset, dropTransit, guestDrop, guestFill, send, setDir]

theorem execFwds (h : KeepsOrder u s) (p : Nat) (h' : Hdr) (reqmod : Nat) : OutKeepsOrder u (Machine.execFwds p h' reqmod s) := by
  unfold Machine.execFwds
  grind [next, guestForward, receive]

theorem execFwdo (h : KeepsOrder u s) (p : Nat) (h' : Hdr) (reqmod : Nat) : OutKeepsOrder u (Machine.execFwdo p h' reqmod s) := by
  unfold Machine.execFwdo
  grind [next, guestForward, receive]

theorem execInv (h : KeepsOrder u s) (p : Nat) (h' : Hdr) : OutKeepsOrder u (Machine.execInv p h' s) := by
  unfold Machine.execInv
  grind [next, guestDrop, receive, send]

theorem execGnt (h : KeepsOrder u s) (p : Nat) (h' : Hdr) : OutKeepsOrder u (Machine.execGnt p h' s) := by
  unfold Machine.execGnt
  grind [next, guestFill, receive]

theorem snoopAnswer (h : KeepsOrder u s) (h' : Hdr) (data : Option (BitVec 512 × Bool)) : KeepsOrder u (s.snoopAnswer h' data) := by
  unfold State.snoopAnswer
  grind [fwdDone, invDone, memWriteLine]

theorem execIack (h : KeepsOrder u s) (p : Nat) (h' : Hdr) : OutKeepsOrder u (Machine.execIack p h' s) := by
  unfold Machine.execIack
  grind [next, receive, snoopAnswer]

theorem execIackd (h : KeepsOrder u s) (p : Nat) (h' : Hdr) (poison : Bool) (data : BitVec 512) :
    OutKeepsOrder u (Machine.execIackd p h' poison data s) := by
  unfold Machine.execIackd
  grind [next, receive, snoopAnswer]

theorem heldAnswer (h : KeepsOrder u s) (tid : Nat) (f : HeldAcc → Nat × Nat × Nat × Nat → HeldAcc) : KeepsOrder u (s.heldAnswer tid f) := h

theorem uncachedServed (h : KeepsOrder u s) (tid : Nat) (d : BitVec 512) (poison : Bool) : KeepsOrder u (s.uncachedServed tid d poison) :=
  h.modCa _

theorem execData (h : KeepsOrder u s) (p : Nat) (h' : Hdr) (st : Nat) (poison : Bool) (data : BitVec 512) :
    OutKeepsOrder u (Machine.execData p h' st poison data s) := by
  unfold Machine.execData
  grind [next, guestFill, heldAnswer, receive, uncachedServed]

theorem execCmp (h : KeepsOrder u s) (p : Nat) (h' : Hdr) (word : Word) : OutKeepsOrder u (Machine.execCmp p h' word s) := by
  unfold Machine.execCmp
  grind [next, farAnswer, heldAnswer, receive]

theorem execNack (h : KeepsOrder u s) (p : Nat) (h' : Hdr) (reason : Nat) : OutKeepsOrder u (Machine.execNack p h' reason s) := by
  unfold Machine.execNack
  grind [next, farAnswer, receive, unserved]

theorem execPcmd (h : KeepsOrder u s) (p : Nat) (h' : Hdr) (entry slot : Nat) (body : List Word) :
    OutKeepsOrder u (Machine.execPcmd p h' entry slot body s) := by
  unfold Machine.execPcmd
  grind [next, ledgerUse, receive, send, setEntry]

theorem execPstat (h : KeepsOrder u s) (p : Nat) (h' : Hdr) (status value : Nat) :
    OutKeepsOrder u (Machine.execPstat p h' status value s) := by
  unfold Machine.execPstat
  grind [next, receive, recordStatus]

/-! ### The functions of Spdm -/

theorem spdm (h : KeepsOrder u s) (r : State → State × Reply) (hr : KeepsOrder u (r s).1) : KeepsOrder u (s.spdm r) :=
  ite h (ite hr (tell hr _))

theorem spdmSign (h : KeepsOrder u s) : KeepsOrder u s.spdmSign.1 := by
  unfold State.spdmSign
  grind [drawn]

theorem execGetVersion (h : KeepsOrder u s) : OutKeepsOrder u (Machine.execGetVersion s) := by
  unfold Machine.execGetVersion
  grind [next, frame, spdm, tell]

theorem execGetCapabilities (h : KeepsOrder u s) : OutKeepsOrder u (Machine.execGetCapabilities s) := by
  unfold Machine.execGetCapabilities
  grind [next, spdm]

theorem execNegotiateAlgorithms (h : KeepsOrder u s) : OutKeepsOrder u (Machine.execNegotiateAlgorithms s) := by
  unfold Machine.execNegotiateAlgorithms
  grind [next, spdm]

theorem execGetDigests (h : KeepsOrder u s) : OutKeepsOrder u (Machine.execGetDigests s) := by
  unfold Machine.execGetDigests
  grind [next, spdm]

theorem execGetCertificate (h : KeepsOrder u s) (slot off len : Nat) : OutKeepsOrder u (Machine.execGetCertificate slot off len s) := by
  unfold Machine.execGetCertificate
  grind [next, spdm]

theorem execChallenge (h : KeepsOrder u s) (slot : Nat) : OutKeepsOrder u (Machine.execChallenge slot s) := by
  unfold Machine.execChallenge
  grind [next, spdm, spdmSign]

theorem execGetMeasurements (h : KeepsOrder u s) (index : Nat) (signed : Bool) :
    OutKeepsOrder u (Machine.execGetMeasurements index signed s) := by
  unfold Machine.execGetMeasurements
  grind [next, spdm, spdmSign]

theorem execRespondIfReady (h : KeepsOrder u s) : OutKeepsOrder u (Machine.execRespondIfReady s) := by
  unfold Machine.execRespondIfReady
  grind [next, frame, tell]

theorem execSpdmUnsupportedRequest (h : KeepsOrder u s) : OutKeepsOrder u (Machine.execSpdmUnsupportedRequest s) := by
  unfold Machine.execSpdmUnsupportedRequest
  grind [next, spdm]

theorem mctp (h : KeepsOrder u s) (k : State → State) (hk : KeepsOrder u (k s)) : KeepsOrder u (s.mctp k) := ite h hk

theorem execSetEndpointId (h : KeepsOrder u s) (n : Nat) : OutKeepsOrder u (Machine.execSetEndpointId n s) := by
  unfold Machine.execSetEndpointId
  grind [next, frame, mctp]

theorem execGetEndpointId (h : KeepsOrder u s) : OutKeepsOrder u (Machine.execGetEndpointId s) := by
  unfold Machine.execGetEndpointId
  grind [next, mctp, tell]

theorem execGetMctpVersionSupport (h : KeepsOrder u s) : OutKeepsOrder u (Machine.execGetMctpVersionSupport s) := by
  unfold Machine.execGetMctpVersionSupport
  grind [next, mctp, tell]

theorem execGetMessageTypeSupport (h : KeepsOrder u s) : OutKeepsOrder u (Machine.execGetMessageTypeSupport s) := by
  unfold Machine.execGetMessageTypeSupport
  grind [next, mctp, tell]

/-! ### The functions of Dispatch -/

theorem exec (h : KeepsOrder u s) (c : Instr) : OutKeepsOrder u (Machine.exec c s) :=
  match c with
  | .registerWrite .. => next (h.ctlWrite _ _ _ _)
  | .mgCfgerrClear .. | .fcCommit .. | .tcCommit .. | .pxCommit .. | .chPathcommit .. | .chDraincommit .. | .lkCommit ..
    | .ptTrcommit .. | .stCommit .. | .ftCommit .. | .fcXinva1 .. | .fcXinva2 .. | .fcXinvall1 .. | .fcXinvall2 ..
    | .pxCtlStop .. | .pxCtlSubstA .. | .pxCtlSubstB .. | .pxCtlReturn .. | .pxCtlTest .. | .pxLogClear .. | .fcCtlWrite ..
    | .sxBankctlWrite .. | .sxKeepwipe .. | .sxEcclogClear .. | .sxErrlogClear .. | .mcRetrain .. | .mcRepair .. | .mcAbort ..
    | .mcEcclogClear .. | .penAttach .. | .penStop .. | .penResume .. | .penAbort .. | .penDetach .. | .penReload ..
    | .penRestore .. | .penFail .. | .penMove .. | .linkRetrain .. | .linkReeq .. | .linkRelease .. | .lkMarginGo ..
    | .dreqMemoryRead .. | .dreqMemoryWrite .. | .dreqConfigurationRead .. | .dreqConfigurationWrite .. | .lkErrlogClear ..
    | .czWithdraw .. | .czTest .. | .czStoppart .. | .czVerlogClear .. | .acquire .. | .release .. | .cyForce ..
    | .cyWithdraw .. | .cyTest .. | .cyErrlogClear .. | .ptAdmit .. | .ptQuiesce .. | .ptResume .. | .ptRemove .. | .ptMode ..
    | .ptCoreWrite .. | .huInv .. | .evRouteWrite .. | .evStatClear .. | .evEoi .. | .evSwraise .. | .evRaise ..
    | .ftCntClear .. | .ftCtest .. | .ftMctargetWrite .. | .ftMclogClear .. | .pwRaillogClear .. | .pwFoldWrite ..
    | .pwFlockWrite .. | .uartTransmit .. => next (h.regWrite _ _ _ _ _)
  | .nop .. | .trd .. | .twait .. | .add .. | .sub .. | .addv .. | .subv .. | .and .. | .or .. | .xor .. | .andn .. | .shl ..
    | .shr .. | .sar .. | .ror .. | .min .. | .max .. | .minu .. | .maxu .. | .neg .. | .negv .. | .clz .. | .ctz .. | .popc ..
    | .bswap .. | .addi .. | .andi .. | .ori .. | .xori .. | .shli .. | .shri .. | .sari .. | .rori .. | .movz .. | .movk ..
    | .spadd .. | .cmpEq .. | .cmpNe .. | .cmpLt .. | .cmpLe .. | .cmpLtu .. | .cmpLeu .. | .tst .. | .pand .. | .por ..
    | .pxor .. | .pandn .. | .cmpiEq .. | .cmpiNe .. | .cmpiLt .. | .cmpiLe .. | .cmpiGt .. | .cmpiGe .. | .cmpiLtu ..
    | .cmpiGeu .. | .mul .. | .mulh .. | .mulhu .. | .mulv .. | .divsP .. | .divuP .. | .dstep .. | .dfin .. | .dnorm ..
    | .fadd .. | .fsub .. | .fmul .. | .fmin .. | .fmax .. | .fabs .. | .fneg .. | .fcps .. | .fcvt .. | .dqua .. | .frint ..
    | .fma .. | .fms .. | .fnma .. | .fnms .. | .fmvg .. | .fmvgh .. | .gmvf .. | .gmvfh .. | .fcvtG .. | .fcvtzG ..
    | .fcvtF .. | .fcvtuF .. | .fcmpEq .. | .fcmpLt .. | .fcmpLe .. | .fcmpUn .. | .fcmpLtq .. | .fcmpLeq .. | .fcmpEqs ..
    | .fdivP .. | .fdstep .. | .fdfin .. | .fsqrtP .. | .frstep .. | .frfin .. | .xdivP .. | .xdstep .. | .xdfin .. => next (h.opReg _ _ _ _)
  | .readShared .. | .readWithOwnership .. | .upgrade .. => next (h.request _ _ _ _)
  | .writeBackOfM .. | .cleanEvictionNotice .. => next (h.sendOut _ _ _)
  | .fmCopy .. | .fmFill .. | .fmWb .. | .fmWbi .. => next (h.farOp _ _)
  | .granuleWriteHoldExpire .. => next (h.modMc _)
  | .commandSend .. | .read .. | .write .. | .flush .. | .writeZeroes .. | .deallocate .. | .compare .. | .compareAndWrite ..
    | .admin .. | .ringTx .. | .ringRx .. | .ringCmd .. | .ringQuery .. => next (h.sendIf _ _)
  | .msixAbsorb .. => next (h.absorbMsix _ _ _)
  | .compress .. | .decompress .. => next (h.czBegin _ _)
  | .gcmEnc .. | .gcmDec .. | .xtsEnc .. | .xtsDec .. | .ctr .. | .cmacGen .. | .cmacVer .. | .hmacGen .. | .hmacVer .. => next (h.cyBegin _ _)
  | .loadMemtrain .. | .loadDroverFw .. | .loadCzUcode .. | .loadMloader .. => next (h.load _ _)
  | .extest .. | .samplePreload .. | .idcode .. | .clamp .. | .highz .. | .extestPulse .. | .extestTrain .. | .bypass .. => next (h.tapSelect _ _)
  | .recordPauseTimeout .. | .recordAcceptTimeout .. => next (h.pieceFails)
  | .syscall .. => h.execSyscall _ _
  | .mgrcall .. => h.execMgrcall _ _
  | .iret .. => h.execIret _
  | .fenceS .. => h.execFenceS _
  | .fenceF .. => h.execFenceF _
  | .gath .. => h.execGath _
  | .wfe .. => h.execWfe _
  | .crd .. => h.execCrd _ _ _
  | .cwr .. => h.execCwr _ _ _
  | .cctlWrite .. => h.execCctlWrite _ _
  | .denDisableDrained .. => h.execDenDisableDrained _
  | .repi .. => h.execRepi _ _
  | .repn .. => h.execRepn _ _
  | .bt .. => h.execBt _ _ _
  | .bf .. => h.execBf _ _ _
  | .call .. => h.execCall _ _
  | .bri .. => h.execBri _ _
  | .calli .. => h.execCalli _ _
  | .ret .. => h.execRet _
  | .ld .. => h.execLd _ _ _ _ _ _ _
  | .lds .. => h.execLds _ _ _ _ _ _ _
  | .st .. => h.execSt _ _ _ _ _ _
  | .ldf .. => h.execLdf _ _ _ _ _ _ _
  | .stf .. => h.execStf _ _ _ _ _ _
  | .swap .. => h.execSwap _ _ _ _ _
  | .atomicFadd .. => h.execAtomicFadd _ _ _ _ _
  | .cas .. => h.execCas _ _ _ _ _
  | .strel .. => h.execStrel _ _ _ _
  | .dci .. => h.execDci _ _
  | .ici .. => h.execIci _ _
  | .dcf .. => h.execDcf _ _
  | .dcfi .. => h.execDcfi _ _
  | .dzl .. => h.execDzl _ _
  | .dcia .. => h.execDcia _
  | .icia .. => h.execIcia _
  | .submit .. => h.execSubmit _ _ _ _
  | .tlfl .. => h.execTlfl _ _ _ _ _
  | .tlin .. => h.execTlin _ _ _ _ _
  | .tllg .. => h.execTllg _ _ _ _ _
  | .bundleFetch .. => h.execBundleFetch _ _
  | .operationLand .. => h.execOperationLand _
  | .loadDataArrival .. => h.execLoadDataArrival _ _
  | .freezeLimit .. => h.execFreezeLimit _
  | .exceptionEntry .. => h.execExceptionEntry _
  | .eventAccept .. => h.execEventAccept _ _
  | .completionApply .. => h.execCompletionApply _
  | .wfeWake .. => h.execWfeWake _
  | .reservedFieldCompletion .. => h.execReservedFieldCompletion _ _
  | .mergeEntryTimeout .. => h.execMergeEntryTimeout _ _
  | .mergeEntryMove .. => h.execMergeEntryMove _
  | .gatherMark .. => h.execGatherMark _
  | .gatherConfirm .. => h.execGatherConfirm _
  | .releaseAcknowledged .. => h.execReleaseAcknowledged _ _
  | .heldAccessPerform .. => h.execHeldAccessPerform _ _
  | .heldAccessResponse .. => h.execHeldAccessResponse _ _
  | .stallDetect .. => h.execStallDetect _ _
  | .checkerError .. => h.execCheckerError _
  | .rollbackComplete .. => h.execRollbackComplete _ _
  | .selftestComplete .. => h.execSelftestComplete _ _ _ _
  | .spareStateCopyComplete .. => h.execSpareStateCopyComplete _ _
  | .pxCtlStart .. => h.execPxCtlStart _ _ _ _
  | .pxSnapWrite .. => h.execPxSnapWrite _ _ _ _ _
  | .fillLand .. => h.execFillLand _ _
  | .victimMoved .. => h.execVictimMoved _
  | .tileCacheHitMoved .. => h.execTileCacheHitMoved _ _ _
  | .uncachedLoad .. => h.execUncachedLoad _ _
  | .uncachedStore .. => h.execUncachedStore _
  | .snoopInvalidate .. => h.execSnoopInvalidate _ _
  | .snoopForward .. => h.execSnoopForward _ _ _
  | .evictionBufferInstall .. => h.execEvictionBufferInstall _
  | .bypassWalkComplete .. => h.execBypassWalkComplete _
  | .tcModeTakeEffect .. => h.execTcModeTakeEffect _
  | .fcDrainComplete .. => h.execFcDrainComplete _
  | .replWrite .. => h.execReplWrite _ _ _
  | .waydisWrite .. => h.execWaydisWrite _ _ _
  | .wayflushWrite .. => h.execWayflushWrite _ _ _
  | .wayWalkComplete .. => h.execWayWalkComplete _
  | .fcEcclogClear .. => h.execFcEcclogClear _ _ _
  | .farMemoryComplete .. => h.execFarMemoryComplete _
  | .bankStateChangeComplete .. => h.execBankStateChangeComplete _ _
  | .keepWipeComplete .. => h.execKeepWipeComplete _
  | .patrolScrub .. => h.execPatrolScrub _ _ _
  | .channelOffline .. => h.execChannelOffline _
  | .trainingOrRepairComplete .. => h.execTrainingOrRepairComplete _ _
  | .resyncComplete => h.execResyncComplete
  | .penStopped .. => h.execPenStopped _
  | .penMoveComplete .. => h.execPenMoveComplete _
  | .run .. => h.execRun _ _ _ _
  | .nvmeCompletionEntry .. => h.execNvmeCompletionEntry _ _ _
  | .ringCompletionEntry .. => h.execRingCompletionEntry _ _ _
  | .completionPoll .. => h.execCompletionPoll _
  | .commandTimeout .. => h.execCommandTimeout _
  | .pathFailureReissue .. => h.execPathFailureReissue _ _
  | .powerFailDrain => h.execPowerFailDrain
  | .drainComplete .. => h.execDrainComplete _ _
  | .ledgerThaw => h.execLedgerThaw
  | .linkReeqComplete .. => h.execLinkReeqComplete _
  | .linkDown .. => h.execLinkDown _ _
  | .linkUp .. => h.execLinkUp _ _ _ _
  | .marginComplete .. => h.execMarginComplete _ _
  | .dreqComplete .. => h.execDreqComplete _ _ _
  | .dreqTimeout .. => h.execDreqTimeout _
  | .deviceMemoryRequest .. => h.execDeviceMemoryRequest _ _ _
  | .atsTranslationRequest .. => h.execAtsTranslationRequest _ _ _
  | .atsInvalidateTimeout .. => h.execAtsInvalidateTimeout _ _
  | .pcieCorrectableError .. => h.execPcieCorrectableError _
  | .pcieNonfatalError .. => h.execPcieNonfatalError _ _ _ _
  | .pcieFatalError .. => h.execPcieFatalError _
  | .null .. => h.execNull _ _
  | .link .. => h.execLink _ _ _ _ _
  | .hello .. => h.execHello _ _
  | .route .. => h.execRoute _ _ _ _ _ _
  | .rds .. => h.execRds _ _ _
  | .rdo .. => h.execRdo _ _ _ _
  | .upg .. => h.execUpg _ _ _
  | .rdu .. => h.execRdu _ _ _
  | .wru .. => h.execWru _ _ _ _
  | .wb .. => h.execWb _ _ _ _
  | .evc .. => h.execEvc _ _
  | .fmop .. => h.execFmop _ _ _
  | .fwds .. => h.execFwds _ _ _
  | .fwdo .. => h.execFwdo _ _ _
  | .inv .. => h.execInv _ _
  | .gnt .. => h.execGnt _ _
  | .iack .. => h.execIack _ _
  | .cmp .. => h.execCmp _ _ _
  | .nack .. => h.execNack _ _ _
  | .data .. => h.execData _ _ _ _ _
  | .iackd .. => h.execIackd _ _ _ _
  | .pcmd .. => h.execPcmd _ _ _ _ _
  | .pstat .. => h.execPstat _ _ _ _
  | .badFlit .. => h.execBadFlit _ _
  | .ackTimer .. => h.execAckTimer _
  | .replayTimeout .. => h.execReplayTimeout _
  | .formationEnd => h.execFormationEnd
  | .compressionUnitComplete .. => h.execCompressionUnitComplete _ _ _
  | .czTestComplete .. => h.execCzTestComplete _ _
  | .cipherJobComplete .. => h.execCipherJobComplete _ _
  | .outputWithheld .. => h.execOutputWithheld _ _ _
  | .cipherDatapathError .. => h.execCipherDatapathError _ _ _
  | .lockWipeComplete .. => h.execLockWipeComplete _
  | .cyTestComplete .. => h.execCyTestComplete _ _
  | .huInvdone => h.execHuInvdone
  | .stintPeriodBoundary => h.execStintPeriodBoundary
  | .stintOpportunity .. => h.execStintOpportunity _ _
  | .coalesceTimerExpire .. => h.execCoalesceTimerExpire _
  | .mrstNRelease .. => h.execMrstNRelease _ _ _ _
  | .mrstNAssert => h.execMrstNAssert
  | .getInfo .. => h.execGetInfo _
  | .getRecord .. => h.execGetRecord _
  | .getCerts => h.execGetCerts
  | .keyWrite => h.execKeyWrite
  | .keyErase => h.execKeyErase
  | .keyDescribe => h.execKeyDescribe
  | .keyEraseOwner => h.execKeyEraseOwner
  | .memtrainComplete .. => h.execMemtrainComplete _
  | .firmwareLoadComplete .. => h.execFirmwareLoadComplete _
  | .extend => h.execExtend
  | .seal => h.execSeal
  | .autoSeal => h.execAutoSeal
  | .addendumSigned => h.execAddendumSigned
  | .shepUpdate => h.execShepUpdate
  | .shepCommit => h.execShepCommit
  | .own => h.execOwn
  | .returnOwned => h.execReturn
  | .void .. => h.execVoid _
  | .provision .. => h.execProvision _
  | .certify .. => h.execCertify _ _ _
  | .tamperTrip .. => h.execTamperTrip _
  | .meshCheck .. => h.execMeshCheck _
  | .shepherdLockstepMismatch => h.execShepherdLockstepMismatch
  | .shepherdRestartComplete .. => h.execShepherdRestartComplete _
  | .noiseSourceFailure .. => h.execNoiseSourceFailure _
  | .drbgReseed => h.execDrbgReseed
  | .recordReoffer => h.execRecordReoffer
  | .getVersion => h.execGetVersion
  | .getCapabilities => h.execGetCapabilities
  | .negotiateAlgorithms => h.execNegotiateAlgorithms
  | .getDigests => h.execGetDigests
  | .getCertificate .. => h.execGetCertificate _ _ _
  | .challenge .. => h.execChallenge _
  | .getMeasurements .. => h.execGetMeasurements _ _
  | .respondIfReady => h.execRespondIfReady
  | .spdmUnsupportedRequest => h.execSpdmUnsupportedRequest
  | .setEndpointId .. => h.execSetEndpointId _
  | .getEndpointId => h.execGetEndpointId
  | .getMctpVersionSupport => h.execGetMctpVersionSupport
  | .getMessageTypeSupport => h.execGetMessageTypeSupport
  | .strikeDrainTick .. => h.execStrikeDrainTick _ _
  | .coreSelftestComplete .. => h.execCoreSelftestComplete _
  | .asyncMachineCheck => h.execAsyncMachineCheck
  | .railExcursion .. => h.execRailExcursion _ _ _
  | .temperatureSample .. => h.execTemperatureSample _
  | .thermalCapStep .. => h.execThermalCapStep _
  | .pllStepComplete .. => h.execPllStepComplete _
  | .foldSleepEntry .. => h.execFoldSleepEntry _
  | .foldWake .. => h.execFoldWake _
  | .flockSleepEntry .. => h.execFlockSleepEntry _
  | .flockWake .. => h.execFlockWake _
  | .tenseChange => h.execTenseChange
  | .recordPieceSend => h.execRecordPieceSend
  | .recordPieceAccept => h.execRecordPieceAccept
  | .uartReceive .. => h.execUartReceive _
  | .tnUartrxRead .. => h.execTnUartrxRead _
  | .tracePcSample => h.execTracePcSample
  | .syncEdge => h.execSyncEdge
  | .droverLockstepMismatch .. => h.execDroverLockstepMismatch _
  | .tamperSensorClear .. => h.execTamperSensorClear _
  | .maskingGeneratorReseed .. => h.execMaskingGeneratorReseed _
  | .uartByteSent => h.execUartByteSent
  | .traceRecordSent => h.execTraceRecordSent
  | .pxSnapRead .. => h.execPxSnapRead _ _ _ _ _

/-! ### The functions of Step -/

theorem idle (h : KeepsOrder u s) : KeepsOrder u s.idle := by
  unfold State.idle
  grind [rmod]

theorem step (h : KeepsOrder u s) : OutKeepsOrder u (Machine.step s) := by
  cases hp : s.pending with
  | nil => rw [step_nil s hp]; exact next h.idle
  | cons c rest => rw [step_cons s c rest hp]; exact exec (show KeepsOrder u { s with pending := rest } from h) c

end KeepsOrder

end Sys2Proof.Machine

open Sys2Proof Sys2Proof.Machine

/-- Settles O60: a step is a tick of the always-on clock or an `exec`, which keeps order. -/
theorem stepKeepsTablesInOrder : Obligations.StepKeepsTablesInOrder := by
  unfold Obligations.StepKeepsTablesInOrder
  intro s t hs ht
  obtain ⟨hmem, hregs, hmod⟩ := KeepsOrder.step (.refl s) t ht
  simp only [State.ok, Bool.and_eq_true, decide_eq_true_eq] at hs ⊢
  obtain ⟨⟨sm, sr⟩, so⟩ := hs
  exact ⟨⟨hmem sm, hregs sr⟩, hmod so⟩

/-- Settles O4: each of the operations keeps order, and the zeroing of a bank takes out that bank's bytes alone. -/
theorem memoryKeepsItsForm : Obligations.MemoryKeepsItsForm := by
  unfold Obligations.MemoryKeepsItsForm
  intro s hs
  have ok {t : State} (h : KeepsOrder s t) : t.memOk = true := h.1 hs
  have h := KeepsOrder.refl s
  exact ⟨fun _ _ _ => ok (h.memWriteLine _ _ _), fun _ _ => ok (h.cohWrite _ _), fun _ _ _ => ok (h.cohWriteMask _ _ _),
    fun _ => ok (h.cleanAll _), fun _ => ok (h.invalidateAll _), fun _ _ => ok (h.drainAhead _ _), fun _ _ _ => ok (h.spWrite _ _ _),
    fun _ _ _ _ => ok (h.spWriteMask _ _ _ _), fun _ _ => ⟨ok (h.zeroBank _ _), byte_zeroBank s _ _⟩⟩

end

section
/-! What a rejection and a raise leave of the control registers. -/

namespace Sys2Proof.Machine

/-- A number put together from the bits below a place, the bit there and the bits above. -/
theorem testBit_join (i j low bit high : Nat) (hl : low < 2 ^ i) (hb : bit < 2) :
    (2 ^ i * (2 * high + bit) + low).testBit j = if j < i then low.testBit j else if j = i then bit.testBit 0 else high.testBit (j - (i + 1)) := by
  rw [Nat.testBit_two_pow_mul_add _ hl]
  split
  · rfl
  split
  · subst j
    rw [Nat.sub_self, Nat.testBit_zero, Nat.testBit_zero, Nat.mul_add_mod]
  · obtain ⟨k, rfl⟩ : ∃ k, j = i + 1 + k := ⟨j - (i + 1), by omega⟩
    rw [show i + 1 + k - i = k + 1 by omega, Nat.testBit_succ, show (2 * high + bit) / 2 = high by omega, Nat.add_sub_cancel_left]

/-- One bit of a register with one bit replaced. -/
theorem flag_setFlag (v : Word) (i j : Nat) (b : Bool) (hj : j < 64) : flag (setFlag v i b) j = if j = i then b else flag v j := by
  have hlow : v.toNat % 2 ^ i < 2 ^ i := Nat.mod_lt _ (Nat.two_pow_pos i)
  have hb : bnat b < 2 := by cases b <;> decide
  have hv : v.toNat = 2 ^ i * (2 * (v.toNat / 2 ^ i / 2) + v.toNat / 2 ^ i % 2) + v.toNat % 2 ^ i := by
    rw [Nat.div_add_mod, Nat.div_add_mod]
  have hw : putBits v.toNat i i (bnat b) = 2 ^ i * (2 * (v.toNat / 2 ^ i / 2) + bnat b) + v.toNat % 2 ^ i := by
    rw [putBits, bits, Nat.shiftRight_eq_div_pow, Nat.add_sub_cancel_left, pow_one, Nat.mod_eq_of_lt hb, Nat.mul_comm _ (2 ^ i),
      Nat.mul_comm _ (2 ^ i)]
    nth_rw 1 [hv]
    rw [Nat.mul_add, Nat.mul_add]
    omega
  have hbit : (bnat b).testBit 0 = b := by cases b <;> rfl
  have hvj := testBit_join i j _ _ (v.toNat / 2 ^ i / 2) hlow (Nat.mod_lt (v.toNat / 2 ^ i) Nat.two_pos)
  rw [← hv] at hvj
  rw [flag, setFlag, setFld, BitVec.toNat_ofNat, Nat.testBit_mod_two_pow, decide_eq_true hj, Bool.true_and, hw,
    testBit_join _ _ _ _ _ hlow hb, hbit, flag, hvj]
  rcases lt_trichotomy j i with h | h | h
  · rw [if_pos h, if_neg h.ne, if_pos h]
  · rw [if_neg h.not_lt, if_pos h, if_pos h]
  · rw [if_neg h.asymm, if_neg h.ne', if_neg h.ne', if_neg h.asymm, if_neg h.ne']

theorem State.rget_raise_same (s : State) (src : Nat) :
    (s.raise src).rget .evStat src = BitVec.ofNat 64 (2 ^ 63 + satAdd 0xFFFF (fld (s.rget .evStat src) 15 0) 1) :=
  (rget_of_regs_eq (s.raise_regs src) _ _ _).trans (s.rget_rset_same _ _ _ _)

theorem State.rget_raise_ne (s : State) (src : Nat) (r : Reg) (i j : Nat) (h : r.addr i j ≠ Reg.evStat.addr src) :
    (s.raise src).rget r i j = s.rget r i j :=
  (rget_of_regs_eq (s.raise_regs src) _ _ _).trans (s.rget_rset_ne _ _ _ _ _ _ _ h)

/-- A raise sets PEND of its source. -/
theorem State.pend_raise (s : State) (src : Nat) : (s.raise src).rbit .evStat src 0 63 = true := by
  have hc : satAdd 0xFFFF (fld (s.rget .evStat src) 15 0) 1 ≤ 0xFFFF := Nat.min_le_right _ _
  rw [State.rbit, rget_raise_same, flag, BitVec.toNat_ofNat, Nat.mod_eq_of_lt (by omega)]
  exact Nat.testBit_of_two_pow_le_and_two_pow_add_one_gt (by omega) (by omega)

/-- A raise counts, up to 0xFFFF. -/
theorem State.count_raise (s : State) (src : Nat) :
    (s.raise src).rfld .evStat src 0 15 0 = min (s.rfld .evStat src 0 15 0 + 1) 0xFFFF := by
  have hc : satAdd 0xFFFF (fld (s.rget .evStat src) 15 0) 1 ≤ 0xFFFF := Nat.min_le_right _ _
  rw [State.rfld, rget_raise_same, fld, bits, BitVec.toNat_ofNat, Nat.shiftRight_zero]
  change (2 ^ 63 + satAdd _ _ _) % 2 ^ 64 % 2 ^ 16 = satAdd _ (fld (s.rget .evStat src) 15 0) _
  omega

/-- What a raise leaves of a state, but for the registers, the router's record and the tracer's queue. -/
theorem State.raise_frame (s : State) (src : Nat) : { s.raise src with regs := s.regs, evFirst := s.evFirst, tense := s.tense } = s := by
  obtain ⟨q, f, e, -⟩ := s.raise_spec src
  rw [e]
  rfl

end Sys2Proof.Machine

open Sys2Proof Sys2Proof.Machine

/-- Settles O40: the rejection sets OVF, bit 62, alone and raises source 4. -/
theorem rejectionsKeepTheFirstRecord : Obligations.RejectionsKeepTheFirstRecord := by
  unfold Obligations.RejectionsKeepTheFirstRecord
  intro s cause pa data hv
  have ha : Reg.mgCfgerrAddr.addr ≠ Reg.evStat.addr 4 := by decide
  have hd : Reg.mgCfgerrData.addr ≠ Reg.evStat.addr 4 := by decide
  have hda : Reg.mgCfgerrData.addr ≠ Reg.mgCfgerrAddr.addr := by decide
  dsimp only
  rw [(s.reject_spec cause pa data).1 hv, State.rget_raise_ne _ _ _ _ _ ha, State.rget_raise_ne _ _ _ _ _ hd, State.rget_rset_same,
    State.rget_rset_ne _ _ _ _ _ _ _ _ hda]
  refine ⟨rfl, ?_, fun b hb hb' => ?_, State.pend_raise _ _, ?_, fun r i j h h' => ?_, ?_, fun n creg v hp => if_neg hp⟩
  · rw [flag_setFlag _ _ _ _ (by decide), if_pos rfl]
  · rw [flag_setFlag _ _ _ _ hb', if_neg hb]
  · rw [State.count_raise, State.rfld, State.rget_rset_ne _ _ _ _ _ _ _ _ ha.symm]
    rfl
  · rw [State.rget_raise_ne _ _ _ _ _ h', State.rget_rset_ne _ _ _ _ _ _ _ _ h]
  · exact congrArg (fun t : State => { t with regs := s.regs }) (State.raise_frame (s.rset .mgCfgerrAddr 0 0 _) 4)

end

section
/-! Where the registers lie: a register's instances share their places modulo its strides, so two registers are apart when their
places are apart modulo 2^32 or modulo one of their strides. -/

namespace Sys2Proof.Machine

/-! ### One register -/

/-- The lowest place of a register's instances modulo `m`. -/
def Place.low (p : Place) (m : Nat) : Nat := p.base % m

/-- The highest place of a register's instances modulo `m`, where none wraps: a stride that `m` divides moves none of them. -/
def Place.high (p : Place) (m : Nat) : Nat :=
  p.base % m + (if p.s1 % m = 0 then 0 else (p.n1 - 1) * p.s1) + (if p.s2 % m = 0 then 0 else (p.n2 - 1) * p.s2)

/-- A row of instances, one each `stride`, stays within its span modulo `m`, counted from any place below it. -/
theorem row_mod (m stride n i lo : Nat) (hi : i < n) (h : lo + (if stride % m = 0 then 0 else (n - 1) * stride) < m) :
    ∃ d, (lo + i * stride) % m = lo + d ∧ d ≤ if stride % m = 0 then 0 else (n - 1) * stride := by
  split at h
  next hs =>
    refine ⟨0, ?_, Nat.zero_le _⟩
    rw [Nat.add_mod, Nat.mul_mod, hs, Nat.mul_zero, Nat.zero_mod, Nat.add_zero, Nat.mod_mod, Nat.add_zero]
    exact Nat.mod_eq_of_lt (by omega)
  next hs =>
    have hle : i * stride ≤ (n - 1) * stride := Nat.mul_le_mul_right _ (by omega)
    exact ⟨i * stride, Nat.mod_eq_of_lt (by omega), hle.trans_eq (if_neg hs).symm⟩

/-- The places of a register's instances modulo `m` are from its lowest to its highest, where none wraps. -/
theorem Reg.addr_mod (r : Reg) (i j m : Nat) (hi : i < r.place.n1) (hj : j < r.place.n2) (h : r.place.high m < m) :
    r.place.low m ≤ r.addr i j % m ∧ r.addr i j % m ≤ r.place.high m := by
  unfold Place.high at h ⊢
  obtain ⟨d, hd, hd'⟩ := row_mod m r.place.s1 r.place.n1 i (r.place.base % m) hi (by omega)
  obtain ⟨e, he, he'⟩ := row_mod m r.place.s2 r.place.n2 j (r.place.base % m + d) hj (by omega)
  have ha : r.addr i j % m = r.place.base % m + d + e := by
    rw [← he, ← hd, Reg.addr]
    simp only [Nat.add_mod, Nat.mod_mod]
  rw [ha, Place.low]
  omega

/-- The shape of a place: a stride of 0 has one row, the second row fits in the first stride, and all is in the 4 GiB and
of 8-byte words. -/
def Place.shaped (p : Place) : Bool :=
  decide (p.s1 = 0 → p.n1 = 1) && decide (p.s2 = 0 → p.n2 = 1) && decide (p.s1 ≠ 0 → (p.n2 - 1) * p.s2 < p.s1) &&
    decide (p.base + (p.n1 - 1) * p.s1 + (p.n2 - 1) * p.s2 < 2 ^ 32) && decide (p.base % 8 = 0 ∧ p.s1 % 8 = 0 ∧ p.s2 % 8 = 0)

theorem Reg.mem_all (r : Reg) : r ∈ Reg.all := by
  cases r <;> decide

theorem Reg.place_shaped (r : Reg) : r.place.shaped = true := by
  cases r <;> rfl

theorem Reg.addr_lt (r : Reg) (i j : Nat) (hi : i < r.place.n1) (hj : j < r.place.n2) : r.addr i j < 2 ^ 32 := by
  have h := r.place_shaped
  simp only [Place.shaped, Bool.and_eq_true, decide_eq_true_eq] at h
  obtain ⟨⟨-, hlt⟩, -⟩ := h
  have h1 : i * r.place.s1 ≤ (r.place.n1 - 1) * r.place.s1 := Nat.mul_le_mul_right _ (by omega)
  have h2 : j * r.place.s2 ≤ (r.place.n2 - 1) * r.place.s2 := Nat.mul_le_mul_right _ (by omega)
  unfold Reg.addr
  omega

theorem Reg.addr_aligned (r : Reg) (i j : Nat) : r.addr i j % 8 = 0 := by
  have h := r.place_shaped
  simp only [Place.shaped, Bool.and_eq_true, decide_eq_true_eq] at h
  obtain ⟨-, hb, h1, h2⟩ := h
  simp [Reg.addr, Nat.add_mod, Nat.mul_mod, hb, h1, h2]

/-- How many whole strides a distance has; none where the stride is 0. -/
def strideOf (stride d : Nat) : Nat := if stride = 0 then 0 else d / stride

/-- The distance that is left over. -/
def strideRest (stride d : Nat) : Nat := if stride = 0 then d else d % stride

theorem strideOf_add_strideRest (stride d : Nat) : strideOf stride d * stride + strideRest stride d = d := by
  unfold strideOf strideRest
  split
  next h => rw [h, Nat.mul_zero, Nat.zero_add]
  next h => rw [Nat.mul_comm, Nat.div_add_mod]

theorem strideOf_eq {stride n i d : Nat} (h : stride = 0 → n = 1) (hi : i < n) (hd : stride ≠ 0 → d < stride) :
    strideOf stride (i * stride + d) = i ∧ strideRest stride (i * stride + d) = d := by
  unfold strideOf strideRest
  split
  next hs =>
    have hn := h hs
    exact ⟨by omega, by rw [hs, Nat.mul_zero, Nat.zero_add]⟩
  next hs =>
    rw [Nat.mul_comm, Nat.mul_add_div (by omega), Nat.div_eq_of_lt (hd hs), Nat.mul_add_mod, Nat.mod_eq_of_lt (hd hs)]
    exact ⟨rfl, rfl⟩

/-- What a register finds at an offset: the strides of its distance, where nothing is left over and the register has that place. -/
theorem Reg.at?_eq (r : Reg) (off : Nat) : r.at? off =
    if off < r.place.base then none
    else if strideOf r.place.s1 (off - r.place.base) < r.place.n1 ∧
        strideOf r.place.s2 (strideRest r.place.s1 (off - r.place.base)) < r.place.n2 ∧
        strideRest r.place.s2 (strideRest r.place.s1 (off - r.place.base)) = 0 ∧
        (r = .ftCnt → strideOf r.place.s2 (strideRest r.place.s1 (off - r.place.base)) < strikeCount (strideOf r.place.s1 (off - r.place.base)))
      then some (strideOf r.place.s1 (off - r.place.base), strideOf r.place.s2 (strideRest r.place.s1 (off - r.place.base)))
      else none := rfl

/-- What a register finds at an offset is the one of its places that lies there. -/
theorem Reg.at?_eq_some {r : Reg} {off i j : Nat} (h : r.at? off = some (i, j)) :
    r.addr i j = off ∧ i < r.place.n1 ∧ j < r.place.n2 := by
  rw [at?_eq, Option.ite_none_left_eq_some, Option.ite_none_right_eq_some] at h
  obtain ⟨hb, ⟨hi, hj, hz, -⟩, he⟩ := h
  obtain ⟨rfl, rfl⟩ := Prod.mk.inj (Option.some.inj he)
  have h1 := strideOf_add_strideRest r.place.s1 (off - r.place.base)
  have h2 := strideOf_add_strideRest r.place.s2 (strideRest r.place.s1 (off - r.place.base))
  refine ⟨?_, hi, hj⟩
  unfold Reg.addr
  omega

/-- A register finds each of its instances at its offset. -/
theorem Reg.at?_addr (r : Reg) (i j : Nat) (hi : i < r.place.n1) (hj : j < r.place.n2) (hc : r = .ftCnt → j < strikeCount i) :
    r.at? (r.addr i j) = some (i, j) := by
  have h := r.place_shaped
  simp only [Place.shaped, Bool.and_eq_true, decide_eq_true_eq] at h
  obtain ⟨⟨⟨⟨h1, h2⟩, hrow⟩, -⟩, -⟩ := h
  have hlast : j * r.place.s2 ≤ (r.place.n2 - 1) * r.place.s2 := Nat.mul_le_mul_right _ (by omega)
  obtain ⟨hrow1, hrest1⟩ := strideOf_eq h1 hi fun hs => lt_of_le_of_lt hlast (hrow hs)
  obtain ⟨hrow2, hrest2⟩ := strideOf_eq (d := 0) h2 hj fun hs => by omega
  have hb : ¬ r.addr i j < r.place.base := by unfold Reg.addr; omega
  have hd : r.addr i j - r.place.base = i * r.place.s1 + j * r.place.s2 := by unfold Reg.addr; omega
  rw [Nat.add_zero] at hrow2 hrest2
  rw [at?_eq, if_neg hb, hd, hrow1, hrest1, hrow2, hrest2, if_pos ⟨hi, hj, rfl, hc⟩]

/-! ### Two registers -/

/-- Two places are apart modulo `m`. -/
def Place.apartMod (p : Place) (m : Nat) (q : Place) : Bool :=
  decide (p.high m < m) && decide (q.high m < m) && (decide (p.high m < q.low m) || decide (q.high m < p.low m))

/-- Two places are apart as they stand, or modulo a stride of one of them. -/
def Place.apart (p q : Place) : Bool :=
  p.apartMod (2 ^ 32) q || p.apartMod (max p.s1 q.s1) q || p.apartMod (max p.s2 q.s2) q

theorem Place.apartMod_symm {m : Nat} {p q : Place} (h : p.apartMod m q = true) : q.apartMod m p = true := by
  simp only [apartMod, Bool.and_eq_true, Bool.or_eq_true] at h ⊢
  obtain ⟨⟨hp, hq⟩, h⟩ := h
  exact ⟨⟨hq, hp⟩, h.symm⟩

theorem Place.apart_symm {p q : Place} (h : p.apart q = true) : q.apart p = true := by
  simp only [apart, Bool.or_eq_true] at h ⊢
  rw [max_comm q.s1, max_comm q.s2]
  exact h.imp (Or.imp apartMod_symm apartMod_symm) apartMod_symm

theorem places_apart : Reg.all.Pairwise fun r q => r.place.apart q.place = true := by
  decide +kernel

theorem Reg.place_apart {r q : Reg} (h : r ≠ q) : r.place.apart q.place = true := by
  have : Std.Symm fun r q : Reg => r.place.apart q.place = true := ⟨fun _ _ => Place.apart_symm⟩
  exact places_apart.forall r.mem_all q.mem_all h

theorem Reg.addr_ne_of_apartMod {r q : Reg} {m i j k l : Nat} (hi : i < r.place.n1) (hj : j < r.place.n2) (hk : k < q.place.n1)
    (hl : l < q.place.n2) (h : r.place.apartMod m q.place = true) : r.addr i j ≠ q.addr k l := by
  simp only [Place.apartMod, Bool.and_eq_true, Bool.or_eq_true, decide_eq_true_eq] at h
  obtain ⟨⟨hr, hq⟩, h⟩ := h
  obtain ⟨rlow, rhigh⟩ := r.addr_mod i j m hi hj hr
  obtain ⟨qlow, qhigh⟩ := q.addr_mod k l m hk hl hq
  intro e
  rw [e] at rlow rhigh
  omega

/-- Instances of different registers lie at different offsets. -/
theorem Reg.addr_ne {r q : Reg} {i j k l : Nat} (hi : i < r.place.n1) (hj : j < r.place.n2) (hk : k < q.place.n1)
    (hl : l < q.place.n2) (h : r ≠ q) : r.addr i j ≠ q.addr k l := by
  have ha := place_apart h
  simp only [Place.apart, Bool.or_eq_true] at ha
  rcases ha with (ha | ha) | ha <;> exact addr_ne_of_apartMod hi hj hk hl ha

/-! ### Finding a register -/

theorem findReg_eq_some {off : Nat} {rs : List Reg} {r : Reg} {i j : Nat} (h : findReg off rs = some (r, i, j)) :
    r.at? off = some (i, j) := by
  induction rs with
  | nil => cases h
  | cons q rs ih =>
    unfold findReg at h
    split at h
    next heq => cases h; exact heq
    next => exact ih h

/-- The register of a list that alone finds a place at an offset is the one found. -/
theorem findReg_of_unique {off : Nat} {rs : List Reg} {r : Reg} {i j : Nat} (hr : r ∈ rs) (h : r.at? off = some (i, j))
    (hu : ∀ q, q ≠ r → q.at? off = none) : findReg off rs = some (r, i, j) := by
  induction rs with
  | nil => cases hr
  | cons q rs ih =>
    unfold findReg
    by_cases hq : q = r
    · subst hq
      rw [h]
    · rw [hu q hq]
      exact ih ((List.mem_cons.1 hr).resolve_left (Ne.symm hq))

theorem regAt_addr (r : Reg) (i j : Nat) (hi : i < r.place.n1) (hj : j < r.place.n2) (hc : r = .ftCnt → j < strikeCount i) :
    regAt (r.addr i j) = some (r, i, j) := by
  refine findReg_of_unique r.mem_all (r.at?_addr i j hi hj hc) fun q hq => ?_
  cases h : q.at? (r.addr i j) with
  | none => rfl
  | some x =>
    obtain ⟨k, l⟩ := x
    obtain ⟨e, hk, hl⟩ := Reg.at?_eq_some h
    exact absurd e (Reg.addr_ne hk hl hi hj hq)

end Sys2Proof.Machine

open Sys2Proof Sys2Proof.Machine

/-- Settles O41: the shape of a place bounds its offsets, and the places of the registers are apart. -/
theorem everyRegisterIsFoundAtItsAddress : Obligations.EveryRegisterIsFoundAtItsAddress := by
  unfold Obligations.EveryRegisterIsFoundAtItsAddress
  refine ⟨fun r i j hi hj hc => ⟨?_, ?_, regAt_addr r i j hi hj hc⟩, fun off r i j h => Reg.at?_eq_some (findReg_eq_some h)⟩
  · exact r.addr_lt i j hi hj
  · exact r.addr_aligned i j

end

section
/-! The module at reset: its tables list nothing, so each of them reads its default. -/

namespace Sys2Proof.Machine

theorem State.reset_ok : State.reset.ok = true := by decide

/-- A core control register of a core at reset reads its reset value. -/
theorem Arch.cr_reset (k : Nat) : Arch.reset.cr k = cregReset k := rfl

theorem cregReset_of_ne_zero {k : Nat} (h : k ≠ 0) : cregReset k = 0 := if_neg h

end Sys2Proof.Machine

open Sys2Proof Sys2Proof.Machine

/-- Settles O3: every table at reset is empty. -/
theorem resetState : Obligations.ResetState := by
  unfold Obligations.ResetState
  have hregs (r : Reg) (i j : Nat) : State.reset.rget r i j = BitVec.ofNat 64 (r.reset i j) := rfl
  have hmem (pa : Nat) : State.reset.byte pa = memDefault := rfl
  have hcore (n : Nat) : State.reset.core n = Core.reset := rfl
  have htally (n : Nat) : Core.reset.arch.rt n = 0xFFFE000000000000#64 := rfl
  have hlstate (l : Nat) : State.reset.lstate l = 4 := rfl
  have hkeys (k : Nat) : State.reset.keySlot k = KeySlot.reset := rfl
  exact ⟨State.reset_ok, rfl, rfl, hregs, hmem, hcore, Arch.cr_reset 0, fun k hk => (Arch.cr_reset k).trans (cregReset_of_ne_zero hk),
    htally, hlstate, rfl, rfl, hkeys⟩

end

section
/-! Held accesses at their targets: what each kind comes to once its gather is confirmed and released. -/

namespace Sys2Proof.Machine

/-! ### Main memory -/

theorem State.unbacked_of_mainMem {s : State} {pa : Nat} (h : s.mainMem pa = true) : s.unbacked pa = none := by
  simp only [mainMem, Bool.and_eq_true, Option.isNone_iff_eq_none] at h
  exact h.1.2

theorem State.scratch_of_mainMem {s : State} {pa : Nat} (h : s.mainMem pa = true) : s.scratch pa = none := by
  simp only [mainMem, Bool.and_eq_true, Bool.not_eq_true'] at h
  simp [scratch, h.2]

/-! ### The parts of an access -/

/-- The parts of an access are its halves, each with its place in the value. -/
theorem HeldAcc.parts_map_fst (h : HeldAcc) : h.parts.map (·.1) = h.halves.map (·.1) := by
  have go (l : List (Nat × Nat)) (acc : List (Nat × Nat × Nat) × Nat) :
      (l.foldl (fun acc x => (acc.1 ++ [(x.1, x.2, acc.2)], acc.2 + x.2)) acc).1.map (·.1) = acc.1.map (·.1) ++ l.map (·.1) := by
    induction l generalizing acc with
    | nil => simp
    | cons x l ih => simp [ih]
  exact go h.halves ([], 0)

theorem HeldAcc.parts_of_single {h : HeldAcc} {x : Nat × Nat} (e : h.halves = [x]) : h.parts = [(x.1, x.2, 0)] := by
  simp [parts, e]

/-- Where every half lies in main memory, no part is unbacked, and the parts are not all of scratchpads. -/
theorem State.parts_of_mainMem {s : State} {h : HeldAcc} (hne : h.halves ≠ []) (hm : ∀ x ∈ h.halves, s.mainMem x.1 = true) :
    s.heldUnbacked h = none ∧ (h.parts.all fun x => (s.scratch x.1).isSome) = false := by
  have hp : ∀ y ∈ h.parts, s.mainMem y.1 = true := by
    intro y hy
    have hy' : y.1 ∈ h.halves.map (·.1) := h.parts_map_fst ▸ List.mem_map_of_mem hy
    obtain ⟨x, hx, e⟩ := List.mem_map.1 hy'
    exact e ▸ hm x hx
  constructor
  · refine List.findSome?_eq_none_iff.2 fun y hy => ?_
    rw [unbacked_of_mainMem (hp y hy)]
    rfl
  · obtain ⟨y, hy⟩ : ∃ y, y ∈ h.parts := by
      refine List.exists_mem_of_ne_nil _ fun e => hne ?_
      have hmap := h.parts_map_fst
      rw [e] at hmap
      exact List.map_eq_nil_iff.1 hmap.symm
    refine List.all_eq_false.2 ⟨y, hy, ?_⟩
    rw [scratch_of_mainMem (hp y hy)]
    decide

/-! ### HELD_ACCESS_PERFORM -/

/-- A core's held access whose gather is confirmed and released, out of a thermal trip. -/
def State.HeldReady (s : State) (c : Nat) (h : HeldAcc) : Prop :=
  (s.core c).hacc = some h ∧ h.phase = .checked ∧ (s.core c).rel = [] ∧ s.power.trip = false

theorem exec_heldAccessPerform (c : Nat) (ch : Chance) (s : State) :
    exec (.heldAccessPerform c ch) s = execHeldAccessPerform c ch s := rfl

section

variable {s : State} {c : Nat} {h : HeldAcc} (hr : s.HeldReady c h) (ch : Chance)

include hr

theorem perform_load {sg : Bool} (hk : h.kind = .load sg) : exec (.heldAccessPerform c ch) s = .next (s.heldLoad c h ch.word) := by
  obtain ⟨hacc, hphase, hrel, htrip⟩ := hr
  simp [exec_heldAccessPerform, execHeldAccessPerform, hacc, hphase, hrel, htrip, hk]

theorem perform_store (hk : h.kind = .store) : exec (.heldAccessPerform c ch) s = .next (s.heldStore c h) := by
  obtain ⟨hacc, hphase, hrel, htrip⟩ := hr
  simp [exec_heldAccessPerform, execHeldAccessPerform, hacc, hphase, hrel, htrip, hk]

theorem perform_maintain (hk : h.kind = .dcf ∨ h.kind = .dcfi ∨ h.kind = .dzl) :
    exec (.heldAccessPerform c ch) s = .next (s.heldMaintain c h) := by
  obtain ⟨hacc, hphase, hrel, htrip⟩ := hr
  rcases hk with hk | hk | hk <;> simp [exec_heldAccessPerform, execHeldAccessPerform, hacc, hphase, hrel, htrip, hk]

theorem perform_atom {cmp : Nat} (hk : h.kind = .swap ∨ h.kind = .fadd ∨ h.kind = .cas cmp) :
    exec (.heldAccessPerform c ch) s = .next (s.heldAtom c h ch) := by
  obtain ⟨hacc, hphase, hrel, htrip⟩ := hr
  rcases hk with hk | hk | hk <;> simp [exec_heldAccessPerform, execHeldAccessPerform, hacc, hphase, hrel, htrip, hk]

/-- A load or a store of main memory goes to the home agent. -/
theorem perform_at_home {sg : Bool} (hk : h.kind = .load sg ∨ h.kind = .store) (hc : ctlModule h.pa = none) (hne : h.halves ≠ [])
    (hm : ∀ x ∈ h.halves, s.mainMem x.1 = true) :
    exec (.heldAccessPerform c ch) s = .next (s.setHeld c { h with phase := .atHome }) := by
  obtain ⟨hu, hs⟩ := State.parts_of_mainMem hne hm
  rcases hk with hk | hk
  · rw [perform_load hr ch hk]
    simp [State.heldLoad, hc, hu, hs]
  · rw [perform_store hr ch hk]
    simp [State.heldStore, hc, hu, hs]

/-- An atomic of a core whose fold cache is DISABLED: the home agent performs it on the line's current value. -/
theorem perform_atom_at_home {cmp : Nat} (hk : h.kind = .swap ∨ h.kind = .fadd ∨ h.kind = .cas cmp)
    (hm : s.mainMem h.pa = true) (hf : s.fcState (foldOf c) = 0) :
    exec (.heldAccessPerform c ch) s = .next (s.atomHome c h) := by
  have hdrain : s.drainAhead (foldOf c) (h.pa / 64) = s := if_neg (by rw [hf]; decide)
  rw [perform_atom hr ch hk]
  simp [State.heldAtom, State.scratch_of_mainMem hm, State.unbacked_of_mainMem hm, hf, hdrain]

theorem perform_maintain_main {t : State} (hk : h.kind = .dcf ∧ t = s.cleanAll (h.pa / 64) ∨ h.kind = .dcfi ∧ t = s.invalidateAll (h.pa / 64))
    (hm : s.mainMem h.pa = true) (hc : ctlModule h.pa = none) :
    exec (.heldAccessPerform c ch) s = .next (t.heldEnd c h none) := by
  rcases hk with ⟨hk, rfl⟩ | ⟨hk, rfl⟩
  · rw [perform_maintain hr ch (.inl hk)]
    simp [State.heldMaintain, State.scratch_of_mainMem hm, State.unbacked_of_mainMem hm, hc, hk]
  · rw [perform_maintain hr ch (.inr (.inl hk))]
    simp [State.heldMaintain, State.scratch_of_mainMem hm, State.unbacked_of_mainMem hm, hc, hk]

theorem perform_load_unbacked {sg : Bool} {wh : Nat} {x : Nat × Nat} (hk : h.kind = .load sg) (hc : ctlModule h.pa = none)
    (hx : h.halves = [x]) (hu : s.unbacked x.1 = some wh) :
    exec (.heldAccessPerform c ch) s = .next (s.heldDone c h 0 (some (mcheckOf 1 wh x.1))) := by
  rw [perform_load hr ch hk]
  simp [State.heldLoad, hc, State.heldUnbacked, HeldAcc.parts_of_single hx, hu]

end

/-! ### The home agent -/

/-- UNCACHED_LOAD of one part in a line of this module with a dirty copy that is not poisoned. -/
theorem uncachedLoad_of_dirtyCopy {s : State} {c pa len : Nat} {h : HeldAcc} {d : BitVec 512} (pe : PieceErr)
    (hacc : (s.core c).hacc = some h) (hphase : h.phase = .atHome) (hpart : h.halves = [(pa, len)])
    (hhome : lineHome (pa / 64) = s.ownModule) (hleft : h.left = []) (hk : h.kind = .load false) (hm : h.mcheck = none)
    (hd : s.dirtyCopy (pa / 64) = some (d, false)) :
    exec (.uncachedLoad c pe) s = .next (s.modCore c fun k =>
      { k with hacc := some { h with phase := .done, value := h.value + ofBytes (lineBytes d (pa % 64) len) } }) := by
  change execUncachedLoad c pe s = _
  obtain ⟨kind, num, slot, va, hpa, halves, size, data, isF, dest, phase, left, value, mcheck, pl⟩ := h
  dsimp only at hphase hleft hk hm
  subst hphase hleft hk hm
  simp [execUncachedLoad, hacc, HeldAcc.parts_of_single hpart, hhome, hd, State.cohLine, HeldAcc.loaded]

/-- UNCACHED_STORE of one part in a line of this module. -/
theorem uncachedStore_of_home {s : State} {c pa len : Nat} {h : HeldAcc} (hacc : (s.core c).hacc = some h)
    (hphase : h.phase = .atHome) (hpart : h.halves = [(pa, len)]) (hhome : lineHome (pa / 64) = s.ownModule) (hleft : h.left = [])
    (hk : h.kind = .store) : exec (.uncachedStore c) s =
      .next ((s.cohWrite pa (toBytes len h.data)).modCore c fun k => { k with hacc := some { h with phase := .answered } }) := by
  change execUncachedStore c s = _
  simp [execUncachedStore, hacc, hphase, hk, HeldAcc.parts_of_single hpart, hhome, hleft]

/-- HELD_ACCESS_RESPONSE of a value to the one flight of its core, on time. -/
theorem heldAccessResponse_of_flight {s : State} {c cycles : Nat} {h : HeldAcc} {f : Flight} (hacc : (s.core c).hacc = some h)
    (hphase : h.phase = .done) (hm : h.mcheck = none) (hv : h.kind.valued = true) (hfl : (s.core c).flights = [f]) (hh : f.held = true)
    (hn : f.num = h.num) (hs : f.slot = h.slot) (hdue : (s.core c).cyc ≤ f.due) (hfr : (s.core c).freeze = none) :
    exec (.heldAccessResponse c cycles) s = .next { s.setCore c { (s.core c) with
        hacc := some { h with phase := .answered }, flights := [{ f with ready := true, mcheck := none, writes := h.writes }] } with
      snapC := tins s.snapC (s.logical c) { (s.snap (s.logical c)) with hrec := h.record, hval := BitVec.ofNat 128 h.value } } := by
  change execHeldAccessResponse c cycles s = _
  have hlate : ¬ f.due < (s.core c).cyc := by omega
  simp [execHeldAccessResponse, hacc, hphase, hm, hv, hfl, hh, hn, hs, hlate, hfr, updFirst, State.snap]

/-! ### What an atomic writes -/

theorem HeldAcc.atomNew_swap {h : HeldAcc} (old : Nat) (hk : h.kind = .swap) : h.atomNew old = some h.data := by
  simp [atomNew, hk]

theorem HeldAcc.atomNew_fadd {h : HeldAcc} (old : Nat) (hk : h.kind = .fadd) :
    h.atomNew old = some ((old + h.data) % 2 ^ (8 * h.size)) := by
  simp [atomNew, hk]

theorem HeldAcc.atomNew_cas {h : HeldAcc} {cmp : Nat} (old : Nat) (hk : h.kind = .cas cmp) :
    h.atomNew old = if old = cmp then some h.data else none := by
  simp [atomNew, hk]

end Sys2Proof.Machine

open Sys2Proof Sys2Proof.Machine

/-- Settles O35: each kind at its target, then the home agent and the value's return. -/
theorem heldAccessesArePerformed : Obligations.HeldAccessesArePerformed := by
  unfold Obligations.HeldAccessesArePerformed
  refine ⟨?_, fun h old => ⟨h.atomNew_swap old, h.atomNew_fadd old, fun cmp hk => ?_⟩, ?_, ?_⟩
  · rintro s c f line ch h hacc hphase hrel htrip rfl rfl
    have hr : s.HeldReady c h := ⟨hacc, hphase, hrel, htrip⟩
    refine ⟨fun sg t v hk hc hread => ?_, fun hk hc => ?_, fun sg hk hc hne hm => perform_at_home hr ch hk hc hne hm,
      fun cmp d hk hm hf hd old hold => ?_, fun hk hm hc => perform_maintain_main hr ch (.inl ⟨hk, rfl⟩) hm hc,
      fun hk hm hc => perform_maintain_main hr ch (.inr ⟨hk, rfl⟩) hm hc,
      fun sg wh x hk hc hx hu => perform_load_unbacked hr ch hk hc hx hu⟩
    · rw [perform_load hr ch hk, State.heldLoad, if_pos hc, hread]
    · rw [perform_store hr ch hk, State.heldStore, if_pos hc]
    · subst hold
      rw [perform_atom_at_home hr ch hk hm hf, State.atomHome, hd]
      rfl
  · exact ⟨(h.atomNew_cas cmp hk).trans (if_pos rfl), fun hne => (h.atomNew_cas old hk).trans (if_neg hne)⟩
  · intro s c pa len pe h d hacc hphase hpart hhome hleft
    exact ⟨fun hk hm hd => uncachedLoad_of_dirtyCopy pe hacc hphase hpart hhome hleft hk hm hd,
      fun hk => uncachedStore_of_home hacc hphase hpart hhome hleft hk⟩
  · rintro s c cycles l h f x rfl rfl hacc hphase hm hv hfl hh hn hs hdue hfr
    exact ⟨_, heldAccessResponse_of_flight hacc hphase hm hv hfl hh hn hs hdue hfr, s.core_setCore_same c _,
      tget_tins_same _ _ _ _, rfl, rfl, rfl⟩

end

section
/-! The integer operations: the values of shifts and the flag and trap of an overflow, in the operations of bit vectors. -/

namespace Sys2Proof.Machine

/-! ### Shifts -/

theorem sshiftRight_of_le (a : Word) {n : Nat} (h : 64 ≤ n) : a.sshiftRight n = if a.msb then BitVec.allOnes 64 else 0 := by
  refine BitVec.eq_of_getElem_eq fun i hi => ?_
  rw [BitVec.getElem_sshiftRight, dif_neg (by omega)]
  cases a.msb
  · simp
  · exact (BitVec.getElem_allOnes i hi).symm

theorem sar64_eq (a b : Word) :
    sar64 a b = if 64 ≤ b.toNat then (if a.msb then BitVec.allOnes 64 else 0) else a.sshiftRight b.toNat := by
  unfold sar64
  split
  next h => rw [min_eq_right h, sshiftRight_of_le a le_rfl]
  next h => rw [min_eq_left (by omega)]

/-- The amount of an immediate shift is below 64. -/
theorem toNat_amount (sh : BitVec 6) : (BitVec.ofNat 64 sh.toNat).toNat = sh.toNat ∧ sh.toNat < 64 := by
  have h := sh.isLt
  exact ⟨Nat.mod_eq_of_lt (by omega), h⟩

theorem shl64_amount (a : Word) (sh : BitVec 6) : shl64 a (BitVec.ofNat 64 sh.toNat) = a <<< sh.toNat := by
  obtain ⟨e, h⟩ := toNat_amount sh
  rw [shl64, e, if_neg (by omega)]

theorem shr64_amount (a : Word) (sh : BitVec 6) : shr64 a (BitVec.ofNat 64 sh.toNat) = a >>> sh.toNat := by
  obtain ⟨e, h⟩ := toNat_amount sh
  rw [shr64, e, if_neg (by omega)]

theorem sar64_amount (a : Word) (sh : BitVec 6) : sar64 a (BitVec.ofNat 64 sh.toNat) = a.sshiftRight sh.toNat := by
  obtain ⟨e, h⟩ := toNat_amount sh
  rw [sar64_eq, e, if_neg (by omega)]

theorem ror64_amount (a : Word) (sh : BitVec 6) : ror64 a (BitVec.ofNat 64 sh.toNat) = a.rotateRight sh.toNat := by
  obtain ⟨e, h⟩ := toNat_amount sh
  rw [ror64, e, Nat.mod_eq_of_lt h]

/-! ### Overflow -/

theorem ivIf_eq (x : Int) : ivIf x = if -(2 ^ 63) ≤ x ∧ x ≤ 2 ^ 63 - 1 then 0 else 64 := by
  unfold ivIf flagIV
  split <;> split <;> omega

/-- An overflow traps with vector 0x07 where the mood asks for it (R122). -/
theorem intTrap_overflow (a : Arch) : intTrap a.mood 64 = if flag (a.cr 0) 19 then some ⟨7, 64⟩ else none := by
  unfold intTrap
  change (if false && _ then _ else if true && flag (a.cr 0) 19 then _ else _) = _
  simp [flagIV]

/-- The result of an operation that may overflow: an exact value that fits lands alone, another one with IV and its trap. -/
theorem ivres_eq (a : Arch) (rd : BitVec 6) (v : Word) (exact : Int) :
    ivres a rd v exact = if -(2 ^ 63) ≤ exact ∧ exact ≤ 2 ^ 63 - 1 then gres rd v
      else { writes := [⟨.g rd.toNat, v.setWidth 128⟩], flags := 64, trap := if flag (a.cr 0) 19 then some ⟨7, 64⟩ else none } := by
  rw [ivres, ivIf_eq]
  split
  · rfl
  · rw [intTrap_overflow]

end Sys2Proof.Machine

open Sys2Proof Sys2Proof.Machine

/-- Settles O9: each operation lands its function of the registers; overflow and the shift with the sign by their lemmas. -/
theorem integerAluResults : Obligations.IntegerAluResults := by
  unfold Obligations.IntegerAluResults
  rintro s x rd ra rb a b rfl rfl
  have hneg (v : Word) : -v = 0 - v := (BitVec.zero_sub v).symm
  exact ⟨issues_of _ rfl rfl, issues_of _ rfl rfl, issues_of _ rfl (ivres_eq _ _ _ _), issues_of _ rfl (ivres_eq _ _ _ _),
    issues_of _ rfl rfl, issues_of _ rfl rfl, issues_of _ rfl rfl, issues_of _ rfl rfl, issues_of _ rfl rfl, issues_of _ rfl rfl,
    issues_of _ rfl (congrArg _ (sar64_eq _ _)), issues_of _ rfl rfl, issues_of _ rfl rfl, issues_of _ rfl rfl, issues_of _ rfl rfl,
    issues_of _ rfl rfl, issues_of _ rfl (congrArg _ (hneg _)), issues_of _ rfl ((ivres_eq _ _ _ _).trans (by rw [hneg])),
    issues_of _ rfl rfl, issues_of _ rfl rfl, issues_of _ rfl rfl, issues_of _ rfl rfl⟩

/-- Settles O11: an immediate's amount is below 64, and the rest is what each operation lands. -/
theorem integerImmediateResults : Obligations.IntegerImmediateResults := by
  unfold Obligations.IntegerImmediateResults
  rintro s x rd ra i12 i10 sh hw i16 a rfl
  exact ⟨issues_of _ rfl rfl, issues_of _ rfl rfl, issues_of _ rfl rfl, issues_of _ rfl rfl,
    issues_of _ rfl (congrArg _ (shl64_amount _ _)), issues_of _ rfl (congrArg _ (shr64_amount _ _)),
    issues_of _ rfl (congrArg _ (sar64_amount _ _)), issues_of _ rfl (congrArg _ (ror64_amount _ _)),
    issues_of _ rfl rfl, issues_of _ rfl rfl, issues_of _ rfl rfl⟩

/-- Settles O12: each operation lands its relation of the registers; an equality of words decides as the words do. -/
theorem compareAndPredicateResults : Obligations.CompareAndPredicateResults := by
  unfold Obligations.CompareAndPredicateResults
  rintro s x pd pa pb ra rb imm a b c p q rfl rfl rfl rfl rfl
  have hne (v w : Word) : (v != w) = decide (v ≠ w) := decide_not.symm
  exact ⟨issues_of _ rfl rfl, issues_of _ rfl (congrArg _ (hne _ _)), issues_of _ rfl rfl, issues_of _ rfl rfl, issues_of _ rfl rfl,
    issues_of _ rfl rfl, issues_of _ rfl (congrArg _ (hne _ _)), issues_of _ rfl rfl, issues_of _ rfl rfl, issues_of _ rfl rfl,
    issues_of _ rfl rfl, issues_of _ rfl rfl, issues_of _ rfl (congrArg _ (hne _ _)), issues_of _ rfl rfl, issues_of _ rfl rfl,
    issues_of _ rfl rfl, issues_of _ rfl rfl, issues_of _ rfl rfl, issues_of _ rfl rfl⟩

/-- Settles O13: each operation lands what the division sequence or the product gives; the flag of MULV by its lemma. -/
theorem multiplyAndDivisionStepResults : Obligations.MultiplyAndDivisionStepResults := by
  unfold Obligations.MultiplyAndDivisionStepResults
  rintro s x rd ra rb gq gr gd a b q r d m qs rs rfl rfl rfl rfl rfl rfl rfl rfl
  exact ⟨issues_of _ rfl rfl, issues_of _ rfl rfl, issues_of _ rfl rfl, issues_of _ rfl (by rw [ivres, ivIf_eq]), issues_of _ rfl rfl,
    issues_of _ rfl rfl, issues_of _ rfl rfl, issues_of _ rfl rfl, issues_of _ rfl rfl⟩

end

section
/-! Fields of a register, bit by bit: what a field reads after it is written, and the bits a write leaves. -/

namespace Sys2Proof.Machine

theorem testBit_bits (v hi lo j : Nat) : (bits v hi lo).testBit j = (decide (j < hi + 1 - lo) && v.testBit (lo + j)) := by
  rw [bits, Nat.testBit_mod_two_pow, Nat.testBit_shiftRight]

/-- A number with a field replaced has the field's new bits there and its old ones elsewhere. -/
theorem testBit_putBits (v hi lo x j : Nat) (h : lo ≤ hi) :
    (putBits v hi lo x).testBit j = if lo ≤ j ∧ j ≤ hi then x.testBit (j - lo) else v.testBit j := by
  obtain ⟨n, rfl⟩ : ∃ n, hi = lo + n := ⟨hi - lo, by omega⟩
  have hlow : v % 2 ^ lo < 2 ^ lo := Nat.mod_lt _ (Nat.two_pow_pos _)
  have hx : x % 2 ^ (n + 1) < 2 ^ (n + 1) := Nat.mod_lt _ (Nat.two_pow_pos _)
  have hparts : v = 2 ^ lo * (2 ^ (n + 1) * (v / 2 ^ lo / 2 ^ (n + 1)) + v / 2 ^ lo % 2 ^ (n + 1)) + v % 2 ^ lo := by
    rw [Nat.div_add_mod, Nat.div_add_mod]
  have hput : putBits v (lo + n) lo x = 2 ^ lo * (2 ^ (n + 1) * (v / 2 ^ lo / 2 ^ (n + 1)) + x % 2 ^ (n + 1)) + v % 2 ^ lo := by
    rw [putBits, bits, Nat.shiftRight_eq_div_pow, show lo + n + 1 - lo = n + 1 by omega, Nat.mul_comm _ (2 ^ lo), Nat.mul_comm _ (2 ^ lo)]
    nth_rw 1 [hparts]
    rw [Nat.mul_add, Nat.mul_add]
    omega
  rw [hput, Nat.testBit_two_pow_mul_add _ hlow, Nat.testBit_two_pow_mul_add _ hx, Nat.testBit_mod_two_pow, Nat.testBit_mod_two_pow]
  rcases lt_or_ge j lo with hj | hj
  · rw [if_pos hj, if_neg (by omega), decide_eq_true hj, Bool.true_and]
  rcases lt_or_ge (j - lo) (n + 1) with hn | hn
  · rw [if_neg (by omega), if_pos hn, if_pos (by omega), decide_eq_true hn, Bool.true_and]
  · rw [if_neg (by omega), if_neg (by omega), if_neg (by omega), Nat.testBit_div_two_pow, Nat.testBit_div_two_pow]
    congr 1
    omega

theorem flag_eq_getLsbD (v : Word) (j : Nat) : flag v j = v.getLsbD j := rfl

/-- A register with a field replaced has the field's new bits there and its old ones elsewhere. -/
theorem flag_setFld (v : Word) (hi lo x j : Nat) (h : lo ≤ hi) (hj : j < 64) :
    flag (setFld v hi lo x) j = if lo ≤ j ∧ j ≤ hi then x.testBit (j - lo) else flag v j := by
  rw [flag, setFld, BitVec.toNat_ofNat, Nat.testBit_mod_two_pow, decide_eq_true hj, Bool.true_and, testBit_putBits _ _ _ _ _ h, flag]

/-- A field is what its bits say. -/
theorem fld_eq_of_flag {v : Word} {hi lo x : Nat} (hx : x < 2 ^ (hi + 1 - lo)) (h : ∀ j, j < hi + 1 - lo → flag v (lo + j) = x.testBit j) :
    fld v hi lo = x := by
  refine Nat.eq_of_testBit_eq fun j => ?_
  rw [fld, testBit_bits]
  by_cases hj : j < hi + 1 - lo
  · rw [decide_eq_true hj, Bool.true_and]
    exact h j hj
  · rw [decide_eq_false hj, Bool.false_and]
    exact (Nat.testBit_lt_two_pow (hx.trans_le (Nat.pow_le_pow_right Nat.two_pos (by omega)))).symm

theorem fld_setFld_same (v : Word) (hi lo x : Nat) (h : lo ≤ hi) (hw : hi < 64) (hx : x < 2 ^ (hi + 1 - lo)) :
    fld (setFld v hi lo x) hi lo = x := by
  refine fld_eq_of_flag hx fun j hj => ?_
  rw [flag_setFld _ _ _ _ _ h (by omega), if_pos (by omega), Nat.add_sub_cancel_left]

end Sys2Proof.Machine
end

section
/-! The registers of a core: what a register reads once one is written. -/

namespace Sys2Proof.Machine

theorem Arch.rf_write_ne (a : Arch) (n m : Nat) (v : Wide) (h : m ≠ n) : (a.write ⟨.f n, v⟩).rf m = a.rf m :=
  tget_tins_ne _ _ _ _ _ h

theorem testBit_bnat (b : Bool) : (bnat b).testBit 0 = b := by
  cases b <;> rfl

theorem Arch.rp_write (a : Arch) {n : Nat} (m : Nat) (v : Wide) (hn : n ≠ 0) :
    (a.write ⟨.p n, v⟩).rp m = if m = n then v != 0 else a.rp m := by
  have hw : a.write ⟨.p n, v⟩ = { a with p := putBits a.p n n (bnat (v != 0)) } := if_neg hn
  simp only [hw, rp, testBit_putBits _ _ _ _ _ le_rfl]
  by_cases hm : m = n
  · subst hm
    rw [if_pos ⟨le_rfl, le_rfl⟩, if_pos rfl, decide_eq_false hn, Nat.sub_self, testBit_bnat, Bool.false_or]
  · rw [if_neg (by omega), if_neg hm]

theorem Arch.rp_write_ne (a : Arch) (n m : Nat) (v : Wide) (h : m ≠ n) : (a.write ⟨.p n, v⟩).rp m = a.rp m := by
  by_cases hn : n = 0
  · rw [hn, a.write_p0]
  · rw [a.rp_write m v hn, if_neg h]

theorem Arch.rt_write_same (a : Arch) (n : Nat) (v : Wide) : (a.write ⟨.tally n, v⟩).rt n = v.setWidth 64 := by
  simp [write, rt]

theorem Arch.rt_write_ne (a : Arch) (n m : Nat) (v : Wide) (h : m ≠ n) : (a.write ⟨.tally n, v⟩).rt m = a.rt m := by
  simp [write, rt, tfind_tins_ne _ _ _ _ h]

theorem Arch.write_g_frame (a : Arch) (n : Nat) (v : Wide) : { a.write ⟨.g n, v⟩ with g := a.g } = a := by
  simp only [write]
  split <;> rfl

theorem Arch.write_p_frame (a : Arch) (n : Nat) (v : Wide) : { a.write ⟨.p n, v⟩ with p := a.p } = a := by
  simp only [write]
  split <;> rfl

/-- Sticky flags are an update of ASTAT; no flags leave it as it is. -/
theorem Arch.addFlags_spec (a : Arch) (fl : Nat) : (a.addFlags fl).cr 1 = a.cr 1 ||| BitVec.ofNat 64 (fl % 128) ∧
    (∀ m, m ≠ 1 → (a.addFlags fl).cr m = a.cr m) ∧ { a.addFlags fl with creg := a.creg } = a := by
  unfold addFlags
  split
  next h => exact ⟨by rw [h]; simp, fun _ _ => rfl, rfl⟩
  next h => exact ⟨a.cr_setCr_same _ _, fun m hm => a.cr_setCr_ne _ _ _ hm, rfl⟩

end Sys2Proof.Machine

open Sys2Proof Sys2Proof.Machine

/-- Settles O30, register file by register file. -/
theorem registersReadWhatLands : Obligations.RegistersReadWhatLands := by
  unfold Obligations.RegistersReadWhatLands
  intro a v
  refine ⟨⟨a.rg_zero, a.rp_zero, a.write_g0 v, a.write_p0 v⟩, fun k => ⟨?_, ?_, a.write_g_frame k v⟩, fun k => ⟨?_, ?_, rfl⟩,
    fun k => ⟨fun hk => ?_, ?_, a.write_p_frame k v⟩, fun l => ⟨?_, ?_, rfl⟩, fun k => ⟨?_, ?_, rfl⟩, a.addFlags_spec⟩
  · exact a.rg_write_same k v
  · exact fun m => a.rg_write_ne k m v
  · exact a.rf_write_same k v
  · exact fun m => a.rf_write_ne k m v
  · rw [a.rp_write k v hk, if_pos rfl]
  · exact fun m => a.rp_write_ne k m v
  · exact a.cr_setCr_same _ _
  · exact fun m => a.cr_setCr_ne _ _ _
  · exact a.rt_write_same k v
  · exact fun m => a.rt_write_ne k m v

end

section
/-! An exception's entry: the registers it writes, its frame and its cause. -/

namespace Sys2Proof.Machine

/-! ### The registers -/

/-- MOOD of an entry: the level in PL, EE cleared, the rest as it was. -/
theorem flag_mood_enter (v : Word) (lvl j : Nat) (hj : j < 64) :
    flag (setFlag (setFld v 23 22 lvl) 21 false) j =
      if j = 21 then false else if 22 ≤ j ∧ j ≤ 23 then lvl.testBit (j - 22) else flag v j := by
  rw [flag_setFlag _ _ _ _ hj, flag_setFld _ _ _ _ _ (by decide) hj]

theorem fld_mood_enter (v : Word) {lvl : Nat} (h : lvl ≤ 2) : fld (setFlag (setFld v 23 22 lvl) 21 false) 23 22 = lvl := by
  refine fld_eq_of_flag (by omega) fun j hj => ?_
  rw [flag_mood_enter _ _ _ (by omega), if_neg (by omega), if_pos (by omega), Nat.add_sub_cancel_left]

theorem Arch.cr_setCr (a : Arch) (k l : Nat) (v : Word) : (a.setCr k v).cr l = if l = k then v else a.cr l := by
  split
  next h => rw [h, a.cr_setCr_same]
  next h => exact a.cr_setCr_ne k l v h

theorem Arch.cr_of_creg_eq {a b : Arch} (h : a.creg = b.creg) (k : Nat) : a.cr k = b.cr k := by
  rw [cr, cr, h]

/-- The control registers after an entry: five are written, and the rest are as they were (R61). -/
theorem Arch.cr_enter (a : Arch) (lvl vector : Nat) (xc xi : Word) (k : Nat) : (a.enter lvl vector xc xi).cr k =
    if k = bankKey lvl 5 then xi else if k = bankKey lvl 4 then xc else if k = bankKey lvl 3 then BitVec.ofNat 64 (a.pc / 16 * 16)
    else if k = 0 then setFlag (setFld (a.cr 0) 23 22 lvl) 21 false else if k = spKey lvl then a.cr (spKey lvl) - 64 else a.cr k := by
  have hsp : (0 : Nat) ≠ spKey lvl := by unfold spKey; omega
  have hw : (a.enter lvl vector xc xi).creg = (((((a.setCr (spKey lvl) (a.cr (spKey lvl) - 64)).setCr 0
      (setFlag (setFld ((a.setCr (spKey lvl) (a.cr (spKey lvl) - 64)).cr 0) 23 22 lvl) 21 false)).setCr (bankKey lvl 3)
      (BitVec.ofNat 64 (a.pc / 16 * 16))).setCr (bankKey lvl 4) xc).setCr (bankKey lvl 5) xi).creg := by
    unfold enter
    rfl
  rw [cr_of_creg_eq hw]
  simp only [cr_setCr, if_neg hsp]

theorem Arch.pc_enter (a : Arch) (lvl vector : Nat) (xc xi : Word) :
    (a.enter lvl vector xc xi).pc = ((a.cr (bankKey lvl 2)).toNat + 64 * vector) % 2 ^ 64 := by
  have hne : ∀ m, m = 3 ∨ m = 4 ∨ m = 5 → bankKey lvl 2 ≠ bankKey lvl m := by unfold bankKey; omega
  have hsp : bankKey lvl 2 ≠ spKey lvl := by unfold bankKey spKey; omega
  have h0 : bankKey lvl 2 ≠ 0 := by unfold bankKey; omega
  unfold enter
  simp only [cr_setCr, if_neg (hne 3 (by decide)), if_neg (hne 4 (by decide)), if_neg (hne 5 (by decide)), if_neg h0, if_neg hsp]

/-- What an entry leaves of the other registers, and the repeat and delay states it clears. -/
theorem Arch.enter_frame (a : Arch) (lvl vector : Nat) (xc xi : Word) {t : Arch} (h : t = a.enter lvl vector xc xi) :
    (t.rcount = 0 ∧ t.rn = false ∧ t.dv = false ∧ t.dpc = 0) ∧ t.g = a.g ∧ t.f = a.f ∧ t.p = a.p ∧ t.tally = a.tally := by
  subst h
  unfold enter
  exact ⟨⟨rfl, rfl, rfl, rfl⟩, rfl, rfl, rfl, rfl⟩

/-! ### The frame -/

/-- The predicates of a frame: p0 is 1 and the others are as they read. -/
theorem testBit_predicates (p j : Nat) (hj : j < 8) : ((p / 2 * 2 + 1) % 256).testBit j = (decide (j = 0) || p.testBit j) := by
  rw [show 256 = 2 ^ 8 from rfl, Nat.testBit_mod_two_pow, decide_eq_true hj, Bool.true_and]
  cases j with
  | zero => rw [Nat.testBit_zero]; simp
  | succ i => rw [Nat.testBit_succ, show (p / 2 * 2 + 1) / 2 = p / 2 by omega, Nat.testBit_succ]; simp

/-- The packed word of a frame: RCOUNT, the predicates, zeros, the hold of a repeat, and DV (R62). -/
theorem testBit_packed (dv hold : Bool) (p n j : Nat) (hn : n < 2 ^ 16) (hj : j < 64) :
    (bnat dv * 2 ^ 63 + bnat hold * 2 ^ 62 + (p / 2 * 2 + 1) % 256 * 2 ^ 16 + n % 2 ^ 16).testBit j =
      if j < 16 then n.testBit j else if j < 24 then (decide (j = 16) || p.testBit (j - 16)) else if j < 62 then false
      else if j = 62 then hold else dv := by
  have hq : (p / 2 * 2 + 1) % 256 < 2 ^ 46 := by omega
  have hw : bnat dv * 2 ^ 63 + bnat hold * 2 ^ 62 + (p / 2 * 2 + 1) % 256 * 2 ^ 16 + n % 2 ^ 16 =
      2 ^ 16 * (2 ^ 46 * (2 * bnat dv + bnat hold) + (p / 2 * 2 + 1) % 256) + n := by omega
  rw [hw, Nat.testBit_two_pow_mul_add _ hn, Nat.testBit_two_pow_mul_add _ hq]
  rcases lt_or_ge j 16 with h16 | h16
  · rw [if_pos h16, if_pos h16]
  rw [if_neg h16.not_gt, if_neg h16.not_gt]
  rcases lt_or_ge j 24 with h24 | h24
  · rw [if_pos (by omega), if_pos h24, testBit_predicates _ _ (by omega)]
    congr 2
    exact propext (by omega)
  rw [if_neg h24.not_gt]
  rcases lt_or_ge j 62 with h62 | h62
  · rw [if_pos (by omega), if_pos h62]
    exact Nat.testBit_lt_two_pow (lt_of_lt_of_le (Nat.mod_lt _ (by decide)) (Nat.pow_le_pow_right (i := 8) Nat.two_pos (by omega)))
  rw [if_neg (by omega), if_neg h62.not_gt]
  obtain rfl | rfl : j = 62 ∨ j = 63 := by omega
  · cases dv <;> cases hold <;> rfl
  · cases dv <;> cases hold <;> rfl

theorem flag_ofNat (n : Nat) {j : Nat} (hj : j < 64) : flag (BitVec.ofNat 64 n) j = n.testBit j := by
  rw [flag, BitVec.toNat_ofNat, Nat.testBit_mod_two_pow, decide_eq_true hj, Bool.true_and]

/-- The frame of an entry, and the fields of its packed word (R62). -/
theorem Arch.frame_spec (a : Arch) (xc xi : Word) :
    ∃ w, a.frame xc xi = [BitVec.ofNat 64 a.pc, BitVec.ofNat 64 (if a.dv then a.dpc else 0), a.cr 0, a.cr 1, w, xc, xi, a.cr (spKey a.pl)] ∧
      (a.rcount < 2 ^ 16 → fld w 15 0 = a.rcount ∧ flag w 16 = true ∧ (∀ i, 1 ≤ i → i ≤ 7 → flag w (16 + i) = a.p.testBit i) ∧
        fld w 61 24 = 0 ∧ flag w 62 = (a.rn && decide (a.rcount ≠ 0)) ∧ flag w 63 = a.dv) := by
  refine ⟨_, rfl, fun hn => ?_⟩
  have hw {j : Nat} (hj : j < 64) := (flag_ofNat _ hj).trans (testBit_packed a.dv (a.rn && decide (a.rcount ≠ 0)) a.p a.rcount j hn hj)
  refine ⟨fld_eq_of_flag hn fun j hj => ?_, hw (by decide), fun i h1 h7 => ?_, fld_eq_of_flag (by decide) fun j hj => ?_,
    hw (by decide), hw (by decide)⟩
  · rw [hw (by omega), if_pos (by omega), Nat.zero_add]
  · rw [hw (by omega), if_neg (by omega), if_pos (by omega), decide_eq_false (by omega), Bool.false_or, Nat.add_sub_cancel_left]
  · rw [hw (by omega), if_neg (by omega), if_neg (by omega), if_pos (by omega), Nat.zero_testBit]

/-! ### The cause -/

theorem bnat_le_one (b : Bool) : bnat b ≤ 1 := by
  cases b <;> decide

theorem decide_bnat (b : Bool) : decide (bnat b = 1) = b := by
  cases b <;> rfl

/-- XCAUSE of an exception, field by field (R63). -/
theorem xcauseOf_spec (e : Exc) (nest multi cpend : Bool) (hv : e.vector < 2 ^ 8) (hd : e.detail < 2 ^ 32) :
    fld (xcauseOf e nest multi cpend) 7 0 = e.vector ∧ fld (xcauseOf e nest multi cpend) 12 8 = 0 ∧
      flag (xcauseOf e nest multi cpend) 13 = cpend ∧ flag (xcauseOf e nest multi cpend) 14 = multi ∧
      flag (xcauseOf e nest multi cpend) 15 = nest ∧ fld (xcauseOf e nest multi cpend) 31 16 = 0 ∧
      fld (xcauseOf e nest multi cpend) 63 32 = e.detail := by
  have h1 := bnat_le_one nest
  have h2 := bnat_le_one multi
  have h3 := bnat_le_one cpend
  have hx : (xcauseOf e nest multi cpend).toNat =
      e.detail * 2 ^ 32 + bnat nest * 2 ^ 15 + bnat multi * 2 ^ 14 + bnat cpend * 2 ^ 13 + e.vector := by
    rw [xcauseOf, BitVec.toNat_ofNat, Nat.mod_eq_of_lt hd]
    exact Nat.mod_eq_of_lt (by omega)
  simp only [fld, bits, flag, hx, Nat.shiftRight_eq_div_pow, Nat.testBit_eq_decide_div_mod_eq]
  refine ⟨by omega, by omega, ?_, ?_, ?_, by omega, by omega⟩
  · exact (decide_eq_decide.2 (by omega)).trans (decide_bnat cpend)
  · exact (decide_eq_decide.2 (by omega)).trans (decide_bnat multi)
  · exact (decide_eq_decide.2 (by omega)).trans (decide_bnat nest)

/-- The level a vector is taken at (R58). -/
theorem takenAt_spec (v ev pl : Nat) : pl ≤ takenAt v ev pl ∧ (v = 4 ∨ v = 0x0B ∨ v = 0x1F → takenAt v ev pl = max pl 2) ∧
    (v = 0x10 → takenAt v ev pl = max pl ev) ∧ (v ≠ 4 → v ≠ 0x0B → v ≠ 0x1F → v ≠ 0x10 → takenAt v ev pl = max pl 1) := by
  refine ⟨le_max_left _ _, ?_, ?_, fun h1 h2 h3 h4 => ?_⟩
  · rintro (rfl | rfl | rfl) <;> rfl
  · rintro rfl
    rfl
  · unfold takenAt
    split
    · contradiction
    · contradiction
    · contradiction
    · contradiction
    · rfl

end Sys2Proof.Machine

open Sys2Proof Sys2Proof.Machine

/-- Settles O32: the five control registers an entry writes, its frame, its cause and its level, each by its lemma. -/
theorem exceptionEntryRegisters : Obligations.ExceptionEntryRegisters := by
  unfold Obligations.ExceptionEntryRegisters
  intro a lvl vector xc xi _ hhi
  have hbank (n : Nat) : 64 * (lvl + 1) + n = bankKey lvl n := by rw [bankKey, Nat.mul_comm]
  have hne {m n : Nat} (h : m ≠ n) : bankKey lvl m ≠ bankKey lvl n := fun e => h (Nat.add_left_cancel e)
  have h0 (n : Nat) : 0 ≠ bankKey lvl n := by unfold bankKey; omega
  have hsp : spKey lvl = bankKey lvl 0x0B := rfl
  simp only [hbank, hsp]
  obtain ⟨t, ht⟩ : ∃ t, t = a.enter lvl vector xc xi := ⟨_, rfl⟩
  have hcr := a.cr_enter lvl vector xc xi
  simp only [← ht, hsp] at hcr
  have hmood : t.cr 0 = setFlag (setFld (a.cr 0) 23 22 lvl) 21 false := by
    rw [hcr, if_neg (h0 5), if_neg (h0 4), if_neg (h0 3), if_pos rfl]
  obtain ⟨⟨hrcount, hrn, hdv, hdpc⟩, hg, hf, hp, htally⟩ := a.enter_frame lvl vector xc xi ht
  refine ⟨t, ht, ?_, ?_, ?_, fun i hi h64 => ?_, hrcount, hrn, hdv, hdpc, ?_, ?_, ?_, ht ▸ a.pc_enter lvl vector xc xi,
    fun k hk0 hksp hk3 hk4 hk5 => ?_, hg, hf, hp, htally, a.frame_spec xc xi, xcauseOf_spec, takenAt_spec⟩
  · rw [hcr, if_neg (hne (by decide)), if_neg (hne (by decide)), if_neg (hne (by decide)), if_neg (h0 _).symm, if_pos rfl]
  · rw [Arch.pl, hmood, fld_mood_enter _ hhi]
  · rw [hmood, flag_mood_enter _ _ _ (by decide), if_pos rfl]
  · rw [hmood, ← flag_eq_getLsbD, flag_mood_enter _ _ _ h64, if_neg (by omega), if_neg (by omega), flag_eq_getLsbD]
  · rw [hcr, if_neg (hne (by decide)), if_neg (hne (by decide)), if_pos rfl]
  · rw [hcr, if_neg (hne (by decide)), if_pos rfl]
  · rw [hcr, if_pos rfl]
  · rw [hcr, if_neg hk5, if_neg hk4, if_neg hk3, if_neg hk0, if_neg hksp]

end

section
/-! Operations that are off, the frame of those that issue, and what the system operations, branches, calls and RET note in their bundle. -/

namespace Sys2Proof.Machine

/-! ### The shape of an operation command -/

/-- Every operation command either lands a result of its core's registers or acts on the state when it is on. -/
theorem exec_of_placeOf {i : Instr} {x : Slot} (s : State) (h : placeOf i = some x) :
    (∃ lat f, exec i s = .next (opReg x (encode i) lat f s)) ∨ ∃ f, exec i s = .next (opAct x (encode i) f s) := by
  cases i with
  | nop | trd | twait | add | sub | addv | subv | and | or | xor | andn | shl | shr | sar | ror | min | max | minu | maxu
  | neg | negv | clz | ctz | popc | bswap | addi | andi | ori | xori | shli | shri | sari | rori | movz | movk | spadd | cmpEq
  | cmpNe | cmpLt | cmpLe | cmpLtu | cmpLeu | tst | pand | por | pxor | pandn | cmpiEq | cmpiNe | cmpiLt | cmpiLe | cmpiGt
  | cmpiGe | cmpiLtu | cmpiGeu | mul | mulh | mulhu | mulv | divsP | divuP | dstep | dfin | dnorm | fadd | fsub | fmul | fmin
  | fmax | fabs | fneg | fcps | fcvt | dqua | frint | fma | fms | fnma | fnms | fmvg | fmvgh | gmvf | gmvfh | fcvtG | fcvtzG
  | fcvtF | fcvtuF | fcmpEq | fcmpLt | fcmpLe | fcmpUn | fcmpLtq | fcmpLeq | fcmpEqs | fdivP | fdstep | fdfin | fsqrtP
  | frstep | frfin | xdivP | xdstep | xdfin =>
    obtain rfl := Option.some.inj h
    exact .inl ⟨_, _, rfl⟩
  | syscall | mgrcall | iret | fenceS | fenceF | gath | wfe | crd | cwr | cctlWrite | repi | repn | bt | bf | call | bri
  | calli | ret | ld | lds | st | ldf | stf | swap | atomicFadd | cas | strel | dci | ici | dcf | dcfi | dzl | dcia | icia
  | submit | tlfl | tlin | tllg =>
    obtain rfl := Option.some.inj h
    exact .inr ⟨_, rfl⟩
  | _ => cases h

/-- Off, an operation only passes its slot (R33). -/
theorem exec_skips {i : Instr} {x : Slot} {s : State} (h : placeOf i = some x) (hs : s.skips x (encode i) = true) :
    exec i s = .next (s.modCore x.core Core.issued) := by
  obtain ⟨lat, f, e⟩ | ⟨f, e⟩ := exec_of_placeOf s h
  · rw [e, opReg_skip _ _ _ _ _ hs]
  · rw [e, opAct_skip _ _ _ _ hs]

/-- No operation guarded by p0 is off (R32). -/
theorem State.skips_p0 (s : State) (x : Slot) (w : OpWord) (h : x.guard = 0) : s.skips x w = false := by
  simp [State.skips, h]

/-- An issue changes its own core's record alone. -/
theorem State.core_issue_ne (s : State) (x : Slot) (w : OpWord) (lat : Nat) (r : OpRes) {n : Nat} (h : n ≠ x.core) :
    (s.issue x w lat r).core n = s.core n := s.core_modCore_ne _ _ _ h

theorem State.core_issue_same (s : State) (x : Slot) (w : OpWord) (lat : Nat) (r : OpRes) :
    (s.issue x w lat r).core x.core = (s.core x.core).issueRes x w lat r := s.core_modCore_same _ _

/-- A change of the core after an issue is one change of it. -/
theorem State.modCore_issue (s : State) (x : Slot) (w : OpWord) (lat : Nat) (r : OpRes) (f : Core → Core) :
    (s.issue x w lat r).modCore x.core f = s.modCore x.core fun c => f (c.issueRes x w lat r) := s.modCore_modCore _ _ _

/-- An issue adds its flight and passes its slot. -/
theorem Core.issueRes_eq {c : Core} {b : Bundle} (x : Slot) (w : OpWord) (lat : Nat) (r : OpRes) (h : c.bundle = some b) :
    c.issueRes x w lat r = { c with flights := c.flights ++ [c.flight x w lat r], bundle := some { b with next := b.next + 1 } } := by
  simp [Core.issueRes, Core.issued, Core.modBundle, Core.fly, h]

/-- The flight of an operation names its bundle. -/
theorem Core.flight_num {c : Core} {b : Bundle} (x : Slot) (w : OpWord) (lat : Nat) (r : OpRes) (h : c.bundle = some b) :
    (c.flight x w lat r).num = b.num := by
  simp [Core.flight, h]

/-! ### Notes in the bundle -/

/-- An operation that leaves a note issues without a result, and its bundle takes the note. -/
theorem State.noteOp_eq (s : State) (x : Slot) (w : OpWord) (f : Bundle → Bundle) :
    s.noteOp x w f = (s.issue x w 1 nores).modCore x.core fun c => c.modBundle f := by
  rw [s.modCore_issue]
  rfl

theorem exec_note {i : Instr} {s : State} (x : Slot) (f : Bundle → Bundle)
    (h : exec i s = .next (opAct x (encode i) (fun s => s.noteOp x (encode i) f) s)) (ht : s.takes x (encode i) = true) :
    exec i s = .next ((s.issue x (encode i) 1 nores).modCore x.core fun c => c.modBundle f) :=
  exec_takes x h ht (s.noteOp_eq _ _ _)

/-! ### Branch targets -/

/-- The target `disp` bundles from `a` (R85). -/
theorem relTarget_eq (a n : Nat) (disp : BitVec n) : relTarget a n disp = (a + 16 * (disp.signExtend 64).toNat) % 2 ^ 64 := by
  have h : (16 : Word).toNat = 16 := rfl
  simp only [relTarget, sext, BitVec.toNat_add, BitVec.toNat_mul, BitVec.toNat_ofNat, h]
  omega

/-- A branch that may be taken notes its target. -/
theorem State.branchOp_eq (s : State) (x : Slot) (w : OpWord) (taken : Bool) (t u : Nat) (h : t % 2 ^ 64 = u % 2 ^ 64) :
    s.branchOp x w taken t =
      (s.issue x w 1 nores).modCore x.core fun c => c.modBundle fun b => { b with branch := if taken then some (u % 2 ^ 64) else none } := by
  unfold State.branchOp
  rw [h, State.noteOp_eq]

/-! ### CALL and RET -/

section
variable {s : State} {x : Slot} {w : OpWord} {t u va : Nat} {a : Arch}

/-- A call whose push fails the stack bound faults (R87). -/
theorem State.callOp_fault (ha : a = (s.core x.core).arch) (hv : va = (a.cr (spKey a.pl) - 8).toNat) (h : a.stackOk a.pl va 8 = false) :
    s.callOp x w t = s.opFault x.core (stackExc va) false := by
  subst ha hv
  unfold State.callOp
  exact if_pos (by rw [h]; rfl)

/-- A call whose return address finds room in the store path lands sp and notes its branch (R48, R86). -/
theorem State.callOp_path {hs : List Half} {tlb : List TlbE} {hur : List HurdleE} {k : Core}
    (ha : a = (s.core x.core).arch) (hv : va = (a.cr (spKey a.pl) - 8).toNat) (hok : a.stackOk a.pl va 8 = true) (hp : s.part x.core ≠ .shadow)
    (hx : s.dataXlate x.core a.pl va 8 .store false (opInfo x.slot w) = .ok hs tlb hur)
    (ht : (hs.head?.map Half.tgt).getD .io = .own ∨ (hs.head?.map Half.tgt).getD .io = .cache)
    (hk : ((s.keep x.core tlb hur).core x.core).mergeAll (splitBytes hs (toBytes 8 (s.core x.core).returnAddr.toNat)) = some k)
    (hu : t = u) :
    s.callOp x w t = (((s.keep x.core tlb hur).setCore x.core k).issue x w 1
      ⟨[⟨.sp a.pl, (a.cr (spKey a.pl) - 8).setWidth 128⟩], 0, none⟩).modCore x.core fun c => c.modBundle fun b => { b with branch := some u } := by
  subst ha hv hu
  unfold State.callOp
  simp only [hok, hp, hx, State.pathStore, hk, Bool.not_true, Bool.false_eq_true, if_false]
  obtain ht | ht := ht <;> simp only [ht, State.modCore_issue]

end

end Sys2Proof.Machine

open Sys2Proof Sys2Proof.Machine

/-- Settles O18: an operation of either shape passes its slot where its guard reads 0, and p0 reads 1. -/
theorem offOperationsOnlyPassTheirSlot : Obligations.OffOperationsOnlyPassTheirSlot :=
  fun _ x s h => ⟨exec_skips h, s.skips_p0 x _⟩

/-- Settles O19: an issue changes its own core's record, by one flight and the next slot of its bundle. -/
theorem issuingChangesOnlyFlights : Obligations.IssuingChangesOnlyFlights := by
  intro s x w lat r b hb
  refine ⟨rfl, fun n h => s.core_issue_ne x w lat r h, (s.core x.core).flight x w lat r, ?_, Core.flight_num x w lat r hb,
    rfl, rfl, rfl, rfl, rfl, rfl, rfl, rfl, rfl⟩
  rw [s.core_issue_same, Core.issueRes_eq x w lat r hb]

/-- Settles O20: each notes in its bundle, closes the open entries or lands the tally; below their level MGRCALL and WFE fault. -/
theorem systemOperationResults : Obligations.SystemOperationResults := by
  intro s x rd tn c18 n16 n7
  refine ⟨issues_of _ rfl rfl, exec_note x _ rfl, fun hp ht => ?_, fun ht hp => ?_, fun ht => ?_, fun ht => ?_, exec_note x _ rfl,
    fun hp ht => ?_, fun ht hp => ?_, issues_of _ rfl rfl, issues_of _ rfl rfl, exec_note x _ rfl, exec_note x _ rfl⟩
  · exact exec_takes x rfl ht ((if_neg hp).trans (s.noteOp_eq _ _ _))
  · exact exec_takes x rfl ht (if_pos hp)
  · exact exec_takes x rfl ht (by rw [s.modCore_issue]; rfl)
  · exact exec_takes x rfl ht (by rw [s.modCore_issue])
  · exact exec_takes x rfl ht ((if_neg hp).trans (s.noteOp_eq _ _ _))
  · exact exec_takes x rfl ht (if_pos hp)

/-- Settles O21: a branch notes its target, a call stores its return address in the store path, and RET reads the address it goes to. -/
theorem branchAndReturnResults : Obligations.BranchAndReturnResults := by
  intro s x pc d20 d24 ra n r here push hn hr hh hv
  subst hn hr hh
  refine ⟨fun ht => ?_, fun ht => ?_, fun ht => ?_, fun ht => ⟨fun hf => ?_, fun hs tlb hur k hok hp hx htg hk => ?_⟩,
    fun ht => ⟨fun hf => ?_, fun hs tlb hur k hok hp hx htg hk => ?_⟩, fun ht => ⟨fun hf => ?_, fun hs tlb hur t bs hok hp hx hq ho hr => ?_⟩⟩
  · exact exec_takes x rfl ht (s.branchOp_eq _ _ _ _ _ (by rw [relTarget_eq, Nat.mod_mod]))
  · exact exec_takes x rfl ht (s.branchOp_eq _ _ _ _ _ (by rw [relTarget_eq, Nat.mod_mod]))
  · exact exec_takes x rfl ht (s.branchOp_eq _ _ _ _ _ rfl)
  · exact exec_takes x rfl ht (State.callOp_fault rfl hv hf)
  · exact exec_takes x rfl ht (State.callOp_path rfl hv hok hp hx htg hk (relTarget_eq _ _ _))
  · exact exec_takes x rfl ht (State.callOp_fault rfl hv hf)
  · exact exec_takes x rfl ht (State.callOp_path rfl hv hok hp hx htg hk rfl)
  · exact exec_takes x rfl ht (if_pos (congrArg Bool.not hf))
  · simp only [State.regsOf] at hok hx hr
    refine exec_takes x rfl ht ?_
    simp only [hok, hp, hx, hq, ho, hr, State.withQueue, Bool.not_true, Bool.false_eq_true, if_false]
    rfl

end

section
/-! Memory operations at issue: loads, stores, atomics, maintenance and SUBMIT, by the kind of their target. -/

namespace Sys2Proof.Machine

theorem Arch.spFails_zero {a : Arch} {base : BitVec 6} {va z : Nat} (hb : base = 0) (h : a.stackOk a.pl va z = false) :
    a.spFails base va z = true := by simp [Arch.spFails, hb, h]

theorem Arch.spFails_eq_false {a : Arch} {base : BitVec 6} {va z : Nat} (h : base ≠ 0 ∨ a.stackOk a.pl va z = true) :
    a.spFails base va z = false := by
  obtain h | h := h
  · simp only [Arch.spFails, beq_false_of_ne h, Bool.false_and]
  · simp [Arch.spFails, h]

theorem State.withQueue_of_free {s : State} {n k : Nat} (go : State → State) (h : s.lvFull n k = false) : s.withQueue n k go = go s :=
  if_neg (by simp [h])

/-! ### Loads -/

section
variable {s : State} {x : Slot} {w : OpWord} {base : BitVec 6} {z va : Nat} {h : BitVec 1} {off : BitVec 8} {ch : Chance} {dest : Dest}
  {signed isF : Bool} {rd : Nat} {a : Arch}

/-- A load that fails the stack bound (R87). -/
theorem State.loadOp_spFails (ha : a = (s.core x.core).arch) (hv : va = a.vaOf base off z) (hs : a.spFails base va z = true) :
    s.loadOp x w base z h off ch dest signed isF rd = s.opFault x.core (stackExc va) false := by
  subst ha hv
  simp only [State.loadOp, hs, if_true]

/-- A load whose translation faults (R159). -/
theorem State.loadOp_fault {f : Flt} (ha : a = (s.core x.core).arch) (hv : va = a.vaOf base off z) (hs : a.spFails base va z = false)
    (hp : s.part x.core ≠ .shadow) (hx : s.dataXlate x.core a.pl va z .load (h == 1) (opInfo x.slot w) = .fault f) :
    s.loadOp x w base z h off ch dest signed isF rd = s.accessFault x.core f := by
  subst ha hv
  simp only [State.loadOp, hs, hp, hx, Bool.false_eq_true, if_false]

variable {hs : List Half} {tlb : List TlbE} {hur : List HurdleE} {t : State}
  (ha : a = (s.core x.core).arch) (hv : va = a.vaOf base off z) (hsp : a.spFails base va z = false)
  (hp : s.part x.core ≠ .shadow) (hx : s.dataXlate x.core a.pl va z .load (h == 1) (opInfo x.slot w) = .ok hs tlb hur)
  (hq : s.lvFull x.core 1 = false) (ht : t = s.keep x.core tlb hur)
include ha hv hsp hp hx hq ht

/-- A load of the own scratchpad (R180). -/
theorem State.loadOp_own (hk : (hs.head?.map Half.tgt).getD .io = .own) :
    s.loadOp x w base z h off ch dest signed isF rd =
      (t.ownHalves x.core ch.word hs).1.flyLoad x w va 4 dest signed (t.ownHalves x.core ch.word hs).2 := by
  subst ha hv ht
  simp only [State.loadOp, hsp, hp, hx, hk, State.withQueue_of_free _ hq, Bool.false_eq_true, if_false]

/-- A load of cacheable memory that the store path covers whole or not at all (R179). -/
theorem State.loadOp_cache (hk : (hs.head?.map Half.tgt).getD .io = .cache)
    (hf : ∀ y, y ∈ hs → (t.boundaryCore x.core).forward y.pa y.len ≠ .part) :
    s.loadOp x w base z h off ch dest signed isF rd =
      (t.cacheHalves x.core ch.array hs).1.flyLoad x w va 3 dest signed (t.cacheHalves x.core ch.array hs).2 := by
  subst ha hv ht
  have hf' : (hs.any fun y => decide (((s.keep x.core tlb hur).boundaryCore x.core).forward y.pa y.len = .part)) = false := by
    simpa using hf
  simp only [State.loadOp, hsp, hp, hx, hk, hf', State.withQueue_of_free _ hq, Bool.false_eq_true, if_false]

/-- A load of an uncached or I/O target (R181). -/
theorem State.loadOp_held (hk : (hs.head?.map Half.tgt).getD .io = .uncached ∨ (hs.head?.map Half.tgt).getD .io = .io) :
    s.loadOp x w base z h off ch dest signed isF rd = t.flyHeld x w (heldOf (.load signed) hs va z 0 a.pl isF rd) [BitVec.ofNat 64 va] true := by
  subst ha hv ht
  obtain hk | hk := hk <;>
    simp only [State.loadOp, hsp, hp, hx, hk, State.withQueue_of_free _ hq, Bool.false_eq_true, if_false]

end

/-! ### Stores -/

section
variable {s : State} {x : Slot} {w : OpWord} {base : BitVec 6} {z va v data : Nat} {h : BitVec 1} {off : BitVec 8} {rel : Bool} {a : Arch}
  {post : List Word}

/-- A store that fails the stack bound (R87). -/
theorem State.storeOp_spFails (ha : a = (s.core x.core).arch) (hv : va = a.vaOf base off z) (hs : a.spFails base va z = true) :
    s.storeOp x w base z h off v rel = s.opFault x.core (stackExc va) false := by
  subst ha hv
  simp only [State.storeOp, hs, if_true]

/-- A store whose translation faults (R159). -/
theorem State.storeOp_fault {f : Flt} (ha : a = (s.core x.core).arch) (hv : va = a.vaOf base off z) (hs : a.spFails base va z = false)
    (hp : s.part x.core ≠ .shadow) (hx : s.dataXlate x.core a.pl va z .store (h == 1) (opInfo x.slot w) = .fault f) :
    s.storeOp x w base z h off v rel = s.accessFault x.core f := by
  subst ha hv
  simp only [State.storeOp, hs, hp, hx, Bool.false_eq_true, if_false]

/-- A core changed by what it is set to. -/
theorem State.modCore_setCore (s : State) (n : Nat) (c : Core) (f : Core → Core) : (s.setCore n c).modCore n f = s.setCore n (f c) := by
  simp [State.modCore, State.setCore, State.core]

variable {hs : List Half} {tlb : List TlbE} {hur : List HurdleE} {t : State}
  (ha : a = (s.core x.core).arch) (hv : va = a.vaOf base off z) (hd : data = v % 2 ^ (8 * z)) (hsp : a.spFails base va z = false)
  (hp : s.part x.core ≠ .shadow) (hx : s.dataXlate x.core a.pl va z .store (h == 1) (opInfo x.slot w) = .ok hs tlb hur)
  (ht : t = if rel then (s.keep x.core tlb hur).modCore x.core fun c => { c.closeAll with epoch := c.epoch + 1 } else s.keep x.core tlb hur)
include ha hv hd hsp hp hx ht

/-- A store to the own scratchpad or cacheable memory that finds room in the merging buffer (R174). -/
theorem State.storeOp_path {c : Core} (hpost : post = BitVec.ofNat 64 va :: dataWords z data)
    (hk : (hs.head?.map Half.tgt).getD .io = .own ∨ (hs.head?.map Half.tgt).getD .io = .cache)
    (hc : (t.core x.core).mergeAll (splitBytes hs (toBytes z data)) = some c) :
    s.storeOp x w base z h off v rel = t.setCore x.core (c.fly { c.flight x w 1 nores with sigPost := post }).issued := by
  subst ha hv hd hpost ht
  obtain hk | hk := hk <;>
    simp only [State.storeOp, hsp, hp, hx, hk, State.pathStore, hc, State.modCore_setCore, Bool.false_eq_true, if_false]

/-- Such a store where the merging buffer is full (R175). -/
theorem State.storeOp_full (hk : (hs.head?.map Half.tgt).getD .io = .own ∨ (hs.head?.map Half.tgt).getD .io = .cache)
    (hc : (t.core x.core).mergeAll (splitBytes hs (toBytes z data)) = none) :
    s.storeOp x w base z h off v rel = (t.opFreeze x.core .mergeFull).modCore x.core Core.closeOldest := by
  subst ha hv hd ht
  obtain hk | hk := hk <;>
    simp only [State.storeOp, hsp, hp, hx, hk, State.pathStore, hc, Bool.false_eq_true, if_false]

/-- A store to an uncached or I/O target (R181). -/
theorem State.storeOp_held (hpost : post = BitVec.ofNat 64 va :: dataWords z data)
    (hk : (hs.head?.map Half.tgt).getD .io = .uncached ∨ (hs.head?.map Half.tgt).getD .io = .io) :
    s.storeOp x w base z h off v rel = t.flyHeld x w (heldOf .store hs va z data a.pl false 0) post false := by
  subst ha hv hd hpost ht
  obtain hk | hk := hk <;>
    simp only [State.storeOp, hsp, hp, hx, hk, Bool.false_eq_true, if_false]

end

/-! ### Atomics and maintenance -/

section
variable {s : State} {x : Slot} {w : OpWord} {base rd rs : BitVec 6} {z va : Nat} {wf : BitVec 2} {kind : Nat → HKind} {cas : Bool} {a : Arch}
  (ha : a = (s.core x.core).arch) (hz : z = 2 ^ wf.toNat) (hv : va = a.vaOf base 0 z)
include ha hz hv

/-- A misaligned atomic (R81). -/
theorem State.atomOp_misaligned (h : va % z ≠ 0) :
    s.atomOp x w kind base rd rs wf cas = s.opFault x.core { vector := 5, detail := 0, info := va } false := by
  subst ha hz hv
  simp only [State.atomOp, h, ne_eq, not_false_iff, if_true]

/-- An atomic that fails the stack bound (R87). -/
theorem State.atomOp_spFails (h : va % z = 0) (hs : a.spFails base va z = true) :
    s.atomOp x w kind base rd rs wf cas = s.opFault x.core (stackExc va) false := by
  subst ha hz hv
  simp only [State.atomOp, h, hs, ne_eq, not_true_eq_false, if_false, if_true]

/-- An atomic that translates is a held access (R181). -/
theorem State.atomOp_held {hs : List Half} {tlb : List TlbE} {hur : List HurdleE} (h : va % z = 0) (hs' : a.spFails base va z = false)
    (hp : s.part x.core ≠ .shadow) (hx : s.dataXlate x.core a.pl va z .atomic false (opInfo x.slot w) = .ok hs tlb hur)
    (hq : s.lvFull x.core 1 = false) :
    s.atomOp x w kind base rd rs wf cas = (s.keep x.core tlb hur).flyHeld x w
      (heldOf (kind ((a.rg rd.toNat).toNat % 2 ^ (8 * z))) hs va z ((a.rg rs.toNat).toNat % 2 ^ (8 * z)) a.pl false rd.toNat)
      ([BitVec.ofNat 64 va, BitVec.ofNat 64 ((a.rg rs.toNat).toNat % 2 ^ (8 * z))] ++
        if cas then [BitVec.ofNat 64 ((a.rg rd.toNat).toNat % 2 ^ (8 * z))] else []) true := by
  subst ha hz hv
  simp only [State.atomOp, h, hs', hp, hx, State.withQueue_of_free _ hq, ne_eq, not_true_eq_false, Bool.false_eq_true, if_false]

end

/-- Maintenance of a line that translates goes on with its half (R97). -/
theorem State.maintOp_ok {s : State} {x : Slot} {w : OpWord} {base : BitVec 6} {kind : AKind} {k : Nat → Half → State → State} {y : Half}
    {hs : List Half} {tlb : List TlbE} {hur : List HurdleE} (hp : s.part x.core ≠ .shadow)
    (hx : s.halfXlate x.core (s.regsOf x).pl kind false (opInfo x.slot w) ((s.regsOf x).vaOf base 0 1, 1) = .ok (y :: hs) tlb hur) :
    s.maintOp x w base kind k = k ((s.regsOf x).vaOf base 0 1) y (s.keep x.core tlb hur) := by
  simp only [State.regsOf] at hx ⊢
  simp only [State.maintOp, hp, hx, if_false]

/-! ### SUBMIT -/

section
variable {s t : State} (hr : t.regs = s.regs)
include hr

theorem State.spareFor_congr : t.spareFor = s.spareFor := by
  funext f
  rw [State.spareFor, State.spareFor, State.rget_of_regs_eq hr]

theorem State.degraded_congr : t.degraded = s.degraded := by
  funext p
  rw [State.degraded, State.degraded, State.rbit, State.rbit, State.rget_of_regs_eq hr]

theorem State.paired_congr : t.paired = s.paired := by
  funext p
  rw [State.paired, State.paired, State.rbit, State.rbit, State.rget_of_regs_eq hr]

/-- What a core plays is decided by the registers and by which role runs alone (R252 to R254, R289). -/
theorem State.roleOf_congr (ha : ∀ p, (t.pair p).alone = (s.pair p).alone) (n : Nat) : t.roleOf n = s.roleOf n := by
  simp only [State.roleOf, State.degraded_congr hr, State.spareFor_congr hr, ha]

theorem State.part_congr (ha : ∀ p, (t.pair p).alone = (s.pair p).alone) (n : Nat) : t.part n = s.part n := by
  simp only [State.part, State.roleOf_congr hr ha, State.degraded_congr hr, State.paired_congr hr]

end

/-- A pair's record changed but for the role that runs alone. -/
theorem State.alone_modPair (s : State) (p q : Nat) {f : Pair → Pair} (hf : ∀ x, (f x).alone = x.alone) :
    ((s.modPair p f).pair q).alone = (s.pair q).alone := by
  by_cases h : q = p
  · subst h
    simp [State.pair, State.modPair, hf]
  · exact congrArg Pair.alone (tget_tins_ne _ _ _ _ _ h)

/-- A queue entry appended changes the pairs' queues alone. -/
theorem State.lvPush_spec (s : State) (n : Nat) (e : LvEntry) :
    ∃ q, s.lvPush n e = { s with pairs := q } ∧ ∀ p, ((s.lvPush n e).pair p).alone = (s.pair p).alone := by
  unfold State.lvPush
  split
  · exact ⟨_, rfl, fun p => s.alone_modPair _ p fun _ => rfl⟩
  · exact ⟨s.pairs, rfl, fun _ => rfl⟩

@[simp] theorem State.regs_lvPush (s : State) (n : Nat) (e : LvEntry) : (s.lvPush n e).regs = s.regs := by
  obtain ⟨q, h, -⟩ := s.lvPush_spec n e
  rw [h]

@[simp] theorem State.cores_lvPush (s : State) (n : Nat) (e : LvEntry) : (s.lvPush n e).cores = s.cores := by
  obtain ⟨q, h, -⟩ := s.lvPush_spec n e
  rw [h]

@[simp] theorem State.mem_lvPush (s : State) (n : Nat) (e : LvEntry) : (s.lvPush n e).mem = s.mem := by
  obtain ⟨q, h, -⟩ := s.lvPush_spec n e
  rw [h]

/-- It leaves what every core plays as it was. -/
@[simp] theorem State.part_lvPush (s : State) (n m : Nat) (e : LvEntry) : (s.lvPush n e).part m = s.part m :=
  State.part_congr (s.regs_lvPush n e) (s.lvPush_spec n e).choose_spec.2 m

end Sys2Proof.Machine

open Sys2Proof Sys2Proof.Machine
/-- Settles O24: the three loads are one operation, which flies or is held as its target's kind says. -/
theorem loadsIssue : Obligations.LoadsIssue := by
  intro s x rd base w h off ch n z va r hn hr hz hv load
  subst hn hr hz
  have key : ∀ i dest signed isF, exec i s = .next (opAct x (encode i) (fun s =>
      s.loadOp x (encode i) base (sizeOfW w) h off ch dest signed isF rd.toNat) s) → load i dest signed isF := by
    refine fun i dest signed isF hi ht => ⟨fun hb hs => exec_takes x hi ht (State.loadOp_spFails rfl hv (Arch.spFails_zero hb hs)),
      fun hs hp => ⟨fun f hx => exec_takes x hi ht (State.loadOp_fault rfl hv (Arch.spFails_eq_false hs) hp hx), ?_⟩⟩
    rintro hs' tlb hur t _ hx hq hk rfl
    have hsp := Arch.spFails_eq_false hs
    exact ⟨fun k => exec_takes x hi ht (State.loadOp_own rfl hv hsp hp hx hq hk k),
      fun k hf => exec_takes x hi ht (State.loadOp_cache rfl hv hsp hp hx hq hk k hf),
      fun k => exec_takes x hi ht (State.loadOp_held rfl hv hsp hp hx hq hk k)⟩
  exact ⟨key _ _ _ _ rfl, key _ _ _ _ rfl, key _ _ _ _ rfl⟩

/-- Settles O26: the three stores are one operation, which merges or is held as its target's kind says. -/
theorem storesIssue : Obligations.StoresIssue := by
  intro s x rs base w h off n z r hn hr hz store
  subst hn hr hz
  have key : ∀ i h off rel v f, exec i s = .next (opAct x (encode i) f s) → f s = s.storeOp x (encode i) base (sizeOfW w) h off v rel →
      store i h off rel v := by
    refine fun i h off rel v act hi hact ht va data post hv hd hpost =>
      ⟨fun hb hs => exec_takes x hi ht (hact.trans (State.storeOp_spFails rfl hv (Arch.spFails_zero hb hs))),
      fun hs hp => ⟨fun f hx => exec_takes x hi ht (hact.trans (State.storeOp_fault rfl hv (Arch.spFails_eq_false hs) hp hx)), ?_⟩⟩
    rintro hs' tlb hur t _ hx hk rfl
    have hsp := Arch.spFails_eq_false hs
    exact ⟨fun k c hc => exec_takes x hi ht (hact.trans (State.storeOp_path rfl hv hd hsp hp hx hk hpost k hc)),
      fun k hc => exec_takes x hi ht (hact.trans (State.storeOp_full rfl hv hd hsp hp hx hk k hc)),
      fun k => exec_takes x hi ht (hact.trans (State.storeOp_held rfl hv hd hsp hp hx hk hpost k))⟩
  exact ⟨key _ _ _ _ _ _ rfl rfl, key _ _ _ _ _ _ rfl rfl, key _ _ _ _ _ _ rfl rfl⟩

/-- Settles O27: an atomic and SUBMIT are held where nothing refuses them, and maintenance flies or is held by its line. -/
theorem heldOperationsIssue : Obligations.HeldOperationsIssue := by
  intro s x rd base rs w tn n z va la sa r hn hr hz hv hl hsa hp atom line held priv
  subst hn hr hl hsa
  have atoms : ∀ i kind cas, exec i s = .next (opAct x (encode i) (fun s => s.atomOp x (encode i) kind base rd rs w cas) s) →
      atom i (kind (((s.regsOf x).rg rd.toNat).toNat % 2 ^ (8 * z)))
        (if cas then [BitVec.ofNat 64 (((s.regsOf x).rg rd.toNat).toNat % 2 ^ (8 * z))] else []) :=
    fun i kind cas hi ht => ⟨fun h => exec_takes x hi ht (State.atomOp_misaligned rfl hz hv h),
      fun h hb hs => exec_takes x hi ht (State.atomOp_spFails rfl hz hv h (Arch.spFails_zero hb hs)),
      fun hs' tlb hur h hs hx hq => exec_takes x hi ht (State.atomOp_held rfl hz hv h (Arch.spFails_eq_false hs) hp hx hq)⟩
  refine ⟨atoms _ (fun _ => .swap) false rfl, atoms _ (fun _ => .fadd) false rfl, atoms _ .cas true rfl,
    fun ht y hs tlb hur hx => exec_takes x rfl ht (State.maintOp_ok hp hx),
    fun ht y hs tlb hur hx => exec_takes x rfl ht (State.maintOp_ok hp hx),
    fun ht y hs tlb hur hx => exec_takes x rfl ht (State.maintOp_ok hp hx),
    fun ht y hs tlb hur hx => exec_takes x rfl ht (State.maintOp_ok hp hx),
    fun ht y hs tlb hur hx => exec_takes x rfl ht (State.maintOp_ok hp hx),
    fun h ht => exec_takes x rfl ht (if_neg h), fun ht h => exec_takes x rfl ht (if_pos h),
    fun h ht => exec_takes x rfl ht (if_neg h), fun ht h => exec_takes x rfl ht (if_pos h),
    fun ht hq => ⟨fun hb => ?_, fun hb hs tlb hur hx => ?_⟩⟩
  · refine exec_takes x rfl ht ((if_pos hb).trans ((State.withQueue_of_free _ hq).trans (if_neg ?_)))
    rwa [State.part_lvPush]
  · simp only [State.regsOf] at hx
    refine exec_takes x rfl ht ?_
    simp only [hb, hp, hx, State.withQueue_of_free _ hq, Bool.false_eq_true, if_false]
    rfl

end

section
/-! A load that hits: what it reads of the store path or the L1D, and the value of its register. -/

namespace Sys2Proof.Machine

/-! ### Bytes as numbers -/

/-- The signed reading of the model is that of a bit vector. -/
theorem toSigned_eq_toInt {n v : Nat} (hn : 0 < n) (hv : v < 2 ^ n) : toSigned n v = (BitVec.ofNat n v).toInt := by
  obtain ⟨m, rfl⟩ := Nat.exists_eq_add_of_lt hn
  rw [BitVec.toInt_eq_toNat_cond, BitVec.toNat_ofNat, Nat.mod_eq_of_lt hv]
  simp only [toSigned, Nat.zero_add, Nat.add_sub_cancel, Nat.pow_succ]
  split <;> split <;> push_cast <;> omega

theorem ofSigned_eq_toNat (n : Nat) (v : Int) : ofSigned n v = (BitVec.ofInt n v).toNat := by
  rw [BitVec.toNat_ofInt, ofSigned]
  push_cast
  rfl

/-- The value of a load of one half that has arrived, zero-extended. -/
theorem Need.value_unsigned {bs : List Byte} (p l : Nat) (q : Bool) (d : Dest) (h : bs.length ≤ 8) :
    (Need.mk [⟨p, l, some bs, q⟩] false d).value = (BitVec.ofNat 64 (ofBytes bs)).setWidth 128 := by
  have hlt : ofBytes bs < 2 ^ 64 := (ofBytes_lt bs).trans_le (Nat.pow_le_pow_right (by decide) (by omega))
  simp only [Need.value, List.flatMap_cons, List.flatMap_nil, List.append_nil, Option.getD_some, Bool.false_eq_true, if_false,
    ← BitVec.ofNat_toNat 128 (BitVec.ofNat 64 _), BitVec.toNat_ofNat, Nat.mod_eq_of_lt hlt]

/-- The value of a load of one half that has arrived, sign-extended. -/
theorem Need.value_signed {bs : List Byte} (p l : Nat) (q : Bool) (d : Dest) (h : bs ≠ []) :
    (Need.mk [⟨p, l, some bs, q⟩] true d).value = ((BitVec.ofNat (8 * bs.length) (ofBytes bs)).signExtend 64).setWidth 128 := by
  have hpos : 0 < 8 * bs.length := Nat.mul_pos (by decide) (List.length_pos_of_ne_nil h)
  simp only [Need.value, List.flatMap_cons, List.flatMap_nil, List.append_nil, Option.getD_some, if_true,
    toSigned_eq_toInt hpos (ofBytes_lt bs), ofSigned_eq_toNat]
  exact BitVec.ofNat_toNat _ _

/-! ### What a hit meets -/

theorem State.core_keep (s : State) (n : Nat) (tlb : List TlbE) (hur : List HurdleE) :
    (s.keep n tlb hur).core n = { s.core n with
      tlb := tlb ++ (s.core n).tlb, hcache := (hur.filter fun e => !(s.core n).hcache.contains e) ++ (s.core n).hcache } :=
  s.core_modCore_same _ _

/-- What an access keeps of its translation changes nothing a load of the bundle sees (R164, R179). -/
theorem State.boundaryCore_keep (s : State) (n : Nat) (tlb : List TlbE) (hur : List HurdleE) :
    ∃ t u, (s.keep n tlb hur).boundaryCore n = { s.boundaryCore n with tlb := t, hcache := u } := by
  refine ⟨((s.keep n tlb hur).core n).tlb, ((s.keep n tlb hur).core n).hcache, ?_⟩
  have hsv : (s.keep n tlb hur).saved = s.saved := rfl
  cases h : tfind s.saved n <;> simp [State.boundaryCore, State.core_keep, hsv, h]

/-- The half of a load that the store path holds whole, or the L1D where it holds nothing of it, is there at the latency (R179, R183). -/
theorem State.cacheHalves_hit {s : State} {n : Nat} {err : ArrayErr} {y : Half} {bs : List Byte} (hu : s.unbacked y.pa = none)
    (h : (s.boundaryCore n).forward y.pa y.len = .all bs ∨
      ((s.boundaryCore n).forward y.pa y.len = .none ∧ err = .none ∧ (s.boundaryCore n).den = true ∧
        ∃ l, ((s.boundaryCore n).l1d.find? fun v => v.2.line == y.pa / 64) = some l ∧ bs = lineBytes l.2.data (y.pa % 64) y.len)) :
    s.cacheHalves n err [y] = (s, [⟨⟨y.pa, y.len, some bs, false⟩, true, none⟩]) := by
  obtain h | ⟨h, rfl, hd, l, hl, rfl⟩ := h
  · simp only [State.cacheHalves, h]
  · simp only [State.cacheHalves, h, State.cacheHalf, hu, hd, hl, if_true]

/-- The flight of such a load: ready, with its value. -/
theorem State.flyLoad_hit (s : State) (x : Slot) (w : OpWord) (va lat : Nat) (dest : Dest) (signed : Bool) (p l : Nat) (bs : List Byte) :
    ∃ f, (s.flyLoad x w va lat dest signed [⟨⟨p, l, some bs, false⟩, true, none⟩]).core x.core = ((s.core x.core).fly f).issued ∧
      f.ready = true ∧ f.mcheck = none ∧ f.trap = none ∧ f.due = (s.core x.core).cyc + lat - 1 ∧
      f.writes = [⟨dest, (Need.mk [⟨p, l, some bs, false⟩] signed dest).value⟩] := by
  exact ⟨_, State.core_setCore_same _ _ _, rfl, rfl, rfl, rfl, rfl⟩

/-- A load that flies leaves memory and the control registers alone. -/
theorem State.flyLoad_frame (s : State) (x : Slot) (w : OpWord) (va lat : Nat) (dest : Dest) (signed : Bool) (gs : List Got) :
    (s.flyLoad x w va lat dest signed gs).mem = s.mem ∧ (s.flyLoad x w va lat dest signed gs).regs = s.regs :=
  ⟨s.mem_lvPush _ _, s.regs_lvPush _ _⟩

end Sys2Proof.Machine

open Sys2Proof Sys2Proof.Machine

/-- Settles O25: the one half of the load is there at the latency, so that its flight has the value of its bytes. -/
theorem loadHitValue : Obligations.LoadHitValue := by
  intro s x rd base w h off ch n z va r y tlb hur bs hn hr hz hv hsp hp hq hy hu hb hit hlen
  subst hn hr hz
  obtain ⟨t, u, ek⟩ := s.boundaryCore_keep x.core tlb hur
  have hb' := State.cacheHalves_hit (s := s.keep x.core tlb hur) (err := ch.array) hu (by rw [ek]; exact hb)
  have key : ∀ i signed v, exec i s = .next (opAct x (encode i) (fun s =>
        s.loadOp x (encode i) base (sizeOfW w) h off ch (.g rd.toNat) signed false rd.toNat) s) →
      (Need.mk [⟨y.pa, y.len, some bs, false⟩] signed (.g rd.toNat)).value = v.setWidth 128 → hit i v := by
    intro i signed v hi hval ht hx
    have hf : ∀ z ∈ [y], ((s.keep x.core tlb hur).boundaryCore x.core).forward z.pa z.len ≠ .part := by
      intro z hz
      obtain rfl := List.mem_singleton.mp hz
      rw [ek]
      obtain e | ⟨e, -⟩ := hb <;> exact ne_of_eq_of_ne e (by simp)
    have he := exec_takes x hi ht (State.loadOp_cache rfl hv (Arch.spFails_eq_false hsp) hp hx hq rfl hy hf)
    rw [hb'] at he
    obtain ⟨f, hc, hready, hmc, htrap, hdue, hw⟩ :=
      (s.keep x.core tlb hur).flyLoad_hit x (encode i) va 3 (.g rd.toNat) signed y.pa y.len bs
    obtain ⟨hm, hr⟩ := (s.keep x.core tlb hur).flyLoad_frame x (encode i) va 3 (.g rd.toNat) signed
      [⟨⟨y.pa, y.len, some bs, false⟩, true, none⟩]
    rw [s.core_keep] at hc hdue
    exact ⟨_, f, he, congrArg Core.flights hc, hready, hmc, htrap, hdue, hval ▸ hw, hm, hr⟩
  exact ⟨key _ _ _ rfl (Need.value_unsigned _ _ _ _ hlen), fun hne => key _ _ _ rfl (Need.value_signed _ _ _ _ hne)⟩

end

section
/-! Table instructions at issue: the reads of the bank change no core, and a table that is well placed flies with its interpolation. -/

namespace Sys2Proof.Machine

/-! ### Reads of a bank leave the cores alone -/

@[simp] theorem State.record_cores (s : State) (r : Reg) (i j v : Nat) : (s.record r i j v).cores = s.cores := by
  unfold State.record
  dsimp only
  split <;> rfl

@[simp] theorem State.logRefusal_cores (s : State) (k agent cause : Nat) (wr : Bool) (off : Nat) :
    (s.logRefusal k agent cause wr off).cores = s.cores := by
  simp [State.logRefusal]

theorem State.cores_ite_raise (p : Prop) [Decidable p] (s : State) (src : Nat) : (if p then s.raise src else s).cores = s.cores := by
  split
  · exact s.raise_cores src
  · rfl

/-- A scratchpad bank declared lame calls for nothing of a core (R632). -/
@[simp] theorem State.fallLame_bank_cores (s : State) (i : Nat) : (s.fallLame 5 i).cores = s.cores := by
  simp [State.fallLame, State.declareLame, State.lameCount]

/-- Nor does a strike against it (R631). -/
@[simp] theorem State.strike_bank_cores (s : State) (i : Nat) : (s.strike 5 i).cores = s.cores := by
  unfold State.strike
  dsimp only
  rw [if_neg (by decide : ¬5 = 1)]
  refine (apply_ite State.cores _ _ _).trans ?_
  simp only [State.fallLame_bank_cores, State.cores_ite_raise, State.rset_cores, ite_self]

@[simp] theorem State.spRead_cores (s : State) (agent pa n : Nat) (err : WordErr) : (s.spRead agent pa n err).1.cores = s.cores := by
  unfold State.spRead
  split
  · rfl
  · split
    · exact s.logRefusal_cores _ _ _ _ _
    · dsimp only
      split <;> split
      · rfl
      · cases err <;> simp
      · rfl
      · cases err <;> simp

@[simp] theorem State.readKnots_cores (s : State) (n pa : Nat) (err : WordErr) (is : List Nat) : (s.readKnots n pa err is).1.cores = s.cores := by
  induction is generalizing s err with
  | nil => rfl
  | cons i is ih =>
    have h := s.spRead_cores (bankAgent n) (pa + 16 * i) 16 err
    unfold State.readKnots
    split
    next e => rw [e] at h; exact h
    next e => rw [e] at h; exact (ih _ _).trans h

theorem State.foldl_lvPush_cores (l : List Nat) (s : State) (n : Nat) (e : Nat → LvEntry) :
    (l.foldl (fun v j => v.lvPush n (e j)) s).cores = s.cores := by
  induction l generalizing s with
  | nil => rfl
  | cons j l ih => exact (ih _).trans (s.cores_lvPush n (e j))

@[simp] theorem Bundle.none_num : Bundle.none.num = 0 := rfl

/-! ### The operation -/

section
variable {s : State} {x : Slot} {w : OpWord} {k : TblKind} {fd fx fdesc : BitVec 5} {ch : Chance} {va size pa attr : Nat} {a : Arch} {d : Wide}
  (ha : a = (s.core x.core).arch) (hd : d = a.rf fdesc.toNat) (hv : va = (descAddr d).toNat) (hp : s.part x.core ≠ .shadow)
include ha hd hv hp

/-- A malformed descriptor (R119). -/
theorem State.tableOp_bad (hb : descBad k d = true) :
    s.tableOp x w k fd fx fdesc ch = s.opFault x.core { vector := 0x0C, detail := 0, info := va } true := by
  subst ha hd hv
  simp only [State.tableOp, hp, hb, if_false, if_true]
  rfl

variable {tlb : List TlbE} {hur : List HurdleE} {t : State} (hsz : size = 16 * descN d) (hb : descBad k d = false)
  (htr : s.translate x.core a.pl va .load = .ok pa attr tlb hur) (ht : t = s.keep x.core tlb hur)
  (hg : a.pl = 0 → t.guardedPage pa = false) (hk : t.inKeep pa = false) (hk' : t.inKeep (pa + size - 1) = false)
include hsz hb htr ht hg hk hk'

/-- A table that does not lie in one page and grain of the own scratchpad (R119). -/
theorem State.tableOp_misplaced
    (h : t.inOnePage x.core a.pl va size = false ∨ t.tgt x.core pa 0 ≠ .own ∨ t.tgt x.core (pa + size - 1) 0 ≠ .own) :
    s.tableOp x w k fd fx fdesc ch = t.opFault x.core { vector := 0x0C, detail := 0, info := va } true := by
  subst ha hd hv hsz ht
  have hg' : (decide ((s.core x.core).arch.pl = 0) && (s.keep x.core tlb hur).guardedPage pa) = false := by simpa using hg
  simp only [State.tableOp, hp, hb, htr, hk, hk', hg', Bool.or_self, Bool.false_eq_true, if_false]
  refine if_pos ?_
  simpa [or_assoc] using h

/-- A well placed table: its knots are read at the bank and it flies with the interpolation (R119, R156). -/
theorem State.tableOp_flies {xr : Wide} {ks : List Knot} {used : List Nat} {u : State} (hxr : xr = a.rf fx.toNat)
    (h1 : t.inOnePage x.core a.pl va size = true) (h2 : t.tgt x.core pa 0 = .own) (h3 : t.tgt x.core (pa + size - 1) 0 = .own)
    (hks : ks = t.knots x.core pa (descN d)) (hu : used = tblUsed d xr ks) (hq : t.lvFull x.core used.length = false)
    (hs : u = used.foldl (fun v j => v.lvPush x.core ⟨((s.core x.core).bundle.getD Bundle.none).num, x.slot, .knot, j, some (knotAt ks j).pack,
      (t.readKnots x.core pa ch.word used).2.isSome, false⟩) (t.readKnots x.core pa ch.word used).1) :
    s.tableOp x w k fd fx fdesc ch = (u.modCore x.core fun c =>
      (c.fly { c.flight x w (tblCycles k d) (c.arch.tblRes k fd d xr ks (Config.freeTableDefault u.freeCtr)) with
        mcheck := (t.readKnots x.core pa ch.word used).2.map u.spMcheck }).issued).drawn := by
  have harch : (u.core x.core).arch = a := by
    have hc : u.cores = t.cores := by rw [hs, State.foldl_lvPush_cores, State.readKnots_cores]
    have hcore : u.core x.core = t.core x.core := congrArg (tget Core.reset · x.core) hc
    rw [hcore, ha, ht, s.core_keep]
  subst ha hd hv hsz ht hxr hks hu
  have hg' : (decide ((s.core x.core).arch.pl = 0) && (s.keep x.core tlb hur).guardedPage pa) = false := by simpa using hg
  cases hbn : (s.core x.core).bundle
  all_goals
    rw [hbn] at hs
    simp only [Option.getD_none, Option.getD_some, Bundle.none_num] at hs
    simp only [State.tableOp, hp, hb, htr, hk, hk', hg', h1, h2, h3, hbn, State.withQueue_of_free _ hq, Bool.or_self, Bool.not_true, ne_eq,
      not_true_eq_false, decide_false, Bool.false_eq_true, if_false]
    rw [← hs, State.modCore, State.modCore, harch]

end

end Sys2Proof.Machine

open Sys2Proof Sys2Proof.Machine

/-- Settles O28: the three table instructions are one operation. -/
theorem tableInterpolationIssues : Obligations.TableInterpolationIssues := by
  intro s x fd fx fdesc ch n va size r d xr hn hr hd hxr hv hsz hp table
  subst hn hr
  have key : ∀ i k, exec i s = .next (opAct x (encode i) (fun s => s.tableOp x (encode i) k fd fx fdesc ch) s) → table i k := by
    refine fun i k hi ht => ⟨fun hb => exec_takes x hi ht (State.tableOp_bad rfl hd hv hp hb), ?_⟩
    intro pa attr tlb hur t hb htr hk hg h1 h2
    exact ⟨fun h => exec_takes x hi ht (State.tableOp_misplaced rfl hd hv hp hsz hb htr hk hg h1 h2 h),
      fun h3 h4 h5 ks used hks hu hq u hs =>
        exec_takes x hi ht (State.tableOp_flies rfl hd hv hp hsz hb htr hk hg h1 h2 hxr h3 h4 h5 hks hu hq hs)⟩
  exact ⟨key _ _ rfl, key _ _ rfl, key _ _ rfl⟩

end

section
/-! The cycles of a core: fetch, the start and the end of a bundle, landings, arrivals and freezes, for a core of its own. -/

namespace Sys2Proof.Machine

/-! ### A core of its own forms no signature and shares no queue -/

section
variable {s : State} {n : Nat} (hp : s.part n = .single)
include hp

theorem State.signs_single : s.signs n = false := by simp [State.signs, hp]

theorem State.lvPush_single (e : LvEntry) : s.lvPush n e = s := if_neg (by simp [hp])

theorem State.handOn_single (b : Bundle) : s.handOn n b = s := if_neg (by simp [hp])

end

/-- A change of a core leaves what it plays as it was. -/
@[simp] theorem State.part_setCore (s : State) (n m : Nat) (c : Core) : (s.setCore n c).part m = s.part m :=
  State.part_congr rfl (fun _ => rfl) m

@[simp] theorem State.part_modCore (s : State) (n m : Nat) (f : Core → Core) : (s.modCore n f).part m = s.part m := s.part_setCore n m _

@[simp] theorem Core.sign_false (c : Core) (num place : Nat) (ws : List Word) : c.sign false num place ws = c := rfl

/-- A core at work is in no freeze. -/
theorem State.freeze_of_live {s : State} {n : Nat} (h : s.live n = true) : (s.core n).freeze = none := by
  simp only [State.live, Bool.and_eq_true, Option.isNone_iff_eq_none] at h
  obtain ⟨⟨⟨⟨-, hf⟩, -⟩, -⟩, -⟩ := h
  exact hf

/-! ### Fetch -/

/-- A fetch of main memory that hits the enabled L1I begins the bundle (R164, R183). -/
theorem State.fetch_hit {s : State} {n pa : Nat} {ch : Chance} {tlb : List TlbE} {hur : List HurdleE} {l : Nat × L1Line}
    (htr : s.translate n (s.core n).arch.pl (s.core n).arch.pc .fetch = .ok pa 0 tlb hur) (hm : (s.keep n tlb hur).mainMem pa = true)
    (hc : ctlModule pa = none) (hb : (s.core n).fbuf = none) (he : ch.array = .none) (hi : (s.core n).ien = true)
    (hl : (((s.keep n tlb hur).core n).l1i.find? fun x => x.2.line == pa / 64) = some l) :
    s.fetch n ch = (s.keep n tlb hur).beginBundle n (wordsOfLine l.2.data pa) := by
  simp only [State.mainMem, Bool.and_eq_true, Option.isNone_iff_eq_none, Bool.not_eq_true'] at hm
  obtain ⟨⟨hr, hu⟩, hsp⟩ := hm
  have hb' : ((s.keep n tlb hur).core n).fbuf = none := by rw [s.core_keep]; exact hb
  have hi' : ((s.keep n tlb hur).core n).ien = true := by rw [s.core_keep]; exact hi
  simp only [State.fetch, htr, hc, hr, hu, hsp, State.fetchLine, hb', hi', hl, he, Bool.and_false, Bool.false_and, Bool.true_and, beq_self_eq_true,
    Bool.false_eq_true, if_false, if_true]

/-- A core at work, with nothing due, fetches (R164). -/
theorem execBundleFetch_single {s : State} {c : Nat} {ch : Chance} (hl : s.live c = true) (hp : s.part c = .single)
    (hb : (s.core c).bundle = none) (he : (s.core c).excDue = false) (hg : (s.core c).gdue = none) (ha : (s.core c).applicable = [])
    (hf : ((s.core c).flights.all fun f => f.ready) = true) : exec (.bundleFetch c ch) s = .next (s.fetch c ch) := by
  have hf' : ((s.core c).flights.any fun f => !f.ready && decide (f.due < (s.core c).cyc)) = false := by
    simp only [List.all_eq_true] at hf
    simp +contextual [hf]
  change execBundleFetch c ch s = _
  simp [execBundleFetch, hl, hp, hb, he, hg, ha, hf']

/-- With no repeat, no reserved word and no tally to wait for, the bundle begins (R35). -/
theorem State.beginBundle_core {s : State} {n : Nat} {ws : List OpWord} (hr : (s.core n).arch.rcount = 0)
    (hf : firstSlot opReserved 0 ws = none) (hw : (s.core n).arch.waitsFor ws = none) :
    (s.beginBundle n ws).core n = { s.core n with twaited := false, popped := [], bundle := some { Bundle.none with
      addr := (s.core n).arch.pc, words := ws, num := (s.core n).bnum, cycles := (s.core n).arch.cyclesOf ws } } := by
  simp only [State.beginBundle, hr, hw, ne_eq, not_true_eq_false, decide_false, Bool.false_and, Bool.or_false, hf, ite_self]
  exact State.core_setCore_same _ _ _

/-! ### The issue cycle -/

/-- Where none is due, nothing lands. -/
theorem State.landAt_none {s : State} {n cy : Nat} (h : ∀ f ∈ (s.core n).flights, f.due ≠ cy) : s.landAt n cy = s.modCore n id := by
  have hd : ((s.core n).flights.filter fun f => f.due == cy && f.ready) = [] := by
    simp only [List.filter_eq_nil_iff, Bool.and_eq_true, beq_iff_eq]
    exact fun f hf e => h f hf e.1
  have hk : ((s.core n).flights.filter fun f => !(f.due == cy && f.ready)) = (s.core n).flights := by
    simp only [List.filter_eq_self, Bool.not_eq_true', Bool.and_eq_false_iff, beq_eq_false_iff_ne]
    exact fun f hf => .inl (h f hf)
  simp only [State.landAt, hd, List.filter_nil, List.append_nil, List.foldl_nil, State.modCore, hk, id]

@[simp] theorem State.core_bump (s : State) (r : Reg) (i j k n : Nat) : (s.bump r i j k).core n = s.core n := rfl

/-- The end of an issue cycle whose flights have their data (R35, R36, R40). -/
theorem execOperationLand_ready {s : State} {c : Nat} {b : Bundle} (hl : s.live c = true) (hb : (s.core c).bundle = some b)
    (hn : 4 ≤ b.next) (hr : (s.core c).allReady = true) {u : State}
    (hu : u = ((s.bump .fcCnti (foldOf c) ((s.roleOf c).getD 8)).landAt c (s.core c).cyc).modCore c fun q =>
      { q with cyc := q.cyc + 1, timebase := q.timebase + 1, bundle := some { b with spent := b.spent + 1 },
               freeze := if q.freeze = some .queue then none else q.freeze }) :
    exec (.operationLand c) s = .next (if b.cycles ≤ b.spent + 1 then u.endBundle c b else u) := by
  have hbl : ((s.core c).flights.find? fun f => !f.ready && !(f.held && f.num == b.num) &&
      (decide (f.due ≤ (s.core c).cyc) || (decide (b.cycles ≤ b.spent + 1) && b.iret.isSome))) = none := by
    simp only [Core.allReady, List.all_eq_true] at hr
    simp only [List.find?_eq_none]
    exact fun f hf => by simp [hr f hf]
  change execOperationLand c s = _
  simp only [execOperationLand, hl, hb, hbl, Nat.not_lt.mpr hn, hu, Bool.true_or, Bool.not_true, Bool.false_or, decide_false,
    decide_eq_true_eq, Bool.false_eq_true, if_false]

/-- The cores kept for a bundle's fault are no cores of the state. -/
theorem State.core_saved (s : State) (v : Tbl Core) (n : Nat) : ({ s with saved := v } : State).core n = s.core n := rfl

/-- A bundle of a core of its own that ends with no frame to restore (R46, R56, R263). -/
theorem State.endBundle_single {s : State} {n : Nat} {b : Bundle} (hp : s.part n = .single) (hi : b.iret = none) :
    (s.endBundle n b).core n =
      { s.core n with arch := (s.core n).arch.advance b, bundle := none, bnum := (s.core n).bnum + 1, bcnt := (s.core n).bcnt + 1, call := b.call,
                      popped := [], gdue := gatherDue { s.core n with bcnt := (s.core n).bcnt + 1 } b (s.pair (s.pairOf n)).givl } := by
  have hs : (s.part n == .shadow) = false := by simp [hp]
  simp only [State.endBundle, s.handOn_single hp, hi, hs, State.modCore_modCore, Bool.false_eq_true, if_false]
  exact (State.core_saved _ _ _).trans (State.core_modCore_same _ _ _)

theorem Arch.advance_repeat {a : Arch} (b : Bundle) (h : 1 < a.rcount) : a.advance b = { a with rcount := a.rcount - 1 } := if_pos h

theorem Arch.advance_next {a : Arch} {b : Bundle} (h : a.rcount ≤ 1) (hr : b.rep = none) :
    a.advance b = { a with rcount := 0, rn := false, pc := if a.dv then a.dpc else (a.pc + 16) % 2 ^ 64, dv := b.branch.isSome,
                           dpc := b.branch.getD 0 } := by
  simp only [Arch.advance, Nat.not_lt.mpr h, hr, if_false]

/-! ### Landings -/

section
variable {s : State} {n : Nat} {f : Flight} (hp : s.part n = .single) (hq : f.lvq = false)
include hp hq

theorem State.land_mcheck {m : MCheck} (h : f.mcheck = some m) :
    s.land n f = s.modCore n fun c => { c with mchecks := c.mchecks ++ [m] } := by
  simp [State.land, hq, h, State.signs_single hp, State.lvPush_single, hp]

omit hp in
theorem State.land_trap {t : Trap} (h : f.mcheck = none) (ht : f.trap = some t) :
    s.land n f = s.modCore n fun c => { c with traps := c.traps ++ [(f, t)], arch := c.arch.addFlags f.flags } := by
  simp [State.land, hq, h, ht]

theorem State.land_result (h : f.mcheck = none) (ht : f.trap = none) (hc : f.cwr = none) (ha : f.act = none) :
    s.land n f = s.modCore n fun c => { c with arch := (f.writes.foldl Arch.write c.arch).addFlags f.flags } := by
  simp [State.land, hq, h, ht, hc, ha, State.signs_single hp]

end

/-! ### Arrivals and limits -/

theorem State.freezeCycles_spec (s : State) (n cycles : Nat) :
    (s.freezeCycles n cycles).core n = { s.core n with timebase := (s.core n).timebase + BitVec.ofNat 64 cycles } ∧
      (s.freezeCycles n cycles).rget .fcCntf (foldOf n) ((s.roleOf n).getD 8) =
        s.rget .fcCntf (foldOf n) ((s.roleOf n).getD 8) + BitVec.ofNat 64 cycles :=
  ⟨State.core_modCore_same _ _ _, s.rget_rset_same _ _ _ _⟩

/-- The data of a frozen core's one load is there (R43). -/
theorem execLoadDataArrival_one {s : State} {c : Nat} (cycles : Nat) {f : Flight} {nd : Need} (hz : (s.core c).freeze = some .data)
    (hf : (s.core c).flights = [f]) (hr : f.ready = false) (hh : f.held = false) (hn : f.need = some nd) (ha : nd.arrived = true) :
    exec (.loadDataArrival c cycles) s =
      .next ((s.setCore c { s.core c with flights := [{ f.fill with ready := true }], freeze := none }).freezeCycles c cycles) := by
  change execLoadDataArrival c cycles s = _
  simp [execLoadDataArrival, hz, hf, hr, hh, hn, ha]

/-- A freeze of 2 ms for one load of one half (R197, R638). -/
theorem execFreezeLimit_one {s : State} {c : Nat} {f : Flight} {nd : Need} {g : Seg} (hz : (s.core c).freeze = some .data)
    (hf : (s.core c).flights = [f]) (hr : f.ready = false) (hd : f.due = (s.core c).cyc) (hn : f.need = some nd) (hg : nd.segs = [g])
    (hgd : g.data = none) : ∃ h, exec (.freezeLimit c) s = .next ((s.setCore c { s.core c with
      freeze := none, flights := [{ f with ready := true, mcheck := some (mcheckOf 5 0 g.pa) }] }).modCa h) := by
  change ∃ h, execFreezeLimit c s = _
  simp only [execFreezeLimit, hz, hf, hr, hd, hn, hg, hgd, List.map_cons, List.map_nil, Bool.not_false, beq_self_eq_true, Bool.and_self, if_true,
    List.find?_cons, Option.isNone_none]
  exact ⟨_, rfl⟩

end Sys2Proof.Machine

open Sys2Proof Sys2Proof.Machine

/-- Settles O31: clause by clause, each an equation of the boundary, the cycle, the landing or the freeze it speaks of. -/
theorem coreCyclesAndFreezes : Obligations.CoreCyclesAndFreezes := by
  refine ⟨?_, ?_, ?_, ?_, fun a b => ⟨Arch.advance_repeat b, ?_⟩, fun s n f hp hq => ⟨fun m => State.land_mcheck hp hq,
    fun t => State.land_trap hq, State.land_result hp hq⟩, ?_, ?_, ?_⟩
  · rintro s c pa ch tlb hur l k rfl hl hp hb he hg ha hf hbuf htr hm hc hch hi hl1
    rw [execBundleFetch_single hl hp hb he hg ha hf, State.fetch_hit htr hm hc hbuf hch hi hl1]
  · rintro s n ws k rfl hr hf hw b rfl
    exact State.beginBundle_core hr hf hw
  · rintro s c k b rfl hl hb hn hr
    refine ⟨_, execOperationLand_ready hl hb hn hr rfl, rfl, fun hd => ?_⟩
    have hz := State.freeze_of_live hl
    rw [State.landAt_none (s := s.bump .fcCnti (foldOf c) ((s.roleOf c).getD 8)) hd, State.modCore_modCore, State.core_modCore_same]
    simp only [State.core_bump, id, hz, reduceCtorEq, if_false]
  · rintro s c k b rfl hp hi g rfl
    exact State.endBundle_single hp hi
  · rintro h hr pc rfl
    exact Arch.advance_next h hr
  · rintro s c cycles f nd k rfl hz hf hr hh hn ha
    obtain ⟨hc, hcnt⟩ := (s.setCore c { s.core c with flights := [{ f.fill with ready := true }], freeze := none }).freezeCycles_spec c cycles
    refine ⟨_, execLoadDataArrival_one cycles hz hf hr hh hn ha, ?_, hcnt⟩
    rw [hc, State.core_setCore_same]
  · rintro s c f nd g k rfl hz hf hr hd hn hg hgd
    obtain ⟨h, e⟩ := execFreezeLimit_one hz hf hr hd hn hg hgd
    exact ⟨_, e, s.core_setCore_same _ _, rfl, rfl⟩
  · rintro s c v k rfl hd hm
    change execDenDisableDrained c s = _
    simp [execDenDisableDrained, hd, hm]

end

section
/-! What happens at a boundary of a core of its own: exceptions, events, completions, and what an entry leaves as it was. -/

namespace Sys2Proof.Machine

/-! ### What an entry leaves as it was -/

/-- From `s` to `t` no control register changes, no role that runs alone, and not the events core `n` has accepted. -/
structure State.Steady (n : Nat) (s t : State) : Prop where
  regs : t.regs = s.regs
  alone : ∀ p, (t.pair p).alone = (s.pair p).alone
  events : (t.core n).events = (s.core n).events
  interval : (t.core n).interval = (s.core n).interval

namespace State.Steady

variable {n : Nat} {s t u : State}

theorem refl (n : Nat) (s : State) : Steady n s s := ⟨rfl, fun _ => rfl, rfl, rfl⟩

theorem trans (h : Steady n s t) (k : Steady n t u) : Steady n s u :=
  ⟨k.regs.trans h.regs, fun p => (k.alone p).trans (h.alone p), k.events.trans h.events, k.interval.trans h.interval⟩

theorem part (h : Steady n s t) (m : Nat) : t.part m = s.part m := State.part_congr h.regs h.alone m

theorem setCore {c : Core} (he : c.events = (s.core n).events) (hi : c.interval = (s.core n).interval) : Steady n s (s.setCore n c) :=
  ⟨rfl, fun _ => rfl, (congrArg Core.events (s.core_setCore_same n c)).trans he, (congrArg Core.interval (s.core_setCore_same n c)).trans hi⟩

theorem modCore {f : Core → Core} (he : ∀ c, (f c).events = c.events) (hi : ∀ c, (f c).interval = c.interval) : Steady n s (s.modCore n f) :=
  setCore (he _) (hi _)

theorem lvPush (s : State) (n m : Nat) (e : LvEntry) : Steady n s (s.lvPush m e) := by
  obtain ⟨q, h, ha⟩ := s.lvPush_spec m e
  exact ⟨s.regs_lvPush m e, ha, by rw [h]; rfl, by rw [h]; rfl⟩

theorem keep (s : State) (n : Nat) (tlb : List TlbE) (hur : List HurdleE) : Steady n s (s.keep n tlb hur) := by
  unfold State.keep
  exact modCore (fun _ => rfl) (fun _ => rfl)

end State.Steady

/-- A store's bytes in the merging buffer change nothing of the events. -/
theorem Core.merge1_events {c k : Core} {line i : Nat} {bs : List Byte} (h : c.merge1 line i bs = some k) :
    k.events = c.events ∧ k.interval = c.interval := by
  obtain ⟨l, -, rfl⟩ := Option.map_eq_some_iff.mp h
  exact ⟨rfl, rfl⟩

theorem Core.mergeAll_events {l : List (Half × List Byte)} {c k : Core} (h : c.mergeAll l = some k) :
    k.events = c.events ∧ k.interval = c.interval := by
  induction l generalizing c with
  | nil =>
    obtain rfl := Option.some.inj h
    exact ⟨rfl, rfl⟩
  | cons x l ih =>
    unfold Core.mergeAll at h
    split at h
    next => cases h
    next b e =>
      obtain ⟨he, hi⟩ := Core.merge1_events e
      obtain ⟨ke, ki⟩ := ih h
      refine ⟨ke.trans (Eq.trans ?_ he), ki.trans (Eq.trans ?_ hi)⟩ <;> split <;> rfl

theorem Core.hold_events (c : Core) (h : HeldAcc) : (c.hold h).events = c.events ∧ (c.hold h).interval = c.interval := by
  unfold Core.hold
  split <;> exact ⟨rfl, rfl⟩

theorem Core.closeOldest_events (c : Core) : c.closeOldest.events = c.events ∧ c.closeOldest.interval = c.interval := by
  unfold Core.closeOldest
  split <;> exact ⟨rfl, rfl⟩

/-- The states a push or an entry may lead to all satisfy `P`. -/
def Push.All (P : State → Prop) : Push → Prop
  | .done s | .full s | .faulted s _ => P s
  | .poison _ => True

def Entry.All (P : State → Prop) : Entry → Prop
  | .taken s | .again s | .stopped s => P s

theorem Entry.All.imp {P Q : State → Prop} {e : Entry} (h : e.All P) (f : ∀ s, P s → Q s) : e.All Q := by
  cases e <;> exact f _ h

/-- The push of a frame, at a core that is no shadow. -/
theorem State.pushFrame_steady {s : State} {n : Nat} (lvl : Nat) (fr : List Word) (hp : s.part n ≠ .shadow) :
    (s.pushFrame n lvl fr).All (Steady n s) := by
  unfold State.pushFrame
  dsimp only
  split
  · exact .refl n s
  · split
    · exact .refl n s
    · trivial
    next hs tlb hur _ =>
      have hk := Steady.keep s n tlb hur
      have path : Push.All (Steady n s) (match ((s.keep n tlb hur).core n).mergeAll (splitBytes hs (frameBytes fr)) with
          | some c => Push.done ((s.keep n tlb hur).setCore n c)
          | .none => Push.full ((s.keep n tlb hur).modCore n fun c => { c.closeOldest with freeze := some .mergeFull })) := by
        split
        next c e =>
          obtain ⟨he, hi⟩ := Core.mergeAll_events e
          exact hk.trans (.setCore he hi)
        next => exact hk.trans (.modCore (fun c => c.closeOldest_events.1) (fun c => c.closeOldest_events.2))
      split
      · exact path
      · exact path
      · exact hk.trans (.modCore (fun c => (Core.hold_events _ _).1) (fun c => (Core.hold_events _ _).2))

/-- An entry at a level, at a core of its own. -/
theorem State.enterAt_steady {s : State} {n : Nat} (lvl : Nat) (e : Exc) (nest multi cpend : Bool) (hp : s.part n ≠ .shadow) :
    (s.enterAt n lvl e nest multi cpend).All (Steady n s) := by
  have h := s.pushFrame_steady lvl ((s.core n).arch.frame (xcauseOf e nest multi cpend) (BitVec.ofNat 64 e.info)) hp
  unfold State.enterAt
  dsimp only
  split <;> rename_i q <;> rw [q] at h
  · exact h
  · refine Steady.trans ?_ (.lvPush _ _ _ _)
    exact .modCore (fun _ => rfl) (fun _ => rfl)
  · refine Steady.trans h (.modCore (fun c => ?_) (fun c => ?_)) <;> unfold Core.sign <;> split <;> rfl
  · refine Steady.trans h ?_
    split
    · exact .lvPush _ _ _ _
    · exact .refl _ _

theorem State.enter_steady {s : State} {n : Nat} (evLvl : Nat) (e : Exc) (multi cpend : Bool) (hp : s.part n ≠ .shadow) :
    (s.enter n evLvl e multi cpend).All (Steady n s) := by
  have h := s.enterAt_steady (takenAt e.vector evLvl (s.core n).arch.pl) e false multi cpend hp
  unfold State.enter
  dsimp only
  split
  next t q =>
    rw [q] at h
    split
    · exact (t.enterAt_steady 2 e true multi cpend (by rw [h.part]; exact hp)).imp fun _ => h.trans
    · exact h
  · exact h

/-! ### A core of its own at a boundary -/

/-- A core set to what it is reads as before, and so does every other. -/
theorem State.core_setCore_self (s : State) (n m : Nat) : (s.setCore n (s.core n)).core m = s.core m := by
  by_cases h : m = n
  · rw [h, State.core_setCore_same]
  · exact s.core_setCore_ne n m _ h

theorem State.logical_congr {s t : State} (hr : t.regs = s.regs) (ha : ∀ p, (t.pair p).alone = (s.pair p).alone) (n : Nat) :
    t.logical n = s.logical n := by
  rw [State.logical, State.logical, State.logicalOf, State.logicalOf, State.roleOf_congr hr ha, State.paired_congr hr]

theorem State.live_setCore_self (s : State) (n m : Nat) : (s.setCore n (s.core n)).live m = s.live m := by
  have hl : (s.setCore n (s.core n)).logical m = s.logical m := State.logical_congr rfl (fun _ => rfl) m
  have hf : (s.setCore n (s.core n)).foldRuns (foldOf m) = s.foldRuns (foldOf m) := rfl
  unfold State.live State.lstate
  dsimp only
  rw [hl, hf, State.part_setCore, State.core_setCore_self, State.core_setCore_self]

theorem State.shadowMarkDue_single {s : State} {n : Nat} (hp : s.part n = .single) : s.shadowMarkDue n = false := by
  simp [State.shadowMarkDue, hp]

theorem State.lvFull_single {s : State} {n : Nat} (k : Nat) (hp : s.part n = .single) : s.lvFull n k = false := by
  simp [State.lvFull, hp]

/-- A drain with nothing in flight takes no cycle. -/
theorem State.drain_nil {s : State} {n : Nat} (h : (s.core n).flights = []) :
    s.drain n = s.modCore n fun c => { c with timebase := c.timebase + 0 } := by
  simp only [State.drain, Core.drainCycles, h, List.foldl_nil]
  rfl

/-- No machine check of a released store waits. -/
theorem State.storeMchecks_nil {s : State} {n : Nat} (hb : (s.core n).bundle = none) (h : (s.core n).smchecks = []) :
    s.storeMchecks n = s.setCore n (s.core n) := by
  have e : ({ s.core n with mchecks := (s.core n).mchecks ++ [], smchecks := [] } : Core) = s.core n := by rw [List.append_nil, ← h]
  unfold State.storeMchecks
  dsimp only
  rw [if_neg (by simp [hb]), h, List.foldl_nil, e]

theorem State.part_foldl_modCore {α : Type} (l : List α) (f : α → Core → Core) (s : State) (n m : Nat) :
    (l.foldl (fun s x => s.modCore n (f x)) s).part m = s.part m := by
  induction l generalizing s with
  | nil => rfl
  | cons x l ih => exact (ih _).trans (s.part_modCore n m _)

/-- Traps dealt with leave what a core plays as it was. -/
@[simp] theorem State.part_settleTraps (s : State) (n m : Nat) (o : Option Flight) : (s.settleTraps n o).part m = s.part m :=
  (State.part_modCore _ _ _ _).trans (State.part_foldl_modCore _ _ _ _ _)

/-- The one trap, chosen, leaves its destination unwritten (R61). -/
theorem State.settleTraps_chosen {s : State} {n : Nat} {f : Flight} {tr : Trap} (hp : s.part n = .single) (ht : (s.core n).traps = [(f, tr)]) :
    (s.settleTraps n (some f)).core n = { s.core n with traps := [] } := by
  simp only [State.settleTraps, ht, List.foldl_cons, List.foldl_nil, State.signs_single hp, Core.sign_false, ne_eq, not_true_eq_false, decide_false,
    Bool.false_eq_true, if_false, State.core_modCore_same]

section
variable {s : State} {c : Nat} {k : Core}

/-- The drained core, with nothing in flight: its registers and what is due are those it had. -/
theorem State.core_drain_setCore (hf : k.flights = []) : ((s.setCore c k).drain c).core c = { k with timebase := k.timebase + 0 } := by
  rw [State.drain_nil (by rw [State.core_setCore_same, hf]), State.core_modCore_same, State.core_setCore_same]

theorem State.part_drain_setCore (hf : k.flights = []) (m : Nat) : ((s.setCore c k).drain c).part m = s.part m := by
  rw [State.drain_nil (by rw [State.core_setCore_same, hf]), State.part_modCore, State.part_setCore]

variable (hk : k = s.core c) (hl : s.live c = true) (hp : s.part c = .single) (hb : k.bundle = none)
  (hs : k.smchecks = []) (hf : k.flights = []) (hg : k.gdue = none) (ha : k.applicable = [])
include hk hl hp hb hs hf

/-- Nothing holds the entry up: what is at the boundary is `k`, and it is at work. -/
theorem exceptionEntry_ready : s.storeMchecks c = s.setCore c k ∧ (s.setCore c k).live c = true ∧ (s.setCore c k).shadowMarkDue c = false ∧
    ((s.setCore c k).drain c).core c = { k with timebase := k.timebase + 0 } := by
  refine ⟨?_, ?_, State.shadowMarkDue_single (by rw [State.part_setCore, hp]), State.core_drain_setCore hf⟩
  · rw [State.storeMchecks_nil (hk ▸ hb) (hk ▸ hs), ← hk]
  · rw [hk, State.live_setCore_self, hl]

include hg ha

/-- The fault of the bundle, where nothing else is due (R59, R61). -/
theorem exceptionEntry_fault {e : Exc} {t : State} (hm : k.mchecks = []) (hc : k.call = none) (ht : k.traps = []) (hx : k.fault = some e)
    (hn : ((s.setCore c k).drain c).enter c 1 e false false = .taken t) :
    exec (.exceptionEntry c) s = .next (t.modCore c fun k => { k with fault := none }) := by
  obtain ⟨hs1, hl1, hsm, hd⟩ := exceptionEntry_ready hk hl hp hb hs hf
  change execExceptionEntry c s = _
  simp only [execExceptionEntry, hp, hs1, hl1, hsm, State.core_setCore_same, hb, hg, ha, hx, hd, hm, hc, ht, hn, Core.excDue, Core.canDrain,
    Core.allReady, hf, firstTrap, List.foldl_nil, List.all_nil, List.isEmpty_nil, Option.isSome_none, Option.isSome_some, Bool.not_true,
    Bool.or_false, Bool.true_or, beq_self_eq_true, Bool.false_eq_true, reduceCtorEq, if_false]

/-- A call, with no trap and no machine check beside it (R59, R61). -/
theorem exceptionEntry_call {e : Exc} {t : State} (hm : k.mchecks = []) (hc : k.call = some e) (ht : k.traps = [])
    (hn : (((s.setCore c k).drain c).settleTraps c none).enter c 1 e false false = .taken t) :
    exec (.exceptionEntry c) s = .next (t.modCore c fun k => { k with call := none, fault := none }) := by
  obtain ⟨hs1, hl1, hsm, hd⟩ := exceptionEntry_ready hk hl hp hb hs hf
  change execExceptionEntry c s = _
  simp only [execExceptionEntry, hp, hs1, hl1, hsm, State.core_setCore_same, hb, hg, ha, hd, hm, hc, ht, hn, Core.excDue, Core.canDrain,
    Core.allReady, hf, firstTrap, List.foldl_nil, List.all_nil, List.isEmpty_nil, Option.isSome_none, Option.isSome_some, Bool.not_true,
    Bool.or_false, Bool.or_true, Bool.true_or, beq_self_eq_true, Bool.false_eq_true, reduceCtorEq, if_false]

/-- A trap alone (R59, R61). -/
theorem exceptionEntry_trap {f : Flight} {tr : Trap} {t : State} (hm : k.mchecks = []) (hc : k.call = none) (ht : k.traps = [(f, tr)])
    (hn : (((s.setCore c k).drain c).settleTraps c (some f)).enter c 1
      { vector := tr.vector, detail := tr.detail, info := f.addr / 16 * 16 + f.slot % 4 } false false = .taken t) :
    exec (.exceptionEntry c) s = .next (t.modCore c fun k => { k with fault := none }) := by
  obtain ⟨hs1, hl1, hsm, hd⟩ := exceptionEntry_ready hk hl hp hb hs hf
  change execExceptionEntry c s = _
  simp only [execExceptionEntry, hp, hs1, hl1, hsm, State.core_setCore_same, hb, hg, ha, hd, hm, hc, ht, hn, Core.excDue, Core.canDrain, trapInfo,
    Core.allReady, hf, firstTrap, List.foldl_nil, List.foldl_cons, List.all_nil, List.isEmpty_nil, List.isEmpty_cons, List.length_singleton,
    Nat.lt_irrefl, decide_false, Option.isSome_none, Bool.not_true, Bool.not_false, Bool.or_false, Bool.or_true, Bool.true_or, beq_self_eq_true,
    Bool.false_eq_true, reduceCtorEq, if_false]

/-- A machine check that no store caused, with nothing else due (R59, R61, R640). -/
theorem exceptionEntry_mcheck {m : MCheck} {t : State} (hm : k.mchecks = [m]) (hy : m.async = false) (hc : k.call = none) (ht : k.traps = [])
    (hn : (((s.setCore c k).drain c).settleTraps c none).enter c 2 { vector := 0x1F, detail := m.detail, info := m.info } false false = .taken t) :
    exec (.exceptionEntry c) s = .next ((t.modCore c fun k => { k with mchecks := [], call := none, fault := none }).recordMc m c) := by
  obtain ⟨hs1, hl1, hsm, hd⟩ := exceptionEntry_ready hk hl hp hb hs hf
  have hps : (((s.setCore c k).drain c).settleTraps c none).part c = .single := by
    rw [State.part_settleTraps, State.part_drain_setCore hf, hp]
  have hst := State.enter_steady 2 { vector := 0x1F, detail := m.detail, info := m.info } false false (ne_of_eq_of_ne hps (by decide))
  have hpt : t.part c = .single := by
    rw [hn] at hst
    exact (hst.part c).trans hps
  change execExceptionEntry c s = _
  simp only [execExceptionEntry, hp, hs1, hl1, hsm, State.core_setCore_same, hb, hg, ha, hd, hm, hc, ht, hn, hy, hpt, State.part_modCore, Core.excDue,
    Core.canDrain, Core.allReady, hf, firstTrap, List.foldl_nil, List.all_nil, List.isEmpty_nil, List.isEmpty_cons, Option.isSome_none,
    Bool.not_true, Bool.not_false, Bool.or_false, Bool.or_true, Bool.true_or, beq_self_eq_true, Bool.false_eq_true, decide_false, reduceCtorEq, if_false]

end

/-- An entry whose frame is pushed, at a core of its own (R61). -/
theorem State.enterAt_done {s u : State} {n lvl : Nat} {e : Exc} {nest multi cpend : Bool} (hp : s.part n = .single)
    (h : s.pushFrame n lvl ((s.core n).arch.frame (xcauseOf e nest multi cpend) (BitVec.ofNat 64 e.info)) = .done u) :
    s.enterAt n lvl e nest multi cpend = .taken (u.modCore n fun c => { c with
      timebase := c.timebase + 4, twaited := false, freeze := none,
      arch := c.arch.enter lvl e.vector (xcauseOf e nest multi cpend) (BitVec.ofNat 64 e.info) }) := by
  have hst := s.pushFrame_steady lvl ((s.core n).arch.frame (xcauseOf e nest multi cpend) (BitVec.ofNat 64 e.info))
    (ne_of_eq_of_ne hp (by decide))
  rw [h] at hst
  simp only [State.enterAt, h, State.signs_single ((hst.part n).trans hp), Core.sign_false]

/-! ### Events -/

/-- The router's part of an acceptance changes no core and no memory (R572). -/
theorem State.evTake_cores (s : State) (l src : Nat) : (s.evTake l src).cores = s.cores ∧ (s.evTake l src).mem = s.mem := by
  unfold State.evTake
  dsimp only
  split <;> exact ⟨rfl, rfl⟩

/-- A source cleared, its level's last acceptance written and a bit of the active sets set: what each of the three reads. -/
theorem State.evTake_reads (s : State) {r : Reg} {l src b : Nat} (last : Word) (hl : l < 216) (hs : src < 2048) (hb : b < 64)
    (hr : r = .evLast1 ∨ r = .evLast2) {u : State} (hu : u = ((s.evClear src).rset r l 0 last).rput .evActive l 0 b b 1) :
    u.rget .evStat src = 0 ∧ flag (u.rget .evActive l) b = true ∧ u.rget r l = last := by
  have hplace : l < r.place.n1 ∧ 0 < r.place.n2 := by obtain rfl | rfl := hr <;> exact ⟨hl, Nat.one_pos⟩
  have hne : r ≠ .evActive ∧ Reg.evStat ≠ r := by obtain rfl | rfl := hr <;> decide
  subst hu
  refine ⟨?_, ?_, ?_⟩
  · rw [State.rput, State.rmod, State.rget_rset_ne _ _ _ _ _ _ _ _ (Reg.addr_ne hs Nat.one_pos hl Nat.one_pos (by decide)),
      State.rget_rset_ne _ _ _ _ _ _ _ _ (Reg.addr_ne hs Nat.one_pos hplace.1 hplace.2 hne.2)]
    exact s.rget_rset_same _ _ _ _
  · rw [State.rput, State.rmod, State.rget_rset_same, flag_setFld _ _ _ _ _ le_rfl hb, if_pos ⟨le_rfl, le_rfl⟩, Nat.sub_self]
    rfl
  · rw [State.rput, State.rmod, State.rget_rset_ne _ _ _ _ _ _ _ _ (Reg.addr_ne hplace.1 hplace.2 hl Nat.one_pos hne.1),
      State.rget_rset_same]

/-- What an acceptance leaves in the router's registers (R567, R572). -/
theorem State.evTake_spec (s : State) {l src : Nat} (hl : l < 216) (hs : src < 2048) :
    (s.evTake l src).rget .evStat src = 0 ∧
    (s.evLevel src = 2 → flag ((s.evTake l src).rget .evActive l) (16 + s.rfld .evRoute src 0 59 56) = true ∧
      (s.evTake l src).rget .evLast2 l = BitVec.ofNat 64 (2 ^ 63 + s.rfld .evStat src 0 15 0 * 2 ^ 32 + src)) ∧
    (s.evLevel src = 1 → flag ((s.evTake l src).rget .evActive l) (s.rfld .evRoute src 0 59 56) = true ∧
      (s.evTake l src).rget .evLast1 l = BitVec.ofNat 64 (2 ^ 63 + s.rfld .evStat src 0 15 0 * 2 ^ 32 + src)) := by
  have hprio : s.rfld .evRoute src 0 59 56 < 16 := Nat.mod_lt _ (by decide)
  by_cases h : s.evLevel src = 2
  · obtain ⟨h0, h1, h2⟩ := s.evTake_reads (u := s.evTake l src) (b := 16 + s.rfld .evRoute src 0 59 56)
      (BitVec.ofNat 64 (2 ^ 63 + s.rfld .evStat src 0 15 0 * 2 ^ 32 + src)) hl hs (by omega) (.inr rfl)
      (by simp only [State.evTake, h, if_true])
    exact ⟨h0, fun _ => ⟨h1, h2⟩, fun h' => absurd (h.symm.trans h') (by decide)⟩
  · obtain ⟨h0, h1, h2⟩ := s.evTake_reads (u := s.evTake l src) (b := s.rfld .evRoute src 0 59 56)
      (BitVec.ofNat 64 (2 ^ 63 + s.rfld .evStat src 0 15 0 * 2 ^ 32 + src)) hl hs (by omega) (.inl rfl)
      (by simp only [State.evTake, h, if_false, Nat.zero_add])
    exact ⟨h0, fun h' => absurd h' h, fun _ => ⟨h1, h2⟩⟩

section
variable {s : State} {c source : Nat} {k : Core} (hk : k = s.core c) (hb : s.atBoundary c = true) (hp : s.part c = .single)
  (ha : k.applicable = []) (hc : k.call = none) (htr : k.traps = []) (hm : k.mchecks = []) (hs : k.smchecks = []) (hf : k.flights = [])
include hk hb hp ha hc htr hm hs hf

/-- The event the router chooses is accepted (R67, R571, R572). -/
theorem eventAccept_taken {t : State} (hte : k.takesEvents = true) (hch : s.evChoose (s.logical c) k.arch.pl = some source)
    (hn : (s.drain c).enter c (s.evLevel source) { vector := 0x10, detail := 0, info := source } false false = .taken t) :
    exec (.eventAccept c source) s = .next ((t.evTake (s.logical c) source).modCore c fun q =>
      { q with fault := none, events := k.events ++ [(k.interval, source, s.rfld .evStat source 0 15 0)] }) := by
  subst hk
  have hd := State.drain_nil hf
  have hpd : (s.drain c).part c = .single := by rw [hd, State.part_modCore, hp]
  have hdk : (s.drain c).core c = { s.core c with timebase := (s.core c).timebase + 0 } := by rw [hd, State.core_modCore_same]
  have hlv : (s.drain c).evLevel source = s.evLevel source := by rw [hd]; rfl
  have hcnt : (s.drain c).rfld .evStat source 0 15 0 = s.rfld .evStat source 0 15 0 := by rw [hd]; rfl
  have hst := State.enter_steady (s.evLevel source) { vector := 0x10, detail := 0, info := source } false false
    (ne_of_eq_of_ne hpd (by decide))
  rw [hn] at hst
  have hds : State.Steady c s (s.drain c) := hd ▸ .modCore (fun _ => rfl) (fun _ => rfl)
  have hs' : State.Steady c s t := hds.trans hst
  have htk : (t.evTake (s.logical c) source).core c = t.core c := congrArg (tget Core.reset · c) (t.evTake_cores _ _).1
  change execEventAccept c source s = _
  simp only [execEventAccept, hb, ha, hc, htr, hm, hs, hp, hte, hch, State.lvFull_single 1 hp, Core.canDrain, Core.allReady, hf, hdk,
    State.lvPush_single hpd, hlv, hcnt, hn, List.all_nil, List.isEmpty_nil, Option.isSome_none, Bool.not_true, Bool.or_self,
    ne_eq, not_true_eq_false, decide_false, Bool.false_eq_true, reduceCtorEq, if_false]
  rw [State.modCore, State.modCore, htk, hs'.events, hs'.interval]

end

/-! ### Completions -/

/-- A completion whose tally is PENDING is written to it (R52). -/
theorem completionApply_one {s : State} {c tn : Nat} {w : Word} {k : Core} (hk : k = s.core c) (hb : s.atBoundary c = true)
    (hp : s.part c = .single) (ha : k.arrived = [(tn, w)]) (ht : k.arch.rt tn = tallyPending) (hf : k.freeze = none) :
    exec (.completionApply c) s = .next (s.setCore c { k with
      arch := k.arch.write ⟨.tally tn, w.setWidth 128⟩, arrived := [], applied := k.applied ++ [(k.interval, tn, w)] }) := by
  subst hk
  have happ : (s.core c).applicable = [(tn, w)] := by simp [Core.applicable, ha, ht]
  change execCompletionApply c s = _
  simp [execCompletionApply, hb, happ, ha, State.lvFull_single _ hp, hf, State.lvPush_single, hp]

/-- A request accepted in spite of a reserved value completes (R108). -/
theorem reservedFieldCompletion_one {s : State} {q : Request} (h : s.rfield = [q]) :
    exec (.reservedFieldCompletion q.core q.tally) s = .next ({ s with rfield := [] }.complete q 1 0) := by
  change execReservedFieldCompletion q.core q.tally s = _
  simp [execReservedFieldCompletion, h, delFirst]

end Sys2Proof.Machine

open Sys2Proof Sys2Proof.Machine

/-- Settles O33: each condition by the equation of the command that takes it. -/
theorem boundaryConditionsAreTaken : Obligations.BoundaryConditionsAreTaken := by
  refine ⟨?_, ?_, ?_, ?_, ?_, ?_, fun s q h => reservedFieldCompletion_one h⟩
  · rintro s c k hk hl hp hb hg ha hs hf d
    refine ⟨fun e t hm hc ht hx hn => exceptionEntry_fault hk hl hp hb hs hf hg ha hm hc ht hx hn,
      fun e t hm hc ht hn => exceptionEntry_call hk hl hp hb hs hf hg ha hm hc ht hn,
      fun f tr t hm hc ht hn => ⟨?_, exceptionEntry_trap hk hl hp hb hs hf hg ha hm hc ht hn⟩,
      fun m t hm hy hc ht hn => exceptionEntry_mcheck hk hl hp hb hs hf hg ha hm hy hc ht hn⟩
    exact State.settleTraps_chosen ((State.part_drain_setCore hf c).trans hp) ((congrArg Core.traps (State.core_drain_setCore hf)).trans ht)
  · rintro s n lvl vec e nest multi cpend u hp hpush rfl
    exact State.enterAt_done hp hpush
  · rintro s c source k hk hb hp ha hc htr hm hs hf hte hch t hn
    exact eventAccept_taken hk hb hp ha hc htr hm hs hf hte hch hn
  · intro s l src hl hs
    obtain ⟨hstat, h2, h1⟩ := s.evTake_spec hl hs
    exact ⟨_, rfl, hstat, (s.evTake_cores l src).2, (s.evTake_cores l src).1, h2, h1⟩
  · rintro s c tn w k hk hb hp ha ht hf
    exact completionApply_one hk hb hp ha ht hf
  · rintro s c k rfl hg he hl hf
    exact congrArg Host.Outcome.next (if_pos ⟨hg, he, hl, hf⟩)

end

section
/-! Far memory operations: what the home agent's writes leave of the operations under way, one operation within a line, and its completion. -/

namespace Sys2Proof.Machine

/-! ### The far operations under way are left alone -/

section
variable (s : State)

@[simp] theorem State.setBytes_far (pa : Nat) (bs : List Byte) : (setBytes s pa bs).far = s.far := by
  induction bs generalizing s pa with
  | nil => rfl
  | cons b bs ih => exact ih _ _

@[simp] theorem State.setMemLine_far (line : Nat) (d : BitVec 512) : (s.setMemLine line d).far = s.far := s.setBytes_far _ _

@[simp] theorem State.memWriteLine_far (line : Nat) (d : BitVec 512) (p : Bool) : (s.memWriteLine line d p).far = s.far := by
  unfold State.memWriteLine
  simp only [apply_ite State.far, State.modMc_far, State.rput_far, State.setMemLine_far, ite_self]

@[simp] theorem State.sendMsgs_far (ms : List Msg) (bl : List (Nat × Nat)) : (sendMsgs ms bl s).far = s.far := by
  induction ms generalizing s bl with
  | nil => rfl
  | cons m ms ih =>
    unfold sendMsgs
    dsimp only
    split
    · exact ih _ _
    · split
      · exact ih _ _
      · exact ih _ _

@[simp] theorem State.ask_far (mtype dst addr param : Nat) (body : List Word) : (s.ask mtype dst addr param body).far = s.far :=
  State.sendMsgs_far _ _ _

@[simp] theorem State.setDir_far (line : Nat) (e : Option DirE) : (s.setDir line e).far = s.far := rfl

/-- What each step of a fold leaves, the fold leaves. -/
theorem State.foldl_far {α : Type} (l : List α) (f : State → α → State) (h : ∀ s x, (f s x).far = s.far) : (l.foldl f s).far = s.far := by
  induction l generalizing s with
  | nil => rfl
  | cons x l ih => exact (ih _).trans (h s x)

@[simp] theorem State.copiesGo_far (line : Nat) : (s.copiesGo line).far = s.far := by
  unfold State.copiesGo
  split
  · refine (State.foldl_far _ _ _ fun s h => s.ask_far _ _ _ _ _).trans ?_
    split
    · exact s.memWriteLine_far _ _ _
    · simp only [apply_ite State.far, State.memWriteLine_far, ite_self]
  · split
    · exact s.ask_far _ _ _ _ _
    · exact s.ask_far _ _ _ _ _
    · rfl

@[simp] theorem State.invalidateAll_far (line : Nat) : (s.invalidateAll line).far = s.far := s.copiesGo_far line

@[simp] theorem State.cleanAll_far (line : Nat) : (s.cleanAll line).far = s.far := by
  unfold State.cleanAll
  split
  · rfl
  · exact s.memWriteLine_far _ _ _

@[simp] theorem State.cohWriteMask_far (line : Nat) (d : BitVec 512) (m : BitVec 64) : (s.cohWriteMask line d m).far = s.far := by
  unfold State.cohWriteMask
  dsimp only
  split <;> simp

@[simp] theorem State.cohWrite_far (pa : Nat) (bs : List Byte) : (s.cohWrite pa bs).far = s.far :=
  s.foldl_far _ _ fun s _ => s.cohWriteMask_far _ _ _

end

/-! ### One operation within a line -/

theorem farDesc_len {ws : List Word} {d : FarDesc} (h : farDesc ws = some d) : 0 < d.len := by
  unfold farDesc at h
  dsimp only at h
  split at h
  · cases h
  next hb =>
    obtain rfl := Option.some.inj h
    simp only [Bool.or_eq_true, not_or, beq_iff_eq] at hb
    exact Nat.pos_of_ne_zero (by tauto)

theorem farStep_of_le {b src dst len : Nat} (hs : src % b + len ≤ b) (hd : dst % b + len ≤ b) : farStep b src dst len = len := by
  unfold farStep
  omega

/-- A physical address of main memory, for a request of P2. -/
theorem State.farXlate_p2 {s : State} {a : Nat} (kind : AKind) (h : s.mainMem a = true) : s.farXlate none a kind = (s, .ok a) := by
  simp [State.farXlate, State.dieXlate, h]

/-- An operation within a line takes one piece, of all its bytes. -/
theorem State.farRun_line {s u : State} {d : FarDesc} (fuel : Nat) (hlen : 0 < d.len) (hd : d.dst % 64 + d.len ≤ 64) (hm : s.mainMem d.dst = true)
    (hs : d.op = 1 → d.src % 64 + d.len ≤ 64 ∧ s.mainMem d.src = true)
    (hp : s.farPiece s d.op d.src (if d.op = 1 then d.src else 0) d.dst d.dst d.len = (u, 0)) :
    s.farRun s none d (fuel + 2) 0 = (u, 0, d.len) := by
  by_cases h1 : d.op = 1
  · obtain ⟨hsl, hsm⟩ := hs h1
    rw [if_pos h1] at hp
    simp only [State.farRun, Nat.not_le.mpr hlen, h1, Nat.add_zero, Nat.sub_zero, farStep_of_le hsl hd, State.farXlate_p2 _ hsm, State.farXlate_p2 _ hm,
      h1 ▸ hp, Nat.zero_add, if_false, if_true]
    exact if_pos le_rfl
  · rw [if_neg h1] at hp
    simp only [State.farRun, Nat.not_le.mpr hlen, h1, Nat.add_zero, Nat.sub_zero, farStep_of_le hd hd, State.farXlate_p2 _ hm,
      hp, Nat.zero_add, if_false]
    exact if_pos le_rfl

section
variable {s : State} {t op : Nat} {q : Request} {rest : List Request} {d : FarDesc} (ht : tget [] s.troughs t = q :: rest) (hf : s.far = [])
  (hq : q.pl = 2) (hh : bits q.header 63 60 = 4) (hop : bits q.header 55 48 = op) (hm : bits q.header 34 32 = s.ownModule)
  (hw : farDesc (s.memWords q.desc 8) = some d) {s0 u : State} (h0 : s0 = { s with troughs := tput [] s.troughs t rest })
include ht hf hq hh hop hm hw h0

/-- The head of a trough is performed and awaits its completion. -/
theorem State.farOp_line (ho : ¬(d.op = 1 ∧ d.src < d.dst + d.len ∧ d.dst < d.src + d.len)) (hu : u.far = [])
    (hr : s0.farRun s0 none d (d.len / 32 + 4) 0 = (u, 0, d.len)) :
    s.farOp t op = { u with far := [{ trough := t, req := q, status := 0, bytes := d.len, pieces := [] }] } := by
  have hw' : farDesc (s0.memWords q.desc 8) = some d := h0 ▸ hw
  have hown : s0.ownModule = s.ownModule := by rw [h0]
  have hp : s0.present s.ownModule = true := by simp [State.present, hown]
  have hag : q.agent = none := if_pos hq
  unfold State.farOp
  simp only [ht]
  rw [if_neg (by simp [hf, hh, hop]), ← h0]
  simp only [hw', hm, hp, hag, hr, hu, if_neg ho, List.nil_append, Bool.not_true, Bool.false_eq_true, if_false, if_true]

end

/-- COPY, where the operation has changed nothing yet (R236). -/
theorem State.farCopy_self (s : State) (sp dp n : Nat) : s.farCopy s sp dp n = s.cohWrite dp (s.cohBytes sp n) := if_pos ⟨rfl, rfl⟩

theorem toBytes_getElem? (n v k : Nat) (h : k < n) : (toBytes n v)[k]? = some (BitVec.ofNat 8 (v / 2 ^ (8 * k))) := by
  induction n generalizing v k with
  | zero => omega
  | succ n ih =>
    cases k with
    | zero => simp [toBytes]
    | succ k =>
      rw [toBytes, List.getElem?_cons_succ, ih _ _ (by omega), Nat.div_div_eq_div_mul, show (256 : Nat) = 2 ^ 8 from rfl, ← Nat.pow_add,
        Nat.mul_add, Nat.mul_one, Nat.add_comm 8]

/-- A byte of FILL is that of its pattern, aligned to the address (R234). -/
theorem lget_fillBytes {pattern dst n j : Nat} (h : j < n) :
    lget 0 (fillBytes pattern dst n) j = BitVec.ofNat 8 (pattern / 2 ^ (8 * ((dst + j) % 8))) := by
  simp [fillBytes, lget, h, toBytes_getElem? 8 pattern ((dst + j) % 8) (Nat.mod_lt _ (by decide))]

/-! ### Completion -/

/-- The one operation under way, with no piece outstanding, completes (R236). -/
theorem farMemoryComplete_one {s : State} {x : FarOp} (h : s.far = [x]) (hp : x.pieces = []) :
    exec (.farMemoryComplete x.req.ticket) s = .next ({ s with far := [] }.complete x.req x.status x.bytes) := by
  change execFarMemoryComplete x.req.ticket s = _
  simp [execFarMemoryComplete, h, hp, farSum, delFirst]

section
variable (s : State) (r : Nat) (hr : r < 257) (v : Word)
include hr

/-- PT_INFL lies below every register of the pairs. -/
theorem rset_ptInfl_spareFor : (s.rset .ptInfl r 0 v).spareFor = s.spareFor := by
  funext f
  rw [State.spareFor, State.spareFor, State.rget_rset_ne _ _ _ _ _ _ _ _ (by simp only [Reg.addr, Reg.place]; omega)]

theorem rset_ptInfl_paired : (s.rset .ptInfl r 0 v).paired = s.paired := by
  funext p
  rw [State.paired, State.paired, State.rbit, State.rbit, State.rget_rset_ne _ _ _ _ _ _ _ _ (by simp only [Reg.addr, Reg.place]; omega)]

theorem rset_ptInfl_degraded : (s.rset .ptInfl r 0 v).degraded = s.degraded := by
  funext p
  rw [State.degraded, State.degraded, State.rbit, State.rbit, State.rget_rset_ne _ _ _ _ _ _ _ _ (by simp only [Reg.addr, Reg.place]; omega)]

theorem rset_ptInfl_coresOf (l : Nat) : (s.rset .ptInfl r 0 v).coresOf l = s.coresOf l := by
  unfold State.coresOf State.physOf
  rw [rset_ptInfl_paired s r hr v, rset_ptInfl_degraded s r hr v, rset_ptInfl_spareFor s r hr v]
  rfl

end

/-- The word of a completion for a RUNNING logical core waits at its first core (R52). -/
theorem State.deliver_running {s : State} {l c : Nat} {ns : List Nat} (tally : Nat) (w : Word) (hl : s.lstate l = 0) (hc : s.coresOf l = c :: ns) :
    s.deliver l tally w = s.modCore c fun q => { q with arrived := q.arrived ++ [(tally, w)] } := by
  simp only [State.deliver, hl, hc, ne_eq, not_true_eq_false, false_and, if_false]

/-- A request of a RUNNING logical core completes (R52, R525). -/
theorem State.complete_running {s : State} {q : Request} {c : Nat} {ns : List Nat} (st n : Nat) (hl : s.lstate q.core = 0)
    (hc : s.coresOf q.core = c :: ns) (hr : q.res < 257) :
    s.complete q st n = (s.rset .ptInfl q.res 0 (BitVec.ofNat 64 ((s.rget .ptInfl q.res).toNat - 1))).modCore c fun k =>
      { k with arrived := k.arrived ++ [(q.tally, BitVec.ofNat 64 (st * 2 ^ 48 + n % 2 ^ 48))] } :=
  State.deliver_running _ _ hl ((rset_ptInfl_coresOf s q.res hr _ _).trans hc)

end Sys2Proof.Machine

open Sys2Proof Sys2Proof.Machine

/-- Settles O46: an operation within a line is one piece at the home agent, and its completion is a word at a core. -/
theorem farMemoryOperations : Obligations.FarMemoryOperations := by
  refine ⟨?_, fun pattern dst n j => lget_fillBytes, fun s x => farMemoryComplete_one, ?_⟩
  · intro s t q rest d ht hf hq hh hop hm hw hd hmd s0 h0 done
    have hlen := farDesc_len hw
    have hm0 : s0.mainMem d.dst = true := by rw [h0]; exact hmd
    have key : ∀ i u, exec i s = .next (s.farOp t d.op) → ¬(d.op = 1 ∧ d.src < d.dst + d.len ∧ d.dst < d.src + d.len) → u.far = [] →
        (d.op = 1 → d.src % 64 + d.len ≤ 64 ∧ s0.mainMem d.src = true) →
        s0.farPiece s0 d.op d.src (if d.op = 1 then d.src else 0) d.dst d.dst d.len = (u, 0) → done i u := fun i u hi ho hu hs hp =>
      hi.trans (congrArg _ (State.farOp_line ht hf hq hh hop hm hw h0 ho hu (State.farRun_line _ hlen hd hm0 hs hp)))
    have hf0 : s0.far = [] := by rw [h0]; exact hf
    refine ⟨fun h1 hsl hsm hpo hno => ?_, fun h2 => ?_, fun h3 => ?_, fun h4 => ?_⟩
    · refine key _ _ (by rw [h1]; rfl) (by omega) ((s0.cohWrite_far _ _).trans hf0) (fun _ => ⟨hsl, by rw [h0]; exact hsm⟩) ?_
      have hpo' : s0.cohPoison d.src d.len = none := by rw [h0]; exact hpo
      have hb : s0.cohBytes d.src d.len = s.cohBytes d.src d.len := by rw [h0]; rfl
      simp only [h1, if_true, State.farPiece, hpo', State.farCopy_self, hb]
    · refine key _ _ (by rw [h2]; rfl) (by omega) ((s0.cohWrite_far _ _).trans hf0) (by omega) ?_
      rw [h2]
      rfl
    · refine key _ _ (by rw [h3]; rfl) (by omega) ((s0.cleanAll_far _).trans hf0) (by omega) ?_
      rw [h3]
      rfl
    · refine key _ _ (by rw [h4]; rfl) (by omega) ((s0.invalidateAll_far _).trans hf0) (by omega) ?_
      rw [h4]
      rfl
  · intro s q st n c ns hl hc hr
    refine ⟨_, rfl, ?_⟩
    rw [State.complete_running st n hl hc hr]
    exact ⟨s.rget_rset_same _ _ _ _, rfl, by rw [State.core_modCore_same]; rfl⟩

end

section
/-! Encoding and decoding: the fields of a word in each format of R77, and the operation read back from its word. -/

namespace Sys2Proof.Machine

/-! ### The fields of a word, format by format -/

theorem wordField_toNat (w : OpWord) (n lo : Nat) : (wordField w n lo).toNat = w.toNat / 2 ^ lo % 2 ^ n := by
  rw [wordField, BitVec.extractLsb'_toNat, Nat.shiftRight_eq_div_pow]

/-- A word is its guard, its major and its payload (R75). -/
theorem opw_toNat (x : Slot) (maj p : Nat) : (opw x maj p).toNat = (x.guard.toNat * 2 ^ 29 + maj * 2 ^ 24 + p) % 2 ^ 32 := by
  rw [opw, BitVec.toNat_ofNat]

section
variable {w : OpWord} {x : Slot} {maj m : Nat} (hmaj : maj < 32)
include hmaj

/-- A payload of a minor alone, in six bits or in four. -/
theorem wordField_minor (hw : opw x maj m = w) (hm : m < 16) :
    wordField w 3 29 = x.guard ∧ (wordField w 5 24).toNat = maj ∧ (wordField w 6 0).toNat = m ∧ (wordField w 4 0).toNat = m := by
  simp only [← BitVec.toNat_inj, wordField_toNat, ← hw, opw_toNat]; omega

/-- A code above a minor (R83: SYSCALL, MGRCALL). -/
theorem wordField_code {c : BitVec 18} (hw : opw x maj (c.toNat * 2 ^ 6 + m) = w) (hm : m < 64) :
    wordField w 3 29 = x.guard ∧ (wordField w 5 24).toNat = maj ∧ wordField w 18 6 = c ∧ (wordField w 6 0).toNat = m := by
  simp only [← BitVec.toNat_inj, wordField_toNat, ← hw, opw_toNat]; omega

/-- A register and a control register above a minor (R83: CRD, CWR). -/
theorem wordField_creg {r : BitVec 6} {c : BitVec 8} (hw : opw x maj (r.toNat * 2 ^ 18 + c.toNat * 2 ^ 10 + m) = w) (hm : m < 64) :
    wordField w 3 29 = x.guard ∧ (wordField w 5 24).toNat = maj ∧ wordField w 6 18 = r ∧ wordField w 8 10 = c ∧ (wordField w 6 0).toNat = m := by
  simp only [← BitVec.toNat_inj, wordField_toNat, ← hw, opw_toNat]; omega

/-- A register and a tally above a minor (R83: TRD, TWAIT). -/
theorem wordField_tally {r : BitVec 6} {t : BitVec 4} (hw : opw x maj (r.toNat * 2 ^ 18 + t.toNat * 2 ^ 10 + m) = w) (hm : m < 64) :
    wordField w 3 29 = x.guard ∧ (wordField w 5 24).toNat = maj ∧ wordField w 6 18 = r ∧ wordField w 4 10 = t ∧ (wordField w 6 0).toNat = m := by
  simp only [← BitVec.toNat_inj, wordField_toNat, ← hw, opw_toNat]; omega

/-- An immediate of 16 bits alone (REPI, SPADD). -/
theorem wordField_imm16 {n : BitVec 16} (hw : opw x maj n.toNat = w) :
    wordField w 3 29 = x.guard ∧ (wordField w 5 24).toNat = maj ∧ (wordField w 1 23).toNat = 0 ∧ wordField w 16 0 = n := by
  simp only [← BitVec.toNat_inj, wordField_toNat, ← hw, opw_toNat]; omega

theorem wordField_repn {n : BitVec 7} (hw : opw x maj (2 ^ 23 + n.toNat) = w) :
    wordField w 3 29 = x.guard ∧ (wordField w 5 24).toNat = maj ∧ (wordField w 1 23).toNat = 1 ∧ wordField w 7 0 = n := by
  simp only [← BitVec.toNat_inj, wordField_toNat, ← hw, opw_toNat]; omega

theorem wordField_bt {p : BitVec 3} {d : BitVec 20} (hw : opw x maj (p.toNat * 2 ^ 21 + 2 ^ 20 + d.toNat) = w) :
    wordField w 3 29 = x.guard ∧ (wordField w 5 24).toNat = maj ∧ wordField w 3 21 = p ∧ (wordField w 1 20).toNat = 1 ∧ wordField w 20 0 = d := by
  simp only [← BitVec.toNat_inj, wordField_toNat, ← hw, opw_toNat]; omega

theorem wordField_bf {p : BitVec 3} {d : BitVec 20} (hw : opw x maj (p.toNat * 2 ^ 21 + d.toNat) = w) :
    wordField w 3 29 = x.guard ∧ (wordField w 5 24).toNat = maj ∧ wordField w 3 21 = p ∧ (wordField w 1 20).toNat = 0 ∧ wordField w 20 0 = d := by
  simp only [← BitVec.toNat_inj, wordField_toNat, ← hw, opw_toNat]; omega

theorem wordField_call {d : BitVec 24} (hw : opw x maj d.toNat = w) :
    wordField w 3 29 = x.guard ∧ (wordField w 5 24).toNat = maj ∧ wordField w 24 0 = d := by
  simp only [← BitVec.toNat_inj, wordField_toNat, ← hw, opw_toNat]; omega

/-- A target register above a minor (R85: BRI, CALLI). -/
theorem wordField_bri {a : BitVec 6} (hw : opw x maj (a.toNat * 2 ^ 12 + m) = w) (hm : m < 16) :
    wordField w 3 29 = x.guard ∧ (wordField w 5 24).toNat = maj ∧ wordField w 6 12 = a ∧ (wordField w 4 0).toNat = m := by
  simp only [← BitVec.toNat_inj, wordField_toNat, ← hw, opw_toNat]; omega

theorem wordField_pay3 {d a b : BitVec 6} (hw : opw x maj (pay3 d a b m) = w) (hm : m < 64) :
    wordField w 3 29 = x.guard ∧ (wordField w 5 24).toNat = maj ∧ wordField w 6 18 = d ∧ wordField w 6 12 = a ∧ wordField w 6 6 = b ∧
      (wordField w 6 0).toNat = m := by
  simp only [← BitVec.toNat_inj, wordField_toNat, ← hw, opw_toNat, pay3]; omega

theorem wordField_addi {d a : BitVec 6} {i : BitVec 12} (hw : opw x maj (d.toNat * 2 ^ 18 + a.toNat * 2 ^ 12 + i.toNat) = w) :
    wordField w 3 29 = x.guard ∧ (wordField w 5 24).toNat = maj ∧ wordField w 6 18 = d ∧ wordField w 6 12 = a ∧ wordField w 12 0 = i := by
  simp only [← BitVec.toNat_inj, wordField_toNat, ← hw, opw_toNat]; omega

theorem wordField_logi {d a : BitVec 6} {i : BitVec 10} (hw : opw x maj (payImm d a m i.toNat) = w) (hm : m < 4) :
    wordField w 3 29 = x.guard ∧ (wordField w 5 24).toNat = maj ∧ wordField w 6 18 = d ∧ wordField w 6 12 = a ∧ (wordField w 2 10).toNat = m ∧
      wordField w 10 0 = i := by
  simp only [← BitVec.toNat_inj, wordField_toNat, ← hw, opw_toNat, payImm]; omega

theorem wordField_shi {d a : BitVec 6} {i : BitVec 6} (hw : opw x maj (payImm d a m i.toNat) = w) (hm : m < 4) :
    wordField w 3 29 = x.guard ∧ (wordField w 5 24).toNat = maj ∧ wordField w 6 18 = d ∧ wordField w 6 12 = a ∧ (wordField w 2 10).toNat = m ∧
      wordField w 6 0 = i := by
  simp only [← BitVec.toNat_inj, wordField_toNat, ← hw, opw_toNat, payImm]; omega

theorem wordField_mov {d : BitVec 6} {h : BitVec 2} {i : BitVec 16} (hw : opw x maj (d.toNat * 2 ^ 18 + h.toNat * 2 ^ 16 + i.toNat) = w) :
    wordField w 3 29 = x.guard ∧ (wordField w 5 24).toNat = maj ∧ wordField w 6 18 = d ∧ wordField w 2 16 = h ∧ wordField w 16 0 = i := by
  simp only [← BitVec.toNat_inj, wordField_toNat, ← hw, opw_toNat]; omega

/-- A compare of registers (R92). -/
theorem wordField_payCmp {p : BitVec 3} {a b : BitVec 6} (hw : opw x maj (payCmp p a.toNat b.toNat m) = w) (hm : m < 64) :
    wordField w 3 29 = x.guard ∧ (wordField w 5 24).toNat = maj ∧ wordField w 3 21 = p ∧ wordField w 6 12 = a ∧ wordField w 6 6 = b ∧
      (wordField w 6 0).toNat = m := by
  simp only [← BitVec.toNat_inj, wordField_toNat, ← hw, opw_toNat, payCmp]; omega

/-- A logical operation on predicates (R92). -/
theorem wordField_payCmp_preds {p a b : BitVec 3} (hw : opw x maj (payCmp p a.toNat b.toNat m) = w) (hm : m < 64) :
    wordField w 3 29 = x.guard ∧ (wordField w 5 24).toNat = maj ∧ wordField w 3 21 = p ∧ wordField w 3 12 = a ∧ wordField w 3 6 = b ∧
      (wordField w 6 0).toNat = m := by
  simp only [← BitVec.toNat_inj, wordField_toNat, ← hw, opw_toNat, payCmp]; omega

theorem wordField_payCmpi {p : BitVec 3} {a : BitVec 6} {i : BitVec 12} (hw : opw x maj (payCmpi p m a i) = w) (hm : m < 8) :
    wordField w 3 29 = x.guard ∧ (wordField w 5 24).toNat = maj ∧ wordField w 3 21 = p ∧ (wordField w 3 18).toNat = m ∧ wordField w 6 12 = a ∧
      wordField w 12 0 = i := by
  simp only [← BitVec.toNat_inj, wordField_toNat, ← hw, opw_toNat, payCmpi]; omega

theorem wordField_payMem {r b : BitVec 6} {z : BitVec 3} {h : BitVec 1} {o : BitVec 8} (hw : opw x maj (payMem r b z h o) = w) :
    wordField w 3 29 = x.guard ∧ (wordField w 5 24).toNat = maj ∧ wordField w 6 18 = r ∧ wordField w 6 12 = b ∧ wordField w 3 9 = z ∧
      wordField w 1 8 = h ∧ wordField w 8 0 = o := by
  simp only [← BitVec.toNat_inj, wordField_toNat, ← hw, opw_toNat, payMem]; omega

theorem wordField_payAtom {d b r : BitVec 6} {z : BitVec 2} (hw : opw x maj (payAtom d b r z m) = w) (hm : m < 16) :
    wordField w 3 29 = x.guard ∧ (wordField w 5 24).toNat = maj ∧ wordField w 6 18 = d ∧ wordField w 6 12 = b ∧ wordField w 6 6 = r ∧
      wordField w 2 4 = z ∧ (wordField w 4 0).toNat = m := by
  simp only [← BitVec.toNat_inj, wordField_toNat, ← hw, opw_toNat, payAtom]; omega

theorem wordField_payCmx {r b : BitVec 6} {z : BitVec 3} (hw : opw x maj (payCmx r.toNat b.toNat z.toNat m) = w) (hm : m < 16) :
    wordField w 3 29 = x.guard ∧ (wordField w 5 24).toNat = maj ∧ wordField w 6 18 = r ∧ wordField w 6 12 = b ∧ wordField w 3 9 = z ∧
      (wordField w 4 0).toNat = m := by
  simp only [← BitVec.toNat_inj, wordField_toNat, ← hw, opw_toNat, payCmx]; omega

theorem wordField_submit {d a : BitVec 6} {t : BitVec 4} (hw : opw x maj (d.toNat * 2 ^ 18 + a.toNat * 2 ^ 12 + t.toNat * 2 ^ 8) = w) :
    wordField w 3 29 = x.guard ∧ (wordField w 5 24).toNat = maj ∧ wordField w 6 18 = d ∧ wordField w 6 12 = a ∧ wordField w 4 8 = t := by
  simp only [← BitVec.toNat_inj, wordField_toNat, ← hw, opw_toNat]; omega

theorem wordField_payFop {d a b : BitVec 5} {f : BitVec 2} (hw : opw x maj (payFop d a b.toNat f m) = w) (hm : m < 64) :
    wordField w 3 29 = x.guard ∧ (wordField w 5 24).toNat = maj ∧ wordField w 5 19 = d ∧ wordField w 5 14 = a ∧ wordField w 5 9 = b ∧
      wordField w 2 7 = f ∧ (wordField w 6 0).toNat = m := by
  simp only [← BitVec.toNat_inj, wordField_toNat, ← hw, opw_toNat, payFop]; omega

/-- A conversion between formats, whose source format stands in the low bits of FB (R99: FCVT). -/
theorem wordField_payFop_format {d a : BitVec 5} {g f : BitVec 2} (hw : opw x maj (payFop d a g.toNat f m) = w) (hm : m < 64) :
    wordField w 3 29 = x.guard ∧ (wordField w 5 24).toNat = maj ∧ wordField w 5 19 = d ∧ wordField w 5 14 = a ∧ wordField w 2 9 = g ∧
      wordField w 2 7 = f ∧ (wordField w 6 0).toNat = m := by
  simp only [← BitVec.toNat_inj, wordField_toNat, ← hw, opw_toNat, payFop]; omega

theorem wordField_payFma {d a b c : BitVec 5} {f : BitVec 2} (hw : opw x maj (payFma d a b c f m) = w) (hm : m < 4) :
    wordField w 3 29 = x.guard ∧ (wordField w 5 24).toNat = maj ∧ wordField w 5 19 = d ∧ wordField w 5 14 = a ∧ wordField w 5 9 = b ∧
      wordField w 5 4 = c ∧ wordField w 2 2 = f ∧ (wordField w 2 0).toNat = m := by
  simp only [← BitVec.toNat_inj, wordField_toNat, ← hw, opw_toNat, payFma]; omega

theorem wordField_payFx {g : BitVec 6} {r : BitVec 5} {f : BitVec 2} (hw : opw x maj (payFx g r f.toNat m) = w) (hm : m < 16) :
    wordField w 3 29 = x.guard ∧ (wordField w 5 24).toNat = maj ∧ wordField w 6 18 = g ∧ wordField w 5 13 = r ∧ wordField w 2 11 = f ∧
      (wordField w 4 0).toNat = m := by
  simp only [← BitVec.toNat_inj, wordField_toNat, ← hw, opw_toNat, payFx]; omega

theorem wordField_payFcmp {p : BitVec 3} {f : BitVec 2} {a b : BitVec 5} (hw : opw x maj (payFcmp p f a b m) = w) (hm : m < 16) :
    wordField w 3 29 = x.guard ∧ (wordField w 5 24).toNat = maj ∧ wordField w 3 21 = p ∧ wordField w 2 18 = f ∧ wordField w 5 13 = a ∧
      wordField w 5 8 = b ∧ (wordField w 4 0).toNat = m := by
  simp only [← BitVec.toNat_inj, wordField_toNat, ← hw, opw_toNat, payFcmp]; omega

theorem wordField_payTbl {d a b : BitVec 5} (hw : opw x maj (payTbl d a b m) = w) (hm : m < 4) :
    wordField w 3 29 = x.guard ∧ (wordField w 5 24).toNat = maj ∧ wordField w 5 19 = d ∧ wordField w 5 14 = a ∧ wordField w 5 9 = b ∧
      (wordField w 2 0).toNat = m := by
  simp only [← BitVec.toNat_inj, wordField_toNat, ← hw, opw_toNat, payTbl]; omega

theorem wordField_payStep {q r d : BitVec 5} {f : BitVec 2} (hw : opw x maj (payStep q r d f m) = w) (hm : m < 16) :
    wordField w 3 29 = x.guard ∧ (wordField w 5 24).toNat = maj ∧ wordField w 5 19 = q ∧ wordField w 5 14 = r ∧ wordField w 5 9 = d ∧
      wordField w 2 7 = f ∧ (wordField w 4 0).toNat = m := by
  simp only [← BitVec.toNat_inj, wordField_toNat, ← hw, opw_toNat, payStep]; omega

end

/-! ### The operation of a word -/

/-- A well-formed operation has a word that is no reserved encoding in its slot. -/
theorem opReserved_of_wf {i : Instr} {x : Slot} (h : placeOf i = some x) (hwf : i.wf = true) : opReserved x.slot (encode i) = false := by
  have e : i.wf = opWf x (encode i) := by cases i <;> cases h <;> rfl
  rw [e, opWf, Bool.and_eq_true, Bool.not_eq_true'] at hwf
  exact hwf.2

/-- The errors of chance that an operation carries. -/
def chanceOf : Instr → Chance
  | .ld _ _ _ _ _ _ ch | .lds _ _ _ _ _ _ ch | .ldf _ _ _ _ _ _ ch | .tlfl _ _ _ _ ch | .tlin _ _ _ _ ch | .tllg _ _ _ _ ch => ch
  | _ => ⟨.none, .none⟩

/-- An operation's word decodes to it, but for a CWR of CCTL: the major and the minor select its row, and each operand is read from
the field of its format it was put in. -/
theorem decodeOp_encode {i : Instr} {x : Slot} (h : placeOf i = some x) (hr : opReserved x.slot (encode i) = false)
    (hc : ∀ rs, i ≠ .cwr x 9 rs) : decodeOp x.core x.slot (chanceOf i) (encode i) = some i := by
  generalize hw : encode i = w at hr ⊢
  simp only [decodeOp, hr, Bool.false_eq_true, if_false]
  cases i with
  | nop | iret | fenceS | fenceF | gath | wfe | ret => cases h; simp only [wordField_minor (by decide) hw (by decide)]
  | syscall | mgrcall => cases h; simp only [wordField_code (by decide) hw (by decide)]
  | crd => cases h; simp only [wordField_creg (by decide) hw (by decide)]
  | cwr y c rs =>
    cases h
    have h9 : c ≠ 9 := fun e => hc rs (by rw [e])
    simp only [wordField_creg (by decide) hw (by decide), h9, if_false]
  | cctlWrite => cases h; simp only [wordField_creg (c := 9) (by decide) hw (by decide), if_true]
  | trd | twait => cases h; simp only [wordField_tally (by decide) hw (by decide)]
  | repi | spadd => cases h; simp only [wordField_imm16 (by decide) hw]
  | repn => cases h; simp only [wordField_repn (by decide) hw]
  | bt => cases h; simp only [wordField_bt (by decide) hw]
  | bf => cases h; simp only [wordField_bf (by decide) hw]
  | call => cases h; simp only [wordField_call (by decide) hw]
  | bri | calli => cases h; simp only [wordField_bri (by decide) hw (by decide)]
  | add | sub | addv | subv | and | or | xor | andn | shl | shr | sar | ror | min | max | minu | maxu | neg | negv | clz | ctz | popc
  | bswap | mul | mulh | mulhu | mulv | divsP | divuP | dstep | dfin | dnorm =>
    cases h; simp only [wordField_pay3 (by decide) hw (by decide)]
  | addi => cases h; simp only [wordField_addi (by decide) hw]
  | andi | ori | xori => cases h; simp only [wordField_logi (by decide) hw (by decide)]
  | shli | shri | sari | rori => cases h; simp only [wordField_shi (by decide) hw (by decide)]
  | movz | movk => cases h; simp only [wordField_mov (by decide) hw]
  | cmpEq | cmpNe | cmpLt | cmpLe | cmpLtu | cmpLeu | tst => cases h; simp only [wordField_payCmp (by decide) hw (by decide)]
  | pand | por | pxor | pandn => cases h; simp only [wordField_payCmp_preds (by decide) hw (by decide)]
  | cmpiEq | cmpiNe | cmpiLt | cmpiLe | cmpiGt | cmpiGe | cmpiLtu | cmpiGeu =>
    cases h; simp only [wordField_payCmpi (by decide) hw (by decide)]
  | ld | lds | st | ldf | stf => cases h; simp only [wordField_payMem (by decide) hw, chanceOf]
  | swap | atomicFadd | cas => cases h; simp only [wordField_payAtom (by decide) hw (by decide)]
  | strel => cases h; simp only [wordField_payCmx (by decide) hw (by decide)]
  | dci | ici | dcf | dcfi | dzl => cases h; simp only [wordField_payCmx (r := 0) (z := 0) (by decide) hw (by decide)]
  | dcia | icia => cases h; simp only [wordField_payCmx (r := 0) (b := 0) (z := 0) (by decide) hw (by decide)]
  | submit => cases h; simp only [wordField_submit (by decide) hw]
  | fadd | fsub | fmul | fmin | fmax | fcps | dqua => cases h; simp only [wordField_payFop (by decide) hw (by decide)]
  | fabs | fneg | frint => cases h; simp only [wordField_payFop (b := 0) (by decide) hw (by decide)]
  | fcvt => cases h; simp only [wordField_payFop_format (by decide) hw (by decide)]
  | fma | fms | fnma | fnms => cases h; simp only [wordField_payFma (by decide) hw (by decide)]
  | fmvg | fmvgh | gmvf | gmvfh => cases h; simp only [wordField_payFx (f := 0) (by decide) hw (by decide)]
  | fcvtG | fcvtzG | fcvtF | fcvtuF => cases h; simp only [wordField_payFx (by decide) hw (by decide)]
  | fcmpEq | fcmpLt | fcmpLe | fcmpUn | fcmpLtq | fcmpLeq | fcmpEqs => cases h; simp only [wordField_payFcmp (by decide) hw (by decide)]
  | tlfl | tlin | tllg => cases h; simp only [wordField_payTbl (by decide) hw (by decide), chanceOf]
  | fdivP | fdstep | fdfin | fsqrtP | frstep | frfin | xdivP | xdstep | xdfin =>
    cases h; simp only [wordField_payStep (by decide) hw (by decide)]
  | _ => cases h

/-- A CWR of CCTL has the word of the row that names it. -/
theorem encode_cwr_cctl (x : Slot) (rs : BitVec 6) : encode (.cwr x 9 rs) = encode (.cctlWrite x rs) := rfl

/-- A reserved encoding decodes to no operation (R79). -/
theorem decodeOp_reserved (core : Nat) {slot : Nat} (ch : Chance) {w : OpWord} (h : opReserved slot w = true) : decodeOp core slot ch w = none := by
  rw [decodeOp, if_pos h]

/-- The word of all zeros has major 0, which no slot accepts (R77, R80). -/
theorem opReserved_zero (slot : Nat) : opReserved slot 0#32 = true := rfl

end Sys2Proof.Machine

open Sys2Proof Sys2Proof.Machine

/-- Settles O7: the decoder reads each operand from its field; the word of a CWR of CCTL is that of CCTL_WRITE. -/
theorem operationRoundTrip : Obligations.OperationRoundTrip := by
  intro i x h hwf
  have hr := opReserved_of_wf h hwf
  refine ⟨chanceOf i, ?_⟩
  split
  next y c rs =>
    obtain rfl := Option.some.inj h
    split
    next h9 =>
      subst h9
      rw [encode_cwr_cctl] at hr ⊢
      exact decodeOp_encode rfl hr fun _ e => nomatch e
    next h9 => exact decodeOp_encode h hr fun _ e => h9 (Instr.cwr.inj e).2.1
  next hne => exact decodeOp_encode h hr fun rs => hne x 9 rs

/-- Settles O8: the decoder computes each operation from its word, and major 0 is reserved in every slot. -/
theorem someOperationWords : Obligations.SomeOperationWords :=
  ⟨fun _ => rfl, fun _ => rfl, fun _ => rfl, fun _ => rfl, fun core slot ch => decodeOp_reserved core ch (opReserved_zero slot)⟩

end

section
/-! The counts of leading and trailing zeros and the reversal of bytes, bit by bit (R90). -/

namespace Sys2Proof.Machine

/-! ### Leading zeros -/

theorem lt_two_pow_bitLength (m : Nat) : m < 2 ^ bitLength m := by
  unfold bitLength
  split
  next h => rw [h]; decide
  next h => exact Nat.lt_log2_self

/-- Where a number is not 0, its highest 1 bit is that of its length. -/
theorem testBit_bitLength_pred {m : Nat} (h : bitLength m ≠ 0) : m.testBit (bitLength m - 1) = true := by
  have h0 : m ≠ 0 := fun e => h (if_pos e)
  rw [bitLength, if_neg h0, Nat.add_sub_cancel]
  exact Nat.testBit_log2 h0

theorem bitLength_le (a : Word) : bitLength a.toNat ≤ 64 := by
  unfold bitLength
  split
  · exact Nat.zero_le _
  next h => exact (Nat.log2_lt h).2 a.isLt

/-! ### Trailing zeros -/

/-- The scan from `i` over `n` positions stops at the first 1 bit, or at its end. -/
theorem lowBit_spec (a : Word) (n i : Nat) :
    i ≤ lowBit a n i ∧ lowBit a n i ≤ i + n ∧ (∀ k, i ≤ k → k < lowBit a n i → a.getLsbD k = false) ∧
      (lowBit a n i < i + n → a.getLsbD (lowBit a n i) = true) := by
  induction n generalizing i with
  | zero => exact ⟨le_rfl, le_rfl, fun k h h' => absurd h' (Nat.not_lt.2 h), fun h => absurd h (Nat.lt_irrefl _)⟩
  | succ n ih =>
    unfold lowBit
    split
    next hb => exact ⟨le_rfl, by omega, fun k h h' => absurd h' (Nat.not_lt.2 h), fun _ => hb⟩
    next hb =>
      obtain ⟨hlo, hhi, hzero, hone⟩ := ih (i + 1)
      refine ⟨by omega, by omega, fun k hk hk' => ?_, fun h => hone (by omega)⟩
      obtain rfl | hlt := Nat.eq_or_lt_of_le hk
      · exact Bool.eq_false_iff.2 hb
      · exact hzero k hlt hk'

/-! ### Bytes in reverse order -/

theorem length_toBytes (n v : Nat) : (toBytes n v).length = n := by
  induction n generalizing v with
  | zero => rfl
  | succ n ih => rw [toBytes, List.length_cons, ih]

/-- Byte `i` of the reversed bytes is byte `n - 1 - i` of the number. -/
theorem ofBytesBE_toBytes_digit {n i : Nat} (v : Nat) (h : i < n) :
    ofBytesBE (toBytes n v) / 2 ^ (8 * i) % 2 ^ 8 = v / 2 ^ (8 * (n - 1 - i)) % 2 ^ 8 := by
  have hl : i < (toBytes n v).reverse.length := by rw [List.length_reverse, length_toBytes]; exact h
  have hb := List.getElem_of_getElem? (toBytes_getElem? n v (n - 1 - i) (by omega))
  obtain ⟨_, hb⟩ := hb
  rw [ofBytesBE, ofBytes_digit _ i hl, List.getElem_reverse]
  simp only [length_toBytes, hb, BitVec.toNat_ofNat]

/-- A bit of a number is one of the byte it lies in. -/
theorem testBit_byte (v i : Nat) {j : Nat} (hj : j < 8) : v.testBit (8 * i + j) = (v / 2 ^ (8 * i) % 2 ^ 8).testBit j := by
  rw [Nat.testBit_mod_two_pow, Nat.testBit_div_two_pow, decide_eq_true hj, Bool.true_and, Nat.add_comm]

end Sys2Proof.Machine

open Sys2Proof Sys2Proof.Machine

/-- Settles O10: the length of the value bounds its leading zeros, the scan its trailing ones, and a bit lies in one byte. -/
theorem bitCountsAndByteReversal : Obligations.BitCountsAndByteReversal := by
  intro a
  have hlen := bitLength_le a
  refine ⟨⟨64 - bitLength a.toNat, by omega, rfl, fun i hi => ?_, fun h => ?_⟩, ⟨lowBit a 64 0, ?_⟩, fun i j hi hj => ?_⟩
  · rw [BitVec.getMsbD_eq_getLsbD, BitVec.getLsbD, Nat.testBit_lt_two_pow, Bool.and_false]
    exact (lt_two_pow_bitLength _).trans_le (Nat.pow_le_pow_right (by decide) (by omega))
  · rw [BitVec.getMsbD_eq_getLsbD, BitVec.getLsbD, show 64 - 1 - (64 - bitLength a.toNat) = bitLength a.toNat - 1 by omega,
      testBit_bitLength_pred (by omega), Bool.and_true]
    exact decide_eq_true h
  · obtain ⟨-, hle, hzero, hone⟩ := lowBit_spec a 64 0
    exact ⟨by omega, rfl, fun i => hzero i (Nat.zero_le i), fun h => hone (by omega)⟩
  · rw [bswap64, BitVec.getLsbD_ofNat, decide_eq_true (by omega), Bool.true_and, BitVec.getLsbD, testBit_byte _ _ hj, testBit_byte _ _ hj,
      ofBytesBE_toBytes_digit _ hi]

end

section
/-! CRD, CWR and CCTL_WRITE: the privilege fault, the value read, the write in flight and its landing. -/

namespace Sys2Proof.Machine

/-! ### CRD at issue (R110, R111, R115) -/

section
variable {s : State} {x : Slot} {rd : BitVec 6} {creg : BitVec 8} (ht : s.takes x (encode (.crd x rd creg)) = true)
include ht

theorem execCrd_priv (hp : cregPriv false (s.regsOf x).pl creg.toNat = true) :
    exec (.crd x rd creg) s = .next (s.privFault x (encode (.crd x rd creg))) :=
  exec_takes x rfl ht (if_pos hp)

variable (hp : cregPriv false (s.regsOf x).pl creg.toNat = false)
include hp

/-- A register other than TIMEBASE is read from the registers of the core. -/
theorem execCrd_value (hn : creg.toNat % 64 ≠ 0x0A) :
    exec (.crd x rd creg) s = .next (s.issue x (encode (.crd x rd creg)) 2 (gres rd ((s.core x.core).cregRead creg.toNat))) :=
  exec_takes x rfl ht ((if_neg (Bool.eq_false_iff.1 hp)).trans (if_neg hn))

/-- TIMEBASE is read at the issue, with an entry of the load-value queue. -/
theorem execCrd_timebase (hn : creg.toNat % 64 = 0x0A) (hs : s.part x.core ≠ .shadow) (hq : s.lvFull x.core 1 = false) :
    exec (.crd x rd creg) s = .next ((s.lvPush x.core
        { num := ((s.core x.core).bundle.getD Bundle.none).num, slot := x.slot, kind := .time, idx := 0, data := none, bad := false, kept := false }).setCore
      x.core ((s.core x.core).fly { (s.core x.core).flight x (encode (.crd x rd creg)) 2 (gres rd (s.core x.core).timebase) with lvq := true }).issued) :=
  exec_takes x rfl ht ((if_neg (Bool.eq_false_iff.1 hp)).trans ((if_pos hn).trans ((if_neg hs).trans (State.withQueue_of_free _ hq))))

end

theorem Core.cregRead_eq (c : Core) {creg : Nat} (h : creg % 64 ≠ 0x0A) :
    c.cregRead creg = if creg % 64 = 8 then BitVec.ofNat 64 (bnat c.arch.rn * 2 ^ 16 + c.arch.rcount) else c.arch.cr (cregKey c.arch.pl creg) := by
  unfold Core.cregRead
  split
  next h8 => exact (if_pos h8).symm
  next ha => exact absurd ha h
  next h8 _ => exact (if_neg h8).symm

/-! ### The write of a control register at issue (R110 to R112) -/

/-- A CWR of MOOD that changes PL, or EE at P0. -/
def moodFault (r : Arch) (creg : Nat) (v : Word) : Prop :=
  creg % 64 = 0 ∧ (fld v 23 22 ≠ r.pl ∨ (r.pl = 0 ∧ flag v 21 ≠ flag (r.cr 0) 21))

section
variable (s : State) (x : Slot) (w : OpWord) (creg : Nat) (v : Word)

/-- A write below the register's level, or of PL or EE, faults; else sp lands as a result and another register flies with its value. -/
theorem State.cwrOp_spec :
    (cregPriv true (s.regsOf x).pl creg = true ∨ moodFault (s.regsOf x) creg v → s.cwrOp x w creg v = s.privFault x w) ∧
    (cregPriv true (s.regsOf x).pl creg = false → ¬ moodFault (s.regsOf x) creg v → creg % 64 = 0x0B →
      s.cwrOp x w creg v = s.issue x w 2 ⟨[⟨.sp (cregKey (s.regsOf x).pl creg / 64 - 1), v.setWidth 128⟩], 0, none⟩) ∧
    (cregPriv true (s.regsOf x).pl creg = false → ¬ moodFault (s.regsOf x) creg v → creg % 64 ≠ 0x0B →
      s.cwrOp x w creg v = s.setCore x.core ((s.core x.core).fly { (s.core x.core).flight x w 2 nores with cwr := some (creg, v) }).issued) := by
  have hc : ((cregPriv true (s.core x.core).arch.pl creg ||
      (decide (creg % 64 = 0) && (decide (fld v 23 22 ≠ (s.core x.core).arch.pl) ||
        (decide ((s.core x.core).arch.pl = 0) && flag v 21 != flag ((s.core x.core).arch.cr 0) 21)))) = true) ↔
      cregPriv true (s.regsOf x).pl creg = true ∨ moodFault (s.regsOf x) creg v := by
    simp only [Bool.or_eq_true, Bool.and_eq_true, decide_eq_true_eq, bne_iff_ne, moodFault, State.regsOf]
  have hoff (hp : cregPriv true (s.regsOf x).pl creg = false) (hm : ¬ moodFault (s.regsOf x) creg v) :=
    mt hc.1 (not_or.2 ⟨Bool.eq_false_iff.1 hp, hm⟩)
  exact ⟨fun h => if_pos (hc.2 h), fun hp hm hb => (if_neg (hoff hp hm)).trans (if_pos hb),
    fun hp hm hb => (if_neg (hoff hp hm)).trans (if_neg hb)⟩

/-- A command that is such a write, where it is next to issue and on. -/
theorem exec_cwrOp {i : Instr} {rs : BitVec 6} (hv : v = (s.regsOf x).rg rs.toNat)
    (hi : exec i s = .next (opAct x (encode i) (fun s => s.cwrOp x (encode i) creg ((s.core x.core).arch.rg rs.toNat)) s))
    (ht : s.takes x (encode i) = true) :
    (cregPriv true (s.regsOf x).pl creg = true ∨ moodFault (s.regsOf x) creg v → exec i s = .next (s.privFault x (encode i))) ∧
    (cregPriv true (s.regsOf x).pl creg = false → ¬ moodFault (s.regsOf x) creg v → creg % 64 = 0x0B →
      exec i s = .next (s.issue x (encode i) 2 ⟨[⟨.sp (cregKey (s.regsOf x).pl creg / 64 - 1), v.setWidth 128⟩], 0, none⟩)) ∧
    (cregPriv true (s.regsOf x).pl creg = false → ¬ moodFault (s.regsOf x) creg v → creg % 64 ≠ 0x0B → exec i s =
      .next (s.setCore x.core ((s.core x.core).fly { (s.core x.core).flight x (encode i) 2 nores with cwr := some (creg, v) }).issued)) := by
  subst hv
  have e := exec_takes x hi ht rfl
  obtain ⟨hpriv, hsp, hfly⟩ := s.cwrOp_spec x (encode i) creg ((s.regsOf x).rg rs.toNat)
  exact ⟨fun h => e.trans (congrArg _ (hpriv h)), fun hp hm hb => e.trans (congrArg _ (hsp hp hm hb)),
    fun hp hm hb => e.trans (congrArg _ (hfly hp hm hb))⟩

end

/-! ### The levels of the control registers (R110) -/

/-- A register `r` of bank `b` needs its level, and a level that reaches the bank. -/
theorem cregPriv_iff (wr : Bool) (pl b : Nat) {r : Nat} (hr : r < 64) : cregPriv wr pl (64 * b + r) = true ↔ pl < cregLevel wr r ∨ pl + 1 < b := by
  rw [cregPriv, show (64 * b + r) / 64 = b by omega, show (64 * b + r) % 64 = r by omega, Bool.or_eq_true, decide_eq_true_eq, decide_eq_true_eq, or_comm]

/-! ### The landing of the write (R111 to R115) -/

section
variable (s : State) (n creg : Nat) (v : Word)

theorem State.landCwr_moodReserved (h0 : creg % 64 = 0) (hd : 5 ≤ fld v 12 10) (hs : s.part n ≠ .shadow) :
    s.landCwr n creg v = s.reject 4 (n * 256 + creg) v.toNat := by
  simp only [State.landCwr, h0, if_pos hd, State.cregReject, if_neg hs]

theorem State.landCwr_mood (h0 : creg % 64 = 0) (hd : fld v 12 10 < 5) :
    s.landCwr n creg v = s.modCore n fun c => { c with arch := (s.core n).arch.setCr 0 (v &&& 0xFFFF00#64) } := by
  simp only [State.landCwr, h0, if_neg (Nat.not_le.2 hd)]
  rfl

theorem State.landCwr_ignored (h : creg % 64 = 8 ∨ creg % 64 = 0x0A) : s.landCwr n creg v = s := by
  obtain h | h := h <;> simp only [State.landCwr, h]

/-- ASTAT to STKHI take their writable bits. -/
theorem State.landCwr_masked (h1 : 1 ≤ creg % 64) (h7 : creg % 64 ≤ 7) : s.landCwr n creg v =
    s.modCore n fun c => { c with arch := (s.core n).arch.setCr (cregKey (s.core n).arch.pl creg) (v &&& cregMask (creg % 64)) } := by
  unfold State.landCwr
  dsimp only
  split
  case h_5 => rfl
  all_goals omega

end

end Sys2Proof.Machine

open Sys2Proof Sys2Proof.Machine

/-- Settles O23: the reads and writes at issue and at the landing, each by its lemma. -/
theorem controlRegisterReadsAndWrites : Obligations.ControlRegisterReadsAndWrites := by
  refine ⟨?_, fun pl b _ => ⟨cregPriv_iff _ _ _ (by decide), cregPriv_iff _ _ _ (by decide), cregPriv_iff _ _ _ (by decide), ?_⟩,
    fun s n creg v => ⟨s.landCwr_moodReserved n creg v, s.landCwr_mood n creg v, s.landCwr_ignored n creg v, s.landCwr_masked n creg v⟩⟩
  · rintro s x rd rs creg c r v rfl rfl rfl
    refine ⟨fun ht => ⟨execCrd_priv ht, fun hp hn => ?_, execCrd_timebase ht⟩, exec_cwrOp s x _ _ rfl rfl, exec_cwrOp s x _ _ rfl rfl⟩
    rw [execCrd_value ht hp hn, Core.cregRead_eq _ hn]
    rfl
  · exact (cregPriv_iff _ _ _ (by decide)).trans (or_iff_right (Nat.not_lt_zero _))

end

section
/-! The integer division by steps: the count of DNORM suffices, and each DSTEP keeps what the finished division leaves (R124
to R128). -/

namespace Sys2Proof.Machine

/-! ### Magnitudes (R125, R126) -/

/-- The magnitude of an operand: its two's complement where the division is signed and it is negative. -/
def divMag (signed : Bool) (a : Word) : Word := if signed && a.msb then -a else a

theorem negNat_toNat (a : Word) : negNat a.toNat = (-a).toNat := by
  rw [negNat, BitVec.toNat_neg, Nat.mod_eq_of_lt a.isLt]

theorem toNat_divMag (signed : Bool) (a : Word) :
    (divMag signed a).toNat = if signed && a.msb then negNat a.toNat else a.toNat := by
  rw [negNat_toNat, divMag, apply_ite BitVec.toNat]

theorem divMag_le_toNat (signed : Bool) (a : Word) : (divMag signed a).toNat ≤ a.toNat := by
  unfold divMag
  split
  next h =>
    have hneg := BitVec.msb_eq_true_iff_two_mul_ge.1 (Bool.and_eq_true_iff.1 h).2
    bv_omega
  next => exact le_rfl

theorem divMag_true_le (signed : Bool) (a : Word) : (divMag true a).toNat ≤ (divMag signed a).toNat := by
  cases signed with
  | false => exact divMag_le_toNat true a
  | true => exact le_rfl

theorem divMag_eq_zero_iff (signed : Bool) (a : Word) : divMag signed a = 0 ↔ a = 0 := by
  unfold divMag
  split
  next => exact BitVec.neg_eq_zero_iff
  next => exact Iff.rfl

/-! ### The count of DNORM suffices (R128) -/

theorem two_pow_bitLength_pred_le {m : Nat} (h : m ≠ 0) : 2 ^ (bitLength m - 1) ≤ m := by
  rw [bitLength, if_neg h]
  exact Nat.log2_self_le h

theorem toNat_divCount (ct : Bool) (a : Word) {b : Word} (hb : b ≠ 0) : (divCount ct a b).toNat =
    if ct then 32 else min 32 ((bitLength a.toNat + 2 - bitLength (divMag true b).toNat) / 2) := by
  rw [divCount, beq_false_of_ne hb, Bool.or_false, toNat_divMag, Bool.true_and, apply_ite bitLength]
  cases ct with
  | true => rfl
  | false => exact Nat.mod_eq_of_lt (by omega)

/-- With a count that is enough, the bits of the dividend above those the steps take in are less than the divisor. -/
theorem divMag_div_lt_of_divCount_le {ct : Bool} {n d sIn : Word} (signed : Bool) (hd : d ≠ 0) (hs : (divCount ct n d).toNat ≤ sIn.toNat) :
    (divMag signed n).toNat / 4 ^ min sIn.toNat 32 < (divMag signed d).toNat := by
  have hd0 : (divMag true d).toNat ≠ 0 := fun h => hd ((divMag_eq_zero_iff true d).1 (BitVec.eq_of_toNat_eq h))
  have hlen := bitLength_le n
  have hexp : bitLength n.toNat ≤ 2 * min sIn.toNat 32 + (bitLength (divMag true d).toNat - 1) := by
    rw [toNat_divCount ct n hd] at hs
    split at hs <;> omega
  refine Nat.div_lt_of_lt_mul ?_
  calc (divMag signed n).toNat
      ≤ n.toNat := divMag_le_toNat signed n
    _ < 2 ^ bitLength n.toNat := lt_two_pow_bitLength _
    _ ≤ 2 ^ (2 * min sIn.toNat 32 + (bitLength (divMag true d).toNat - 1)) := Nat.pow_le_pow_right (by decide) hexp
    _ = 4 ^ min sIn.toNat 32 * 2 ^ (bitLength (divMag true d).toNat - 1) := by rw [pow_add, pow_mul]; rfl
    _ ≤ 4 ^ min sIn.toNat 32 * (divMag signed d).toNat :=
      Nat.mul_le_mul_left _ ((two_pow_bitLength_pred_le hd0).trans (divMag_true_le signed d))

/-! ### The steps (R126) -/

/-- The digit is 0 for the divisor 0, and otherwise leaves a remainder below the divisor. -/
theorem radix4Digit_spec {D r : Nat} (h : D = 0 ∨ r < 4 * D) :
    radix4Digit D r < 4 ∧ radix4Digit D r * D ≤ r ∧ (D = 0 ∧ radix4Digit D r = 0 ∨ r - radix4Digit D r * D < D) := by
  unfold radix4Digit
  split_ifs <;> omega

/-- What `j` steps still have to divide: gR, followed by the top `2 * j` bits of gQ. -/
def divRest (j : Nat) (x : Word × Word) : Nat := x.2.toNat * 4 ^ j + x.1.toNat / 4 ^ (32 - j)

theorem divRest_zero (x : Word × Word) : divRest 0 x = x.2.toNat := by
  rw [divRest, pow_zero, Nat.mul_one, Nat.div_eq_of_lt (show x.1.toNat < 4 ^ (32 - 0) from x.1.isLt), Nat.add_zero]

/-- The intermediate value of a step takes the top two bits of gQ over to gR. -/
theorem divRest_succ {j : Nat} (hj : j < 32) (x : Word × Word) :
    divRest (j + 1) x = (4 * x.2.toNat + x.1.toNat / 2 ^ 62) * 4 ^ j + x.1.toNat % 2 ^ 62 / 4 ^ (31 - j) := by
  have hpow : 2 ^ 62 = 4 ^ j * 4 ^ (31 - j) := by
    rw [← pow_add, Nat.add_sub_cancel' (by omega)]
    rfl
  have hq : x.1.toNat / 4 ^ (31 - j) = x.1.toNat / 2 ^ 62 * 4 ^ j + x.1.toNat % 2 ^ 62 / 4 ^ (31 - j) := by
    conv_lhs => rw [← Nat.div_add_mod' x.1.toNat (2 ^ 62), hpow, ← Nat.mul_assoc, Nat.mul_comm, Nat.mul_add_div (by positivity), ← hpow]
  rw [divRest, show 32 - (j + 1) = 31 - j by omega, hq]
  ring

/-- A step enters a digit `k` in gQ and takes `k` times the divisor, at its place, off what is left to divide. -/
theorem divStep_spec {d : Word} {qs rs : Bool} {D j : Nat} {x : Word × Word} (hD : (if qs ^^ rs then negNat d.toNat else d.toNat) = D)
    (hj : j < 32) (hr : D = 0 ∨ x.2.toNat < D) (hx : divRest (j + 1) x < 2 ^ 64) :
    ∃ k, (divStep x.1 x.2 d qs rs).1 = x.1 * 4#64 + BitVec.ofNat 64 k ∧
      divRest (j + 1) x = divRest j (divStep x.1 x.2 d qs rs) + k * 4 ^ j * D ∧
      (D = 0 ∧ k = 0 ∨ (divStep x.1 x.2 d qs rs).2.toNat < D) := by
  rw [divRest_succ hj] at hx ⊢
  unfold divStep divRest
  rw [hD]
  dsimp only
  generalize hrr : 4 * x.2.toNat + x.1.toNat / 2 ^ 62 = rr at *
  have hq := x.1.isLt
  have hfit : rr < 2 ^ 64 := by
    have hpos : rr ≤ rr * 4 ^ j := Nat.le_mul_of_pos_right rr (by positivity)
    exact hpos.trans_lt ((Nat.le_add_right _ _).trans_lt hx)
  obtain ⟨hk4, hkle, hlt⟩ := radix4Digit_spec (D := D) (r := rr) (by omega)
  generalize radix4Digit D rr = k at *
  have hr' : (BitVec.ofNat 64 (rr - k * D)).toNat = rr - k * D := Nat.mod_eq_of_lt ((Nat.sub_le _ _).trans_lt hfit)
  have hq' : (BitVec.ofNat 64 (x.1.toNat * 4 % 2 ^ 64 + k)).toNat = x.1.toNat % 2 ^ 62 * 4 + k := by
    rw [BitVec.toNat_ofNat]
    omega
  rw [hr', hq']
  refine ⟨k, ?_, ?_, hlt⟩
  · apply BitVec.eq_of_toNat_eq
    simp
  · have hlow : (x.1.toNat % 2 ^ 62 * 4 + k) / 4 ^ (32 - j) = x.1.toNat % 2 ^ 62 / 4 ^ (31 - j) := by
      have hpow : 4 ^ (32 - j) = 4 * 4 ^ (31 - j) := by rw [← pow_succ', show 31 - j + 1 = 32 - j by omega]
      rw [hpow, ← Nat.div_div_eq_div_mul]
      congr 1
      omega
    have hhigh : rr * 4 ^ j = (rr - k * D) * 4 ^ j + k * 4 ^ j * D := by
      rw [Nat.mul_right_comm, ← Nat.add_mul, Nat.sub_add_cancel hkle]
    rw [hlow, hhigh, Nat.add_right_comm]

/-- The steps divide what is left to divide: the quotient comes in below what gQ held, the remainder in gR. -/
theorem foldl_divStep {d : Word} {qs rs : Bool} {D j : Nat} {x : Word × Word} (hD : (if qs ^^ rs then negNat d.toNat else d.toNat) = D)
    (hj : j ≤ 32) (hr : D = 0 ∨ x.2.toNat < D) (hx : divRest j x < 2 ^ 64) :
    (List.replicate j ()).foldl (fun (x : Word × Word) _ => divStep x.1 x.2 d qs rs) x =
      (x.1 * BitVec.ofNat 64 (4 ^ j) + BitVec.ofNat 64 (divRest j x / D), BitVec.ofNat 64 (divRest j x % D)) := by
  induction j generalizing x with
  | zero =>
    rw [divRest_zero]
    obtain ⟨hdiv, hmod⟩ : x.2.toNat / D = 0 ∧ x.2.toNat % D = x.2.toNat := by
      obtain rfl | hlt := hr
      · exact ⟨Nat.div_zero _, Nat.mod_zero _⟩
      · exact ⟨Nat.div_eq_of_lt hlt, Nat.mod_eq_of_lt hlt⟩
    simp [hdiv, hmod]
  | succ j ih =>
    obtain ⟨k, hq, hrest, hr'⟩ := divStep_spec hD hj hr hx
    have hdiv : divRest (j + 1) x / D = divRest j (divStep x.1 x.2 d qs rs) / D + k * 4 ^ j := by
      obtain ⟨rfl, rfl⟩ | hlt := hr'
      · simp
      · rw [hrest, Nat.add_mul_div_right _ _ (Nat.zero_lt_of_lt hlt)]
    have hmod : divRest (j + 1) x % D = divRest j (divStep x.1 x.2 d qs rs) % D := by
      rw [hrest, Nat.add_mul_mod_self_right]
    rw [List.replicate_succ, List.foldl_cons, ih (by omega) (hr'.imp_left And.left) (by omega), hq, hdiv, hmod]
    refine Prod.ext ?_ rfl
    simp only [pow_succ, BitVec.ofNat_add, BitVec.ofNat_mul]
    ring

/-! ### The preparation (R125) -/

section
variable (signed : Bool) (n sIn d : Word)

theorem divPrepare_eq : divPrepare signed n sIn d =
    { qs := signed && (n.msb ^^ d.msb), rs := signed && n.msb,
      r := BitVec.ofNat 64 ((divMag signed n).toNat >>> (2 * min sIn.toNat 32)),
      q := BitVec.ofNat 64 ((divMag signed n).toNat <<< (64 - 2 * min sIn.toNat 32)) } := by
  rw [toNat_divMag]
  rfl

theorem divPrepare_r : (divPrepare signed n sIn d).r.toNat = (divMag signed n).toNat / 4 ^ min sIn.toNat 32 := by
  rw [divPrepare_eq, Nat.shiftRight_eq_div_pow, pow_mul]
  exact Nat.mod_eq_of_lt ((Nat.div_le_self _ _).trans_lt (divMag signed n).isLt)

theorem divPrepare_q : (divPrepare signed n sIn d).q = BitVec.ofNat 64 ((divMag signed n).toNat * 4 ^ (32 - min sIn.toNat 32)) := by
  rw [divPrepare_eq, Nat.shiftLeft_eq, show 64 - 2 * min sIn.toNat 32 = 2 * (32 - min sIn.toNat 32) by omega, pow_mul]
  rfl

theorem two_pow_64_eq_four_pow_mul : 2 ^ 64 = 4 ^ min sIn.toNat 32 * 4 ^ (32 - min sIn.toNat 32) := by
  rw [← pow_add, Nat.add_sub_cancel' (Nat.min_le_right _ _)]
  rfl

/-- The preparation leaves the magnitude of the dividend to divide. -/
theorem divRest_divPrepare :
    divRest (min sIn.toNat 32) ((divPrepare signed n sIn d).q, (divPrepare signed n sIn d).r) = (divMag signed n).toNat := by
  rw [divRest, divPrepare_r, divPrepare_q, BitVec.toNat_ofNat, two_pow_64_eq_four_pow_mul sIn, Nat.mul_mod_mul_right,
    Nat.mul_div_cancel _ (by positivity), Nat.div_add_mod']

/-- The steps shift the bits of the dividend out of gQ. -/
theorem divPrepare_q_mul_pow : (divPrepare signed n sIn d).q * BitVec.ofNat 64 (4 ^ min sIn.toNat 32) = 0#64 := by
  rw [divPrepare_q, ← BitVec.ofNat_mul, Nat.mul_assoc, Nat.mul_comm (4 ^ _), ← two_pow_64_eq_four_pow_mul]
  apply BitVec.eq_of_toNat_eq
  simp

/-- The steps divide by the magnitude of the divisor. -/
theorem divPrepare_divisor :
    (if (divPrepare signed n sIn d).qs ^^ (divPrepare signed n sIn d).rs then negNat d.toNat else d.toNat) = (divMag signed d).toNat := by
  have hsign : ((signed && (n.msb ^^ d.msb)) ^^ (signed && n.msb)) = (signed && d.msb) := by
    rw [← Bool.and_xor_distrib_left, Bool.xor_right_comm, Bool.xor_self, Bool.false_xor]
  rw [toNat_divMag, divPrepare_eq, hsign]

end

/-- Preparing and stepping divide the magnitudes. -/
theorem foldl_divStep_divPrepare {ct : Bool} {n d sIn : Word} (signed : Bool) (hs : (divCount ct n d).toNat ≤ sIn.toNat) :
    (List.replicate (min sIn.toNat 32) ()).foldl
        (fun (x : Word × Word) _ => divStep x.1 x.2 d (divPrepare signed n sIn d).qs (divPrepare signed n sIn d).rs)
        ((divPrepare signed n sIn d).q, (divPrepare signed n sIn d).r) =
      (divMag signed n / divMag signed d, divMag signed n % divMag signed d) := by
  have hrest := divRest_divPrepare signed n sIn d
  have hr : (divMag signed d).toNat = 0 ∨ (divPrepare signed n sIn d).r.toNat < (divMag signed d).toNat := by
    obtain rfl | hd := eq_or_ne d 0
    · exact .inl (congrArg BitVec.toNat ((divMag_eq_zero_iff signed 0).2 rfl))
    · exact .inr (divPrepare_r signed n sIn d ▸ divMag_div_lt_of_divCount_le signed hd hs)
  rw [foldl_divStep (divPrepare_divisor signed n sIn d) (Nat.min_le_right _ _) hr (hrest ▸ (divMag signed n).isLt), hrest,
    divPrepare_q_mul_pow, BitVec.zero_add, ← BitVec.udiv_def, ← BitVec.umod_def]

/-! ### The signs and the flag (R127) -/

/-- For two negative operands the quotient of the magnitudes is 2^63 for MIN divided by -1 only. -/
theorem neg_div_neg_eq_min_iff {n d : Word} (hn : n.msb = true) (hd : d.msb = true) :
    -n / -d = 0x8000000000000000#64 ↔ n = 0x8000000000000000#64 ∧ d = 0xFFFFFFFFFFFFFFFF#64 := by
  constructor
  · intro h
    have hnNat := BitVec.msb_eq_true_iff_two_mul_ge.1 hn
    have hdNat := BitVec.msb_eq_true_iff_two_mul_ge.1 hd
    have hdiv : (-n).toNat / (-d).toNat = 2 ^ 63 := congrArg BitVec.toNat h
    have hone : (-d).toNat = 1 := by
      by_contra hne
      have hle : (-n).toNat / (-d).toNat ≤ (-n).toNat / 2 := Nat.div_le_div_left (by bv_omega) (by decide)
      bv_omega
    rw [hone, Nat.div_one] at hdiv
    constructor <;> bv_omega
  · rintro ⟨rfl, rfl⟩
    decide

/-- The flag IV of a signed division is that of MIN divided by -1. -/
theorem divMag_overflow_iff (n d : Word) :
    (n.msb && !(n.msb ^^ d.msb) && divMag true n / divMag true d == 0x8000000000000000#64) = true ↔
      n = 0x8000000000000000#64 ∧ d = 0xFFFFFFFFFFFFFFFF#64 := by
  by_cases hneg : n.msb = true ∧ d.msb = true
  · obtain ⟨hn, hd⟩ := hneg
    simpa [divMag, hn, hd] using neg_div_neg_eq_min_iff hn hd
  · refine iff_of_false (fun h => hneg ?_) ?_
    · cases hn : n.msb <;> cases hd : d.msb <;> simp [hn, hd] at h ⊢
    · rintro ⟨rfl, rfl⟩
      exact hneg (by decide)

theorem divFin_zero (r : Word) (q : Word) (qs rs : Bool) : divFin q r 0 qs rs = (0, if rs then -r else r, 32) := rfl

theorem divFin_ne_zero {d : Word} (hd : d ≠ 0) (q r : Word) (qs rs : Bool) : divFin q r d qs rs =
    (if qs then -q else q, if rs then -r else r, if rs && !qs && q == 0x8000000000000000#64 then 64 else 0) :=
  if_neg hd

/-- The magnitude of the dividend with its sign is the dividend. -/
theorem signed_divMag (signed : Bool) (n : Word) : (if signed && n.msb then -divMag signed n else divMag signed n) = n := by
  unfold divMag
  split
  next => exact BitVec.neg_neg
  next => rfl

/-- The quotient truncated toward zero is that of the magnitudes, with the sign of the operands. -/
theorem ofInt_tdiv (n d : Word) : BitVec.ofInt 64 (n.toInt.tdiv d.toInt) =
    if n.msb ^^ d.msb then -(divMag true n / divMag true d) else divMag true n / divMag true d := by
  have hq : BitVec.ofInt 64 (n.toInt.tdiv d.toInt) = n.sdiv d := by
    apply BitVec.eq_of_toInt_eq
    rw [BitVec.toInt_sdiv, BitVec.toInt_ofInt]
  rw [hq, BitVec.sdiv_eq]
  cases hn : n.msb <;> cases hd : d.msb <;> simp [divMag, hn, hd]

/-- The remainder of the truncated quotient is that of the magnitudes, with the sign of the dividend. -/
theorem ofInt_tmod (n d : Word) : BitVec.ofInt 64 (n.toInt.tmod d.toInt) =
    if n.msb then -(divMag true n % divMag true d) else divMag true n % divMag true d := by
  rw [← BitVec.toInt_srem, BitVec.ofInt_toInt, BitVec.srem_eq]
  cases hn : n.msb <;> cases hd : d.msb <;> simp [divMag, hn, hd]

end Sys2Proof.Machine

open Sys2Proof Sys2Proof.Machine

/-- Settles O14: the steps divide the magnitudes, and DFIN gives quotient and remainder their signs. -/
theorem integerDivisionIsExact : Obligations.IntegerDivisionIsExact := by
  intro signed ct n d sIn hs
  dsimp only
  rw [foldl_divStep_divPrepare signed hs, divPrepare_eq]
  dsimp only
  obtain rfl | hd := eq_or_ne d 0
  · have hzero : divMag signed 0 = 0#64 := (divMag_eq_zero_iff signed 0).2 rfl
    rw [divFin_zero, if_pos rfl, hzero, BitVec.umod_zero, signed_divMag]
  · rw [divFin_ne_zero hd, if_neg hd]
    cases signed with
    | false => exact Prod.ext BitVec.udiv_def (Prod.ext BitVec.umod_def rfl)
    | true => simp only [Bool.true_and, if_true, ofInt_tdiv, ofInt_tmod, divMag_overflow_iff]

end

section
/-! What the operations leave of memory: no function that an operation calls at its issue writes a byte, but the visit of a line by
a draining fold cache. One lemma per function, in the order of the model's files. -/

namespace Sys2Proof.Machine

section
variable (s : State)

/-- What each step of a fold leaves of memory, the fold leaves. -/
theorem State.foldl_mem {α : Type} (l : List α) (f : State → α → State) (h : ∀ s x, (f s x).mem = s.mem) : (l.foldl f s).mem = s.mem := by
  induction l generalizing s with
  | nil => rfl
  | cons x l ih => exact (ih _).trans (h s x)

/-! ### Logs, messages and strikes -/

@[simp] theorem State.record_mem (r : Reg) (i j v : Nat) : (s.record r i j v).mem = s.mem := rfl

@[simp] theorem State.setLstate_mem (l v : Nat) : (s.setLstate l v).mem = s.mem := rfl

/-- Poison is kept beside the bytes it spoils (R318). -/
@[simp] theorem State.poisonMem_mem (line : Nat) : (s.poisonMem line).mem = s.mem := by
  simp only [State.poisonMem, apply_ite State.mem, State.modMc_mem, ite_self]

/-- Messages that leave, or wait, change the links and the queue alone. -/
theorem State.sendMsgs_spec (ms : List Msg) (bl : List (Nat × Nat)) : ∃ q p, sendMsgs ms bl s = { s with msgs := q, pasture := p } := by
  induction ms generalizing s bl with
  | nil => exact ⟨s.msgs, s.pasture, rfl⟩
  | cons m ms ih =>
    unfold sendMsgs
    dsimp only
    split
    · exact ih _ _
    · split
      · exact ih _ _
      · exact ih _ _

theorem State.ask_spec (mtype dst addr param : Nat) (body : List Word) :
    ∃ q p, s.ask mtype dst addr param body = { s with msgs := q, pasture := p, tid := (s.tid + 1) % 4096 } := by
  let m : Msg :=
    { mtype := mtype, src := s.ownModule, dst := dst, hop := false, tid := s.tid, addr := addr, param := param, body := body }
  obtain ⟨q, p, h⟩ := State.sendMsgs_spec { s with msgs := [] } (s.msgs ++ [m]) []
  exact ⟨q, p, congrArg (fun t : State => { t with tid := (s.tid + 1) % 4096 }) h⟩

@[simp] theorem State.ask_mem (mtype dst addr param : Nat) (body : List Word) : (s.ask mtype dst addr param body).mem = s.mem := by
  obtain ⟨q, p, h⟩ := s.ask_spec mtype dst addr param body
  rw [h]

@[simp] theorem State.ask_regs (mtype dst addr param : Nat) (body : List Word) : (s.ask mtype dst addr param body).regs = s.regs := by
  obtain ⟨q, p, h⟩ := s.ask_spec mtype dst addr param body
  rw [h]

@[simp] theorem State.setWaydisHw_mem (k v : Nat) : (s.setWaydisHw k v).mem = s.mem := by
  simp only [State.setWaydisHw, apply_ite State.mem, State.rput_mem, ite_self]

@[simp] theorem State.startWalk_mem (k mask : Nat) : (s.startWalk k mask).mem = s.mem := by
  simp only [State.startWalk, apply_ite State.mem, State.rput_mem, ite_self]

@[simp] theorem State.wayThreshold_mem (k : Nat) : (s.wayThreshold k).mem = s.mem := by
  simp only [State.wayThreshold, apply_ite State.mem, State.raise_mem, ite_self]

@[simp] theorem State.armCommands_mem (l : Nat) : (s.armCommands l).mem = s.mem := by
  unfold State.armCommands
  split <;> rfl

@[simp] theorem State.commandDue_mem (l cmd : Nat) : (s.commandDue l cmd).mem = s.mem := by
  simp only [State.commandDue, apply_ite State.mem, State.armCommands_mem, State.modSeq_mem, ite_self]

@[simp] theorem State.lameStopped_mem (l role : Nat) : (s.lameStopped l role).mem = s.mem := by
  simp only [State.lameStopped, State.startCopy, apply_ite State.mem, State.raise_mem, State.modPair_mem, State.rput_mem, State.setLstate_mem,
    State.modSeq_mem, ite_self]

@[simp] theorem State.lameCoreDue_mem (n : Nat) : (s.lameCoreDue n).mem = s.mem := by
  unfold State.lameCoreDue
  split
  · rfl
  · simp only [apply_ite State.mem, State.lameStopped_mem, State.commandDue_mem, ite_self]

@[simp] theorem State.pairTestDue_mem (p : Nat) : (s.pairTestDue p).mem = s.mem := by
  unfold State.pairTestDue
  dsimp only
  split
  · exact State.foldl_mem _ _ _ fun _ _ => rfl
  · exact State.foldl_mem _ _ _ fun s l => s.commandDue_mem l 6

/-- A core, a pair, a way, an LFSR or a bank declared lame changes no byte (R632). -/
theorem State.declareLame_mem {c : Nat} (i : Nat) (hc : c ≤ 5) : (s.declareLame c i).mem = s.mem := by
  interval_cases c <;> simp [State.declareLame]

/-- Nor does a strike against one (R631). -/
theorem State.strike_mem {c : Nat} (i : Nat) (hc : c ≤ 5) : (s.strike c i).mem = s.mem := by
  have hl (t : State) : (t.fallLame c i).mem = t.mem := by
    rw [State.fallLame, State.raise_mem, State.declareLame_mem _ _ hc, State.lameCount, State.rmod_mem]
  simp only [State.strike, apply_ite State.mem, hl, State.raise_mem, State.pairTestDue_mem, State.rset_mem, ite_self]

/-! ### The cache arrays and the banks -/

@[simp] theorem State.cset_mem (k line w : Nat) (l : CLine) : (s.cset k line w l).mem = s.mem := rfl

@[simp] theorem State.cdrop_mem (k line : Nat) : (s.cdrop k line).mem = s.mem := by
  unfold State.cdrop
  dsimp only
  split <;> split <;> rfl

@[simp] theorem State.dirRemove_mem (line h : Nat) : (s.dirRemove line h).mem = s.mem := by
  unfold State.dirRemove
  split <;> rfl

@[simp] theorem State.arrayLog_mem (k line w : Nat) (ue tag : Bool) : (s.arrayLog k line w ue tag).mem = s.mem := by
  simp only [State.arrayLog, apply_ite State.mem, State.strike_mem _ _ (by decide : 2 ≤ 5), State.strike_mem _ _ (by decide : 3 ≤ 5),
    State.raise_mem, State.record_mem, ite_self]

/-- The errors an array meets cost copies and poison lines; memory keeps its bytes (R202). -/
@[simp] theorem State.lookup_mem (k line : Nat) (err : ArrayErr) : (s.lookup k line err).1.mem = s.mem := by
  unfold State.lookup
  split
  · rfl
  · cases err with
    | none => rfl
    | dataCorrected => exact s.arrayLog_mem _ _ _ _ _
    | tagCorrected => exact s.arrayLog_mem _ _ _ _ _
    | dataUncorrectable =>
      dsimp only
      split <;> simp
    | tagUncorrectable =>
      dsimp only
      split
      · simp only [State.dirRemove_mem, apply_ite State.mem, State.poisonMem_mem, State.ask_mem, State.cdrop_mem, State.arrayLog_mem, ite_self]
      · simp

@[simp] theorem State.spRead_mem (agent pa n : Nat) (err : WordErr) : (s.spRead agent pa n err).1.mem = s.mem := by
  unfold State.spRead
  split
  · rfl
  split
  · simp [State.logRefusal]
  dsimp only
  split <;> split
  · rfl
  · cases err <;> simp [State.strike_mem]
  · rfl
  · cases err <;> simp [State.strike_mem]

/-! ### Translation, faults and freezes at issue -/

@[simp] theorem State.keep_mem (n : Nat) (tlb : List TlbE) (hs : List HurdleE) : (s.keep n tlb hs).mem = s.mem := rfl

@[simp] theorem State.logFault_mem (n : Nat) (f : Flt) : (s.logFault n f).mem = s.mem := by
  unfold State.logFault
  dsimp only
  split <;> split <;> split <;> rfl

@[simp] theorem State.undo_mem (n : Nat) : (s.undo n).mem = s.mem := by
  unfold State.undo
  extract_lets c
  split
  · rfl
  · dsimp only
    generalize hs : s.setCore n _ = s1
    have h1 : s1.mem = s.mem := hs ▸ rfl
    split <;> exact h1

@[simp] theorem State.opFreeze_mem (n : Nat) (fz : Freeze) : (s.opFreeze n fz).mem = s.mem := s.undo_mem n

@[simp] theorem State.withQueue_mem (n k : Nat) (go : State → State) (h : (go s).mem = s.mem) : (s.withQueue n k go).mem = s.mem := by
  simp only [State.withQueue, apply_ite State.mem, State.opFreeze_mem, h, ite_self]

@[simp] theorem State.handOn_mem (n : Nat) (b : Bundle) : (s.handOn n b).mem = s.mem := by
  simp only [State.handOn, apply_ite State.mem, State.modPair_mem, ite_self]

@[simp] theorem State.opFault_mem (n : Nat) (e : Exc) (queued : Bool) : (s.opFault n e queued).mem = s.mem := by
  unfold State.opFault
  dsimp only
  split
  · simp
  · split <;>
      simp only [apply_ite State.mem, State.modCore_mem, State.modPair_mem, State.undo_mem, State.handOn_mem, ite_self]

@[simp] theorem State.opMcheck_mem (n : Nat) (m : MCheck) : (s.opMcheck n m).mem = s.mem := by
  simp [State.opMcheck]

@[simp] theorem State.accessFault_mem (n : Nat) (f : Flt) : (s.accessFault n f).mem = s.mem := by
  simp [State.accessFault]

@[simp] theorem State.privFault_mem (x : Slot) (w : OpWord) : (s.privFault x w).mem = s.mem := s.opFault_mem _ _ _

/-- An operation that faults below a level keeps memory where it does so above it (R82). -/
theorem State.privileged_mem {t : State} (x : Slot) (w : OpWord) (p : Prop) [Decidable p] (h : t.mem = s.mem) :
    (if p then s.privFault x w else t).mem = s.mem := by
  rw [apply_ite State.mem, s.privFault_mem, h, ite_self]

/-! ### The load-value queue and the store path -/

@[simp] theorem State.startRollback_mem (l cause core : Nat) (sigB sigS : Word) : (s.startRollback l cause core sigB sigS).mem = s.mem := by
  simp only [State.startRollback, apply_ite State.mem, State.strike_mem _ _ (by decide : 0 ≤ 5), State.strike_mem _ _ (by decide : 1 ≤ 5),
    State.raise_mem, State.setLstate_mem, State.modSeq_mem, State.modPair_mem, State.dropWaiters, State.modCa_mem, ite_self]
  exact State.foldl_mem _ _ _ fun _ _ => rfl

@[simp] theorem State.lvPop_mem (n : Nat) : (s.lvPop n).mem = s.mem := by
  unfold State.lvPop
  dsimp only
  split <;> rfl

@[simp] theorem State.lvTake_mem (n slot : Nat) (kind : LvKind) (k : LvEntry → State → State) (h : ∀ e t, (k e t).mem = t.mem) :
    (s.lvTake n slot kind k).mem = s.mem := by
  unfold State.lvTake
  split
  · rfl
  split
  · rw [h, State.lvPop_mem]
  · exact s.opFreeze_mem _ _
  · exact s.startRollback_mem _ _ _ _ _

@[simp] theorem State.pathStore_mem (n : Nat) (hs : List (Half × List Byte)) (k : State → State) (h : ∀ t, (k t).mem = t.mem) :
    (s.pathStore n hs k).mem = s.mem := by
  unfold State.pathStore
  split
  · exact h _
  · exact s.opFreeze_mem n .mergeFull

/-! ### Landings and loads at the caches -/

@[simp] theorem State.l1dPut_mem (n line : Nat) (d : BitVec 512) : (s.l1dPut n line d).mem = s.mem := by
  simp only [State.l1dPut, apply_ite State.mem, State.drawn_mem, State.setCore_mem, ite_self]

/-- Only a DRAINING cache writes a line back ahead of its walk (R229). -/
theorem State.drainAhead_of_ne {f : Nat} (line : Nat) (h : s.fcState f ≠ 2) : s.drainAhead f line = s := if_neg h

@[simp] theorem State.leaveWay_mem (k line w : Nat) : (s.leaveWay k line w).mem = s.mem := by
  unfold State.leaveWay
  split
  · rfl
  · split
    · exact s.cdrop_mem k line
    · rfl

/-- A read at a fold cache that does not drain leaves memory alone (R201, R227, R229). -/
theorem State.foldRead_mem {n : Nat} (line : Nat) (fetch : Bool) (err : ArrayErr) (h : s.fcState (foldOf n) ≠ 2) :
    (s.foldRead n line fetch err).1.mem = s.mem := by
  have hl := s.lookup_mem (foldOf n) line err
  unfold State.foldRead
  dsimp only
  rw [s.drainAhead_of_ne line h]
  split
  · split <;> rfl
  · split <;> rename_i e <;> rw [e] at hl
    · simpa [State.plruUse] using hl
    · simpa [State.missLine, State.awaitLine] using hl

@[simp] theorem State.flyLoad_mem (x : Slot) (w : OpWord) (va lat : Nat) (dest : Dest) (signed : Bool) (gs : List Got) :
    (s.flyLoad x w va lat dest signed gs).mem = s.mem := by
  simp [State.flyLoad]

@[simp] theorem State.flyHeld_mem (x : Slot) (w : OpWord) (h : HeldAcc) (post : List Word) (valued : Bool) :
    (s.flyHeld x w h post valued).mem = s.mem := by
  simp only [State.flyHeld, apply_ite State.mem, State.setCore_mem, State.mem_lvPush, ite_self]

@[simp] theorem State.shadowHeld_mem (x : Slot) (w : OpWord) (post : List Word) (dest : Option Dest) (subm : Option Nat) :
    (s.shadowHeld x w post dest subm).mem = s.mem := rfl

@[simp] theorem State.shadowLoad_mem (x : Slot) (w : OpWord) (va : Nat) (dest : Dest) : (s.shadowLoad x w va dest).mem = s.mem :=
  s.lvTake_mem _ _ _ _ fun _ _ => rfl

@[simp] theorem State.ownHalves_mem (n : Nat) (err : WordErr) (hs : List Half) : (s.ownHalves n err hs).1.mem = s.mem := by
  induction hs generalizing s with
  | nil => rfl
  | cons x hs ih =>
    have hr := s.spRead_mem (bankAgent n) x.pa x.len err
    unfold State.ownHalves
    refine (ih _).trans ?_
    split <;> rename_i e <;> rw [e] at hr <;> exact hr

/-! ### The operations -/

theorem opAct_mem {s : State} {f : State → State} (x : Slot) (w : OpWord) (h : (f s).mem = s.mem) : (opAct x w f s).mem = s.mem :=
  opAct_keeps (P := fun t => t.mem = s.mem) x w f s rfl h rfl

@[simp] theorem State.noteOp_mem (x : Slot) (w : OpWord) (note : Bundle → Bundle) : (s.noteOp x w note).mem = s.mem := rfl

@[simp] theorem State.branchOp_mem (x : Slot) (w : OpWord) (taken : Bool) (target : Nat) : (s.branchOp x w taken target).mem = s.mem := rfl

@[simp] theorem State.cwrOp_mem (x : Slot) (w : OpWord) (creg : Nat) (v : Word) : (s.cwrOp x w creg v).mem = s.mem := by
  simp only [State.cwrOp, apply_ite State.mem, State.privFault_mem, State.setCore_mem, ite_self]

@[simp] theorem State.callOp_mem (x : Slot) (w : OpWord) (target : Nat) : (s.callOp x w target).mem = s.mem := by
  unfold State.callOp
  extract_lets n c a sp va res fly
  have hfly (t : State) : (fly t).mem = t.mem := rfl
  clear_value fly
  split
  · exact s.opFault_mem _ _ _
  split
  · exact hfly s
  split
  · exact s.accessFault_mem _ _
  · exact s.opMcheck_mem _ _
  · dsimp only
    split
    · exact State.pathStore_mem _ _ _ _ hfly
    · exact State.pathStore_mem _ _ _ _ hfly
    · exact hfly _

/-- A store waits in the merging buffer, or as a held access (R174, R181). -/
@[simp] theorem State.storeOp_mem (x : Slot) (w : OpWord) (base : BitVec 6) (z : Nat) (h : BitVec 1) (off : BitVec 8) (data : Nat) (rel : Bool) :
    (s.storeOp x w base z h off data rel).mem = s.mem := by
  unfold State.storeOp
  extract_lets n a va data post fly begin_
  have hfly (t : State) : (fly t).mem = t.mem := rfl
  have hbegin (t : State) : (begin_ t).mem = t.mem := by
    simp only [begin_, apply_ite State.mem, State.modCore_mem, ite_self]
  clear_value fly begin_
  split
  · exact s.opFault_mem _ _ _
  split
  · exact hfly s
  split
  · exact s.accessFault_mem _ _
  · exact s.opMcheck_mem _ _
  · dsimp only
    split
    · exact (State.pathStore_mem _ _ _ _ hfly).trans (hbegin _)
    · exact (State.pathStore_mem _ _ _ _ hfly).trans (hbegin _)
    · exact (State.flyHeld_mem _ _ _ _ _ _).trans (hbegin _)

@[simp] theorem State.atomOp_mem (x : Slot) (w : OpWord) (kind : Nat → HKind) (base rd rs : BitVec 6) (wf : BitVec 2) (cas : Bool) :
    (s.atomOp x w kind base rd rs wf cas).mem = s.mem := by
  unfold State.atomOp
  dsimp only
  split
  · exact s.opFault_mem _ _ _
  split
  · exact s.opFault_mem _ _ _
  split
  · rfl
  split
  · exact s.accessFault_mem _ _
  · exact s.opMcheck_mem _ _
  · exact s.withQueue_mem _ _ _ (State.flyHeld_mem _ _ _ _ _ _)

@[simp] theorem State.flyMaint_mem (x : Slot) (w : OpWord) (post : List Word) (m : Maint) : (s.flyMaint x w post m).mem = s.mem := rfl

@[simp] theorem State.heldMaint_mem (x : Slot) (w : OpWord) (kind : HKind) (va : Nat) (h : Half) : (s.heldMaint x w kind va h).mem = s.mem :=
  s.flyHeld_mem _ _ _ _ _

@[simp] theorem State.maintOp_mem (x : Slot) (w : OpWord) (base : BitVec 6) (kind : AKind) (k : Nat → Half → State → State)
    (h : ∀ va y t, (k va y t).mem = t.mem) : (s.maintOp x w base kind k).mem = s.mem := by
  unfold State.maintOp
  dsimp only
  split
  · rfl
  split
  · exact s.accessFault_mem _ _
  · exact s.opMcheck_mem _ _
  · split
    · exact h _ _ _
    · rfl

@[simp] theorem State.readKnots_mem (n pa : Nat) (err : WordErr) (is : List Nat) : (s.readKnots n pa err is).1.mem = s.mem := by
  induction is generalizing s err with
  | nil => rfl
  | cons i is ih =>
    have hr := s.spRead_mem (bankAgent n) (pa + 16 * i) 16 err
    unfold State.readKnots
    split <;> rename_i e <;> rw [e] at hr
    · exact hr
    · exact (ih _ _).trans hr

@[simp] theorem State.shadowTable_mem (x : Slot) (w : OpWord) (k : TblKind) (fd : BitVec 5) (xr d : Wide) :
    (s.shadowTable x w k fd xr d).mem = s.mem := by
  unfold State.shadowTable
  extract_lets n num mine ks
  clear_value num mine ks
  split
  · rfl
  · exact s.startRollback_mem _ _ _ _ _

@[simp] theorem State.tableOp_mem (x : Slot) (w : OpWord) (k : TblKind) (fd fx fdesc : BitVec 5) (ch : Chance) :
    (s.tableOp x w k fd fx fdesc ch).mem = s.mem := by
  unfold State.tableOp
  extract_lets n c a d xr va size lat
  clear_value d xr
  split
  · simp only [apply_ite State.mem, State.shadowTable_mem, ite_self]
  split
  · exact s.opFault_mem _ _ _
  split
  · exact s.accessFault_mem _ _
  · exact s.opMcheck_mem _ _
  next pa _ tlb hur _ =>
    extract_lets s1
    have h1 : s1.mem = s.mem := rfl
    clear_value s1
    rw [← h1]
    split
    · exact State.opFault_mem _ _ _ _
    split
    · exact State.opFault_mem _ _ _ _
    split
    · exact State.opFault_mem _ _ _ _
    · refine State.withQueue_mem _ _ _ _ ?_
      exact (State.foldl_mem _ _ _ fun t i => t.mem_lvPush _ _).trans (State.readKnots_mem _ _ _ _ _)

/-! ### Reads of the stack -/

@[simp] theorem State.logEnd_mem (l result : Nat) : (s.logEnd l result).mem = s.mem := by
  unfold State.logEnd
  dsimp only
  split
  · rfl
  · simp only [State.modSeq_mem, apply_ite State.mem, State.rset_mem, State.record_mem, ite_self]

@[simp] theorem State.deliver_mem (l tally : Nat) (w : Word) : (s.deliver l tally w).mem = s.mem := by
  unfold State.deliver
  dsimp only
  split
  · rfl
  · split <;> rfl

@[simp] theorem State.park_mem (l : Nat) : (s.park l).mem = s.mem := by
  unfold State.park
  split
  · exact State.foldl_mem _ _ _ fun t x => t.deliver_mem _ _ _
  · rfl

/-- A logical core that stops keeps what memory holds (R276, R282). -/
@[simp] theorem State.halt_mem (l v : Nat) : (s.halt l v).mem = s.mem := by
  simp only [State.halt, State.park_mem, State.setLstate_mem, State.modPair_mem]
  exact State.foldl_mem _ _ _ fun _ _ => rfl

@[simp] theorem State.snapFails_mem (l off : Nat) : (s.snapFails l off).mem = s.mem := by
  simp [State.snapFails, State.enterSafe, State.strike_mem]

@[simp] theorem State.uartGet_mem : s.uartGet.1.mem = s.mem := by
  unfold State.uartGet
  split <;> rfl

@[simp] theorem State.ctlRead_mem (a : Agent) (pa size : Nat) : (s.ctlRead a pa size).1.mem = s.mem := by
  unfold State.ctlRead
  split
  · exact s.reject_mem _ _ _
  split
  · exact s.reject_mem _ _ _
  split
  · exact s.uartGet_mem
  · rfl
  · split
    · simp only [State.snapError, apply_ite State.mem, State.snapFails_mem, ite_self]
    · rfl
  · exact s.reject_mem _ _ _

@[simp] theorem State.ctlReads_mem (a : Agent) (pa len : Nat) : (s.ctlReads a pa len).1.mem = s.mem := by
  unfold State.ctlReads
  generalize List.range ((len + 7) / 8) = l
  generalize ([] : List Byte) = bs
  induction l generalizing s bs with
  | nil => rfl
  | cons i l ih => exact (ih _ _).trans (s.ctlRead_mem _ _ _)

/-- A half of the stack is read where it lies, without a fill (R86). -/
@[simp] theorem State.stackHalf_mem (n pl : Nat) (h : Half) : (s.stackHalf n pl h).1.mem = s.mem := by
  unfold State.stackHalf
  extract_lets c line fromBank fromMemory
  have hbank : (fromBank s).1.mem = s.mem := by
    have hr := s.spRead_mem (s.portAgent n h.pa) h.pa h.len .none
    dsimp only [fromBank]
    split <;> rename_i e <;> rw [e] at hr <;> exact hr
  have hmem : (fromMemory s).1.mem = s.mem := by
    dsimp only [fromMemory]
    split <;> rfl
  clear_value fromBank fromMemory
  split
  · split
    next e => rw [e] at hbank; exact hbank
    · exact hbank
  · split
    · rfl
    · split
      · rfl
      · exact hmem
  · split
    · exact s.ctlReads_mem _ _ _
    · split
      · exact hbank
      · exact hmem

@[simp] theorem State.stackRead_mem (n pl : Nat) (hs : List Half) : (s.stackRead n pl hs).1.mem = s.mem := by
  induction hs generalizing s with
  | nil => rfl
  | cons x hs ih =>
    have hx := s.stackHalf_mem n pl x
    unfold State.stackRead
    split <;> rename_i e <;> rw [e] at hx
    · exact hx
    · next t bs =>
      have hr := ih t
      split
      · next e => rw [e] at hr; exact hr.trans hx
      · exact hr.trans hx

@[simp] theorem State.overlapFreeze_mem (n : Nat) (hs : List Half) : (s.overlapFreeze n hs).mem = s.mem := s.opFreeze_mem n .partialOverlap

@[simp] theorem State.iretWith_mem (x : Slot) (w : OpWord) (pl : Nat) (fr : List Word) : (s.iretWith x w pl fr).mem = s.mem := by
  unfold State.iretWith
  split
  · exact s.opFault_mem _ _ _
  · rfl

@[simp] theorem State.takeFrame_mem (n slot i : Nat) (fr : List Word) (k : List Word → State → State) (h : ∀ fr t, (k fr t).mem = t.mem) :
    (s.takeFrame n slot i fr k).mem = s.mem := by
  induction i generalizing s fr with
  | zero => exact h _ _
  | succ i ih => exact s.lvTake_mem _ _ _ _ fun _ t => ih t _

end

/-! ### The state of a fold cache -/

theorem State.rget_rset_other {s : State} {q r : Reg} {i j k l : Nat} (v : Word) (h : q ≠ r) (hk : k < q.place.n1) (hl : l < q.place.n2)
    (hi : i < r.place.n1) (hj : j < r.place.n2) : (s.rset r i j v).rget q k l = s.rget q k l :=
  s.rget_rset_ne _ _ _ _ _ _ _ (Reg.addr_ne hk hl hi hj h)

theorem State.rget_raise_other {s : State} {q : Reg} {k l src : Nat} (h : q ≠ .evStat) (hk : k < q.place.n1) (hl : l < q.place.n2)
    (hs : src < 2048) : (s.raise src).rget q k l = s.rget q k l :=
  s.rget_raise_ne _ _ _ _ (Reg.addr_ne hk hl hs Nat.zero_lt_one h)

/-- The state of a fold cache lies in its FC_CTL. -/
theorem State.fcState_congr {s t : State} {f : Nat} (h : t.rget .fcCtl f = s.rget .fcCtl f) : t.fcState f = s.fcState f :=
  congrArg (fun v => fld v 9 8) h

theorem State.fcState_of_regs_eq {s t : State} (h : t.regs = s.regs) (f : Nat) : t.fcState f = s.fcState f :=
  State.fcState_congr (State.rget_of_regs_eq h _ _ _)

/-- A write to any register of the map but FC_CTL leaves it. -/
theorem State.fcState_rset {s : State} {r : Reg} {f i j : Nat} (v : Word) (hf : f < 24) (hr : r ≠ .fcCtl) (hi : i < r.place.n1)
    (hj : j < r.place.n2) : (s.rset r i j v).fcState f = s.fcState f :=
  State.fcState_congr (State.rget_rset_other v hr.symm hf Nat.zero_lt_one hi hj)

theorem State.fcState_raise {s : State} {f src : Nat} (hf : f < 24) (hs : src < 2048) : (s.raise src).fcState f = s.fcState f :=
  State.fcState_congr (State.rget_raise_other (by decide) hf Nat.zero_lt_one hs)

/-- FC_CTL and PX_STAT share no place, whatever fold and pair they are asked for: a role beyond a fold's nine names a pair it has not. -/
theorem fcCtl_addr_ne_pxStat (f g j : Nat) : Reg.fcCtl.addr f ≠ Reg.pxStat.addr g j := by
  simp only [Reg.addr, Reg.place]
  omega

theorem fld_lt (v : Word) (hi lo : Nat) : fld v hi lo < 2 ^ (hi + 1 - lo) := Nat.mod_lt _ (Nat.two_pow_pos _)

/-- A field reads as before once another is written. -/
theorem fld_setFld_of_apart (v : Word) {hi lo hi' lo' : Nat} (x : Nat) (h : lo ≤ hi) (hw : hi' < 64) (ha : hi < lo' ∨ hi' < lo) :
    fld (setFld v hi lo x) hi' lo' = fld v hi' lo' := by
  refine fld_eq_of_flag (fld_lt v hi' lo') fun j hj => ?_
  rw [flag_setFld _ _ _ _ _ h (by omega), if_neg (by omega), fld, testBit_bits, decide_eq_true hj, Bool.true_and, flag]

/-- The bits of FC_CTL above or below STATE are no part of it. -/
theorem State.fcState_rput (s : State) (f k : Nat) {hi lo : Nat} (x : Nat) (h : lo ≤ hi) (ha : hi < 8 ∨ 9 < lo) :
    (s.rput .fcCtl k 0 hi lo x).fcState f = s.fcState f := by
  rw [State.fcState, State.fcState, State.rfld, State.rfld, State.rput, State.rmod]
  by_cases hk : f = k
  · subst hk
    rw [State.rget_rset_same, fld_setFld_of_apart _ _ h (by decide) ha]
  · have hne : Reg.fcCtl.addr f ≠ Reg.fcCtl.addr k := by
      simp only [Reg.addr, Reg.place]
      omega
    rw [State.rget_rset_ne _ _ _ _ _ _ _ _ hne]

section
variable {f : Nat}

theorem State.fcState_setWaydisHw (s : State) {k : Nat} (v : Nat) (hf : f < 24) (hk : k < 24) : (s.setWaydisHw k v).fcState f = s.fcState f := by
  rw [State.setWaydisHw, if_pos hk]
  exact State.fcState_rset _ hf (by decide) hk Nat.zero_lt_one

theorem State.fcState_startWalk (s : State) (k mask : Nat) : (s.startWalk k mask).fcState f = s.fcState f := by
  unfold State.startWalk
  dsimp only
  split
  · exact State.fcState_rput _ f k 1 le_rfl (by decide)
  · rfl

theorem cacheSrc_lt {k i : Nat} (hk : k < 28) (hi : i < 8) : cacheSrc k i < 2048 := by
  unfold cacheSrc
  split <;> omega

theorem State.fcState_wayThreshold (s : State) {k : Nat} (hf : f < 24) (hk : k < 28) : (s.wayThreshold k).fcState f = s.fcState f := by
  unfold State.wayThreshold
  split
  · exact State.fcState_raise hf (cacheSrc_lt hk (by decide))
  · rfl

theorem State.fcState_commandDue (s : State) (l cmd : Nat) : (s.commandDue l cmd).fcState f = s.fcState f := by
  unfold State.commandDue State.armCommands
  dsimp only
  split
  · split <;> rfl
  · split <;> rfl

/-- The role a core plays is one of a fold's nine, or a number of PX_SPARE's four bits. -/
theorem State.roleOf_lt {s : State} {n c : Nat} (h : s.roleOf n = some c) : c < 16 := by
  unfold State.roleOf at h
  dsimp only at h
  split at h
  next => cases h
  next r hr =>
    obtain ⟨-, rfl⟩ : _ ∧ r = c := by simpa using h
    split at hr
    · unfold State.spareFor at hr
      dsimp only at hr
      split at hr
      · cases hr
        exact Nat.mod_lt _ (by decide)
      · cases hr
    · split at hr <;> cases hr
      omega

theorem State.logicalOf_lt (s : State) {g c : Nat} (hg : g < 24) (hc : c < 16) : s.logicalOf g c < 225 := by
  unfold State.logicalOf
  split <;> omega

theorem State.fcState_lameStopped (s : State) {l : Nat} (role : Nat) (hf : f < 24) (hl : l < 225) :
    (s.lameStopped l role).fcState f = s.fcState f := by
  have hsrc {k : Nat} (hk : k < 3) : 1600 + k + 8 * foldOf l < 2048 := by unfold foldOf; omega
  unfold State.lameStopped
  extract_lets g j p
  split
  · rfl
  split
  · rfl
  split
  · exact State.fcState_raise hf (hsrc (by decide : 2 < 3))
  · refine (State.fcState_raise hf (hsrc (by decide : 1 < 3))).trans ?_
    exact State.fcState_congr (s.rget_rset_ne _ _ _ _ _ _ _ (fcCtl_addr_ne_pxStat f g j))

theorem State.fcState_lameCoreDue (s : State) {n : Nat} (hf : f < 24) (hn : n < 216) : (s.lameCoreDue n).fcState f = s.fcState f := by
  unfold State.lameCoreDue
  split
  · rfl
  next c hc =>
    have hg : foldOf n < 24 := by unfold foldOf; omega
    dsimp only
    split
    · exact s.fcState_lameStopped c hf (s.logicalOf_lt hg (State.roleOf_lt hc))
    · exact s.fcState_commandDue _ _

/-- A strike moves no fold cache to another state where the lame declaration it may lead to does not. -/
theorem State.fcState_strike (s : State) {c i : Nat} (hf : f < 24) (hc : c < 17) (hi : i < 3200) (h1 : c ≠ 1)
    (h : ∀ t : State, (t.declareLame c i).fcState f = t.fcState f) : (s.strike c i).fcState f = s.fcState f := by
  have hl (t : State) : (t.fallLame c i).fcState f = t.fcState f := by
    rw [State.fallLame, State.fcState_raise hf (by decide), h]
    exact State.fcState_rset _ hf (by decide) Nat.zero_lt_one Nat.zero_lt_one
  simp only [State.strike, if_neg h1, apply_ite (fun t : State => t.fcState f), hl, State.fcState_raise hf (by decide : 32 < 2048), ite_self]
  exact State.fcState_rset _ hf (by decide) hc hi

theorem State.fcState_strike_core (s : State) {n : Nat} (hf : f < 24) (hn : n < 216) : (s.strike 0 n).fcState f = s.fcState f :=
  s.fcState_strike hf (by decide) (by omega) (by decide) fun t => (State.fcState_lameCoreDue _ hf hn).trans rfl

theorem State.fcState_strike_way (s : State) {i : Nat} (hf : f < 24) (hi : i < 384) : (s.strike 2 i).fcState f = s.fcState f :=
  s.fcState_strike hf (by decide) (by omega) (by decide) fun t => by
    have hk : i / 16 < 24 := by omega
    rw [State.declareLame, State.fcState_wayThreshold _ hf (by omega), State.fcState_raise hf (cacheSrc_lt (by omega) (by decide)),
      State.fcState_startWalk, State.fcState_setWaydisHw _ _ hf hk]

/-- A line is found in one of its cache's ways. -/
theorem State.cfind_lt {s : State} {k line w : Nat} {l : CLine} (h : s.cfind k line = some (w, l)) : w < cacheWays k := by
  obtain ⟨v, hv, hs⟩ := List.exists_of_findSome?_eq_some h
  split at hs
  · split at hs <;> cases hs
    exact List.mem_range.1 hv
  · cases hs

theorem State.regs_cdrop (s : State) (k line : Nat) : (s.cdrop k line).regs = s.regs := by
  unfold State.cdrop
  dsimp only
  split <;> split <;> rfl

theorem State.regs_leaveWay (s : State) (k line w : Nat) : (s.leaveWay k line w).regs = s.regs := by
  unfold State.leaveWay
  split
  · rfl
  · split
    · exact s.regs_cdrop k line
    · rfl

theorem State.regs_poisonMem (s : State) (line : Nat) : (s.poisonMem line).regs = s.regs := by
  simp only [State.poisonMem, apply_ite State.regs, State.modMc_regs, ite_self]

theorem State.regs_dirRemove (s : State) (line h : Nat) : (s.dirRemove line h).regs = s.regs := by
  unfold State.dirRemove
  split <;> rfl

theorem State.fcState_arrayLog (s : State) {k line w : Nat} (ue tag : Bool) (hf : f < 24) (hk : k < 24) (hw : w < 16) :
    (s.arrayLog k line w ue tag).fcState f = s.fcState f := by
  simp only [State.arrayLog, if_pos hk]
  rw [State.fcState_strike_way _ hf (by omega), State.fcState_raise hf (cacheSrc_lt (by omega) (by decide))]
  exact State.fcState_rset _ hf (by decide) hk Nat.zero_lt_one

theorem State.fcState_lookup (s : State) {k : Nat} (line : Nat) (err : ArrayErr) (hf : f < 24) (hk : k < 24) :
    (s.lookup k line err).1.fcState f = s.fcState f := by
  unfold State.lookup
  split
  · rfl
  next w l h =>
    have hw : w < 16 := by simpa [cacheWays, hk] using State.cfind_lt h
    have hlog (ue tag : Bool) : (s.arrayLog k line w ue tag).fcState f = s.fcState f := s.fcState_arrayLog ue tag hf hk hw
    cases err with
    | none => rfl
    | dataCorrected => exact hlog _ _
    | tagCorrected => exact hlog _ _
    | dataUncorrectable =>
      dsimp only
      split
      · exact hlog true false
      · refine (State.fcState_of_regs_eq ?_ f).trans (hlog true false)
        rw [State.regs_dirRemove, State.regs_cdrop]
    | tagUncorrectable =>
      dsimp only
      refine (State.fcState_of_regs_eq ?_ f).trans (hlog true true)
      split
      · simp only [State.regs_dirRemove, apply_ite State.regs, State.regs_poisonMem, State.ask_regs, State.regs_cdrop, ite_self]
      · exact State.regs_cdrop _ _ _

theorem State.fcState_foldRead (s : State) {n : Nat} (line : Nat) (fetch : Bool) (err : ArrayErr) (hn : n < 216)
    (h : s.fcState (foldOf n) ≠ 2) : (s.foldRead n line fetch err).1.fcState (foldOf n) = s.fcState (foldOf n) := by
  have hf : foldOf n < 24 := by unfold foldOf; omega
  have hl := s.fcState_lookup line err hf hf
  unfold State.foldRead
  dsimp only
  rw [s.drainAhead_of_ne line h]
  split
  · split <;> rfl
  · split <;> rename_i e <;> rw [e] at hl
    · refine Eq.trans ?_ hl
      rw [State.fcState_of_regs_eq (State.regs_leaveWay _ _ _ _)]
      exact State.fcState_rset _ hf (by decide) hf Nat.zero_lt_one
    · exact (State.fcState_rset _ hf (by decide) hf Nat.zero_lt_one).trans hl


theorem State.regs_l1dPut (s : State) (n line : Nat) (d : BitVec 512) : (s.l1dPut n line d).regs = s.regs := by
  simp only [State.l1dPut, apply_ite State.regs, State.drawn_regs, State.setCore_regs, ite_self]

end

/-! ### Loads -/

section
variable {n : Nat}

/-- A half of a load changes neither memory nor the state of its fold cache, where that does not drain. -/
theorem State.cacheHalf_keeps (s : State) (h : Half) (err : ArrayErr) (hn : n < 216) (hs : s.fcState (foldOf n) ≠ 2) :
    (s.cacheHalf n h err).1.mem = s.mem ∧ (s.cacheHalf n h err).1.fcState (foldOf n) = s.fcState (foldOf n) := by
  have hf : foldOf n < 24 := by unfold foldOf; omega
  unfold State.cacheHalf
  extract_lets line seg c hit
  clear_value line seg hit
  split
  · exact ⟨rfl, rfl⟩
  next s1 _ _ =>
    obtain ⟨hm, hc⟩ : s1.mem = s.mem ∧ s1.fcState (foldOf n) = s.fcState (foldOf n) := by
      dsimp only [s1]
      split
      · exact ⟨State.strike_mem _ n (by decide), State.fcState_strike_core _ hf hn⟩
      · exact ⟨rfl, rfl⟩
    clear_value s1
    have hrm := s1.foldRead_mem line false (if hit.isSome then .none else err) (hc ▸ hs)
    have hrc := s1.fcState_foldRead line false (if hit.isSome then .none else err) hn (hc ▸ hs)
    split
    · exact ⟨rfl, rfl⟩
    · split <;> rename_i e <;> rw [e] at hrm hrc
      · split
        · exact ⟨hrm.trans hm, hrc.trans hc⟩
        · exact ⟨(State.l1dPut_mem _ _ _ _).trans (hrm.trans hm),
            (State.fcState_of_regs_eq (State.regs_l1dPut _ _ _ _) _).trans (hrc.trans hc)⟩
      · exact ⟨hrm.trans hm, hrc.trans hc⟩

theorem State.cacheHalves_mem (s : State) (err : ArrayErr) (hs : List Half) (hn : n < 216) (hd : s.fcState (foldOf n) ≠ 2) :
    (s.cacheHalves n err hs).1.mem = s.mem := by
  induction hs generalizing s with
  | nil => rfl
  | cons x hs ih =>
    unfold State.cacheHalves
    obtain ⟨hm, hc⟩ := s.cacheHalf_keeps x err hn hd
    dsimp only
    split
    · exact ih s hd
    · exact (ih _ (hc ▸ hd)).trans hm

/-- A load leaves memory alone where its fold cache does not drain (R229). -/
theorem State.loadOp_mem (s : State) (x : Slot) (w : OpWord) (base : BitVec 6) (z : Nat) (h : BitVec 1) (off : BitVec 8) (ch : Chance)
    (dest : Dest) (signed isF : Bool) (rd : Nat) (hn : x.core < 216) (hd : s.fcState (foldOf x.core) ≠ 2) :
    (s.loadOp x w base z h off ch dest signed isF rd).mem = s.mem := by
  unfold State.loadOp
  extract_lets n a va
  split
  · exact s.opFault_mem _ _ _
  split
  · split
    · rfl
    · exact s.shadowLoad_mem _ _ _ _
  split
  · exact s.accessFault_mem _ _
  · exact s.opMcheck_mem _ _
  next hs tlb hur _ =>
    refine s.withQueue_mem _ _ _ ?_
    dsimp only
    split
    · exact (State.flyLoad_mem _ _ _ _ _ _ _ _).trans (State.ownHalves_mem _ _ _ _)
    · split
      · exact State.opFreeze_mem _ n .partialOverlap
      · exact (State.flyLoad_mem _ _ _ _ _ _ _ _).trans (State.cacheHalves_mem (s.keep n tlb hur) _ _ hn hd)
    · exact State.flyHeld_mem _ _ _ _ _ _

end

/-! ### The commands of the operations -/

/-- From `s` a command answers a next state with the same memory. -/
def KeepsMemory (s : State) (o : Out) : Prop := ∃ t, o = .next t ∧ t.mem = s.mem

theorem keepsMemory_opReg {s : State} (x : Slot) (w : OpWord) (lat : Nat) (f : Arch → OpRes) : KeepsMemory s (.next (opReg x w lat f s)) :=
  ⟨_, rfl, opReg_mem x w lat f s⟩

theorem keepsMemory_opAct {s : State} {x : Slot} {w : OpWord} {f : State → State} (h : (f s).mem = s.mem) :
    KeepsMemory s (.next (opAct x w f s)) :=
  ⟨_, rfl, opAct_mem x w h⟩

section
variable (s : State) (x : Slot)

theorem keepsMemory_execCrd (rd : BitVec 6) (creg : BitVec 8) : KeepsMemory s (execCrd x rd creg s) := by
  refine keepsMemory_opAct ?_
  dsimp only
  split
  · exact s.privFault_mem _ _
  split
  · split
    · exact s.lvTake_mem _ _ _ _ fun _ _ => rfl
    · exact s.withQueue_mem _ _ _ (State.mem_lvPush _ _ _)
  · rfl

theorem keepsMemory_execSubmit (gd ga : BitVec 6) (tn : BitVec 4) : KeepsMemory s (execSubmit x gd ga tn s) := by
  refine keepsMemory_opAct ?_
  dsimp only
  split
  · refine s.withQueue_mem _ _ _ ?_
    split
    · refine (State.lvTake_mem _ _ _ _ _ ?_).trans (State.mem_lvPush _ _ _)
      exact fun _ _ => rfl
    · exact State.mem_lvPush _ _ _
  split
  · rfl
  split
  · exact s.accessFault_mem _ _
  · exact s.opMcheck_mem _ _
  · exact s.withQueue_mem _ _ _ (State.flyHeld_mem _ _ _ _ _ _)

theorem keepsMemory_execRet : KeepsMemory s (execRet x s) := by
  refine keepsMemory_opAct ?_
  extract_lets n a va
  split
  · exact s.opFault_mem _ _ _
  split
  · exact s.lvTake_mem _ _ _ _ fun _ _ => rfl
  split
  · exact s.accessFault_mem _ _
  · exact s.opMcheck_mem _ _
  next hs tlb hur _ =>
    have hr := (s.keep n tlb hur).stackRead_mem n a.pl hs
    refine s.withQueue_mem _ _ _ ?_
    dsimp only
    split
    · exact State.overlapFreeze_mem _ _ _
    split <;> rename_i e <;> rw [e] at hr
    · exact (State.mem_lvPush _ _ _).trans hr
    · exact (State.mem_lvPush _ _ _).trans hr

theorem keepsMemory_execIret : KeepsMemory s (execIret x s) := by
  refine keepsMemory_opAct ?_
  dsimp only
  split
  · exact s.privFault_mem _ _
  split
  · exact s.opFreeze_mem _ _
  split
  · exact s.opFault_mem _ _ _
  split
  · exact s.takeFrame_mem _ _ _ _ _ fun _ t => t.iretWith_mem _ _ _ _
  split
  · exact s.accessFault_mem _ _
  · exact s.opMcheck_mem _ _
  next hs tlb hur _ =>
    refine s.withQueue_mem _ _ _ ?_
    split
    · exact State.overlapFreeze_mem _ _ _
    have hr := (s.keep x.core tlb hur).stackRead_mem x.core ((s.drain x.core).core x.core).arch.pl hs
    split <;> rename_i e <;> rw [e] at hr
    · exact (State.opMcheck_mem _ _ _).trans hr
    · exact (State.iretWith_mem _ _ _ _ _).trans ((State.foldl_mem _ _ _ fun t _ => t.mem_lvPush _ _).trans hr)

end

/-- An operation leaves memory as it is, a load where its fold cache does not drain (R174, R177, R229). -/
theorem keepsMemory_exec {i : Instr} {x : Slot} (s : State) (h : placeOf i = some x) (hx : x.core < 216)
    (hl : s.fcState (foldOf x.core) ≠ 2 ∨ isLoad i = false) : KeepsMemory s (exec i s) := by
  cases i with
  | nop | trd | twait | add | sub | addv | subv | and | or | xor | andn | shl | shr | sar | ror | min | max | minu | maxu
  | neg | negv | clz | ctz | popc | bswap | addi | andi | ori | xori | shli | shri | sari | rori | movz | movk | spadd | cmpEq
  | cmpNe | cmpLt | cmpLe | cmpLtu | cmpLeu | tst | pand | por | pxor | pandn | cmpiEq | cmpiNe | cmpiLt | cmpiLe | cmpiGt
  | cmpiGe | cmpiLtu | cmpiGeu | mul | mulh | mulhu | mulv | divsP | divuP | dstep | dfin | dnorm | fadd | fsub | fmul | fmin
  | fmax | fabs | fneg | fcps | fcvt | dqua | frint | fma | fms | fnma | fnms | fmvg | fmvgh | gmvf | gmvfh | fcvtG | fcvtzG
  | fcvtF | fcvtuF | fcmpEq | fcmpLt | fcmpLe | fcmpUn | fcmpLtq | fcmpLeq | fcmpEqs | fdivP | fdstep | fdfin | fsqrtP
  | frstep | frfin | xdivP | xdstep | xdfin => exact keepsMemory_opReg _ _ _ _
  | syscall | fenceS | fenceF | gath | repi | repn | bt | bf | bri => exact keepsMemory_opAct rfl
  | cwr | cctlWrite => exact keepsMemory_opAct (s.cwrOp_mem _ _ _ _)
  | call | calli => exact keepsMemory_opAct (s.callOp_mem _ _ _)
  | st | stf | strel => exact keepsMemory_opAct (s.storeOp_mem _ _ _ _ _ _ _ _)
  | swap | atomicFadd | cas => exact keepsMemory_opAct (s.atomOp_mem _ _ _ _ _ _ _ _)
  | dci | ici => exact keepsMemory_opAct (s.maintOp_mem _ _ _ _ _ fun _ _ _ => rfl)
  | dcf | dcfi | dzl => exact keepsMemory_opAct (s.maintOp_mem _ _ _ _ _ fun _ _ t => t.heldMaint_mem _ _ _ _ _)
  | tlfl | tlin | tllg => exact keepsMemory_opAct (s.tableOp_mem _ _ _ _ _ _ _)
  | ld | lds | ldf =>
    obtain rfl := Option.some.inj h
    exact keepsMemory_opAct (s.loadOp_mem _ _ _ _ _ _ _ _ _ _ _ hx (hl.resolve_right (by simp [isLoad])))
  | mgrcall | wfe | dcia | icia => exact keepsMemory_opAct (s.privileged_mem _ _ _ rfl)
  | crd => exact keepsMemory_execCrd s _ _ _
  | submit => exact keepsMemory_execSubmit s _ _ _ _
  | ret => exact keepsMemory_execRet s _
  | iret => exact keepsMemory_execIret s _
  | _ => cases h

end Sys2Proof.Machine

open Sys2Proof Sys2Proof.Machine

/-- Settles O59: each operation keeps memory, and a byte reads as memory has it. -/
theorem operationsLeaveMemoryAlone : Obligations.OperationsLeaveMemoryAlone := by
  intro i s x h hx hl
  obtain ⟨t, ht, hm⟩ := keepsMemory_exec s h hx hl
  exact ⟨t, ht, hm, fun pa => congrArg (fun m => tget memDefault m pa) hm⟩

end

section
/-! The registers of the fold managers and tile caches: the effect of a store to each, and what it reads then. -/

namespace Sys2Proof.Machine

/-! ### Fields after writes -/

theorem State.rfld_rput_same (s : State) (r : Reg) (i j : Nat) {hi lo x : Nat} (h : lo ≤ hi) (hw : hi < 64) (hx : x < 2 ^ (hi + 1 - lo)) :
    (s.rput r i j hi lo x).rfld r i j hi lo = x := by
  rw [State.rfld, State.rput, State.rmod, State.rget_rset_same, fld_setFld_same _ _ _ _ h hw hx]

theorem flag_setFld_of_apart (v : Word) {hi lo b : Nat} (x : Nat) (h : lo ≤ hi) (hb : b < 64) (ha : hi < b ∨ b < lo) :
    flag (setFld v hi lo x) b = flag v b := by
  rw [flag_setFld _ _ _ _ _ h hb, if_neg (by omega)]

/-! ### Cached translations (R168, R169) -/

section
variable {f : Core → Core}

/-- Cores changed one after another, by a change that a second one adds nothing to. -/
theorem State.core_foldl_modCore (hf : ∀ c, f (f c) = f c) (l : List Nat) (s : State) (m : Nat) :
    (l.foldl (fun s n => s.modCore n f) s).core m = if m ∈ l then f (s.core m) else s.core m := by
  induction l generalizing s with
  | nil => rfl
  | cons n l ih =>
    rw [List.foldl_cons, ih]
    by_cases hn : m = n
    · subst hn
      rw [State.core_modCore_same, hf, ite_self, if_pos (List.mem_cons_self)]
    · simp only [s.core_modCore_ne n m f hn, List.mem_cons, hn, false_or]

theorem State.foldl_modCore_regs (l : List Nat) (s : State) : (l.foldl (fun s n => s.modCore n f) s).regs = s.regs := by
  induction l generalizing s with
  | nil => rfl
  | cons n l ih => exact ih _

end

/-- What an invalidation leaves of a core it concerns, and of memory and the registers. -/
theorem State.xinv_spec {s : State} {n m : Nat} (p : TlbE → Bool) (hm : m ∈ s.xinvCores n) :
    ((s.xinv n p).core m).tlb = (s.core m).tlb.filter (fun e => !p e) ∧ (s.xinv n p).mem = s.mem ∧ (s.xinv n p).regs = s.regs := by
  refine ⟨?_, State.foldl_mem _ _ _ fun _ _ => rfl, State.foldl_modCore_regs _ _⟩
  rw [State.xinv, State.core_foldl_modCore (fun c => by simp), if_pos hm]

/-- A store to an invalidation register of a core's page removes what `p` names. -/
theorem xinv_stores {c : Instr} {s : State} {a : Agent} {n m : Nat} {v : Word} {r : Reg} {p q : TlbE → Bool} (hm : m ∈ s.xinvCores n)
    (h : exec c s = .next (s.regWrite a r (n / 9) (n % 9) v))
    (he : s.ctlEffect a r (n / 9) (n % 9) v = some (s.xinv (9 * (n / 9) + n % 9) q)) (hq : q = p)
    (acc : s.accepts a r (n / 9) (n % 9) v) :
    ∃ t, exec c s = .next t ∧ (t.core m).tlb = (s.core m).tlb.filter (fun e => !p e) ∧ t.mem = s.mem ∧ t.regs = s.regs := by
  subst hq
  rw [Nat.div_add_mod] at he
  exact ⟨_, stores_of h he acc, State.xinv_spec q hm⟩

/-! ### FC_CTL (R227) -/

theorem State.fcControl_enable {s : State} {f : Nat} (h : s.fcState f = 0) : s.fcControl f true = s.rput .fcCtl f 0 9 8 1 := by
  unfold State.fcControl
  rw [h]
  rfl

/-- A drain that begins keeps the fills in flight from installing (R228). -/
theorem State.fcControl_drain {s : State} {f : Nat} (h : s.fcState f = 1) :
    (s.fcControl f false).fcState f = 2 ∧ (s.fcControl f false).mem = s.mem ∧
      ∀ x ∈ (s.fcControl f false).caches.fills, x.fold = f → x.install = false := by
  unfold State.fcControl
  rw [h]
  refine ⟨?_, rfl, fun x hx hf => ?_⟩
  · exact s.rfld_rput_same .fcCtl f 0 (by decide) (by decide) (by decide)
  · obtain ⟨y, -, rfl⟩ := List.mem_map.1 hx
    split at hf
    next hy => rw [if_pos hy]
    next hy => exact absurd hf hy

/-! ### REPL (R219, R239) -/

/-- The word that a store of `v` leaves in a REPL register that holds `old`. -/
def replWord (old v : Word) : Word :=
  let new := setFld (setFld (setFlag old 62 (flag v 62)) 15 0 (fld v 15 0)) 47 32 (fld v 15 0)
  if flag v 63 then setFlag new 63 false else new

theorem replWord_spec (old v : Word) :
    fld (replWord old v) 15 0 = fld v 15 0 ∧ fld (replWord old v) 47 32 = fld v 15 0 ∧ flag (replWord old v) 62 = flag v 62 := by
  have hlt : fld v 15 0 < 2 ^ 16 := fld_lt v 15 0
  generalize hn : setFld (setFld (setFlag old 62 (flag v 62)) 15 0 (fld v 15 0)) 47 32 (fld v 15 0) = new
  have hseed : fld new 15 0 = fld v 15 0 := by
    rw [← hn, fld_setFld_of_apart _ _ (by decide) (by decide) (by decide), fld_setFld_same _ _ _ _ (by decide) (by decide) hlt]
  have hlfsr : fld new 47 32 = fld v 15 0 := by
    rw [← hn, fld_setFld_same _ _ _ _ (by decide) (by decide) hlt]
  have hplru : flag new 62 = flag v 62 := by
    rw [← hn, flag_setFld_of_apart _ _ (by decide) (by decide) (by decide), flag_setFld_of_apart _ _ (by decide) (by decide) (by decide),
      flag_setFlag _ _ _ _ (by decide), if_pos rfl]
  rw [replWord, hn]
  split
  · rw [setFlag, fld_setFld_of_apart _ _ le_rfl (by decide) (by decide), fld_setFld_of_apart _ _ le_rfl (by decide) (by decide),
      flag_setFld_of_apart _ _ le_rfl (by decide) (by decide)]
    exact ⟨hseed, hlfsr, hplru⟩
  · exact ⟨hseed, hlfsr, hplru⟩

theorem State.repl_setRepl (s : State) (k : Nat) (v : Word) : (s.setRepl k v).repl k = v := by
  unfold State.repl State.setRepl
  split <;> exact s.rget_rset_same _ _ _ _

/-- Copies of the LFSR that agree on a state other than 0 call for no fallback. -/
theorem State.checkLfsr_of_agree {s : State} {k : Nat} (h : fld (s.repl k) 47 32 = s.lfsr2 k) (h0 : fld (s.repl k) 47 32 ≠ 0) :
    s.checkLfsr k = s :=
  if_neg (by rw [not_and_or, not_or]; exact .inl ⟨not_not.2 h, h0⟩)

/-- A seed other than 0 goes into both copies of the LFSR. -/
theorem State.replWrite_spec (s : State) (k : Nat) {v : Word} (h : fld v 15 0 ≠ 0) :
    (s.replWrite k v).repl k = replWord (s.repl k) v ∧ (s.replWrite k v).lfsr2 k = fld v 15 0 ∧ (s.replWrite k v).mem = s.mem := by
  obtain ⟨-, hlfsr, -⟩ := replWord_spec (s.repl k) v
  generalize ht : (s.setRepl k (replWord (s.repl k) v)).modCa (fun c => { c with lfsr2 := tins c.lfsr2 k (fld v 15 0) }) = t
  have hrepl : t.repl k = replWord (s.repl k) v := by
    rw [← ht]
    exact s.repl_setRepl k _
  have hcopy : t.lfsr2 k = fld v 15 0 := by
    rw [← ht]
    simp [State.lfsr2, State.modCa]
  have hmem : t.mem = s.mem := by
    rw [← ht]
    simp only [State.modCa_mem, State.setRepl, apply_ite State.mem, State.rset_mem, ite_self]
  have he : s.replWrite k v = t.checkLfsr k := congrArg (fun t => State.checkLfsr t k) ht
  rw [he, State.checkLfsr_of_agree (by rw [hrepl, hlfsr, hcopy]) (by rw [hrepl, hlfsr]; exact h)]
  exact ⟨hrepl, hcopy, hmem⟩

/-! ### WAYDIS and WAYFLUSH (R224, R225, R240, R241) -/

/-- A lame declaration cleared changes no byte and no mask of WAYDIS. -/
@[simp] theorem State.clearLame_mem (s : State) (c i : Nat) : (s.clearLame c i).mem = s.mem := by
  unfold State.clearLame
  split <;> rfl

@[simp] theorem State.setWaydisSw_mem (s : State) (k v : Nat) : (s.setWaydisSw k v).mem = s.mem := by
  simp only [State.setWaydisSw, apply_ite State.mem, State.rput_mem, ite_self]

/-- A SW mask that WAYDIS has room for reads as it is set. -/
theorem State.waydisSw_setWaydisSw (s : State) {k v : Nat} (hv : v < 2 ^ (if k < 24 then 16 else 24)) : (s.setWaydisSw k v).waydisSw k = v := by
  unfold State.waydisSw State.setWaydisSw
  split
  next hk =>
    rw [if_pos hk] at hv
    exact s.rfld_rput_same .fcWaydis k 0 (by decide) (by decide) hv
  next hk =>
    rw [if_neg hk] at hv
    exact s.rfld_rput_same .tcWaydis (k - 24) 0 (by decide) (by decide) hv

/-- The SW mask lies in WAYDIS alone. -/
theorem State.waydisSw_congr {s t : State} {k : Nat} (hf : k < 24 → t.rget .fcWaydis k = s.rget .fcWaydis k)
    (ht : 24 ≤ k → t.rget .tcWaydis (k - 24) = s.rget .tcWaydis (k - 24)) : t.waydisSw k = s.waydisSw k := by
  unfold State.waydisSw
  split
  next hk => exact congrArg (fun v => fld v 15 0) (hf hk)
  next hk => exact congrArg (fun v => fld v 23 0) (ht (Nat.le_of_not_lt hk))

theorem State.waydisSw_startWalk (s : State) (k mask : Nat) : (s.startWalk k mask).waydisSw k = s.waydisSw k := by
  unfold State.startWalk
  dsimp only
  split
  next hk =>
    exact State.waydisSw_congr (fun _ => State.rget_rset_other _ (by decide) hk Nat.zero_lt_one hk Nat.zero_lt_one) (by omega)
  · rfl

theorem State.waydisSw_wayThreshold (s : State) {k : Nat} (hk : k < 28) : (s.wayThreshold k).waydisSw k = s.waydisSw k := by
  have hsrc : cacheSrc k 1 < 2048 := cacheSrc_lt hk (by decide)
  unfold State.wayThreshold
  split
  · exact State.waydisSw_congr (fun h => State.rget_raise_other (by decide) h Nat.zero_lt_one hsrc)
      fun _ => State.rget_raise_other (by decide) (show k - 24 < 4 by omega) Nat.zero_lt_one hsrc
  · rfl

/-- A store to WAYDIS leaves its SW mask as the word has it, and memory as it was. -/
theorem State.waydisWrite_spec (s : State) {k sw : Nat} (hw : Nat) (hk : k < 28) (hsw : sw < 2 ^ (if k < 24 then 16 else 24)) :
    (s.waydisWrite k hw sw).waydisSw k = sw ∧ (s.waydisWrite k hw sw).mem = s.mem := by
  unfold State.waydisWrite
  extract_lets clear s1 s2 fresh s3
  have h3 : s3.waydisSw k = sw := s2.waydisSw_setWaydisSw hsw
  have hm : s3.mem = s.mem := by
    rw [State.setWaydisSw_mem, State.setWaydisHw_mem]
    exact State.foldl_mem _ _ _ fun t _ => t.clearLame_mem _ _
  split
  · exact ⟨h3, hm⟩
  · rw [State.waydisSw_wayThreshold _ hk, State.waydisSw_startWalk, State.wayThreshold_mem, State.startWalk_mem]
    exact ⟨h3, hm⟩

/-- A walk that begins, or joins the one in progress, visits the masked ways; a fold's shows in WFBUSY. -/
theorem State.startWalk_spec (s : State) (k mask : Nat) : (∃ w ∈ (s.startWalk k mask).caches.walks, w.cache = k ∧
    ∀ i, mask.testBit i → w.ways.testBit i) ∧ (k < 24 → (s.startWalk k mask).rbit .fcCtl k 0 4 = true) := by
  unfold State.startWalk
  extract_lets ws old ca s1
  have hwalk : ∃ w ∈ s1.caches.walks, w.cache = k ∧ ∀ i, mask.testBit i → w.ways.testBit i :=
    ⟨{ cache := k, ways := old ||| mask }, List.mem_cons_self, rfl, fun i hi => by rw [Nat.testBit_or, hi, Bool.or_true]⟩
  split
  next hk =>
    refine ⟨hwalk, fun _ => ?_⟩
    rw [State.rbit, State.rput, State.rmod, State.rget_rset_same, flag_setFld _ _ _ _ _ le_rfl (by decide), if_pos ⟨le_rfl, le_rfl⟩]
    rfl
  next hk => exact ⟨hwalk, fun h => absurd h hk⟩


/-! ### Stores to the register of a cache -/

section
variable {c : Instr} {s t : State} {a : Agent} {k : Nat} {v : Word} {rf rt : Reg}

/-- A command that stores to the register of cache `k`, of a fold or of a tile, has that register's effect. -/
theorem cache_stores (h : exec c s = .next (if k < 24 then s.regWrite a rf k 0 v else s.regWrite a rt (k - 24) 0 v))
    (hf : k < 24 → s.ctlEffect a rf k 0 v = some t) (ht : 24 ≤ k → s.ctlEffect a rt (k - 24) 0 v = some t)
    (acc : if k < 24 then s.accepts a rf k 0 v else s.accepts a rt (k - 24) 0 v) : exec c s = .next t := by
  split at h
  next hk =>
    rw [if_pos hk] at acc
    exact stores_of h (hf hk) acc
  next hk =>
    rw [if_neg hk] at acc
    exact stores_of h (ht (Nat.le_of_not_lt hk)) acc

theorem exec_replWrite (acc : if k < 24 then s.accepts a .fcRepl k 0 v else s.accepts a .tcRepl (k - 24) 0 v) :
    exec (.replWrite a k v) s = .next (s.replWrite k v) :=
  cache_stores rfl (fun _ => rfl) (fun hk => congrArg (fun n => some (s.replWrite n v)) (Nat.add_sub_cancel' hk)) acc

theorem exec_waydisWrite (acc : if k < 24 then s.accepts a .fcWaydis k 0 v else s.accepts a .tcWaydis (k - 24) 0 v) :
    exec (.waydisWrite a k v) s =
      .next (s.waydisWrite k (if k < 24 then fld v 31 16 else fld v 47 24) (fld v (if k < 24 then 15 else 23) 0)) := by
  refine cache_stores rfl (fun hk => ?_) (fun hk => ?_) acc
  · rw [if_pos hk, if_pos hk]
    rfl
  · rw [if_neg (Nat.not_lt.2 hk), if_neg (Nat.not_lt.2 hk)]
    exact congrArg (fun n => some (s.waydisWrite n (fld v 47 24) (fld v 23 0))) (Nat.add_sub_cancel' hk)

theorem exec_wayflushWrite (acc : if k < 24 then s.accepts a .fcWayflush k 0 v else s.accepts a .tcWayflush (k - 24) 0 v) :
    exec (.wayflushWrite a k v) s = .next (s.startWalk k (fld v (if k < 24 then 15 else 23) 0)) := by
  refine cache_stores rfl (fun hk => ?_) (fun hk => ?_) acc
  · rw [if_pos hk]
    rfl
  · rw [if_neg (Nat.not_lt.2 hk)]
    exact congrArg (fun n => some (s.startWalk n (fld v 23 0))) (Nat.add_sub_cancel' hk)

theorem exec_fcEcclogClear (hv : flag v 63 = true)
    (acc : if k < 24 then s.accepts a .fcEcclog k 0 v else s.accepts a .tcEcclog (k - 24) 0 v) :
    exec (.fcEcclogClear a k v) s = .next (if k < 24 then s.rset .fcEcclog k 0 0 else s.rset .tcEcclog (k - 24) 0 0) := by
  refine cache_stores rfl (fun hk => ?_) (fun hk => ?_) acc
  · rw [if_pos hk]
    exact congrArg some (if_pos hv)
  · rw [if_neg (Nat.not_lt.2 hk)]
    exact congrArg some (if_pos hv)

end

end Sys2Proof.Machine

open Sys2Proof Sys2Proof.Machine

/-- Settles O44: each store has its register's effect, and each effect reads as its lemma says. -/
theorem cacheAndTranslationRegisters : Obligations.CacheAndTranslationRegisters := by
  refine ⟨fun s a n m v _ hm => ⟨?_, ?_, ?_, ?_⟩, fun s a f v _ acc => ⟨fun h0 hv => ?_, fun h1 hv => ?_⟩,
    fun s a k v hk => ⟨fun acc hseed => ?_, fun acc => ?_, fun acc => ?_, fun acc hv => exec_fcEcclogClear hv acc⟩⟩
  · exact xinv_stores hm rfl rfl (funext fun e => by cases e.p2 <;> simp)
  · exact xinv_stores hm rfl rfl (funext fun e => by cases e.p2 <;> simp)
  · refine xinv_stores hm rfl rfl (funext fun e => congrArg (fun b => !e.p2 && b) ?_)
    split
    next h1 =>
      rw [h1]
      rfl
    next h1 =>
      split
      next h2 =>
        rw [h2]
        rfl
      next h2 =>
        split
        next h => exact absurd h h1
        next h => exact absurd h h2
        next => rfl
  · exact xinv_stores hm rfl rfl (funext fun e => by cases e.p2 <;> simp)
  · refine stores_of rfl ?_ acc
    exact congrArg some ((congrArg (s.fcControl f) hv).trans (State.fcControl_enable h0))
  · exact ⟨s.fcControl f false, stores_of rfl (congrArg (fun b => some (s.fcControl f b)) hv) acc, State.fcControl_drain h1⟩
  · obtain ⟨hrepl, hcopy, hmem⟩ := s.replWrite_spec k hseed
    obtain ⟨hlow, hlfsr, hplru⟩ := replWord_spec (s.repl k) v
    rw [← hrepl] at hlow hlfsr hplru
    exact ⟨_, exec_replWrite acc, hlow, hlfsr, hcopy, hplru, hmem⟩
  · refine ⟨_, exec_waydisWrite acc, s.waydisWrite_spec _ hk ?_⟩
    split <;> exact fld_lt v _ 0
  · obtain ⟨⟨w, hw, hc, hways⟩, hbusy⟩ := s.startWalk_spec k (fld v (if k < 24 then 15 else 23) 0)
    exact ⟨_, w, exec_wayflushWrite acc, hw, hc, hways, hbusy, s.startWalk_mem _ _⟩

end

section
/-! The home agent: what it sees of a state, the grant of a line, the end of a transaction, a line that comes home, and the landing
of a fill (05, R201 to R209). -/

namespace Sys2Proof.Machine

/-! ### Lists and tables -/

theorem delFirst_of_single {α : Type} [BEq α] [LawfulBEq α] {l : List α} {x : α} (h : l = [x]) : delFirst (fun y => y == x) l = [] := by
  subst h
  exact if_pos (beq_self_eq_true x)

theorem updFirst_head {α : Type} {p : α → Bool} {f : α → α} {x : α} {l : List α} (h : p x = true) : updFirst p f (x :: l) = f x :: l :=
  if_pos h

/-- An entry that a filter passes over does not show in what it keeps. -/
theorem filter_tins {α : Type} (t : Tbl α) (n : Nat) (x : α) {p : Nat × α → Bool} (h : ∀ y, p (n, y) = false) :
    (tins t n x).filter p = t.filter p := by
  induction t with
  | nil => simp [tins, h]
  | cons y t ih =>
    unfold tins
    split
    next e =>
      subst e
      simp [h]
    · split
      · simp [h]
      · simp [List.filter_cons, ih]

theorem filter_tdel {α : Type} (t : Tbl α) (n : Nat) {p : Nat × α → Bool} (h : ∀ y, p (n, y) = false) : (tdel t n).filter p = t.filter p := by
  rw [tdel_eq_filter, List.filter_filter]
  refine List.filter_congr fun y _ => ?_
  by_cases e : y.1 = n
  · subst e
    simp [h]
  · simp [e]

/-! ### The directory entry of a line (R205) -/

/-- Setting an entry changes the two directories alone. -/
theorem State.setDir_spec (s : State) (line : Nat) (e : Option DirE) :
    ∃ d g, s.setDir line e = s.modCa fun c => { c with dir := d, guest := g } := by
  unfold State.setDir State.modCa
  dsimp only
  split
  · exact ⟨_, s.caches.guest, rfl⟩
  · exact ⟨s.caches.dir, _, rfl⟩

theorem State.dirRemove_spec (s : State) (line h : Nat) :
    ∃ d g, s.dirRemove line h = s.modCa fun c => { c with dir := d, guest := g } := by
  unfold State.dirRemove
  split
  · exact s.setDir_spec _ _
  · exact ⟨s.caches.dir, s.caches.guest, rfl⟩

/-- A holder that takes another's place changes the two directories alone. -/
theorem State.dirMove_spec (s : State) (line old new : Nat) :
    ∃ d g, s.dirMove line old new = s.modCa fun c => { c with dir := d, guest := g } := by
  unfold State.dirMove
  split
  · exact s.setDir_spec _ _
  · exact ⟨s.caches.dir, s.caches.guest, rfl⟩

/-- An entry with a holder is the line's entry once it is set. -/
theorem State.dirOf_setDir (s : State) (line : Nat) {e : DirE} (h : e.holders ≠ []) : (s.setDir line (some e)).dirOf line = some e := by
  have he : e.holders.isEmpty = false := by simpa using h
  unfold State.dirOf State.setDir State.modCa
  by_cases hm : memModule (line * 64) = s.ownModule
  · simp [hm, he]
  · simp [hm, he]

/-- The other entries that a directory could evict are the same whatever the line's own entry is. -/
theorem State.dirFull_setDir (s : State) (line : Nat) (e : Option DirE) : (s.setDir line e).dirFull line = s.dirFull line := by
  have ho : (s.setDir line e).dirOthers line = s.dirOthers line := by
    unfold State.dirOthers State.setDir State.modCa lineHome
    by_cases hm : memModule (line * 64) = s.ownModule
    all_goals
      cases e with
      | none => simp [hm, filter_tdel]
      | some x => simp [hm, apply_ite (List.filter _), filter_tdel, filter_tins]
  obtain ⟨d, g, hs⟩ := s.setDir_spec line e
  have hown : (s.setDir line e).ownModule = s.ownModule := by rw [hs]; rfl
  rw [State.dirFull, State.dirFull, ho, hown]

theorem State.dirFull_dirRemove (s : State) (line h : Nat) : (s.dirRemove line h).dirFull line = s.dirFull line := by
  unfold State.dirRemove
  split
  · exact s.dirFull_setDir _ _
  · rfl

/-- Nor do they depend on the line's own transaction. -/
theorem State.dirFull_endTxn (s : State) (line : Nat) :
    (s.modCa fun c => { c with txns := c.txns.filter fun x => x.line != line }).dirFull line = s.dirFull line := by
  refine congrArg (fun l : List Nat => decide (_ ≤ l.length)) (congrArg (List.map _) (List.filter_congr fun x _ => ?_))
  by_cases hx : x.1 = line
  · simp [hx]
  · have hany : (s.caches.txns.filter fun q => q.line != line).any (fun q => q.line == x.1) = s.caches.txns.any fun q => q.line == x.1 := by
      rw [List.any_filter]
      refine congrArg (List.any _) (funext fun q => ?_)
      by_cases hq : q.line = x.1
      · simp [hq, hx]
      · simp [hq]
    simp only [State.modCa, hany]

/-- Where the directory has room, an entry is set and none is evicted (R208). -/
theorem State.putDir_of_room {s : State} {line : Nat} (e : DirE) (h : s.dirFull line = false) : s.putDir line e = s.setDir line (some e) := by
  unfold State.putDir
  rw [h, Bool.and_false]
  rfl

/-! ### A line dropped from a cache (R199) -/

/-- A way emptied changes the arrays alone. -/
theorem State.cclear_spec (s : State) (k line w : Nat) : ∃ f t, s.cclear k line w = s.modCa fun c => { c with fold := f, tile := t } := by
  unfold State.cclear State.modCa
  dsimp only
  split
  · exact ⟨_, s.caches.tile, rfl⟩
  · exact ⟨s.caches.fold, _, rfl⟩

/-- A line dropped changes the arrays and, under a fold cache, the L1s. -/
theorem State.cdrop_spec (s : State) (k line : Nat) :
    ∃ f t cs, s.cdrop k line = { s.modCa fun c => { c with fold := f, tile := t } with cores := cs } := by
  cases hway : s.cfind k line with
  | none =>
    have h : s.cdrop k line = if k < 24 then s.dropL1 k line else s := by
      unfold State.cdrop
      rw [hway]
    rw [h]
    split <;> exact ⟨s.caches.fold, s.caches.tile, _, rfl⟩
  | some x =>
    obtain ⟨w, l⟩ := x
    have h : s.cdrop k line = if k < 24 then (s.cclear k line w).dropL1 k line else s.cclear k line w := by
      unfold State.cdrop
      rw [hway]
    obtain ⟨f, t, hft⟩ := s.cclear_spec k line w
    rw [h, hft]
    split <;> exact ⟨f, t, _, rfl⟩

/-! ### What the home agent sees -/

/-- `t` has what the home agent of `s` sees: memory, the directories, the transactions and the requests that wait for one. -/
structure State.SameHome (s t : State) : Prop where
  mem : t.mem = s.mem
  ownModule : t.ownModule = s.ownModule
  dir : t.caches.dir = s.caches.dir
  guest : t.caches.guest = s.caches.guest
  txns : t.caches.txns = s.caches.txns
  homeq : t.caches.homeq = s.caches.homeq

namespace State.SameHome

variable {s t u : State}

theorem refl (s : State) : SameHome s s := ⟨rfl, rfl, rfl, rfl, rfl, rfl⟩

theorem trans (h : SameHome s t) (k : SameHome t u) : SameHome s u :=
  ⟨k.mem.trans h.mem, k.ownModule.trans h.ownModule, k.dir.trans h.dir, k.guest.trans h.guest, k.txns.trans h.txns, k.homeq.trans h.homeq⟩

theorem dirFull (h : SameHome s t) (line : Nat) : t.dirFull line = s.dirFull line := by
  rw [State.dirFull, State.dirFull, State.dirOthers, State.dirOthers, h.ownModule, h.dir, h.guest, h.txns]

theorem cset (s : State) (k line w : Nat) (l : CLine) : SameHome s (s.cset k line w l) := by
  unfold State.cset State.modCa
  dsimp only
  split <;> exact ⟨rfl, rfl, rfl, rfl, rfl, rfl⟩

theorem cdrop (s : State) (k line : Nat) : SameHome s (s.cdrop k line) := by
  obtain ⟨f, t, c, h⟩ := s.cdrop_spec k line
  rw [h]
  exact ⟨rfl, rfl, rfl, rfl, rfl, rfl⟩

/-- A holder that drops a line at the home's word changes its own arrays and fills. -/
theorem dropCopy_barFill (s : State) (k line : Nat) : SameHome s ((s.dropCopy k line).barFill k line) :=
  (cdrop s k line).trans ⟨rfl, rfl, rfl, rfl, rfl, rfl⟩

end State.SameHome

/-! ### Grants (R206, R207) -/

/-- A grant to a fold serves its fill. -/
theorem State.grant_fold {s : State} {req line : Nat} (tid : Nat) (st : LState) (d : BitVec 512) (p nd : Bool) (h : req < 24) :
    s.grant req tid line st d p nd = s.modCa fun c => { c with
      fills := updFirst (fun x => x.fold == req && x.line == line && x.served.isNone) (fun x => { x with served := some (d, st, p) }) c.fills } :=
  if_pos h

/-- A fold is granted a line and entered in the directory, which has room. -/
theorem State.grant_putDir_spec {s : State} {req line : Nat} {e : DirE} (tid : Nat) (st : LState) (d : BitVec 512) (p nd : Bool) (h : req < 24)
    (hroom : s.dirFull line = false) (he : e.holders ≠ []) : ∃ t, (s.grant req tid line st d p nd).putDir line e = t ∧
      t.caches.fills = updFirst (fun x => x.fold == req && x.line == line && x.served.isNone)
        (fun x => { x with served := some (d, st, p) }) s.caches.fills ∧
      t.caches.txns = s.caches.txns ∧ t.caches.homeq = s.caches.homeq ∧ t.dirOf line = some e ∧ t.mem = s.mem ∧ t.regs = s.regs := by
  rw [State.grant_fold tid st d p nd h]
  generalize ht : s.modCa _ = t
  have hf : t.dirFull line = false := by rw [← ht]; exact hroom
  rw [State.putDir_of_room e hf]
  have hdir := t.dirOf_setDir line he
  obtain ⟨a, b, hab⟩ := t.setDir_spec line (some e)
  rw [hab] at hdir ⊢
  subst ht
  exact ⟨_, rfl, rfl, rfl, rfl, hdir, rfl, rfl⟩

/-- A piece that no error meets is read as it stands. -/
theorem State.pieceError_none (s : State) (line : Nat) : s.pieceError line .none = s := by
  unfold State.pieceError
  split
  · rfl
  · dsimp only
    simp only [ite_self]

/-! ### Requests of a fold (R203, R206) -/

section
variable {s : State} {f line : Nat} {x : Fill}

section
variable {pe : PieceErr} {p : FillKind → Bool} (hfold : x.fold = f) (hline : x.line = line) (hserved : x.served = none)
  (hfills : s.caches.fills = [x]) (htransit : s.inTransit f line = none) (htile : s.copyAt (24 + tileOf f) line = none)
  (hhome : lineHome line = s.ownModule) (hp : p x.kind = true)
include hfold hline hserved hfills htransit htile hhome hp

/-- A fold's request for a line of the own module, which nothing of it is on its way of, reaches the home agent. -/
theorem State.request_at_home : s.request f line pe p = s.serve f 0 line x.kind pe := by
  have hfind : s.caches.fills.find? (fun x => x.fold == f && x.line == line && x.served.isNone && p x.kind) = some x := by
    simp [hfills, hfold, hline, hserved, hp]
  unfold State.request
  rw [hfind]
  simp [hfills, htransit, htile, hhome]

/-- Where the home agent grants the line, its fill is served and the fold becomes the owner. -/
theorem State.request_granted {d : BitVec 512} {q nd : Bool} (hf : f < 24) (hroom : s.dirFull line = false)
    (hserve : s.serve f 0 line x.kind pe = (s.grant f 0 line .e d q nd).putDir line { owned := true, holders := [f] }) :
    (s.request f line pe p).caches.fills = [{ x with served := some (d, .e, q) }] ∧
      (s.request f line pe p).dirOf line = some { owned := true, holders := [f] } ∧ (s.request f line pe p).mem = s.mem ∧
      (s.request f line pe p).regs = s.regs := by
  obtain ⟨t, ht, hfill, -, -, hdir, hmem, hregs⟩ :=
    State.grant_putDir_spec (e := { owned := true, holders := [f] }) 0 .e d q nd hf hroom (List.cons_ne_nil _ _)
  rw [State.request_at_home hfold hline hserved hfills htransit htile hhome hp, hserve, ht]
  refine ⟨?_, hdir, hmem, hregs⟩
  rw [hfill, hfills, updFirst_head (by simp [hfold, hline, hserved])]

end

variable (tid : Nat) (ht : s.caches.txns = [])
include ht

/-- Without a transaction, a read of a line that nobody holds is granted E. -/
theorem State.serve_shared_unheld (hdir : s.dirOf line = none) : s.serve f tid line .shared .none =
    (s.grant f tid line .e (s.memLine line) (s.memPoisoned line) false).putDir line { owned := true, holders := [f] } := by
  unfold State.serve
  simp [ht, hdir, State.pieceError_none]

/-- Ownership of a line that nobody holds is granted. -/
theorem State.serve_own_unheld {k : FillKind} (hk : k = .own ∨ k = .ownNoData) (hdir : s.dirOf line = none) :
    s.serve f tid line k .none = s.grantOwn f tid line k := by
  unfold State.serve
  obtain rfl | rfl := hk <;> simp [ht, hdir, State.pieceError_none]

/-- So is an upgrade of the only sharer. -/
theorem State.serve_upgrade_sole (hdir : s.dirOf line = some { owned := false, holders := [f] }) :
    s.serve f tid line .upgrade .none = s.grantOwn f tid line .upgrade := by
  unfold State.serve
  simp [ht, hdir]

end

/-! ### Transactions that end (R206) -/

theorem State.homeNext_of_nil {s : State} (line : Nat) (h : s.caches.homeq = []) : s.homeNext line = s := by
  unfold State.homeNext
  simp [h]

section
variable {s : State} {k line : Nat} {q : Txn} (hreq : q.req < 24) (hline : q.line = line) (hwaits : q.waits = [k]) (ht : s.caches.txns = [q])
  (hq : s.caches.homeq = [])
include hline hwaits ht

/-- The transaction of a line that waits for one holder is found by its answer, and its end leaves none. -/
theorem State.find_txn : s.caches.txns.find? (fun t => t.line == line && t.waits.contains k) = some q := by
  simp [ht, hline, hwaits]

/-- A sharer drops its copy at the home's word, and answers. -/
theorem execSnoopInvalidate_sharer {e : DirE} (hk : k < 28) (hdir : s.dirOf line = some e) (he : e.owned = false) :
    execSnoopInvalidate k line s = .next (((s.dropCopy k line).barFill k line).invDone k line) := by
  unfold execSnoopInvalidate
  rw [State.find_txn hline hwaits ht, hdir]
  exact if_neg (by simp [he, Nat.not_le.2 hk])

/-- An owner that holds the line in its array keeps S for a read, and supplies what it holds. -/
theorem execSnoopForward_owner {e : DirE} {w : Nat} {l : CLine} (hk : k < 28) (hdir : s.dirOf line = some e) (he : e.owned = true)
    (hkind : q.kind = .shared) (hway : s.cfind k line = some (w, l)) : execSnoopForward k line .none s =
      .next ((s.cset k line w { l with st := .s }).fwdDone k line (some (l.data, l.st, l.poison)) true false) := by
  have hlook : s.lookup k line .none = (s, some (w, l)) := by rw [State.lookup, hway]
  unfold execSnoopForward
  rw [State.find_txn hline hwaits ht, hdir]
  simp [hlook, he, hkind, Nat.not_le.2 hk]

include hreq hq

/-- The last holder's acknowledgement leaves the requester as owner. -/
theorem State.invDone_last (hroom : s.dirFull line = false) : (s.invDone k line).caches.txns = [] ∧
    (s.invDone k line).dirOf line = some { owned := true, holders := [q.req] } ∧ (s.invDone k line).mem = s.mem := by
  generalize hv : (s.dirRemove line k).modCa (fun c => { c with txns := c.txns.filter fun x => x.line != line }) = v
  have hdone : s.invDone k line = (v.grantOwn q.req q.tid line q.kind).homeNext line := by
    unfold State.invDone
    rw [State.find_txn hline hwaits ht]
    simp [hwaits, hv]
  have hvroom : v.dirFull line = false := by
    rw [← hv, State.dirFull_endTxn, State.dirFull_dirRemove, hroom]
  have hvs : v.caches.txns = [] ∧ v.caches.homeq = [] ∧ v.mem = s.mem := by
    obtain ⟨d, g, hdg⟩ := s.dirRemove_spec line k
    rw [← hv, hdg]
    exact ⟨by simp [State.modCa, ht, hline], hq, rfl⟩
  obtain ⟨hvt, hvq, hvm⟩ := hvs
  obtain ⟨t, htv, -, htxns, hhomeq, hdir, hmem, -⟩ := State.grant_putDir_spec (e := { owned := true, holders := [q.req] }) q.tid .e
    (if q.kind == .ownNoData then 0 else v.memLine line) (!(q.kind == .ownNoData) && v.memPoisoned line) (q.kind == .ownNoData || q.kind == .upgrade)
    hreq hvroom (List.cons_ne_nil _ _)
  have hgrant : v.grantOwn q.req q.tid line q.kind = t := htv
  rw [hdone, hgrant, State.homeNext_of_nil line (hhomeq.trans hvq)]
  exact ⟨htxns.trans hvt, hdir, hmem.trans hvm⟩

/-- The owner of a clean line that forwards it for a read keeps S, and both hold the line shared. -/
theorem State.fwdDone_read {st : LState} (d : BitVec 512) (p : Bool) (hst : st ≠ .m) (hkind : q.kind = .shared) (hne : q.req ≠ k) : ∃ t,
    s.fwdDone k line (some (d, st, p)) true false = t ∧ t.caches.txns = [] ∧ t.caches.fold = s.caches.fold ∧ t.caches.tile = s.caches.tile ∧
      t.dirOf line = some { owned := false, holders := [k, q.req] } ∧ t.mem = s.mem := by
  generalize hv : (s.modCa fun c => { c with txns := c.txns.filter fun x => x.line != line }).grant q.req q.tid line .s d p false = v
  have hdone : s.fwdDone k line (some (d, st, p)) true false = (v.setDir line (some { owned := false, holders := [k, q.req] })).homeNext line := by
    unfold State.fwdDone
    rw [State.find_txn hline hwaits ht]
    simp [hkind, hst, hne.symm, hv]
  have hdir := v.dirOf_setDir line (e := { owned := false, holders := [k, q.req] }) (List.cons_ne_nil _ _)
  obtain ⟨a, b, hab⟩ := v.setDir_spec line (some { owned := false, holders := [k, q.req] })
  rw [State.grant_fold q.tid .s d p false hreq] at hv
  subst hv
  rw [hdone, State.homeNext_of_nil line (by rw [hab]; exact hq)]
  refine ⟨_, rfl, ?_, ?_, ?_, hdir, ?_⟩
  · rw [hab]
    simp [State.modCa, ht, hline]
  · rw [hab]
    rfl
  · rw [hab]
    rfl
  · rw [hab]
    rfl

end

/-- A way reads as it is set. -/
theorem State.cway_cset_same (s : State) (k line w : Nat) (l : CLine) : (s.cset k line w l).cway k line w = some l := by
  unfold State.cway State.cset State.modCa Caches.arr
  dsimp only
  split <;> exact tfind_tins_same _ _ _

/-- What lies in the ways depends on the arrays alone. -/
theorem State.cway_congr {s t : State} (hf : t.caches.fold = s.caches.fold) (ht : t.caches.tile = s.caches.tile) (k line w : Nat) :
    t.cway k line w = s.cway k line w := by
  rw [State.cway, State.cway, Caches.arr, Caches.arr, hf, ht]

/-! ### Fills that land (R201, R216, R233) -/

/-- A fill whose line is in its cache, or that may not install, has nothing to evict. -/
theorem State.fillHeld_of_present {s : State} {x : Fill} (h : x.install = false ∨ (s.cfind x.fold x.line).isSome = true) : s.fillHeld x = false := by
  unfold State.fillHeld
  obtain h | h := h
  · simp [h]
  · simp [Option.isNone_iff_eq_none, Option.ne_none_iff_isSome.2 h]

/-- Cores with nothing to release leave the state as it is. -/
theorem State.pumpAll_none {s : State} (h : ∀ n, (s.core n).rel = []) (l : List Nat) :
    l.foldl (fun s n => if (s.core n).rel.isEmpty then s else s.pumpAll n) s = s := by
  induction l with
  | nil => rfl
  | cons n l ih =>
    rw [List.foldl_cons, h n]
    exact ih

/-- A clean line given up leaves the cores as they are. -/
theorem State.giveUp_clean_cores (s : State) (k line : Nat) {st : LState} (d : BitVec 512) (p : Bool) (h : st ≠ .m) :
    (s.giveUp k line st d p).cores = s.cores := by
  unfold State.giveUp
  rw [if_neg h]
  obtain ⟨a, b, hab⟩ := s.dirRemove_spec line k
  rw [hab]
  dsimp only
  split
  · obtain ⟨m, q, hask⟩ := State.ask_spec (s.modCa fun c => { c with dir := a, guest := b }) 0x0E (lineHome line) (line * 64) 0 []
    rw [hask]
    rfl
  · rfl

theorem State.modCa_delFirst_fill {s : State} {x : Fill} (h : s.caches.fills = [x]) :
    (s.modCa fun c => { c with fills := delFirst (fun y => y == x) c.fills }) = s.modCa fun c => { c with fills := [] } := by
  simp only [State.modCa, delFirst_of_single h]

section
variable {s : State} {f line : Nat} {x : Fill} {d : BitVec 512} {p : Bool} (hfold : x.fold = f) (hline : x.line = line)
  (hfills : s.caches.fills = [x]) (hrel : ∀ n, (s.core n).rel = []) (hserved : x.served = some (d, .e, p))
include hfold hline hfills hserved

theorem State.find_served : s.caches.fills.find? (fun y => y.fold == f && y.line == line && y.served.isSome) = some x := by
  simp [hfills, hfold, hline, hserved]

include hrel

/-- A served upgrade lands as the new state of the line in its way. -/
theorem execFillLand_upgrade {w : Nat} {l : CLine} (hfc : s.fcState f = 1) (hkind : x.kind = .upgrade) (hwaiters : x.waiters = [])
    (hinstall : x.install = true) (hfind : s.cfind f line = some (w, l)) :
    execFillLand f line s = .next ((s.modCa fun c => { c with fills := [] }).cset f line w { l with st := .e }) := by
  have hheld : s.fillHeld x = false := State.fillHeld_of_present (.inr (by rw [hfold, hline, hfind]; rfl))
  generalize hu : s.modCa (fun c => { c with fills := [] }) = u
  have hmod : s.modCa (fun c => { c with fills := delFirst (fun y => y == x) c.fills }) = u := (State.modCa_delFirst_fill hfills).trans hu
  have hufc : u.fcState f = 1 := by rw [← hu]; exact hfc
  have hufind : u.cfind f line = some (w, l) := by rw [← hu]; exact hfind
  have hdeliver (t : State) (d : BitVec 512) (p i : Bool) : t.fillDeliver x d p i = t := by rw [State.fillDeliver, hwaiters]; rfl
  have hpump := State.pumpAll_none (s := u.cset f line w { l with st := .e }) (by rw [← hu]; exact hrel) (rangeFrom (9 * f) 9)
  unfold execFillLand
  rw [State.find_served hfold hline hfills hserved]
  simp only [hserved, hheld, hmod, hkind, hinstall, hufc, hufind]
  simp [hdeliver, hpump, -List.isEmpty_iff]

/-- A fill that may not install gives its line up, and delivers its bytes to the load that waits. -/
theorem execFillLand_barred {n : Nat} (hkind : x.kind = .shared) (hwaiters : x.waiters = [(n, false)]) (hinstall : x.install = false)
    (hbarred : (s.core n).barred = []) : execFillLand f line s =
      .next (((s.modCa fun c => { c with fills := [] }).giveUp f line .e d p).modCore n fun c => c.fillLoads line d p) := by
  have hheld : s.fillHeld x = false := State.fillHeld_of_present (.inl hinstall)
  generalize hu : s.modCa (fun c => { c with fills := [] }) = u
  have hmod : s.modCa (fun c => { c with fills := delFirst (fun y => y == x) c.fills }) = u := (State.modCa_delFirst_fill hfills).trans hu
  generalize hg : u.giveUp f line .e d p = g
  have hcores : g.cores = s.cores := by
    rw [← hg, State.giveUp_clean_cores _ _ _ _ _ (by decide), ← hu]
    rfl
  have hcore (m : Nat) : g.core m = s.core m := by rw [State.core, State.core, hcores]
  have hdeliver : g.fillDeliver x d p false = g.modCore n fun c => c.fillLoads line d p := by
    have hload : g.fillDeliver x d p false =
        (g.modCore n fun c => c.fillLoads line d p).modCore n fun c => { c with barred := c.barred.filter fun l => l != line } := by
      rw [State.fillDeliver, hwaiters, hline]
      rfl
    rw [hload, State.modCore_modCore, State.modCore, State.modCore, hcore]
    refine congrArg (g.setCore n) ?_
    have hb : ((s.core n).fillLoads line d p).barred = [] := hbarred
    simp only [hb, List.filter_nil]
    rw [← hb]
  have hpump := State.pumpAll_none (s := g.modCore n fun c => c.fillLoads line d p) (fun m => by
    by_cases hm : m = n
    · rw [hm, State.core_modCore_same, hcore]
      exact hrel n
    · rw [State.core_modCore_ne _ _ _ _ hm, hcore]
      exact hrel m) (rangeFrom (9 * f) 9)
  unfold execFillLand
  rw [State.find_served hfold hline hfills hserved]
  simp only [hserved, hheld, hmod, hkind, hinstall]
  simp [hg, hdeliver, hpump, -List.isEmpty_iff]

end

/-! ### Lines that come home (R206, R207) -/

/-- The one line on its way out of a cache is given up at its home. -/
theorem State.sendOut_one {s : State} {k line : Nat} {o : OutLine} {dirty : Bool} (hsrc : o.src = k) (hline : o.line = line)
    (hout : s.caches.out = [o]) (hdirty : (o.st == .m) = dirty) :
    s.sendOut k line dirty = (s.modCa fun c => { c with out := [] }).giveUp k line o.st o.data o.poison := by
  have hfind : s.caches.out.find? (fun o => o.src == k && o.line == line && (o.st == .m) == dirty) = some o := by
    simp [hout, hsrc, hline, hdirty]
  have hdel : delFirst (fun x => x == o) s.caches.out = [] := delFirst_of_single hout
  unfold State.sendOut
  rw [hfind]
  simp only [State.modCa, hdel]

/-- At home a dirty line given up is written to memory and has no holder left. -/
theorem State.giveUp_dirty_home {s : State} (k : Nat) {line : Nat} (d : BitVec 512) (p : Bool) (h : lineHome line = s.ownModule) :
    s.giveUp k line .m d p = (s.memWriteLine line d p).setDir line none := by
  unfold State.giveUp
  simp [h]

/-- At home a clean line given up loses the holder alone. -/
theorem State.giveUp_clean_home {s : State} (k : Nat) {line : Nat} {st : LState} (d : BitVec 512) (p : Bool) (h : lineHome line = s.ownModule)
    (hst : st ≠ .m) : s.giveUp k line st d p = s.dirRemove line k := by
  unfold State.giveUp
  simp [h, hst]

end Sys2Proof.Machine

open Sys2Proof Sys2Proof.Machine

/-- Settles O38: requests are served and granted, the last answer ends its transaction, and fills and evictions land. -/
theorem homeAgentServesRequests : Obligations.HomeAgentServesRequests := by
  refine ⟨?_, ?_, ?_, ?_, ?_⟩
  · intro s f line x hf hfold hline hserved _ hfills htxns htransit htile hhome hroom
    refine ⟨fun hk hdir => ?_, fun hk hdir => ?_, fun hk hdir => ?_, fun hk hdir => ?_⟩
    · exact ⟨_, rfl, State.request_granted hfold hline hserved hfills htransit htile hhome (by rw [hk]; rfl) hf hroom
        ((congrArg (s.serve f 0 line · .none) hk).trans (State.serve_shared_unheld 0 htxns hdir))⟩
    · exact ⟨_, rfl, State.request_granted hfold hline hserved hfills htransit htile hhome (by rw [hk]; rfl) hf hroom
        ((congrArg (s.serve f 0 line · .none) hk).trans (State.serve_own_unheld 0 htxns (.inl rfl) hdir))⟩
    · exact ⟨_, rfl, State.request_granted hfold hline hserved hfills htransit htile hhome (by rw [hk]; rfl) hf hroom
        ((congrArg (s.serve f 0 line · .none) hk).trans (State.serve_own_unheld 0 htxns (.inr rfl) hdir))⟩
    · exact ⟨_, rfl, State.request_granted hfold hline hserved hfills htransit htile hhome (by rw [hk]; rfl) hf hroom
        ((congrArg (s.serve f 0 line · .none) hk).trans (State.serve_upgrade_sole 0 htxns hdir))⟩
  · intro s k line q hk hreq hne hline hwaits htxns hhomeq _ hroom
    refine ⟨fun hs hdir _ => ?_, fun w l hdir hkind hway hst => ?_⟩
    · have hsame := State.SameHome.dropCopy_barFill s k line
      obtain ⟨ht, hd, hm⟩ := State.invDone_last hreq hline hwaits (hsame.txns.trans htxns) (hsame.homeq.trans hhomeq) ((hsame.dirFull line).trans hroom)
      exact ⟨_, execSnoopInvalidate_sharer hline hwaits htxns hk hdir rfl, ht, hd, hm.trans hsame.mem⟩
    · have hsame := State.SameHome.cset s k line w { l with st := .s }
      obtain ⟨t, ht, htx, hf, htl, hd, hm⟩ := State.fwdDone_read hreq hline hwaits (hsame.txns.trans htxns) (hsame.homeq.trans hhomeq) l.data l.poison
        (show l.st ≠ .m by rw [hst]; decide) hkind hne
      refine ⟨t, ?_, htx, (State.cway_congr hf htl k line w).trans (s.cway_cset_same _ _ _ _), hd, hm.trans hsame.mem⟩
      exact (execSnoopForward_owner hline hwaits htxns hk hdir rfl hkind hway).trans (congrArg _ ht)
  · intro s f line w x d p l hfold hline hfills hfc hrel
    exact ⟨fun hkind hwaiters hinstall hserved => execFillLand_upgrade hfold hline hfills hrel hserved hfc hkind hwaiters hinstall,
      fun n hkind hwaiters hinstall hserved => execFillLand_barred hfold hline hfills hrel hserved hkind hwaiters hinstall⟩
  · intro s k line o hsrc hline hout hhome
    refine ⟨fun hst => ?_, fun hst => ?_⟩
    · refine congrArg Host.Outcome.next ((State.sendOut_one hsrc hline hout (by rw [hst]; rfl)).trans ?_)
      rw [hst]
      exact State.giveUp_dirty_home k _ _ hhome
    · refine congrArg Host.Outcome.next ((State.sendOut_one hsrc hline hout (by simpa using hst)).trans ?_)
      exact State.giveUp_clean_home k _ _ hhome hst
  · intro c line d p f nd g hflights hneed hsegs hdata hpa
    simp [Core.fillLoads, hflights, hneed, hsegs, hdata, hpa]

end

section
/-! The caches: an install in a free way, victims and the eviction buffer, and what drains, walks and modes leave (05, R211 to R228). -/

namespace Sys2Proof.Machine

/-! ### Raises, strikes and the LFSR change no cache's lines -/

@[simp] theorem State.raise_caches (s : State) (src : Nat) : (s.raise src).caches = s.caches := by
  obtain ⟨q, f, e, -⟩ := s.raise_spec src
  rw [e]
  rfl

/-- A lame LFSR has no action but its log (R632). -/
theorem State.strike_lfsr_caches (s : State) (i : Nat) : (s.strike 4 i).caches = s.caches := by
  have hf (t : State) : (t.fallLame 4 i).caches = t.caches := State.raise_caches _ _
  simp only [State.strike, if_neg (show 4 ≠ 1 by decide), apply_ite State.caches, hf, State.raise_caches, State.rset_caches, ite_self]

theorem State.setRepl_caches (s : State) (k : Nat) (v : Word) : (s.setRepl k v).caches = s.caches := by
  simp only [State.setRepl, apply_ite State.caches, State.rset_caches, ite_self]

theorem State.setRepl_mem (s : State) (k : Nat) (v : Word) : (s.setRepl k v).mem = s.mem := by
  simp only [State.setRepl, apply_ite State.mem, State.rset_mem, ite_self]

theorem State.checkLfsr_caches (s : State) (k : Nat) : (s.checkLfsr k).caches = s.caches := by
  simp only [State.checkLfsr, apply_ite State.caches, State.strike_lfsr_caches, State.raise_caches, State.setRepl_caches, ite_self]

theorem State.checkLfsr_mem (s : State) (k : Nat) : (s.checkLfsr k).mem = s.mem := by
  simp only [State.checkLfsr, apply_ite State.mem, State.strike_mem _ _ (by decide : 4 ≤ 5), State.raise_mem, State.setRepl_mem, ite_self]

/-- The LFSR's step changes its two copies, its REPL register and the log alone: every way keeps its line. -/
theorem State.stepLfsr_spec (s : State) (k : Nat) :
    (∀ c line w, (s.stepLfsr k).cway c line w = s.cway c line w) ∧ (s.stepLfsr k).mem = s.mem := by
  have hrepl := s.setRepl_caches k (setFld (s.repl k) 47 32 (lfsrStep (fld (s.repl k) 47 32)))
  refine ⟨fun c line w => State.cway_congr ?_ ?_ c line w, ?_⟩
  · exact (congrArg Caches.fold (State.checkLfsr_caches _ k)).trans (congrArg Caches.fold hrepl :)
  · exact (congrArg Caches.tile (State.checkLfsr_caches _ k)).trans (congrArg Caches.tile hrepl :)
  · exact (State.checkLfsr_mem _ k).trans (s.setRepl_mem k _)

/-! ### An install in a free way (R216) -/

/-- Where a candidate way is free, the lowest such way takes the line and nothing is evicted. -/
theorem State.install_free {s : State} {k mask w : Nat} {l : CLine}
    (h : ((s.candidates k mask).find? fun v => (s.cway k l.line v).isNone) = some w) :
    s.install k mask l = (((s.stepLfsr k).cset k l.line w l).plruUse k l.line w, true) := by
  obtain ⟨hway, -⟩ := s.stepLfsr_spec k
  have hcands : (s.candidates k mask).isEmpty = false := List.isEmpty_eq_false_iff.2 (List.ne_nil_of_mem (List.mem_of_find?_eq_some h))
  have hchoose : (s.stepLfsr k).chooseWay k l.line (s.candidates k mask) = w := by
    unfold State.chooseWay
    simp only [hway, h]
  have hfree : (s.stepLfsr k).cway k l.line w = none := (hway k l.line w).trans (by simpa using List.find?_some h)
  have hevict : (s.stepLfsr k).evictWay k l.line w = s.stepLfsr k := by
    unfold State.evictWay
    rw [hfree]
  unfold State.install
  simp only [hcands, hchoose, hevict]
  rfl

/-! ### What a flush leaves (R224, R228) -/

/-- Bytes written show in memory alone. -/
theorem setBytes_caches_regs (s : State) (pa : Nat) (bs : List Byte) :
    (setBytes s pa bs).caches = s.caches ∧ (setBytes s pa bs).regs = s.regs := by
  induction bs generalizing s pa with
  | nil => exact ⟨rfl, rfl⟩
  | cons b bs ih => exact ih (s.setByte pa b) (pa + 1)

theorem State.setMemLine_caches (s : State) (line : Nat) (d : BitVec 512) : (s.setMemLine line d).caches = s.caches :=
  (setBytes_caches_regs s _ _).1

theorem State.setMemLine_regs (s : State) (line : Nat) (d : BitVec 512) : (s.setMemLine line d).regs = s.regs :=
  (setBytes_caches_regs s _ _).2

/-- A line written to memory shows in memory, in the controller and, where its channel is OFFLINE, in MC_SVCSTAT (R316, R320): what
these do not bear on is kept. -/
theorem State.memWriteLine_keeps {α : Type} (φ : State → α) (s : State) (line : Nat) (d : BitVec 512) (p : Bool)
    (hmem : φ (s.setMemLine line d) = φ s) (hmc : ∀ t g, φ (State.modMc t g) = φ t) (hsvc : ∀ t n, φ (State.rput t .mcSvcstat 0 0 31 0 n) = φ t) :
    φ (s.memWriteLine line d p) = φ s := by
  unfold State.memWriteLine
  simp only [apply_ite φ, hmc, hsvc, ite_self, hmem]

theorem State.memWriteLine_caches (s : State) (line : Nat) (d : BitVec 512) (p : Bool) : (s.memWriteLine line d p).caches = s.caches :=
  State.memWriteLine_keeps State.caches s line d p (s.setMemLine_caches line d) (fun _ _ => rfl) fun _ _ => rfl

theorem State.fcCtl_memWriteLine (s : State) {f : Nat} (line : Nat) (d : BitVec 512) (p : Bool) (hf : f < 24) :
    (s.memWriteLine line d p).rget .fcCtl f = s.rget .fcCtl f :=
  State.memWriteLine_keeps (fun t => t.rget .fcCtl f) s line d p (State.rget_of_regs_eq (s.setMemLine_regs line d) _ _ _) (fun _ _ => rfl)
    fun _ _ => State.rget_rset_other _ (by decide) hf Nat.zero_lt_one Nat.zero_lt_one Nat.zero_lt_one

/-- `t` has the walks of `s` in progress, and each fold's FC_CTL. -/
structure State.FlushFrame (s t : State) : Prop where
  walks : t.caches.walks = s.caches.walks
  bypass : t.caches.bypass = s.caches.bypass
  fcCtl : ∀ f, f < 24 → t.rget .fcCtl f = s.rget .fcCtl f

namespace State.FlushFrame

variable {s t u : State}

theorem refl (s : State) : FlushFrame s s := ⟨rfl, rfl, fun _ _ => rfl⟩

theorem trans (h : FlushFrame s t) (k : FlushFrame t u) : FlushFrame s u :=
  ⟨k.walks.trans h.walks, k.bypass.trans h.bypass, fun f hf => (k.fcCtl f hf).trans (h.fcCtl f hf)⟩

theorem of_regs_eq (hw : t.caches.walks = s.caches.walks) (hb : t.caches.bypass = s.caches.bypass) (hr : t.regs = s.regs) : FlushFrame s t :=
  ⟨hw, hb, fun _ _ => State.rget_of_regs_eq hr _ _ _⟩

theorem memWriteLine (s : State) (line : Nat) (d : BitVec 512) (p : Bool) : FlushFrame s (s.memWriteLine line d p) :=
  ⟨congrArg Caches.walks (s.memWriteLine_caches line d p), congrArg Caches.bypass (s.memWriteLine_caches line d p),
    fun _ hf => s.fcCtl_memWriteLine line d p hf⟩

theorem ask (s : State) (mtype dst addr param : Nat) (body : List Word) : FlushFrame s (s.ask mtype dst addr param body) := by
  obtain ⟨q, p, h⟩ := s.ask_spec mtype dst addr param body
  rw [h]
  exact of_regs_eq rfl rfl rfl

theorem setDir (s : State) (line : Nat) (e : Option DirE) : FlushFrame s (s.setDir line e) := by
  obtain ⟨d, g, h⟩ := s.setDir_spec line e
  rw [h]
  exact of_regs_eq rfl rfl rfl

theorem dirRemove (s : State) (line h : Nat) : FlushFrame s (s.dirRemove line h) := by
  obtain ⟨d, g, h⟩ := s.dirRemove_spec line h
  rw [h]
  exact of_regs_eq rfl rfl rfl

theorem cdrop (s : State) (k line : Nat) : FlushFrame s (s.cdrop k line) := by
  obtain ⟨f, t, c, h⟩ := s.cdrop_spec k line
  rw [h]
  exact of_regs_eq rfl rfl rfl

theorem giveUp (s : State) (k line : Nat) (st : LState) (d : BitVec 512) (p : Bool) : FlushFrame s (s.giveUp k line st d p) := by
  unfold State.giveUp
  dsimp only
  split
  · refine trans ?_ (setDir _ _ _)
    split
    · exact memWriteLine s _ _ _
    · exact ask s _ _ _ _ _
  · split
    · exact (dirRemove s _ _).trans (ask _ _ _ _ _ _)
    · exact dirRemove s _ _

theorem flushAll (s : State) (k : Nat) (p : Nat → Bool) : FlushFrame s (s.flushAll k p) := by
  unfold State.flushAll
  generalize s.linesIn k p = ls
  induction ls generalizing s with
  | nil => exact refl s
  | cons l ls ih => exact ((cdrop s _ _).trans (giveUp _ _ _ _ _ _)).trans (ih _)

end State.FlushFrame

/-! ### Bits of FC_CTL after writes -/

theorem State.rbit_rput_bit (s : State) (r : Reg) (i j x : Nat) {b : Nat} (hb : b < 64) : (s.rput r i j b b x).rbit r i j b = x.testBit 0 := by
  rw [State.rbit, State.rput, State.rmod, State.rget_rset_same, flag_setFld _ _ _ _ _ le_rfl hb, if_pos ⟨le_rfl, le_rfl⟩, Nat.sub_self]

theorem State.rbit_raise_fcCtl (s : State) {f k i b : Nat} (hf : f < 24) (hk : k < 28) (hi : i < 8) :
    (s.raise (cacheSrc k i)).rbit .fcCtl f 0 b = s.rbit .fcCtl f 0 b :=
  congrArg (flag · b) (State.rget_raise_other (by decide) hf Nat.zero_lt_one (cacheSrc_lt hk hi))

/-! ### Drains, walks and modes (R214, R215, R227, R241) -/

/-- A drain that ends leaves the fold ENABLED where an enable is pending, else DISABLED. -/
theorem execFcDrainComplete_spec {s : State} {f : Nat} (hf : f < 24) (hfc : s.fcState f = 2) (hfills : ∀ x ∈ s.caches.fills, x.fold ≠ f) :
    ∃ t, execFcDrainComplete f s = .next t ∧ t.fcState f = bnat (s.rbit .fcCtl f 0 1) ∧ t.rbit .fcCtl f 0 1 = false ∧
      t.rbit .evStat (cacheSrc f 3) 0 63 = true := by
  have hany : (s.caches.fills.any fun x => x.fold == f) = false := by simpa using hfills
  have hpend : (s.flushAll f fun _ => true).rbit .fcCtl f 0 1 = s.rbit .fcCtl f 0 1 :=
    congrArg (flag · 1) ((State.FlushFrame.flushAll s f _).fcCtl f hf)
  unfold execFcDrainComplete
  rw [if_neg (by simp [hfc, hany])]
  refine ⟨_, rfl, ?_, ?_, State.pend_raise _ _⟩
  · have hb : bnat (s.rbit .fcCtl f 0 1) < 2 ^ 2 := by cases s.rbit .fcCtl f 0 1 <;> decide
    rw [State.fcState_raise hf (cacheSrc_lt (by omega) (by decide)), State.fcState_rput _ _ _ _ le_rfl (by decide), hpend]
    exact State.rfld_rput_same _ _ _ _ (by decide) (by decide) hb
  · rw [State.rbit_raise_fcCtl _ hf (by omega) (by decide), State.rbit_rput_bit _ _ _ _ _ (by decide)]
    rfl

/-- A way walk that ends is in progress no more. -/
theorem execWayWalkComplete_spec {s : State} {k : Nat} {w : Walk} (hk : k < 28) (hw : w.cache = k) (hwalks : s.caches.walks = [w]) :
    ∃ t, execWayWalkComplete k s = .next t ∧ t.caches.walks = [] ∧ (k < 24 → t.rbit .fcCtl k 0 4 = false) ∧
      t.rbit .evStat (cacheSrc k 3) 0 63 = true := by
  have hfind : s.caches.walks.find? (fun w => w.cache == k) = some w := by simp [hwalks, hw]
  have hflush := (State.FlushFrame.flushAll s k fun i => w.ways.testBit i).walks
  unfold execWayWalkComplete
  rw [hfind]
  refine ⟨_, rfl, ?_, fun hf => ?_, State.pend_raise _ _⟩
  · rw [State.raise_caches]
    simp [apply_ite State.caches, State.modCa, hflush, hwalks, hw]
  · rw [State.rbit_raise_fcCtl _ hf hk (by decide), if_pos hf, State.rbit_rput_bit _ _ _ _ _ (by decide)]
    rfl

theorem execBypassWalkComplete_spec {s : State} {t : Nat} (h : s.caches.bypass = [t]) : ∃ u, execBypassWalkComplete t s = .next u ∧
    u.caches.bypass = [] ∧ u.rbit .evStat (cacheSrc (24 + t) 3) 0 63 = true := by
  have hflush := (State.FlushFrame.flushAll s (24 + t) fun _ => true).bypass
  unfold execBypassWalkComplete
  rw [if_pos (by simp [h])]
  refine ⟨_, rfl, ?_, State.pend_raise _ _⟩
  rw [State.raise_caches]
  simp [State.modCa, hflush, h]

/-- A committed mode comes into force where nothing of the mode before it is left to be done. -/
theorem execTcModeTakeEffect_ready {s : State} {t : Nat} (ht : t < 4) (hwant : s.rfld .tcCtl t 0 1 0 ≠ s.tileMode t)
    (hbuffer : s.tileMode t = 1 → ∀ o ∈ s.caches.evict, tileOf o.src ≠ t) (hwalk : s.tileMode t = 2 → t ∉ s.caches.bypass) :
    execTcModeTakeEffect t s = .next (s.modCa fun c => { c with
      modeNow := tput 0 c.modeNow t (s.rfld .tcCtl t 0 1 0),
      bypass := if s.rfld .tcCtl t 0 1 0 = 2 then t :: c.bypass else c.bypass }) := by
  unfold execTcModeTakeEffect
  refine if_neg (not_or.2 ⟨Nat.not_le.2 ht, not_or.2 ⟨hwant, ?_⟩⟩)
  split
  next h1 => simpa using hbuffer h1
  next h2 => simpa using hwalk h2
  next => simp

/-! ### Victims, the eviction buffer and hits there (R202, R211 to R213) -/

section
variable {s : State} {f : Nat} {o : OutLine} (hsrc : o.src = f) (hvictims : s.caches.victims = [o]) (hfills : s.caches.fills = [])
  (htxns : s.caches.txns = [])
include hsrc hvictims hfills htxns

/-- The one victim of a fold, with no request under way, is the one that moves. -/
theorem State.find_victim : s.caches.victims.find? (fun o => o.src == f && !s.requested f o.line) = some o := by
  simp [hvictims, hsrc, State.requested, hfills, htxns]

/-- In native mode the tile cache takes a dirty victim. -/
theorem execVictimMoved_native (hmode : s.tileMode (tileOf f) = 0) (hst : o.st = .m) :
    execVictimMoved f s = .next ((s.modCa fun c => { c with victims := [] }).tileInstall (tileOf f) o f) := by
  unfold execVictimMoved
  rw [State.find_victim hsrc hvictims hfills htxns]
  simp only [hmode, hst, State.modCa, delFirst_of_single hvictims]
  rfl

/-- In Ferrex mode a victim joins a buffer with no entry of its line. -/
theorem execVictimMoved_ferrex (hmode : s.tileMode (tileOf f) = 1) (hevict : s.caches.evict = []) :
    ∃ u, execVictimMoved f s = .next u ∧ u.caches.victims = [] ∧ u.caches.evict = [o] ∧ u.mem = s.mem := by
  unfold execVictimMoved
  rw [State.find_victim hsrc hvictims hfills htxns]
  simp only [hmode, hevict]
  refine ⟨_, rfl, ?_⟩
  generalize hu : State.modCa (State.modCa s _) _ = u
  obtain ⟨d, g, hdg⟩ := u.dirMove_spec o.line f (24 + tileOf f)
  rw [hdg, ← hu]
  exact ⟨delFirst_of_single hvictims, congrArg (· ++ [o]) hevict, rfl⟩

/-- In bypass mode a victim goes home. -/
theorem execVictimMoved_bypass (hmode : s.tileMode (tileOf f) = 2) :
    execVictimMoved f s = .next (s.modCa fun c => { c with victims := [], out := c.out ++ [o] }) := by
  unfold execVictimMoved
  rw [State.find_victim hsrc hvictims hfills htxns]
  simp only [hmode, State.modCa, delFirst_of_single hvictims]
  rfl

end

/-- The head of a tile's buffer is installed. -/
theorem execEvictionBufferInstall_head {s : State} {t : Nat} {o : OutLine} (htile : tileOf o.src = t) (hevict : s.caches.evict = [o]) :
    execEvictionBufferInstall t s = .next ((s.modCa fun c => { c with evict := [] }).tileInstall t o (24 + t)) := by
  have hfind : s.caches.evict.find? (fun o => tileOf o.src == t) = some o := by simp [hevict, htile]
  unfold execEvictionBufferInstall
  rw [hfind]
  simp only [State.modCa, delFirst_of_single hevict]

/-- A miss takes its line from the eviction buffer of its tile, and TC_HITS counts. -/
theorem execTileCacheHitMoved_buffer {s : State} {f line : Nat} {x : Fill} {o : OutLine} (err : ArrayErr) (hfold : x.fold = f)
    (hline : x.line = line) (hserved : x.served = none) (hfills : s.caches.fills = [x]) (htxns : s.caches.txns = [])
    (htile : tileOf o.src = tileOf f) (ho : o.line = line) (hevict : s.caches.evict = [o]) :
    ∃ t, execTileCacheHitMoved f line err s = .next t ∧ t.caches.evict = [] ∧
      t.caches.fills = [{ x with served := some (o.data, o.st, o.poison) }] ∧ t.rget .tcHits (tileOf f) = s.rget .tcHits (tileOf f) + 1 ∧
      t.mem = s.mem := by
  have hfind : s.caches.evict.find? (fun o => tileOf o.src == tileOf f && o.line == line) = some o := by simp [hevict, htile, ho]
  unfold execTileCacheHitMoved
  dsimp only
  rw [if_neg (by simp [hfills, htxns, hfold, hline, hserved]), hfind]
  refine ⟨_, rfl, ?_⟩
  generalize hu : State.bump _ .tcHits (tileOf f) = u
  obtain ⟨d, g, hdg⟩ := u.dirMove_spec line (24 + tileOf f) f
  rw [hdg, ← hu]
  refine ⟨?_, ?_, ?_, rfl⟩
  · exact delFirst_of_single hevict
  · refine (congrArg (updFirst _ _) hfills).trans (updFirst_head ?_)
    simp [hfold, hline, hserved]
  · exact State.rget_rset_same _ _ _ _ _

end Sys2Proof.Machine

open Sys2Proof Sys2Proof.Machine

/-- Settles O39: moves and installs, then the ends of drains, walks and modes, each by its lemma. -/
theorem victimsDrainsAndWalks : Obligations.VictimsDrainsAndWalks := by
  refine ⟨?_, ?_, ?_, ?_, ?_, ?_, ?_, ?_⟩
  · intro s f t o ht hsrc hvictims hfills htxns
    subst ht
    exact ⟨execVictimMoved_native hsrc hvictims hfills htxns, execVictimMoved_ferrex hsrc hvictims hfills htxns,
      execVictimMoved_bypass hsrc hvictims hfills htxns⟩
  · intro s t o htile hevict
    exact execEvictionBufferInstall_head htile hevict
  · intro s k mask w l h
    rw [State.install_free h]
    exact ⟨rfl, State.cway_cset_same _ _ _ _ _, (s.stepLfsr_spec k).2⟩
  · intro s f line x o hfold hline hserved hfills htxns htile ho hevict
    exact execTileCacheHitMoved_buffer .none hfold hline hserved hfills htxns htile ho hevict
  · intro s f hf hfc hfills
    exact execFcDrainComplete_spec hf hfc hfills
  · intro s k w hk hw hwalks
    exact execWayWalkComplete_spec hk hw hwalks
  · intro s t _ hbypass
    exact execBypassWalkComplete_spec hbypass
  · intro s t ht _ hwant hbuffer hwalk
    exact ⟨_, execTcModeTakeEffect_ready ht hwant hbuffer hwalk, tget_tput_same _ _ _ _, rfl, rfl⟩

end

section
/-! A shadow's loads and stores: the queue gives a load its value, and a store only flies (06, R254 to R258). -/

namespace Sys2Proof.Machine

/-! ### The head of the queue (R256 to R258) -/

section
variable {s : State} {n slot : Nat} {kind : LvKind} {b : Bundle} (k : LvEntry → State → State) (hb : (s.core n).bundle = some b)
include hb

theorem State.lvTake_taken {e : LvEntry} (h : s.lvHead n b.num slot kind = .taken e) : s.lvTake n slot kind k = k e (s.lvPop n) := by
  simp only [State.lvTake, hb, h]

theorem State.lvTake_wait (h : s.lvHead n b.num slot kind = .wait) : s.lvTake n slot kind k = s.opFreeze n .queue := by
  simp only [State.lvTake, hb, h]

theorem State.lvTake_wrong (h : s.lvHead n b.num slot kind = .wrong) :
    s.lvTake n slot kind k = s.startRollback (s.logical n) 1 15 0 0 := by
  simp only [State.lvTake, hb, h, State.mismatch]

end

/-! ### Loads and stores at a shadow (R254, R255) -/

section
variable {s : State} {x : Slot} {w : OpWord} {base : BitVec 6} {z va : Nat} {h : BitVec 1} {off : BitVec 8} {a : Arch}
  (ha : a = (s.core x.core).arch) (hv : va = a.vaOf base off z) (hs : a.spFails base va z = false) (hp : s.part x.core = .shadow)
include ha hv hs hp

/-- A load whose entry is not that of a held access takes its value from the queue. -/
theorem State.loadOp_shadow (ch : Chance) (dest : Dest) (signed isF : Bool) (rd : Nat) (hheld : s.shadowLoadHeld x.core = false) :
    s.loadOp x w base z h off ch dest signed isF rd = s.shadowLoad x w va dest := by
  subst ha hv
  simp only [State.loadOp, hs, hp, hheld, Bool.false_eq_true, if_false, if_true]

/-- A store flies, for its words to be folded, and stores nothing. -/
theorem State.storeOp_shadow (v : Nat) (rel : Bool) : s.storeOp x w base z h off v rel = s.modCore x.core fun c =>
    (c.fly { c.flight x w 1 nores with sigPost := BitVec.ofNat 64 va :: dataWords z (v % 2 ^ (8 * z)) }).issued := by
  subst ha hv
  simp only [State.storeOp, hs, hp, Bool.false_eq_true, if_false, if_true]

end

/-- The shadow's load writes the entry's value at the latency the entry names. -/
theorem State.shadowLoad_taken {s : State} {x : Slot} {b : Bundle} {e : LvEntry} (w : OpWord) (va : Nat) (dest : Dest)
    (hb : (s.core x.core).bundle = some b) (h : s.lvHead x.core b.num x.slot .load = .taken e) (hbad : e.bad = false) :
    s.shadowLoad x w va dest = (s.lvPop x.core).modCore x.core fun c =>
      (c.fly { c.flight x w e.idx nores with writes := [⟨dest, e.data.getD 0⟩], sigPost := [BitVec.ofNat 64 va] }).issued := by
  rw [State.shadowLoad, State.lvTake_taken _ hb h]
  simp only [hbad, Bool.false_eq_true, if_false]

end Sys2Proof.Machine

open Sys2Proof Sys2Proof.Machine

/-- Settles O29: a shadow's load goes by what the head of the queue is, and its store is the flight alone. -/
theorem shadowTakesValuesFromTheQueue : Obligations.ShadowTakesValuesFromTheQueue := by
  intro s x rd base w h off ch n z va r b hn hr hz hv hok hp hb
  subst hn hr hz
  have hs := Arch.spFails_eq_false hok
  refine ⟨fun ht hheld => ?_, fun ht => exec_takes x rfl ht (State.storeOp_shadow rfl hv hs hp _ _)⟩
  have hload := State.loadOp_shadow (w := encode (.ld x rd base w h off ch)) (h := h) rfl hv hs hp ch (.g rd.toNat) false false rd.toNat hheld
  refine ⟨fun e he hbad => ?_, fun he => ?_, fun he => ?_⟩
  · exact exec_takes x rfl ht (hload.trans (State.shadowLoad_taken _ _ _ hb he hbad))
  · exact exec_takes x rfl ht (hload.trans (State.lvTake_wait _ hb he))
  · exact exec_takes x rfl ht (hload.trans (State.lvTake_wrong _ hb he))

end

section
/-! The commands of PX_CTL, PX_LOG and the words of a snapshot slot (06, R277 to R291). -/

namespace Sys2Proof.Machine

/-! ### A pair in paired mode (R252, R254) -/

section
variable {s : State} {f j : Nat} (hj : j < 4)
include hj

theorem State.logicalsOf_paired (hp : s.paired (4 * f + j) = true) : s.logicalsOf (4 * f + j) = [9 * f + 2 * j] := by
  rw [State.logicalsOf, if_pos hp, show (4 * f + j) / 4 = f by omega, show (4 * f + j) % 4 = j by omega]

/-- The two cores of a pair that is not degraded, the bellwether first. -/
theorem State.coresOf_paired (hp : s.paired (4 * f + j) = true) (hd : s.degraded (4 * f + j) = false) :
    s.coresOf (9 * f + 2 * j) = [s.physOf f (2 * j), s.physOf f (2 * j + 1)] := by
  have hf : foldOf (9 * f + 2 * j) = f := by unfold foldOf; omega
  have hc : (9 * f + 2 * j) % 9 / 2 = j := by omega
  simp only [State.coresOf, hf, hc, hp, hd, if_true, Bool.false_eq_true, if_false]

end

theorem State.physOf_congr {s t : State} (h : t.regs = s.regs) : t.physOf = s.physOf := by
  funext f c
  rw [State.physOf, State.physOf, State.spareFor_congr h]

theorem State.physOf_lt (s : State) {f c : Nat} (hf : f < 24) (hc : c < 9) : s.physOf f c < 216 := by
  unfold State.physOf
  split <;> omega

@[simp] theorem State.seq_modSeq_same (s : State) (l : Nat) (g : Seq → Seq) : (s.modSeq l g).seq l = g (s.seq l) :=
  tget_tins_same _ _ _ _

@[simp] theorem State.lstate_setLstate_same (s : State) (l v : Nat) : (s.setLstate l v).lstate l = v :=
  congrArg Core.lstate (s.core_modCore_same l _)

theorem State.arch_modCore (s : State) (n m : Nat) {g : Core → Core} (hg : ∀ c, (g c).arch = c.arch) :
    ((s.modCore n g).core m).arch = (s.core m).arch := by
  by_cases h : m = n
  · rw [h, State.core_modCore_same, hg]
  · rw [State.core_modCore_ne _ _ _ _ h]

/-! ### REJ of PX_STAT (R287, R288) -/

section
variable (s : State) {f j : Nat} (x : Nat) (hf : f < 24) (hj : j < 4)
include hj

theorem State.degraded_rej : (s.rput .pxStat f j 55 55 x).degraded (4 * f + j) = s.degraded (4 * f + j) := by
  rw [State.degraded, State.degraded, show (4 * f + j) / 4 = f by omega, show (4 * f + j) % 4 = j by omega, State.rbit, State.rput,
    State.rmod, State.rget_rset_same, flag_setFld_of_apart _ _ le_rfl (by decide) (by decide)]
  rfl

include hf

/-- REJ written leaves every other register as it was. -/
theorem State.rget_rej {q : Reg} {i k : Nat} (h : q ≠ .pxStat) (hi : i < q.place.n1) (hk : k < q.place.n2) :
    (s.rput .pxStat f j 55 55 x).rget q i k = s.rget q i k :=
  State.rget_rset_other _ h hi hk hf hj

theorem State.paired_rej : (s.rput .pxStat f j 55 55 x).paired (4 * f + j) = s.paired (4 * f + j) :=
  congrArg (flag · 19) (s.rget_rej x hf hj (by decide) (show (4 * f + j) / 4 < 24 by omega) (show (4 * f + j) % 4 < 4 by omega))

theorem State.spareFor_rej : (s.rput .pxStat f j 55 55 x).spareFor f = s.spareFor f := by
  rw [State.spareFor, s.rget_rej x hf hj (by decide) hf Nat.zero_lt_one]
  rfl

theorem State.physOf_rej (c : Nat) : (s.rput .pxStat f j 55 55 x).physOf f c = s.physOf f c := by
  rw [State.physOf, s.spareFor_rej x hf hj]
  rfl

theorem State.coresOf_rej (hp : s.paired (4 * f + j) = true) (hd : s.degraded (4 * f + j) = false) :
    (s.rput .pxStat f j 55 55 x).coresOf (9 * f + 2 * j) = s.coresOf (9 * f + 2 * j) := by
  rw [State.coresOf_paired hj hp hd, State.coresOf_paired hj ((s.paired_rej x hf hj).trans hp) ((s.degraded_rej x hj).trans hd),
    s.physOf_rej x hf hj, s.physOf_rej x hf hj]

end

theorem State.rej_cleared (s : State) (f j : Nat) : (s.rput .pxStat f j 55 55 0).rbit .pxStat f j 55 = false :=
  s.rbit_rput_bit _ _ _ _ (by decide)

/-! ### What each command comes to (R288) -/

section
variable {s : State} {f j : Nat} (hj : j < 4)
include hj

theorem State.pxCommand_stop (hp : s.paired (4 * f + j) = true) (hl : s.lstate (9 * f + 2 * j) = 0) :
    s.pxCommand f j 1 = (s.rput .pxStat f j 55 55 0).commandDue (9 * f + 2 * j) 1 := by
  simp [State.pxCommand, State.logicalsOf_paired hj hp, hl]

theorem State.pxCommand_start (hp : s.paired (4 * f + j) = true) (hl : s.lstate (9 * f + 2 * j) = 4)
    (hbad : (s.pair (4 * f + j)).snapBad = []) (htest : ∀ n ∈ s.coresOf (9 * f + 2 * j), s.ctestOn n = false) :
    s.pxCommand f j 2 = (s.rput .pxStat f j 55 55 0).startLogical (9 * f + 2 * j) := by
  have hany : (s.coresOf (9 * f + 2 * j)).any s.ctestOn = false := List.any_eq_false.2 fun n hn => by simp [htest n hn]
  simp [State.pxCommand, State.logicalsOf_paired hj hp, hl, hbad, hany]

theorem State.pxCommand_test (hp : s.paired (4 * f + j) = true) (hl : s.lstate (9 * f + 2 * j) = 4) :
    s.pxCommand f j 6 =
      ((s.rput .pxStat f j 55 55 0).modSeq (9 * f + 2 * j) fun q => { q with test := some 6 }).setLstate (9 * f + 2 * j) 2 := by
  simp [State.pxCommand, State.logicalsOf_paired hj hp, hl]

end

/-- SUBST_A and SUBST_B of a STOPPED logical core, with a free spare. -/
theorem State.pxCommand_subst {s : State} {f j role cmd : Nat} (hc : cmd = 3 ∧ role = 2 * j ∨ cmd = 4 ∧ role = 2 * j + 1)
    (hl : s.lstate (s.logicalOf f role) = 4) (hspare : s.spareFree f = true) (htest : s.ctestOn (9 * f + 8) = false) :
    s.pxCommand f j cmd =
      (s.rput .pxStat f j 55 55 0).startCopy (s.logicalOf f role) { role := role, ret := false, mgr := true, stopped := true } := by
  obtain ⟨rfl, rfl⟩ | ⟨rfl, rfl⟩ := hc <;> simp [State.pxCommand, hl, hspare, htest]

/-- RETURN of a STOPPED logical core. -/
theorem State.pxCommand_return {s : State} {f j role : Nat} (hj : role / 2 = j) (hl : s.lstate (s.logicalOf f role) = 4)
    (hspare : s.spareFor f = some role) (hlame : s.lame (9 * f + role) = false) (htest : s.ctestOn (9 * f + role) = false) :
    s.pxCommand f j 5 =
      (s.rput .pxStat f j 55 55 0).startCopy (s.logicalOf f role) { role := role, ret := true, mgr := true, stopped := true } := by
  simp [State.pxCommand, hj, hl, hspare, hlame, htest]

/-! ### A command that waits for a gather (R266, R288) -/

theorem State.armCommands_first {s : State} {l n : Nat} {ns : List Nat} (hcores : s.coresOf l = n :: ns) (hdue : (s.core n).gdue = none) :
    s.armCommands l = s.modCore n fun k => { k with gdue := some .command } := by
  simp only [State.armCommands, hcores, State.modCore, hdue]

/-- The first command of a RUNNING logical core makes a waiting gather due at its first core. -/
theorem State.commandDue_running {s : State} {l n : Nat} {ns : List Nat} (cmd : Nat) (hl : s.lstate l = 0) (hcmds : (s.seq l).cmds = [])
    (hcores : s.coresOf l = n :: ns) (hdue : (s.core n).gdue = none) :
    s.commandDue l cmd =
      (s.modSeq l fun q => { q with cmds := [cmd] }).modCore n fun k => { k with gdue := some .command } := by
  have hadd : (s.modSeq l fun q => if q.cmds.contains cmd then q else { q with cmds := q.cmds ++ [cmd] }) =
      s.modSeq l fun q => { q with cmds := [cmd] } := by
    simp [State.modSeq, hcmds]
  rw [State.commandDue, if_pos hl]
  exact (congrArg (State.armCommands · l) hadd).trans (State.armCommands_first hcores hdue)

/-! ### START (R277, R285, R526, R576) -/

theorem State.evStart_spec (s : State) {l : Nat} (hl : l < 216) : (s.evStart l).mem = s.mem ∧
    (∀ m, ((s.evStart l).core m).arch = (s.core m).arch) ∧
    ∀ q i k, q ≠ .evActive → q ≠ .evLast1 → q ≠ .evLast2 → i < q.place.n1 → k < q.place.n2 → (s.evStart l).rget q i k = s.rget q i k := by
  refine ⟨rfl, fun _ => ?_, fun q i k ha h1 h2 hi hk => ?_⟩
  · exact State.arch_modCore _ _ _ fun _ => rfl
  · have hz : 0 < 1 := Nat.zero_lt_one
    exact (State.rget_rset_other _ h2 hi hk hl hz).trans ((State.rget_rset_other _ h1 hi hk hl hz).trans (State.rget_rset_other _ ha hi hk hl hz))

/-- A core as START loads it: nothing in flight or kept, and the bundles counted on from the first core's (R277). -/
def Core.started (a : Arch) (num : Nat) (c : Core) : Core :=
  { c.load { a with hrec := 0, hval := 0 } with hacc := none, hnext := [], kept := Due.none, arrived := [], bnum := num }

/-- Its registers are those of the snapshot but for the recorded value, DINV and IINV. -/
theorem Core.started_arch (a : Arch) (num : Nat) (c : Core) : (Core.started a num c).arch.pc = a.pc ∧ (Core.started a num c).arch.g = a.g ∧
    ∀ m, m ≠ 9 → (Core.started a num c).arch.cr m = a.cr m :=
  ⟨rfl, rfl, fun _ hm => a.cr_setCr_ne _ _ _ hm⟩

/-- The cores of a logical core as START loads them from its confirmed snapshot. -/
def State.started (s : State) (l : Nat) : State :=
  (s.coresOf l).foldl (fun t n => t.modCore n (Core.started (s.snap l) (((s.coresOf l).head?.map fun n => (s.core n).bnum).getD 0))) s

theorem State.started_spec (s : State) (l : Nat) : (s.started l).mem = s.mem ∧ (s.started l).regs = s.regs ∧
    ∀ n ∈ s.coresOf l, ∃ c num, (s.started l).core n = Core.started (s.snap l) num c := by
  refine ⟨State.foldl_mem _ _ _ fun _ _ => rfl, State.foldl_modCore_regs _ _, fun n hn => ?_⟩
  rw [State.started, State.core_foldl_modCore (fun _ => by rfl), if_pos hn]
  exact ⟨_, _, rfl⟩

/-- START of a pair that is not degraded loads its cores, latches NEXT into CUR, and leaves it RUNNING with the pair's record and
the router's values begun anew. -/
theorem State.startLogical_eq {s : State} {f j l : Nat} (hl : l = 9 * f + 2 * j) (hj : j < 4) (hd : s.degraded (4 * f + j) = false) :
    ∃ g : Pair → Pair, s.startLogical l =
      (((((s.started l).rput .ptCore (s.physOf f (2 * j)) 0 24 16 (s.rfld .ptCore (s.physOf f (2 * j)) 0 8 0)).modPair (4 * f + j) g).modSeq
        l fun q => { q with cmds := [] }).evStart l).setLstate l 0 := by
  obtain ⟨-, hregs, -⟩ := s.started_spec l
  have hfold : foldOf l = f := by unfold foldOf; omega
  have hc : l % 9 = 2 * j := by omega
  have hj' : 2 * j / 2 = j := by omega
  have hphys : (s.started l).physOf f (2 * j) = s.physOf f (2 * j) := by rw [State.physOf_congr hregs]
  have hnext : (s.started l).rfld .ptCore (s.physOf f (2 * j)) 0 8 0 = s.rfld .ptCore (s.physOf f (2 * j)) 0 8 0 :=
    congrArg (fld · 8 0) (State.rget_of_regs_eq hregs _ _ _)
  rw [← hnext, ← hphys]
  simp only [State.startLogical, hfold, hj', hc, hd, Bool.and_false, Bool.false_and, Bool.false_eq_true, if_false]
  exact ⟨_, rfl⟩

/-- What a START of such a pair leaves: its cores hold the snapshot's registers, and CUR is what NEXT was. -/
theorem State.startLogical_spec {s t : State} {f j l : Nat} (hf : f < 24) (hj : j < 4) (hl : l = 9 * f + 2 * j)
    (hd : s.degraded (4 * f + j) = false) (ht : t = s.startLogical l) :
    t.lstate l = 0 ∧ t.rbit .pxStat f j 55 = s.rbit .pxStat f j 55 ∧ t.mem = s.mem ∧
      t.rfld .ptCore (s.physOf f (2 * j)) 0 24 16 = s.rfld .ptCore (s.physOf f (2 * j)) 0 8 0 ∧
      ∀ n ∈ s.coresOf l, ∀ m, m ≠ 9 → (t.core n).arch.pc = (s.snap l).pc ∧ (t.core n).arch.g = (s.snap l).g ∧
        (t.core n).arch.cr m = (s.snap l).cr m := by
  have hl216 : l < 216 := by omega
  have hz : 0 < 1 := Nat.zero_lt_one
  have hphys : s.physOf f (2 * j) < 216 := s.physOf_lt hf (by omega)
  obtain ⟨hmem, hregs, hcores⟩ := s.started_spec l
  obtain ⟨g, hg⟩ := State.startLogical_eq hl hj hd
  rw [hg] at ht
  generalize hu : State.modSeq _ _ _ = u at ht
  obtain ⟨hevmem, hevarch, hevget⟩ := u.evStart_spec hl216
  subst ht
  refine ⟨State.lstate_setLstate_same _ _ _, ?_, ?_, ?_, fun n hn m hm => ?_⟩
  · refine congrArg (flag · 55) ((hevget .pxStat f j (by decide) (by decide) (by decide) hf hj).trans ?_)
    subst hu
    exact (State.rget_rset_other _ (by decide) hf hj hphys hz).trans (State.rget_of_regs_eq hregs _ _ _)
  · refine hevmem.trans ?_
    subst hu
    exact hmem
  · refine (congrArg (fld · 24 16) (hevget .ptCore _ 0 (by decide) (by decide) (by decide) hphys hz)).trans ?_
    subst hu
    exact State.rfld_rput_same _ _ _ _ (by decide) (by decide) (fld_lt _ _ _)
  · obtain ⟨c, num, hcore⟩ := hcores n hn
    have harch : (((u.evStart l).setLstate l 0).core n).arch = (Core.started (s.snap l) num c).arch := by
      refine ((State.arch_modCore _ l n (g := fun c => { c with lstate := 0 }) fun _ => rfl).trans (hevarch n)).trans ?_
      subst hu
      exact congrArg Core.arch hcore
    obtain ⟨hpc, hgs, hcr⟩ := Core.started_arch (s.snap l) num c
    rw [harch]
    exact ⟨hpc, hgs, hcr m hm⟩

/-! ### PX_LOG (R290) -/

/-- PX_LOG and its three records read 0 once it is cleared, and the registers alone change. -/
theorem State.pxLogClear_spec {s t : State} {f : Nat} (hf : f < 24) (ht : t = s.pxLogClear f) : t.rget .pxLog f = 0 ∧ t.rget .pxLogpc f = 0 ∧
    t.rget .pxLogsigB f = 0 ∧ t.rget .pxLogsigS f = 0 ∧ { t with regs := s.regs } = s := by
  subst ht
  have hz : 0 < 1 := Nat.zero_lt_one
  refine ⟨?_, ?_, ?_, State.rget_rset_same _ _ _ _ _, rfl⟩
  · exact (State.rget_rset_other _ (by decide) hf hz hf hz).trans ((State.rget_rset_other _ (by decide) hf hz hf hz).trans
      ((State.rget_rset_other _ (by decide) hf hz hf hz).trans (State.rget_rset_same _ _ _ _ _)))
  · exact (State.rget_rset_other _ (by decide) hf hz hf hz).trans ((State.rget_rset_other _ (by decide) hf hz hf hz).trans
      (State.rget_rset_same _ _ _ _ _))
  · exact (State.rget_rset_other _ (by decide) hf hz hf hz).trans (State.rget_rset_same _ _ _ _ _)

/-! ### PX_SNAP (R291, R693) -/

/-- Every word of a snapshot lies at a multiple of 8. -/
theorem Arch.snapWord_aligned {a : Arch} {off : Nat} {w : SnapWord} (h : a.snapWord off = some w) : off % 8 = 0 := by
  by_contra hoff
  have hnone : a.snapWord off = none := if_pos hoff
  rw [hnone] at h
  cases h

/-- The offset of a slot's word in the control space. -/
def snapOffset (f slot off : Nat) : Nat := (0x40 + f) * 2 ^ 24 + 0x104000 + slot * 0x800 + off

theorem State.snapPa_eq (s : State) (f slot off : Nat) : s.snapPa f slot off = s.ctlPa (snapOffset f slot off) := rfl

theorem State.snapPa_aligned {s : State} {a : Arch} {off : Nat} {w : SnapWord} (f slot : Nat) (hw : a.snapWord off = some w) :
    s.ctlPa (snapOffset f slot off) % 8 = 0 := by
  have haligned := Arch.snapWord_aligned hw
  unfold State.ctlPa snapOffset
  omega

section
variable {s : State} {f slot off l : Nat} {w : SnapWord} (hf : f < 24) (hslot : slot < 8) (hoff : off < 0x800)
include hf hslot hoff

theorem snapOffset_lt : snapOffset f slot off < 2 ^ 32 := by
  unfold snapOffset
  omega

/-- An agent finds there the word of the slot's logical core. -/
theorem State.ctlAt_snap (a : Agent) (hl : s.snapSlot f slot = some l) (hw : (s.snap l).snapWord off = some w) :
    s.ctlAt a (snapOffset f slot off) = .snap l off w := by
  have ho : snapOffset f slot off = (0x40 + f) * 2 ^ 24 + 0x104000 + slot * 0x800 + off := rfl
  generalize snapOffset f slot off = o at ho
  have hwin : o / 2 ^ 24 - 0x40 = f := by omega
  have hplace : (o % 2 ^ 24 - 0x104000) / 0x800 = slot := by omega
  have hword : o % 2 ^ 24 % 0x800 = off := by omega
  have hnot2 : ¬(o / 2 ^ 24 = 2 ∧ a.part ≠ 0) := by omega
  have hwindow : 0x40 ≤ o / 2 ^ 24 ∧ o / 2 ^ 24 < 0x58 ∧ 0x104000 ≤ o % 2 ^ 24 ∧ o % 2 ^ 24 < 0x108000 := by omega
  unfold State.ctlAt
  rw [if_neg hnot2, if_pos hwindow, hwin, hplace, hword, hl]
  simp only [hw]

variable (hown : s.ownModule < 8) (hl : s.snapSlot f slot = some l) (hw : (s.snap l).snapWord off = some w)
include hown hl hw

/-- A store to the word of a slot, of no reserved value, takes its place in the confirmed snapshot. -/
theorem execPxSnapWrite_word (a : Agent) {v : Word} (hheld : s.power.held = false) (hbad : w.bad v = false) :
    execPxSnapWrite a f slot off v s = .next (s.snapSet l off (w.set v)) := by
  have hlt := snapOffset_lt hf hslot hoff
  have halign := State.snapPa_aligned (s := s) f slot hw
  have hv : v.toNat % 2 ^ (8 * min 8 8) = v.toNat := Nat.mod_eq_of_lt v.isLt
  have hctl : s.ctlWrite a (s.snapPa f slot off) 8 v.toNat = s.snapSet l off (w.set v) := by
    simp only [State.ctlWrite, State.snapPa_eq, hheld, s.ctlModule_ctlPa _ hown hlt, s.ctlPa_mod _ hlt, halign, State.ctlAt_snap hf hslot hoff a hl hw,
      hv, BitVec.ofNat_toNat, BitVec.setWidth_eq, hbad, Bool.false_eq_true, if_false, ne_eq, not_true_eq_false, or_self]
  exact congrArg Host.Outcome.next ((if_neg (by omega)).trans hctl)

/-- A read of the word of a slot whose pair has no word in error changes nothing. -/
theorem execPxSnapRead_word (a : Agent) (hheld : s.power.held = false) (hbad : (s.pair (4 * foldOf l + l % 9 / 2)).snapBad = []) :
    execPxSnapRead a f slot off false s = .next s := by
  have hlt := snapOffset_lt hf hslot hoff
  have halign := State.snapPa_aligned (s := s) f slot hw
  have hctl : (s.ctlRead a (s.snapPa f slot off) 8).1 = s := by
    simp only [State.ctlRead, State.snapPa_eq, s.ctlModule_ctlPa _ hown hlt, s.ctlPa_mod _ hlt, halign, State.ctlAt_snap hf hslot hoff a hl hw,
      hbad, List.contains_nil, Bool.false_eq_true, if_false, ne_eq, not_true_eq_false, or_self]
  have hguard : ¬(24 ≤ f ∨ 8 ≤ slot ∨ 0x800 ≤ off ∨ s.power.held = true) := by
    simp only [hheld, Bool.false_eq_true, or_false]
    omega
  unfold execPxSnapRead
  rw [if_neg hguard, hl]
  exact congrArg Host.Outcome.next hctl

end

end Sys2Proof.Machine

open Sys2Proof Sys2Proof.Machine

/-- Settles O37: each command by what PX_CTL makes of it, then the copy, the log and the words of a slot. -/
theorem pairCommandsAndSnapshots : Obligations.PairCommandsAndSnapshots := by
  refine ⟨?_, ?_, ?_, ?_, ?_⟩
  · rintro s a f j l hf hj rfl hp hd
    have hcores := s.coresOf_rej 0 hf hj hp hd
    refine ⟨fun n hn hacc hl hcmds hdue => ?_, fun hacc hl hbad htest => ?_, fun hacc hl => ?_⟩
    · obtain ⟨ns, hns⟩ := List.head?_eq_some_iff.1 hn
      have hdone := State.commandDue_running (s := s.rput .pxStat f j 55 55 0) 1 hl hcmds (hcores.trans hns) hdue
      refine ⟨_, (stores_of rfl rfl hacc).trans (congrArg _ ((State.pxCommand_stop hj hp hl).trans hdone)), ?_, ?_, s.rej_cleared f j, rfl⟩
      · exact congrArg Seq.cmds (State.seq_modSeq_same _ _ fun q => { q with cmds := [1] })
      · exact congrArg Core.gdue (State.core_modCore_same _ _ _)
    · obtain ⟨hrun, hrej, hmem, hcur, harch⟩ :=
        State.startLogical_spec (s := s.rput .pxStat f j 55 55 0) hf hj rfl ((s.degraded_rej 0 hj).trans hd) rfl
      rw [hcores] at harch
      rw [s.physOf_rej 0 hf hj] at hcur
      refine ⟨_, (stores_of rfl rfl hacc).trans (congrArg _ (State.pxCommand_start hj hp hl hbad htest)), hrun, ?_, hmem, ?_, harch⟩
      · exact hrej.trans (s.rej_cleared f j)
      · exact hcur.trans (congrArg (fld · 8 0) (s.rget_rej 0 hf hj (by decide) (s.physOf_lt hf (by omega)) Nat.zero_lt_one))
    · refine ⟨_, (stores_of rfl rfl hacc).trans (congrArg _ (State.pxCommand_test hj hp hl)), State.lstate_setLstate_same _ _ _, ?_,
        s.rej_cleared f j, rfl⟩
      exact congrArg Seq.test (State.seq_modSeq_same _ _ fun q => { q with test := some 6 })
  · rintro s a f j role l hf hj hrole rfl hl
    refine ⟨fun hr hacc hspare htest => ?_, fun hr hacc hspare htest => ?_, fun hacc hspare hlame htest => ?_⟩
    · exact (stores_of rfl rfl hacc).trans (congrArg _ (State.pxCommand_subst (.inl ⟨rfl, hr⟩) hl hspare htest))
    · exact (stores_of rfl rfl hacc).trans (congrArg _ (State.pxCommand_subst (.inr ⟨rfl, hr⟩) hl hspare htest))
    · exact (stores_of rfl rfl hacc).trans (congrArg _ (State.pxCommand_return hrole hl hspare hlame htest))
  · intro s l cp
    exact ⟨State.lstate_setLstate_same _ _ _, congrArg Seq.copy (s.seq_modSeq_same l fun q => { q with copy := some cp, test := none }), rfl, rfl⟩
  · intro s a f v hf hacc hv
    exact ⟨_, stores_of rfl (congrArg some (if_pos hv)) hacc, State.pxLogClear_spec hf rfl⟩
  · intro s a f slot off l w v hf hslot hoff hheld hown hl hw
    exact ⟨fun hbad => ⟨execPxSnapWrite_word hf hslot hoff hown hl hw a hheld hbad, tget_tins_same _ _ _ _⟩,
      execPxSnapRead_word hf hslot hoff hown hl hw a hheld⟩

end

section
/-! CHANNEL_OFFLINE of a channel that is not ONLINE (07, R322). -/

namespace Sys2Proof.Machine

/-- Only an ONLINE channel goes OFFLINE: of any other, the command leaves the state as it is. -/
theorem execChannelOffline_of_not_online {s : State} {ch : Nat} (h : s.chState ch ≠ 1) : execChannelOffline ch s = .next s :=
  if_neg fun ⟨_, _, _, honline⟩ => h honline

/-- The module after reset, every channel ABSENT, but for MC_SVCSTAT: BUSY 1, PHASE 1, channel 0. -/
def absentInService : State := State.reset.rset .mcSvcstat 0 0 (BitVec.ofNat 64 (2 ^ 63 + 2 ^ 59))

theorem absentInService_service : absentInService.rbit .mcSvcstat 0 0 63 = true ∧ absentInService.rfld .mcSvcstat 0 0 52 48 = 0 ∧
    absentInService.rfld .mcSvcstat 0 0 61 59 = 1 := by decide

theorem absentInService_chState : absentInService.chState 0 = 0 := by decide

end Sys2Proof.Machine

open Sys2Proof Sys2Proof.Machine

/-- Refutes O45: its clause for CHANNEL_OFFLINE supposes a running operation in PHASE 1 but not that its channel is ONLINE, and
the command leaves a channel in any other state where it is, such as the ABSENT channel 0 of `absentInService`. -/
theorem not_scratchpadBanksAndMemoryService : ¬ Obligations.ScratchpadBanksAndMemoryService := by
  rintro ⟨-, -, -, -, hservice⟩
  obtain ⟨hbusy, hchannel, hphase⟩ := absentInService_service
  obtain ⟨-, hoffline, -, -⟩ := hservice absentInService ⟨0, 0⟩ 0 (by decide) hbusy hchannel
  obtain ⟨t, hexec, hstate, -, -⟩ := hoffline hphase
  have habsent : absentInService.chState 0 ≠ 1 := by
    rw [absentInService_chState]
    decide
  have hstays : exec (.channelOffline 0) absentInService = .next absentInService := execChannelOffline_of_not_online habsent
  rw [hstays] at hexec
  cases hexec
  rw [absentInService_chState] at hstate
  exact absurd hstate (by decide)

end

section
/-! What runs of writes leave and set, and what a raise leaves of the channel subsystem. -/

namespace Sys2Proof.Machine

/-! ### Runs of updates -/

section
variable {β : Type} {f : State → Nat → State}

/-- What each update of a run leaves, the run leaves. -/
theorem State.foldl_keeps (g : State → β) {l : List Nat} (h : ∀ s, ∀ i ∈ l, g (f s i) = g s) (s : State) : g (l.foldl f s) = g s := by
  induction l generalizing s with
  | nil => rfl
  | cons i l ih =>
    rw [List.foldl_cons, ih fun s j hj => h s j (List.mem_cons_of_mem i hj)]
    exact h s i List.mem_cons_self

/-- A run of updates, each of which gives its own place one and the same value, gives it to the places of the run. -/
theorem State.foldl_sets {g : State → Nat → β} {b : β} {n : Nat} {l : List Nat} (hl : ∀ i ∈ l, i < n)
    (h : ∀ s i j, i < n → j < n → g (f s i) j = if j = i then b else g s j) (s : State) {j : Nat} (hj : j < n) :
    g (l.foldl f s) j = if j ∈ l then b else g s j := by
  induction l generalizing s with
  | nil => rfl
  | cons i l ih =>
    rw [List.foldl_cons, ih fun k hk => hl k (List.mem_cons_of_mem i hk), h s i j (hl i List.mem_cons_self) hj]
    by_cases hji : j = i
    · rw [if_pos hji, ite_self, if_pos (List.mem_cons.2 (.inl hji))]
    · simp only [List.mem_cons, hji, false_or, if_false]

end

theorem mem_rangeFrom {a n i : Nat} : i ∈ rangeFrom a n ↔ a ≤ i ∧ i < a + n := by
  simp only [rangeFrom, List.mem_map, List.mem_range]
  exact ⟨fun ⟨k, hk, hi⟩ => by omega, fun h => ⟨i - a, by omega, by omega⟩⟩

/-! ### Fields and registers -/

theorem State.rget_rput_other {s : State} {q r : Reg} {i j k l : Nat} (hi lo x : Nat) (h : q ≠ r) (hk : k < q.place.n1) (hl : l < q.place.n2)
    (hm : i < r.place.n1) (hn : j < r.place.n2) : (s.rput r i j hi lo x).rget q k l = s.rget q k l :=
  State.rget_rset_other _ h hk hl hm hn

/-- A field of a register reads as before once another field of it is written. -/
theorem State.rfld_rput_of_apart (s : State) (r : Reg) (i j : Nat) {hi lo hi' lo' : Nat} (x : Nat) (h : lo ≤ hi) (hw : hi' < 64)
    (ha : hi < lo' ∨ hi' < lo) : (s.rput r i j hi lo x).rfld r i j hi' lo' = s.rfld r i j hi' lo' := by
  rw [rfld, rput, rmod, rget_rset_same, fld_setFld_of_apart _ _ h hw ha, rfld]

section
variable (s : State) (f : Chans → Chans)

theorem State.rget_modCh (r : Reg) (i j : Nat) : (s.modCh f).rget r i j = s.rget r i j := rfl

@[simp] theorem State.modCh_chans : (s.modCh f).chans = f s.chans := rfl

@[simp] theorem State.modCh_mem : (s.modCh f).mem = s.mem := rfl

end

theorem State.rfld_congr {s t : State} {r : Reg} {i j : Nat} (h : t.rget r i j = s.rget r i j) (hi lo : Nat) :
    t.rfld r i j hi lo = s.rfld r i j hi lo :=
  congrArg (fld · hi lo) h

theorem State.rbit_congr {s t : State} {r : Reg} {i j : Nat} (h : t.rget r i j = s.rget r i j) (b : Nat) : t.rbit r i j b = s.rbit r i j b :=
  congrArg (flag · b) h

@[simp] theorem State.raise_chans (s : State) (src : Nat) : (s.raise src).chans = s.chans := by
  obtain ⟨q, f, e, -⟩ := s.raise_spec src
  rw [e]
  rfl

@[simp] theorem State.deliver_chans (s : State) (l tally : Nat) (w : Word) : (s.deliver l tally w).chans = s.chans := by
  unfold State.deliver
  dsimp only
  split
  · rfl
  · split <;> rfl

@[simp] theorem State.complete_chans (s : State) (q : Request) (status detail : Nat) : (s.complete q status detail).chans = s.chans :=
  State.deliver_chans _ _ _ _

/-! ### CH_PENSTAT -/

section
variable {m n : Nat}

theorem State.rget_chPenstat_rset_ne {s : State} (v : Word) (h : m ≠ n) : (s.rset .chPenstat n 0 v).rget .chPenstat m = s.rget .chPenstat m := by
  refine s.rget_rset_ne _ _ _ _ _ _ _ ?_
  simp only [Reg.addr, Reg.place]
  omega

/-- One bit of every CH_PENSTAT once it is written in one of them. -/
theorem State.rbit_chPenstat_rput (s : State) (m n x : Nat) {b : Nat} (hb : b < 64) :
    (s.rput .chPenstat n 0 b b x).rbit .chPenstat m 0 b = if m = n then x.testBit 0 else s.rbit .chPenstat m 0 b := by
  by_cases h : m = n
  · rw [if_pos h, h]
    exact s.rbit_rput_bit _ _ _ _ hb
  · rw [if_neg h]
    exact State.rbit_congr (State.rget_chPenstat_rset_ne _ h) b

end

theorem State.penState_congr {s t : State} {n : Nat} (h : t.rget .chPenstat n = s.rget .chPenstat n) : t.penState n = s.penState n :=
  State.rfld_congr h 63 61

theorem State.pathFailed_congr {s t : State} {n : Nat} (h : t.rget .chPenstat n = s.rget .chPenstat n) (i : Nat) :
    t.pathFailed n i = s.pathFailed n i :=
  State.rbit_congr h (32 + i)

theorem State.pen_congr {s t : State} (h : t.chans = s.chans) (n : Nat) : t.pen n = s.pen n :=
  congrArg (fun c : Chans => tget Pen.reset c.pens n) h

@[simp] theorem State.pen_rput (s : State) (r : Reg) (i j hi lo x n : Nat) : (s.rput r i j hi lo x).pen n = s.pen n :=
  State.pen_congr (s.rput_chans r i j hi lo x) n

theorem State.penState_setPenState (s : State) (n : Nat) {v : Nat} (hv : v < 8) : (s.setPenState n v).penState n = v :=
  s.rfld_rput_same _ _ _ (by decide) (by decide) hv

@[simp] theorem State.pen_modPen_same (s : State) (n : Nat) (f : Pen → Pen) : (s.modPen n f).pen n = f (s.pen n) :=
  tget_tins_same _ _ _ _

/-- The failed flags of a pen once one of them is written. -/
theorem State.pathFailed_rput (s : State) (n x : Nat) {i j : Nat} (hi : i < 8) (hj : j < 8) :
    (s.rput .chPenstat n 0 (32 + i) (32 + i) x).pathFailed n j = if j = i then x.testBit 0 else s.pathFailed n j := by
  by_cases h : j = i
  · rw [if_pos h, h]
    exact s.rbit_rput_bit _ _ _ _ (by omega)
  · rw [if_neg h, pathFailed, rbit, rput, rmod, rget_rset_same]
    exact flag_setFld_of_apart _ _ le_rfl (by omega) (by omega)

/-! ### A path fails (R374) -/

section
variable (s : State) (n i : Nat)

@[simp] theorem State.failPath_chans : (s.failPath n i).chans = s.chans := by
  unfold State.failPath
  split
  · rfl
  · exact State.raise_chans _ _

@[simp] theorem State.failPath_mem : (s.failPath n i).mem = s.mem := by
  unfold State.failPath
  split
  · rfl
  · exact State.raise_mem _ _

theorem State.rget_failPath {q : Reg} {k l : Nat} (hn : n < 65536) (hp : q ≠ .chPenstat) (he : q ≠ .evStat) (hk : k < q.place.n1)
    (hl : l < q.place.n2) : (s.failPath n i).rget q k l = s.rget q k l := by
  unfold State.failPath
  split
  · rfl
  · rw [State.rget_raise_other he hk hl (by decide), State.rget_rput_other _ _ _ hp hk hl hn Nat.zero_lt_one]

theorem State.pathFailed_failPath (hn : n < 65536) (hi : i < 8) {j : Nat} (hj : j < 8) :
    (s.failPath n i).pathFailed n j = if j = i then true else s.pathFailed n j := by
  unfold State.failPath
  split
  next h => split <;> simp_all
  next =>
    rw [State.pathFailed_congr (State.rget_raise_other (by decide) hn Nat.zero_lt_one (by decide)), State.pathFailed_rput _ _ _ hi hj]
    rfl

end

end Sys2Proof.Machine
end

section
/-! Pen commands (08, R347, R348, R389, R390): what each makes of the pen, and how it finishes. -/

namespace Sys2Proof.Machine

/-! ### A pen command begins and ends -/

/-- CH_PENCMDSTAT with BUSY set for a command on a pen. -/
def State.penTaken (s : State) (cmd pen : Nat) : State := s.rset .chPencmdstat 0 0 (BitVec.ofNat 64 (2 ^ 63 + cmd * 2 ^ 56 + pen))

/-- A pen command has finished with RESULT done and CH_PENCMD, and memory is as before. -/
def State.PenEnded (s : State) (cmd pen : Nat) (t : State) : Prop :=
  t.rget .chPencmdstat = BitVec.ofNat 64 (cmd * 2 ^ 56 + 2 ^ 52 + pen) ∧ t.rbit .evStat 48 0 63 = true ∧ t.mem = s.mem

section
variable {s : State} {cmd arg pen : Nat}

theorem penWord_fields (hc : cmd < 16) (ha : arg < 256) (hp : pen < 65536) : fld (penWord cmd arg pen) 59 56 = cmd ∧
    fld (penWord cmd arg pen) 55 48 = arg ∧ fld (penWord cmd arg pen) 15 0 = pen := by
  simp only [penWord, wordOf, fieldAt, fld, bits, List.foldl_cons, List.foldl_nil, BitVec.toNat_ofNat, Nat.shiftRight_eq_div_pow]
  omega

@[simp] theorem State.penTaken_chans : (s.penTaken cmd pen).chans = s.chans := rfl

@[simp] theorem State.penTaken_mem : (s.penTaken cmd pen).mem = s.mem := rfl

theorem State.rget_penTaken {q : Reg} {k l : Nat} (h : q ≠ .chPencmdstat) (hk : k < q.place.n1) (hl : l < q.place.n2) :
    (s.penTaken cmd pen).rget q k l = s.rget q k l :=
  State.rget_rset_other _ h hk hl Nat.zero_lt_one Nat.zero_lt_one

/-- A command while none runs and the ledger is not frozen is carried out. -/
theorem State.penCommand_penWord (hc0 : cmd ≠ 0) (hc : cmd < 16) (ha : arg < 256) (hp : pen < 65536)
    (hbusy : s.rbit .chPencmdstat 0 0 63 = false) (hfrozen : s.frozen = false) :
    s.penCommand (penWord cmd arg pen) = (s.penTaken cmd pen).runPen cmd arg pen := by
  obtain ⟨hcmd, harg, hpen⟩ := penWord_fields hc ha hp
  have hf : (s.penTaken cmd pen).frozen = false :=
    (State.rbit_congr (State.rget_penTaken (by decide) Nat.zero_lt_one Nat.zero_lt_one) 1).trans hfrozen
  have hb : flag (s.rget .chPencmdstat) 63 = false := hbusy
  unfold State.penTaken at hf ⊢
  simp only [State.penCommand, hb, hcmd, harg, hpen, hc0, hf, Bool.false_eq_true, if_false]

/-- What a pen command comes to where its store is accepted. -/
theorem exec_penCommand {c : Instr} {a : Agent} {t : State} (h : exec c s = .next (s.regWrite a .chPencmd 0 0 (penWord cmd arg pen)))
    (hc0 : cmd ≠ 0) (hc : cmd < 16) (ha : arg < 256) (hp : pen < 65536) (hbusy : s.rbit .chPencmdstat 0 0 63 = false)
    (hfrozen : s.frozen = false) (hacc : s.accepts a .chPencmd 0 0 (penWord cmd arg pen))
    (hrun : (s.penTaken cmd pen).runPen cmd arg pen = t) : exec c s = .next t :=
  stores_of h (congrArg some ((State.penCommand_penWord hc0 hc ha hp hbusy hfrozen).trans hrun)) hacc

end

section
variable (s : State) (result : Nat)

@[simp] theorem State.penDone_chans : (s.penDone result).chans = s.chans := State.raise_chans _ _

@[simp] theorem State.penDone_mem : (s.penDone result).mem = s.mem := State.raise_mem _ _

@[simp] theorem State.pen_penDone (n : Nat) : (s.penDone result).pen n = s.pen n := State.pen_congr (s.penDone_chans result) n

theorem State.rget_penDone {q : Reg} {k l : Nat} (hc : q ≠ .chPencmdstat) (he : q ≠ .evStat) (hk : k < q.place.n1) (hl : l < q.place.n2) :
    (s.penDone result).rget q k l = s.rget q k l := by
  rw [State.penDone, State.rget_raise_other he hk hl (by decide)]
  exact State.rget_rset_other _ hc hk hl Nat.zero_lt_one Nat.zero_lt_one

theorem State.rget_penDone_chPenstat {n : Nat} (hn : n < 65536) : (s.penDone result).rget .chPenstat n = s.rget .chPenstat n :=
  s.rget_penDone result (by decide) (by decide) hn Nat.zero_lt_one

theorem State.rget_penDone_status : (s.penDone result).rget .chPencmdstat = setFld (setFlag (s.rget .chPencmdstat) 63 false) 55 52 result := by
  rw [State.penDone, State.rget_raise_other (by decide) Nat.zero_lt_one Nat.zero_lt_one (by decide)]
  exact s.rget_rset_same _ _ _ _

/-- A finished command leaves BUSY 0, its RESULT and CH_PENCMD. -/
theorem State.penDone_status (hr : result < 16) : (s.penDone result).rbit .chPencmdstat 0 0 63 = false ∧
    (s.penDone result).rfld .chPencmdstat 0 0 55 52 = result ∧ (s.penDone result).rbit .evStat 48 0 63 = true := by
  refine ⟨?_, ?_, State.pend_raise _ _⟩
  · rw [State.rbit, s.rget_penDone_status, flag_setFld_of_apart _ _ (by decide) (by decide) (by decide),
      flag_setFlag _ _ _ _ (by decide), if_pos rfl]
  · rw [State.rfld, s.rget_penDone_status, fld_setFld_same _ _ _ _ (by decide) (by decide) hr]

end

/-- CH_PENCMDSTAT of a command under way, finished with RESULT done. -/
theorem penstat_done {cmd pen : Nat} (hc : cmd < 16) (hp : pen < 65536) :
    setFld (setFlag (BitVec.ofNat 64 (2 ^ 63 + cmd * 2 ^ 56 + pen)) 63 false) 55 52 1 = BitVec.ofNat 64 (cmd * 2 ^ 56 + 2 ^ 52 + pen) := by
  apply BitVec.eq_of_toNat_eq
  simp only [setFlag, setFld, putBits, bits, bnat, BitVec.toNat_ofNat, Nat.shiftRight_eq_div_pow, Bool.false_eq_true, if_false]
  omega

theorem State.penEnded_penDone {s t : State} {cmd pen : Nat} (hc : cmd < 16) (hp : pen < 65536)
    (ht : t.rget .chPencmdstat = (s.penTaken cmd pen).rget .chPencmdstat) (hm : t.mem = s.mem) : s.PenEnded cmd pen (t.penDone 1) := by
  refine ⟨?_, State.pend_raise _ _, (t.penDone_mem 1).trans hm⟩
  rw [t.rget_penDone_status, ht, State.penTaken, State.rget_rset_same, penstat_done hc hp]

/-! ### What each command is, where its premise holds -/

section
variable {s : State} {p : Pen} {arg pen : Nat}

theorem State.runPen_attach (hp : p = { Pen.reset with recd := s.readRecord pen }) (hst : s.penState pen = 0) (hcheck : s.checkRecord p = 1) :
    s.runPen 1 arg pen = (((s.modPen pen fun _ => p).rput .chPenstat pen 0 39 32 0).setPenState pen 1).penDone 1 := by
  subst hp
  simp only [State.runPen, hst, hcheck, ne_eq, not_true_eq_false, if_false]

theorem State.runPen_stop (hst : s.penState pen = 1) : s.runPen 2 arg pen = s.setPenState pen 2 :=
  if_neg (not_not.2 hst)

theorem State.runPen_resume (hst : s.penState pen = 2 ∨ s.penState pen = 3) : s.runPen 3 arg pen = (s.setPenState pen 1).penDone 1 :=
  if_pos hst

theorem State.runPen_abort (hst : s.penState pen = 2 ∨ s.penState pen = 3) : s.runPen 4 arg pen = (s.penAbort pen).penDone 1 :=
  if_pos hst

theorem State.runPen_detach (hst : s.penState pen = 3) (hw : s.waitingFor pen = []) : s.runPen 5 arg pen =
    ((s.modCh fun c => { c with pens := tdel c.pens pen }).rmod .chPenstat pen 0 fun v => setFld (setFld v 63 61 0) 39 32 0).penDone 1 := by
  simp only [State.runPen, hst, hw, List.isEmpty_nil, ne_eq, not_true_eq_false, if_false, Bool.not_true, Bool.false_eq_true]

theorem State.runPen_reload (hp : p = { s.pen pen with recd := s.readRecord pen }) (hst : s.penState pen = 3) (hcheck : s.checkRecord p = 1)
    (hkind : p.kind = (s.pen pen).kind) (hpart : p.part = (s.pen pen).part) :
    s.runPen 6 arg pen = (s.modPen pen fun q => { q with recd := reloaded (s.pen pen).recd p.recd }).penDone 1 := by
  subst hp
  simp only [State.runPen, hst, hcheck, hkind, hpart, ne_eq, not_true_eq_false, if_false, or_self]

/-- One path of a pen put back by RESTORE: its queue positions reset, its failed flag clear. -/
def State.restorePath (s : State) (pen i : Nat) : State :=
  (s.modPen pen fun p => { p with paths := tdel p.paths i }).rput .chPenstat pen 0 (32 + i) (32 + i) 0

theorem State.runPen_restore (hst : s.penState pen ≠ 0) :
    s.runPen 7 arg pen = ((maskPaths arg).foldl (fun s i => s.restorePath pen i) s).penDone 1 :=
  if_neg hst

theorem State.runPen_fail (hst : s.penState pen ≠ 0) : s.runPen 8 arg pen = ((maskPaths arg).foldl (fun s i => s.failPath pen i) s).penDone 1 :=
  if_neg hst

/-- PAUSED, bit 60 of CH_PENSTAT, given to the 64 pens of a group. -/
def State.pauseGroup (s : State) (g x : Nat) : State :=
  (rangeFrom (64 * g) 64).foldl (fun s n => s.rput .chPenstat n 0 60 60 x) s

theorem State.runPen_move (hst : s.rfld .chDrovstat arg 0 63 61 = 0) (hctl : s.rbit .chDrovctl arg 0 0 = false) :
    s.runPen 9 arg pen = ((s.rput .chPengrp (pen / 64) 0 63 63 1).pauseGroup (pen / 64) 1).modCh
      fun c => { c with waiting := some (BitVec.ofNat 64 arg) } := by
  simp only [State.runPen, hst, hctl, ne_eq, not_true_eq_false, false_or, Bool.false_eq_true, if_false, State.pauseGroup]

end

/-! ### Paths restored and failed -/

theorem mem_maskPaths {mask i : Nat} : i ∈ maskPaths mask ↔ i < 8 ∧ mask.testBit i = true := by
  simp only [maskPaths, List.mem_filter, List.mem_range]

section
variable (s : State) {pen arg : Nat}

theorem State.path_restorePath (i j : Nat) : ((s.restorePath pen i).pen pen).path j = if j = i then PenPath.reset else ((s.pen pen).path j) := by
  have hpen : (s.restorePath pen i).pen pen = { s.pen pen with paths := tdel (s.pen pen).paths i } :=
    s.pen_modPen_same pen fun p => { p with paths := tdel p.paths i }
  rw [hpen, Pen.path, Pen.path, tget_eq_tfind, tget_eq_tfind]
  split
  next h => rw [h, tfind_tdel_same]; rfl
  next h => rw [tfind_tdel_ne _ _ _ h]

/-- RESTORE puts the paths of its mask back and leaves the others (R347, R377). -/
theorem State.restorePaths_spec {t : State} (hp : pen < 65536) (ht : t = (maskPaths arg).foldl (fun s i => s.restorePath pen i) s) :
    t.rget .chPencmdstat = s.rget .chPencmdstat ∧ t.mem = s.mem ∧ ∀ i, i < 8 →
      ((t.pen pen).path i = if i ∈ maskPaths arg then PenPath.reset else (s.pen pen).path i) ∧
        t.pathFailed pen i = if i ∈ maskPaths arg then false else s.pathFailed pen i := by
  subst ht
  have hlt : ∀ i ∈ maskPaths arg, i < 8 := fun i hi => (mem_maskPaths.1 hi).1
  refine ⟨?_, ?_, fun i hi => ⟨?_, ?_⟩⟩
  · exact State.foldl_keeps (f := fun s i => s.restorePath pen i) (·.rget .chPencmdstat)
      (fun t i _ => State.rget_rput_other _ _ _ (by decide) Nat.zero_lt_one Nat.zero_lt_one hp Nat.zero_lt_one) s
  · exact State.foldl_keeps (f := fun s i => s.restorePath pen i) State.mem (fun _ _ _ => rfl) s
  · exact State.foldl_sets (f := fun s i => s.restorePath pen i) (g := fun s j => (s.pen pen).path j) hlt
      (fun t i j _ _ => t.path_restorePath i j) s hi
  · exact State.foldl_sets (f := fun s i => s.restorePath pen i) (g := fun s j => s.pathFailed pen j) hlt
      (fun t i j hi hj => State.pathFailed_rput _ _ _ hi hj) s hi

/-- FAIL fails the paths of its mask (R347, R377). -/
theorem State.failPaths_spec {t : State} (hp : pen < 65536) (ht : t = (maskPaths arg).foldl (fun s i => s.failPath pen i) s) :
    t.rget .chPencmdstat = s.rget .chPencmdstat ∧ t.chans = s.chans ∧ t.mem = s.mem ∧ ∀ i, i < 8 →
      t.pathFailed pen i = if i ∈ maskPaths arg then true else s.pathFailed pen i := by
  subst ht
  refine ⟨?_, ?_, ?_, fun i hi => ?_⟩
  · exact State.foldl_keeps (f := fun s i => s.failPath pen i) (·.rget .chPencmdstat)
      (fun t i _ => t.rget_failPath _ _ hp (by decide) (by decide) Nat.zero_lt_one Nat.zero_lt_one) s
  · exact State.foldl_keeps (f := fun s i => s.failPath pen i) State.chans (fun t i _ => t.failPath_chans pen i) s
  · exact State.foldl_keeps (f := fun s i => s.failPath pen i) State.mem (fun t i _ => t.failPath_mem pen i) s
  · exact State.foldl_sets (f := fun s i => s.failPath pen i) (g := fun s j => s.pathFailed pen j) (fun i hi => (mem_maskPaths.1 hi).1)
      (fun t i j hi hj => t.pathFailed_failPath _ _ hp hi hj) s hi

end

/-! ### A group paused and moved (R384) -/

section
variable (s : State) {g x : Nat}

theorem State.paused_pauseGroup {n : Nat} (hn : n / 64 = g) : (s.pauseGroup g x).rbit .chPenstat n 0 60 = x.testBit 0 := by
  have hmem : n ∈ rangeFrom (64 * g) 64 := mem_rangeFrom.2 (by omega)
  have hsets := State.foldl_sets (f := fun s n => s.rput .chPenstat n 0 60 60 x) (g := fun s n => s.rbit .chPenstat n 0 60)
    (fun i hi => (mem_rangeFrom.1 hi).2) (fun t i j _ _ => t.rbit_chPenstat_rput j i x (by decide)) s (mem_rangeFrom.1 hmem).2
  exact hsets.trans (if_pos hmem)

/-- What the pause of each pen leaves, the pause of a group leaves. -/
theorem State.pauseGroup_keeps {β : Type} (f : State → β) (hg : g < 1024)
    (h : ∀ s n, n < 65536 → f (s.rput .chPenstat n 0 60 60 x) = f s) : f (s.pauseGroup g x) = f s :=
  State.foldl_keeps f (fun t i hi => h t i (by have := (mem_rangeFrom.1 hi).2; omega)) s

theorem State.rget_pauseGroup {q : Reg} {k l : Nat} (hg : g < 1024) (h : q ≠ .chPenstat) (hk : k < q.place.n1) (hl : l < q.place.n2) :
    (s.pauseGroup g x).rget q k l = s.rget q k l :=
  s.pauseGroup_keeps (·.rget q k l) hg fun _ _ hn => State.rget_rput_other _ _ _ h hk hl hn Nat.zero_lt_one

theorem State.pauseGroup_chans (hg : g < 1024) : (s.pauseGroup g x).chans = s.chans := s.pauseGroup_keeps State.chans hg fun _ _ _ => rfl

theorem State.pauseGroup_mem (hg : g < 1024) : (s.pauseGroup g x).mem = s.mem := s.pauseGroup_keeps State.mem hg fun _ _ _ => rfl

end

end Sys2Proof.Machine
end

section
/-! Each pen command as its store, the ends of STOP and MOVE, and what ABORT does to a sentence that waits (08, R347, R348, R377, R384). -/

namespace Sys2Proof.Machine

section
variable {s : State} {cmd pen : Nat}

theorem State.rget_penTaken_chPenstat (hp : pen < 65536) : (s.penTaken cmd pen).rget .chPenstat pen = s.rget .chPenstat pen :=
  State.rget_penTaken (by decide) hp Nat.zero_lt_one

theorem State.penState_penTaken (hp : pen < 65536) : (s.penTaken cmd pen).penState pen = s.penState pen :=
  State.penState_congr (State.rget_penTaken_chPenstat hp)

end

/-- A write of a pen's CH_PENSTAT leaves CH_PENCMDSTAT. -/
theorem State.rget_chPencmdstat_rset {s : State} {n : Nat} (v : Word) (hn : n < 65536) :
    (s.rset .chPenstat n 0 v).rget .chPencmdstat = s.rget .chPencmdstat :=
  State.rget_rset_other v (by decide) Nat.zero_lt_one Nat.zero_lt_one hn Nat.zero_lt_one

/-! ### The commands -/

section
variable {s : State} {a : Agent} {p : Pen} {pen arg : Nat} (hpen : pen < 65536) (hbusy : s.rbit .chPencmdstat 0 0 63 = false)
  (hfrozen : s.frozen = false)
include hpen hbusy hfrozen

/-- ATTACH of a record that passes its checks: the pen is ATTACHED with it, and no path has failed (R347). -/
theorem exec_penAttach (hp : p = { Pen.reset with recd := (s.penTaken 1 pen).readRecord pen })
    (hacc : s.accepts a .chPencmd 0 0 (penWord 1 0 pen)) (hst : s.penState pen = 0) (hcheck : (s.penTaken 1 pen).checkRecord p = 1) :
    ∃ t, exec (.penAttach a pen) s = .next t ∧ t.penState pen = 1 ∧ t.rfld .chPenstat pen 0 39 32 = 0 ∧ t.pen pen = p ∧
      s.PenEnded 1 pen t := by
  have hrun := State.runPen_attach (arg := 0) hp ((State.penState_penTaken hpen).trans hst) hcheck
  refine ⟨_, exec_penCommand rfl (by decide) (by decide) (by decide) hpen hbusy hfrozen hacc hrun, ?_, ?_, ?_, ?_⟩
  · rw [State.penState_congr (State.rget_penDone_chPenstat _ _ hpen), State.penState_setPenState _ _ (by decide)]
  · rw [State.rfld_congr (State.rget_penDone_chPenstat _ _ hpen), State.setPenState,
      State.rfld_rput_of_apart _ _ _ _ _ (by decide) (by decide) (by decide)]
    exact State.rfld_rput_same _ _ _ _ (by decide) (by decide) (by decide)
  · simp only [State.setPenState, State.pen_penDone, State.pen_rput, State.pen_modPen_same]
  · refine State.penEnded_penDone (by decide) hpen ?_ rfl
    rw [State.setPenState, State.rput, State.rmod, State.rget_chPencmdstat_rset _ hpen, State.rput, State.rmod, State.rget_chPencmdstat_rset _ hpen]
    exact State.rget_modCh _ _ _ _ _

theorem exec_penStop (hacc : s.accepts a .chPencmd 0 0 (penWord 2 0 pen)) (hst : s.penState pen = 1) :
    exec (.penStop a pen) s = .next ((s.penTaken 2 pen).setPenState pen 2) :=
  exec_penCommand rfl (by decide) (by decide) (by decide) hpen hbusy hfrozen hacc (State.runPen_stop ((State.penState_penTaken hpen).trans hst))

/-- RESUME: the pen is ATTACHED again (R347). -/
theorem exec_penResume (hacc : s.accepts a .chPencmd 0 0 (penWord 3 0 pen)) (hst : s.penState pen = 2 ∨ s.penState pen = 3) :
    ∃ t, exec (.penResume a pen) s = .next t ∧ t.penState pen = 1 ∧ t.chans = s.chans ∧ s.PenEnded 3 pen t := by
  rw [← State.penState_penTaken (cmd := 3) hpen] at hst
  refine ⟨_, exec_penCommand rfl (by decide) (by decide) (by decide) hpen hbusy hfrozen hacc (State.runPen_resume hst), ?_,
    State.penDone_chans _ _, ?_⟩
  · rw [State.penState_congr (State.rget_penDone_chPenstat _ _ hpen), State.penState_setPenState _ _ (by decide)]
  · exact State.penEnded_penDone (by decide) hpen (State.rget_chPencmdstat_rset _ hpen) rfl

theorem exec_penAbort (hacc : s.accepts a .chPencmd 0 0 (penWord 4 0 pen)) (hst : s.penState pen = 2 ∨ s.penState pen = 3) :
    exec (.penAbort a pen) s = .next (((s.penTaken 4 pen).penAbort pen).penDone 1) := by
  rw [← State.penState_penTaken (cmd := 4) hpen] at hst
  exact exec_penCommand rfl (by decide) (by decide) (by decide) hpen hbusy hfrozen hacc (State.runPen_abort hst)

/-- DETACH: the pen leaves the table, and no path has failed (R347). -/
theorem exec_penDetach (hacc : s.accepts a .chPencmd 0 0 (penWord 5 0 pen)) (hst : s.penState pen = 3) (hw : s.waitingFor pen = []) :
    ∃ t, exec (.penDetach a pen) s = .next t ∧ t.penState pen = 0 ∧ t.rfld .chPenstat pen 0 39 32 = 0 ∧ t.pen pen = Pen.reset ∧
      s.PenEnded 5 pen t := by
  have hrun := State.runPen_detach (s := s.penTaken 5 pen) (arg := 0) ((State.penState_penTaken hpen).trans hst) hw
  refine ⟨_, exec_penCommand rfl (by decide) (by decide) (by decide) hpen hbusy hfrozen hacc hrun, ?_, ?_, ?_, ?_⟩
  · rw [State.penState_congr (State.rget_penDone_chPenstat _ _ hpen), State.penState, State.rfld, State.rmod, State.rget_rset_same,
      fld_setFld_of_apart _ _ (by decide) (by decide) (by decide), fld_setFld_same _ _ _ _ (by decide) (by decide) (by decide)]
  · rw [State.rfld_congr (State.rget_penDone_chPenstat _ _ hpen), State.rfld, State.rmod, State.rget_rset_same,
      fld_setFld_same _ _ _ _ (by decide) (by decide) (by decide)]
  · refine (State.pen_penDone _ _ _).trans ?_
    change tget Pen.reset (tdel s.chans.pens pen) pen = Pen.reset
    rw [tget_eq_tfind, tfind_tdel_same]
    rfl
  · exact State.penEnded_penDone (by decide) hpen (State.rget_chPencmdstat_rset _ hpen) rfl

/-- RELOAD of a record of the same KIND and PART that passes its checks (R347). -/
theorem exec_penReload (hp : p = { s.pen pen with recd := (s.penTaken 6 pen).readRecord pen }) (hacc : s.accepts a .chPencmd 0 0 (penWord 6 0 pen))
    (hst : s.penState pen = 3) (hcheck : (s.penTaken 6 pen).checkRecord p = 1)
    (hkind : p.kind = (s.pen pen).kind) (hpart : p.part = (s.pen pen).part) :
    ∃ t, exec (.penReload a pen) s = .next t ∧ t.penState pen = 3 ∧
      t.pen pen = { s.pen pen with recd := reloaded (s.pen pen).recd p.recd } ∧ s.PenEnded 6 pen t := by
  have hst' : (s.penTaken 6 pen).penState pen = 3 := (State.penState_penTaken hpen).trans hst
  have hrun := State.runPen_reload (s := s.penTaken 6 pen) (arg := 0) hp hst' hcheck hkind hpart
  refine ⟨_, exec_penCommand rfl (by decide) (by decide) (by decide) hpen hbusy hfrozen hacc hrun, ?_, ?_, ?_⟩
  · exact (State.penState_congr (State.rget_penDone_chPenstat _ _ hpen)).trans hst'
  · exact (State.pen_penDone _ _ _).trans
      ((s.penTaken 6 pen).pen_modPen_same pen fun q => { q with recd := reloaded (s.pen pen).recd p.recd })
  · exact State.penEnded_penDone (by decide) hpen rfl rfl

/-- RESTORE: the paths of the mask are as after ATTACH, the others as before (R347, R377). -/
theorem exec_penRestore (harg : arg < 256) (hacc : s.accepts a .chPencmd 0 0 (penWord 7 arg pen)) (hst : s.penState pen ≠ 0) :
    ∃ t, exec (.penRestore a pen arg) s = .next t ∧ s.PenEnded 7 pen t ∧ ∀ i, i < 8 →
      if arg.testBit i then (t.pen pen).path i = PenPath.reset ∧ t.pathFailed pen i = false
      else (t.pen pen).path i = (s.pen pen).path i ∧ t.pathFailed pen i = s.pathFailed pen i := by
  obtain ⟨hstatus, hmem, hpaths⟩ := (s.penTaken 7 pen).restorePaths_spec (arg := arg) hpen rfl
  rw [← State.penState_penTaken (cmd := 7) hpen] at hst
  refine ⟨_, exec_penCommand rfl (by decide) (by decide) harg hpen hbusy hfrozen hacc (State.runPen_restore hst),
    State.penEnded_penDone (by decide) hpen hstatus hmem, fun i hi => ?_⟩
  obtain ⟨hpath, hfailed⟩ := hpaths i hi
  rw [State.pen_penDone, hpath, State.pathFailed_congr (State.rget_penDone_chPenstat _ _ hpen), hfailed]
  simp only [mem_maskPaths, hi, true_and]
  split
  · exact ⟨rfl, rfl⟩
  · exact ⟨rfl, State.pathFailed_congr (State.rget_penTaken_chPenstat hpen) i⟩

/-- FAIL: the paths of the mask have failed for the pen (R347, R377). -/
theorem exec_penFail (harg : arg < 256) (hacc : s.accepts a .chPencmd 0 0 (penWord 8 arg pen)) (hst : s.penState pen ≠ 0) :
    ∃ t, exec (.penFail a pen arg) s = .next t ∧ s.PenEnded 8 pen t ∧ t.chans = s.chans ∧
      ∀ i, i < 8 → t.pathFailed pen i = (arg.testBit i || s.pathFailed pen i) := by
  obtain ⟨hstatus, hchans, hmem, hfailed⟩ := (s.penTaken 8 pen).failPaths_spec (arg := arg) hpen rfl
  rw [← State.penState_penTaken (cmd := 8) hpen] at hst
  refine ⟨_, exec_penCommand rfl (by decide) (by decide) harg hpen hbusy hfrozen hacc (State.runPen_fail hst),
    State.penEnded_penDone (by decide) hpen hstatus hmem, (State.penDone_chans _ _).trans hchans, fun i hi => ?_⟩
  rw [State.pathFailed_congr (State.rget_penDone_chPenstat _ _ hpen), hfailed i hi,
    State.pathFailed_congr (State.rget_penTaken_chPenstat hpen)]
  simp only [mem_maskPaths, hi, true_and]
  split
  next h => rw [h, Bool.true_or]
  next h => rw [Bool.eq_false_of_not_eq_true h, Bool.false_or]

/-- MOVE to a drover that is RUNNING: the group is marked, its pens PAUSED, and the command waits (R347, R384). -/
theorem exec_penMove (harg : arg < 32) (hacc : s.accepts a .chPencmd 0 0 (penWord 9 arg pen)) (hst : s.rfld .chDrovstat arg 0 63 61 = 0)
    (hctl : s.rbit .chDrovctl arg 0 0 = false) : ∃ t, exec (.penMove a pen arg) s = .next t ∧ t.rbit .chPengrp (pen / 64) 0 63 = true ∧
      (∀ n, n / 64 = pen / 64 → t.rbit .chPenstat n 0 60 = true) ∧ t.chans.waiting = some (BitVec.ofNat 64 arg) ∧
      t.rbit .chPencmdstat 0 0 63 = true ∧ t.mem = s.mem := by
  have hg : pen / 64 < 1024 := by omega
  have hrun := State.runPen_move (s := s.penTaken 9 pen) (arg := arg) (pen := pen)
    ((State.rfld_congr (State.rget_penTaken (by decide) harg Nat.zero_lt_one) 63 61).trans hst)
    ((State.rbit_congr (State.rget_penTaken (by decide) harg Nat.zero_lt_one) 0).trans hctl)
  refine ⟨_, exec_penCommand rfl (by decide) (by decide) (by omega) hpen hbusy hfrozen hacc hrun,
    ?_, fun n hn => ?_, ?_, ?_, ?_⟩
  · rw [State.rbit, State.rget_modCh, State.rget_pauseGroup _ hg (by decide) hg Nat.zero_lt_one]
    exact State.rbit_rput_bit _ _ _ _ 1 (by decide)
  · rw [State.rbit, State.rget_modCh]
    exact State.paused_pauseGroup _ hn
  · rw [State.modCh_chans]
  · rw [State.rbit, State.rget_modCh, State.rget_pauseGroup _ hg (by decide) Nat.zero_lt_one Nat.zero_lt_one]
    rw [State.rget_rput_other _ _ _ (by decide) Nat.zero_lt_one Nat.zero_lt_one hg Nat.zero_lt_one, State.penTaken,
      State.rget_rset_same, flag, BitVec.toNat_ofNat, Nat.mod_eq_of_lt (by omega)]
    exact Nat.testBit_of_two_pow_le_and_two_pow_add_one_gt (by omega) (by omega)
  · rw [State.modCh_mem, State.pauseGroup_mem _ hg, State.rput_mem, State.penTaken_mem]

end

/-! ### ABORT of a sentence that waits -/

/-- The one sentence that waits for a pen without commands completes ABORTED, out of its trough (R347, R378). -/
theorem State.penAbort_waiting {s : State} {q : Request} {t pen : Nat} (hw : s.waitingFor pen = [(t, q)])
    (hsents : ∀ x ∈ s.chans.sents, x.2.pen ≠ pen) : s.penAbort pen =
      ({ s with troughs := tput [] s.troughs t (delFirst (fun r => r == q) (tget [] s.troughs t)) }).complete q 0x107 (2 ^ 34) := by
  have hnone : (s.chans.sents.filter fun x => x.2.pen == pen && !x.2.sent && x.2.sends == 0) = [] :=
    List.filter_eq_nil_iff.2 fun x hx => by simp [hsents x hx]
  simp only [State.penAbort, hw, List.foldl_cons, List.foldl_nil, State.complete_chans, hnone]

/-! ### PEN_STOPPED and PEN_MOVE_COMPLETE -/

/-- A STOPPING pen with nothing sent is STOPPED, and the STOP that waits for it ends (R347, R348). -/
theorem execPenStopped_spec {s : State} {pen : Nat} (hpen : pen < 65536) (hst : s.penState pen = 2) (hfrozen : s.frozen = false)
    (hsents : ∀ x ∈ s.chans.sents, x.2.pen = pen → x.2.sent = false ∧ x.2.sends = 0) :
    ∃ t, execPenStopped pen s = .next t ∧ t.penState pen = 3 ∧
      (s.rbit .chPencmdstat 0 0 63 = true → s.rfld .chPencmdstat 0 0 59 56 = 2 → s.rfld .chPencmdstat 0 0 15 0 = pen →
        t.rbit .chPencmdstat 0 0 63 = false ∧ t.rfld .chPencmdstat 0 0 55 52 = 1 ∧ t.rbit .evStat 48 0 63 = true) ∧
      t.chans = s.chans ∧ t.mem = s.mem := by
  have hbusy : (s.chans.sents.any fun x => x.2.pen == pen && (x.2.sent || x.2.sends != 0)) = false := by
    refine List.any_eq_false.2 fun x hx => ?_
    by_cases h : x.2.pen = pen
    · simp [hsents x hx h]
    · simp [h]
  have hstatus : (s.setPenState pen 3).rget .chPencmdstat = s.rget .chPencmdstat := State.rget_chPencmdstat_rset _ hpen
  have hthree : (s.setPenState pen 3).penState pen = 3 := s.penState_setPenState pen (by decide)
  unfold execPenStopped
  dsimp only
  rw [if_neg (by simp [hfrozen, hst, hbusy]), hstatus]
  split
  next =>
    exact ⟨_, rfl, (State.penState_congr (State.rget_penDone_chPenstat _ _ hpen)).trans hthree,
      fun _ _ _ => State.penDone_status _ _ (by decide), State.penDone_chans _ _, State.penDone_mem _ _⟩
  next h => exact ⟨_, rfl, hthree, fun h63 hcmd hp => absurd ⟨h63, hcmd, hp⟩ h, rfl, rfl⟩

/-- The group goes on with its new drover, its pens PAUSED no more, and MOVE ends (R348, R384). -/
theorem execPenMoveComplete_spec {s : State} {g : Nat} {v : Word} (hg : g < 1024) (hwait : s.chans.waiting = some v)
    (hmove : s.rbit .chPengrp g 0 63 = true) (hfrozen : s.frozen = false) : ∃ t, execPenMoveComplete g s = .next t ∧
      t.rget .chPengrp g = BitVec.ofNat 64 (v.toNat % 32) ∧ (∀ n, n / 64 = g → t.rbit .chPenstat n 0 60 = false) ∧
      t.chans = { s.chans with waiting := none } ∧ t.rbit .chPencmdstat 0 0 63 = false ∧ t.rfld .chPencmdstat 0 0 55 52 = 1 ∧
      t.rbit .evStat 48 0 63 = true ∧ t.mem = s.mem := by
  have hrun : execPenMoveComplete g s = .next ((((s.rset .chPengrp g 0 (BitVec.ofNat 64 (v.toNat % 32))).pauseGroup g 0).modCh
      fun c => { c with waiting := none }).penDone 1) := by
    simp only [execPenMoveComplete, hwait, hmove, hfrozen, Bool.not_false, and_self, if_true, State.pauseGroup]
  obtain ⟨hend, hresult, hpend⟩ := State.penDone_status (((s.rset .chPengrp g 0 (BitVec.ofNat 64 (v.toNat % 32))).pauseGroup g 0).modCh
    fun c => { c with waiting := none }) 1 (by decide)
  refine ⟨_, hrun, ?_, fun n hn => ?_, ?_, hend, hresult, hpend, ?_⟩
  · rw [State.rget_penDone _ _ (by decide) (by decide) hg Nat.zero_lt_one, State.rget_modCh,
      State.rget_pauseGroup _ hg (by decide) hg Nat.zero_lt_one, State.rget_rset_same]
  · rw [State.rbit, State.rget_penDone_chPenstat _ _ (by omega), State.rget_modCh]
    exact State.paused_pauseGroup _ hn
  · rw [State.penDone_chans, State.modCh_chans, State.pauseGroup_chans _ hg, State.rset_chans]
  · rw [State.penDone_mem, State.modCh_mem, State.pauseGroup_mem _ hg, State.rset_mem]

end Sys2Proof.Machine
end

section
/-! Timeouts, commands sent again, and the power-fail drain (08, R374, R375, R380 to R383). -/

namespace Sys2Proof.Machine

/-! ### Timeouts and commands sent again -/

/-- The path of a command that has timed out fails for its pen (R374). -/
theorem execCommandTimeout_spec {s : State} {i : Nat} {e : Sent} (he : s.entry i = some e) (hsent : e.sent = true) (hfrozen : s.frozen = false)
    (hpen : e.pen < 65536) (hpath : e.path < 8) :
    ∃ t, execCommandTimeout i s = .next t ∧ t.pathFailed e.pen e.path = true ∧ t.chans = s.chans ∧ t.mem = s.mem := by
  simp only [execCommandTimeout, he]
  rw [if_pos ⟨hsent, by rw [hfrozen]; rfl⟩]
  refine ⟨_, rfl, ?_, State.failPath_chans _ _ _, State.failPath_mem _ _ _⟩
  rw [State.pathFailed_failPath _ _ _ hpen hpath hpath, if_pos rfl]

/-- The commands SENT on a failed path, each sent again or ended INDETERMINATE (R375). -/
theorem execPathFailureReissue_eq {s : State} {pen path : Nat} {again : State → Nat × Sent → State} (hfrozen : s.frozen = false)
    (hfailed : s.pathFailed pen path = true) (hagain : ∀ u j (x y : Sent), y = { x with tried := x.tried ||| 2 ^ path, sent := false } →
      again u (j, x) = if x.once then u.recordStatus j y 0x100 0 0 0 else ((u.setEntry j y).drained u (u.pen pen).group).sendCommand j y) :
    execPathFailureReissue pen path s = .next ((s.chans.sents.filter fun x => x.2.pen == pen && x.2.sent && x.2.path == path).foldl again s) := by
  unfold execPathFailureReissue
  rw [if_neg (by simp [hfrozen, hfailed])]
  have hbody := funext fun u => funext fun x : Nat × Sent => (hagain u x.1 x.2 _ rfl).symm
  exact congrArg (fun f => Host.Outcome.next (List.foldl f s (s.chans.sents.filter fun x => x.2.pen == pen && x.2.sent && x.2.path == path))) hbody

/-! ### The drain begins -/

/-- The ledger frozen, and a drain of all its entries under way (R380, R381). -/
def State.drainBegun (s : State) (crc : Nat) : State :=
  ((s.rput .chCtl 0 0 1 1 1).rset .chDrainstat 0 0 (BitVec.ofNat 64 (2 ^ 61 + s.chans.sents.length))).modCh
    fun c => { c with drain := some { count := s.chans.sents.length, crc := crc, ended := false } }

/-- Why a drain has no target: none is configured, or its pen is not ATTACHED or has no path (R380). -/
def State.drainFails (s : State) : Bool :=
  !s.rbit .chDraincfg 0 0 63 || (!s.rbit .chDraincfg 0 0 62 && (s.penState (s.rfld .chDraincfg 0 0 15 0) != 1 ||
    !(List.range 8).any (s.pathOk (s.rfld .chDraincfg 0 0 15 0))))

section
variable (s : State) (crc : Nat)

theorem State.drainBegun_sents : (s.drainBegun crc).chans.sents = s.chans.sents := rfl

theorem State.drainBegun_mem : (s.drainBegun crc).mem = s.mem := rfl

theorem State.rget_drainBegun {q : Reg} {k l : Nat} (hc : q ≠ .chCtl) (hd : q ≠ .chDrainstat) (hk : k < q.place.n1) (hl : l < q.place.n2) :
    (s.drainBegun crc).rget q k l = s.rget q k l := by
  rw [State.drainBegun, State.rget_modCh, State.rget_rset_other _ hd hk hl Nat.zero_lt_one Nat.zero_lt_one]
  exact State.rget_rput_other _ _ _ hc hk hl Nat.zero_lt_one Nat.zero_lt_one

theorem State.frozen_drainBegun : (s.drainBegun crc).frozen = true := by
  rw [State.frozen, State.rbit, State.drainBegun, State.rget_modCh, State.rget_rset_other _ (by decide) Nat.zero_lt_one Nat.zero_lt_one
    Nat.zero_lt_one Nat.zero_lt_one]
  exact State.rbit_rput_bit _ _ _ _ 1 (by decide)

end

/-- The image is that of the ledger's entries (R381). -/
theorem State.ledgerImage_congr {s t : State} (h : t.chans.sents = s.chans.sents) : t.ledgerImage = s.ledgerImage := by
  have hword : t.ledgerWord = s.ledgerWord := by
    funext i w
    simp only [State.ledgerWord, State.entry, h]
  simp only [State.ledgerImage, hword]

theorem State.drainHeader_drainBegun (s : State) (crc count n : Nat) : (s.drainBegun crc).drainHeader count n = s.drainHeader count n := by
  have hseq : (s.drainBegun crc).rget .shBootseq = s.rget .shBootseq :=
    s.rget_drainBegun crc (by decide) (by decide) Nat.zero_lt_one Nat.zero_lt_one
  have htime : (s.drainBegun crc).rget .pwAotime = s.rget .pwAotime :=
    s.rget_drainBegun crc (by decide) (by decide) Nat.zero_lt_one Nat.zero_lt_one
  rw [State.drainHeader, hseq, htime]
  rfl

/-- POWER_FAIL_DRAIN while none runs: it fails without a target, else writes image and header to a memory target, or leaves them
to the drovers (R380, R381). -/
theorem execPowerFailDrain_eq {s : State} (hheld : s.power.held = false) (hdrain : ∀ d, s.chans.drain = some d → d.ended = true) :
    execPowerFailDrain s =
      if s.drainFails then .next ((s.drainBegun (crc32c 0 []).toNat).drainEnd false false)
      else if s.rbit .chDraincfg 0 0 62 then
        .next (((s.drainBegun (crc32c 0 s.ledgerImage).toNat).cohWrite ((s.rget .chDrainaddr).toNat + 4096) s.ledgerImage).cohWrite
          (s.rget .chDrainaddr).toNat (s.drainHeader s.chans.sents.length (crc32c 0 s.ledgerImage).toNat ++ List.replicate 4056 0))
      else .next (s.drainBegun (crc32c 0 s.ledgerImage).toNat) := by
  have hnone : (s.chans.drain.filter fun d => !d.ended) = none := by
    rw [Option.filter_eq_none_iff]
    intro d hd
    simp [hdrain d hd]
  have himage : ((s.rput .chCtl 0 0 1 1 1).rset .chDrainstat 0 0 (BitVec.ofNat 64 (2 ^ 61 + s.chans.sents.length))).ledgerImage = s.ledgerImage :=
    State.ledgerImage_congr rfl
  have haddr (crc : Nat) : (s.drainBegun crc).rget .chDrainaddr = s.rget .chDrainaddr :=
    s.rget_drainBegun crc (by decide) (by decide) Nat.zero_lt_one Nat.zero_lt_one
  have hheader (crc : Nat) := s.drainHeader_drainBegun crc s.chans.sents.length crc
  unfold State.drainBegun at haddr hheader
  unfold execPowerFailDrain State.drainFails State.drainBegun
  rw [if_neg (by simp [hheld, hnone])]
  simp only [himage, haddr, hheader]
  split
  next h => exact (if_pos h).symm
  next h => exact (if_neg h).symm

/-! ### The drain ends, and the ledger thaws -/

/-- A drain that ends sets DONE or FAILED, and LATE, and raises CH_DRAIN (R382, R383). -/
theorem State.drainEnd_spec {s t : State} {ok late : Bool} (ht : t = s.drainEnd ok late) : t.rfld .chDrainstat 0 0 63 61 = (if ok then 2 else 3) ∧
    t.rbit .chDrainstat 0 0 60 = (ok && late) ∧ t.rbit .evStat 52 0 63 = true ∧
    t.chans = { s.chans with drain := s.chans.drain.map fun d => { d with ended := true } } ∧ t.frozen = s.frozen ∧ t.mem = s.mem := by
  have hstat : t.rget .chDrainstat = setFlag (setFld (s.rget .chDrainstat) 63 61 (if ok then 2 else 3)) 60 (ok && late) := by
    rw [ht, State.drainEnd, State.rget_raise_other (by decide) Nat.zero_lt_one Nat.zero_lt_one (by decide), State.rmod, State.rget_rset_same,
      State.rget_modCh]
  have hctl : t.rget .chCtl = s.rget .chCtl := by
    rw [ht, State.drainEnd, State.rget_raise_other (by decide) Nat.zero_lt_one Nat.zero_lt_one (by decide), State.rmod,
      State.rget_rset_other _ (by decide) Nat.zero_lt_one Nat.zero_lt_one Nat.zero_lt_one Nat.zero_lt_one, State.rget_modCh]
  refine ⟨?_, ?_, ?_, ?_, State.rbit_congr hctl 1, ?_⟩
  · rw [State.rfld, hstat, setFlag, fld_setFld_of_apart _ _ le_rfl (by decide) (by decide)]
    exact fld_setFld_same _ _ _ _ (by decide) (by decide) (by split <;> decide)
  · rw [State.rbit, hstat, flag_setFlag _ _ _ _ (by decide), if_pos rfl]
  · rw [ht]
    exact State.pend_raise _ _
  · rw [ht, State.drainEnd, State.raise_chans, State.rmod_chans, State.modCh_chans]
  · rw [ht, State.drainEnd, State.raise_mem, State.rmod_mem, State.modCh_mem]

/-- A drain without a target is FAILED at once, with the ledger frozen and kept (R380). -/
theorem execPowerFailDrain_fails {s : State} (hheld : s.power.held = false) (hdrain : ∀ d, s.chans.drain = some d → d.ended = true)
    (hfails : s.drainFails = true) : ∃ t, execPowerFailDrain s = .next t ∧ t.frozen = true ∧ t.chans.sents = s.chans.sents ∧
      t.rfld .chDrainstat 0 0 63 61 = 3 ∧ t.rbit .evStat 52 0 63 = true ∧ t.mem = s.mem := by
  obtain ⟨hstat, -, hpend, hchans, hfrozen, hmem⟩ := State.drainEnd_spec (s := s.drainBegun (crc32c 0 []).toNat) (ok := false) (late := false) rfl
  have hsents := (congrArg Chans.sents hchans).trans (s.drainBegun_sents (crc32c 0 []).toNat)
  exact ⟨_, (execPowerFailDrain_eq hheld hdrain).trans (if_pos hfails), hfrozen.trans (s.frozen_drainBegun _), hsents, hstat, hpend,
    hmem.trans (s.drainBegun_mem _)⟩

theorem execDrainComplete_running {s : State} {d : Drain} {ok late : Bool} (hdrain : s.chans.drain = some d) (hended : d.ended = false) :
    execDrainComplete ok late s = .next (s.drainEnd ok late) := by
  simp only [execDrainComplete, hdrain, hended, Bool.false_eq_true, if_false]

/-- LEDGER_THAW after a drain: the ledger is frozen no more, and a pen command that waited is carried out (R383). -/
theorem execLedgerThaw_spec {s : State} {d : Drain} (hdrain : s.chans.drain = some d) (hended : d.ended = true) (hfrozen : s.frozen = true) :
    (s.chans.waiting = none → execLedgerThaw s = .next (s.rput .chCtl 0 0 1 1 0)) ∧
    ∀ v, s.chans.waiting = some v → s.rbit .chPencmdstat 0 0 63 = true → fld v 59 56 ≠ 0 → execLedgerThaw s =
      .next (((s.rput .chCtl 0 0 1 1 0).modCh fun c => { c with waiting := none }).runPen (fld v 59 56) (fld v 55 48) (fld v 15 0)) := by
  have hstat : (s.rput .chCtl 0 0 1 1 0).rget .chPencmdstat = s.rget .chPencmdstat :=
    State.rget_rput_other _ _ _ (by decide) Nat.zero_lt_one Nat.zero_lt_one Nat.zero_lt_one Nat.zero_lt_one
  refine ⟨fun hw => ?_, fun v hw hbusy hcmd => ?_⟩
  · simp only [execLedgerThaw, hdrain, hended, hfrozen, State.rput_chans, hw, Bool.not_true, Bool.false_eq_true, or_self, if_false]
  · have hflag : flag (s.rget .chPencmdstat) 63 = true := hbusy
    simp only [execLedgerThaw, hdrain, hended, hfrozen, State.rput_chans, hw, hstat, hflag, Bool.not_true, Bool.false_eq_true, or_self, if_false,
      ne_eq, hcmd, not_false_eq_true, and_self, if_true]

end Sys2Proof.Machine

open Sys2Proof Sys2Proof.Machine

/-- Settles O47: each pen command by what it makes of its pen, the end of a STOP and of a MOVE, and the drain from its start to the thaw. -/
theorem penCommandsAndTheDrain : Obligations.PenCommandsAndTheDrain := by
  refine ⟨fun s a pen arg hpen harg hbusy hfrozen => ?commands, fun s q t pen => State.penAbort_waiting,
    fun s pen g hpen hg => ⟨execPenStopped_spec hpen, fun v => execPenMoveComplete_spec hg⟩,
    fun s i e he hsent hfrozen hpen hpath => ⟨execCommandTimeout_spec he hsent hfrozen hpen hpath,
      fun hfailed again => execPathFailureReissue_eq hfrozen hfailed⟩,
    ?drain, fun s d hdrain => ⟨fun ok late hended => ?complete, fun hended hfrozen => execLedgerThaw_spec hdrain hended hfrozen⟩⟩
  case commands =>
    exact ⟨fun p hp => exec_penAttach hpen hbusy hfrozen hp, exec_penStop hpen hbusy hfrozen, exec_penResume hpen hbusy hfrozen,
      exec_penAbort hpen hbusy hfrozen, exec_penDetach hpen hbusy hfrozen, fun p hp => exec_penReload hpen hbusy hfrozen hp,
      exec_penRestore hpen hbusy hfrozen harg, exec_penFail hpen hbusy hfrozen harg, fun hacc hlt => exec_penMove hpen hbusy hfrozen hlt hacc⟩
  case drain =>
    rintro s hheld hdrain crc fails rfl (rfl : fails = s.drainFails)
    refine ⟨execPowerFailDrain_fails hheld hdrain, fun w hw hf => ?_⟩
    subst hw
    have hrun := (execPowerFailDrain_eq hheld hdrain).trans (if_neg (by rw [hf]; decide))
    exact ⟨s.frozen_drainBegun _, fun hpen => hrun.trans (if_neg (by rw [hpen]; decide)), fun hmemory => hrun.trans (if_pos hmemory)⟩
  case complete =>
    obtain ⟨hstat, hlate, hpend, hchans, -, hmem⟩ := State.drainEnd_spec (s := s) (ok := ok) (late := late) rfl
    rw [hdrain] at hchans
    exact ⟨_, execDrainComplete_running hdrain hended, hstat, hlate, hpend, congrArg Chans.drain hchans, hmem⟩

end

section
/-! What the link services leave of a state: registers but the named ones, and the events that pend. -/

namespace Sys2Proof.Machine

/-! ### Runs of updates, fields -/

/-- A relation that each update of a run keeps holds from before the run to after it; and before and after any one of its updates. -/
theorem State.foldl_related {α : Type} {R : State → State → Prop} (hrefl : ∀ s, R s s) (htrans : ∀ {s t u}, R s t → R t u → R s u)
    {f : State → α → State} {l : List α} (h : ∀ s, ∀ x ∈ l, R s (f s x)) (s : State) : R s (l.foldl f s) := by
  induction l generalizing s with
  | nil => exact hrefl s
  | cons x l ih => exact htrans (h s x List.mem_cons_self) (ih (fun s y hy => h s y (List.mem_cons_of_mem x hy)) _)

theorem State.foldl_visits {α : Type} {R : State → State → Prop} (hrefl : ∀ s, R s s) (htrans : ∀ {s t u}, R s t → R t u → R s u)
    {f : State → α → State} {l : List α} (h : ∀ s, ∀ x ∈ l, R s (f s x)) {x : α} (hx : x ∈ l) (s : State) :
    ∃ u, R s u ∧ R (f u x) (l.foldl f s) := by
  obtain ⟨l₁, l₂, rfl⟩ := List.append_of_mem hx
  rw [List.foldl_append, List.foldl_cons]
  exact ⟨l₁.foldl f s, State.foldl_related hrefl htrans (fun s y hy => h s y (List.mem_append_left _ hy)) s,
    State.foldl_related hrefl htrans (fun s y hy => h s y (List.mem_append_right _ (List.mem_cons_of_mem x hy))) _⟩

/-- A field takes as many bits of a number as it has. -/
theorem fld_setFld_mod (v : Word) {hi lo : Nat} (x : Nat) (h : lo ≤ hi) (hw : hi < 64) :
    fld (setFld v hi lo x) hi lo = x % 2 ^ (hi + 1 - lo) := by
  have hx : setFld v hi lo x = setFld v hi lo (x % 2 ^ (hi + 1 - lo)) := by rw [setFld, setFld, putBits, putBits, Nat.mod_mod]
  rw [hx, fld_setFld_same _ _ _ _ h hw (Nat.mod_lt _ (Nat.two_pow_pos _))]

theorem setFld_fld (v : Word) (hi lo : Nat) : setFld v hi lo (fld v hi lo) = v := by
  have hle : bits v.toNat hi lo * 2 ^ lo ≤ v.toNat := by
    rw [bits, Nat.shiftRight_eq_div_pow]
    exact (Nat.mul_le_mul_right _ (Nat.mod_le _ _)).trans (Nat.div_mul_le_self _ _)
  have hlt : bits v.toNat hi lo < 2 ^ (hi + 1 - lo) := fld_lt v hi lo
  rw [setFld, putBits, fld, Nat.mod_eq_of_lt hlt, Nat.sub_add_cancel hle, BitVec.ofNat_toNat, BitVec.setWidth_eq]

/-! ### What a service leaves -/

/-- The registers that say what a link service did: those up to the states of the pens, but for the events. -/
def Reg.upToPens (q : Reg) : Bool :=
  q != .evStat && decide (q.place.base + (q.place.n1 - 1) * q.place.s1 + (q.place.n2 - 1) * q.place.s2 < Reg.chPenstat.addr 65536)

/-- They are apart from the state of any pen, be it one of the 65,536 or not. -/
theorem Reg.addr_ne_chPenstat {q : Reg} {k l : Nat} (hq : q.upToPens = true) (hne : q ≠ .chPenstat) (hk : k < q.place.n1)
    (hl : l < q.place.n2) (n : Nat) : q.addr k l ≠ Reg.chPenstat.addr n := by
  by_cases hn : n < 65536
  · exact Reg.addr_ne hk hl hn Nat.zero_lt_one hne
  · have hlast := of_decide_eq_true (Bool.and_eq_true_iff.1 hq).2
    have h1 : k * q.place.s1 ≤ (q.place.n1 - 1) * q.place.s1 := Nat.mul_le_mul_right _ (by omega)
    have h2 : l * q.place.s2 ≤ (q.place.n2 - 1) * q.place.s2 := Nat.mul_le_mul_right _ (by omega)
    have hpen : Reg.chPenstat.addr 65536 ≤ Reg.chPenstat.addr n := by
      simp only [Reg.addr, Reg.place]
      omega
    unfold Reg.addr at hlast hpen ⊢
    omega

/-- From `s` to `t` memory and the pens are as they were, the registers up to the pens' states but those of `X` read as they did, and
no pending event is lost. -/
structure State.KeepsBut (X : List Reg) (s t : State) : Prop where
  mem : t.mem = s.mem
  chans : t.chans = s.chans
  reg : ∀ {q : Reg} {k l : Nat}, q.upToPens = true ∧ q ∉ X → k < q.place.n1 → l < q.place.n2 → t.rget q k l = s.rget q k l
  pend : ∀ {src : Nat}, src < 2048 → s.rbit .evStat src 0 63 = true → t.rbit .evStat src 0 63 = true

namespace State.KeepsBut

variable {X Y : List Reg} {s t u : State}

theorem refl (X : List Reg) (s : State) : KeepsBut X s s := ⟨rfl, rfl, fun _ _ _ => rfl, fun _ h => h⟩

theorem trans (h : KeepsBut X s t) (k : KeepsBut X t u) : KeepsBut X s u :=
  ⟨k.mem.trans h.mem, k.chans.trans h.chans, fun hq hk hl => (k.reg hq hk hl).trans (h.reg hq hk hl), fun hs hp => k.pend hs (h.pend hs hp)⟩

theorem mono (h : KeepsBut X s t) (hXY : X ⊆ Y) : KeepsBut Y s t :=
  ⟨h.mem, h.chans, fun hq => h.reg ⟨hq.1, fun hX => hq.2 (hXY hX)⟩, h.pend⟩

theorem of_eq (hm : t.mem = s.mem) (hc : t.chans = s.chans) (hr : t.regs = s.regs) : KeepsBut X s t :=
  ⟨hm, hc, fun _ _ _ => State.rget_of_regs_eq hr _ _ _, fun _ h => (State.rbit_congr (State.rget_of_regs_eq hr _ _ _) 63).trans h⟩

theorem foldl {α : Type} {f : State → α → State} {l : List α} (h : ∀ s, ∀ x ∈ l, KeepsBut X s (f s x)) (s : State) :
    KeepsBut X s (l.foldl f s) :=
  State.foldl_related (refl X) trans h s

theorem rset {r : Reg} {i j : Nat} (v : Word) (hr : r ∈ X) (he : r ≠ .evStat) (hi : i < r.place.n1) (hj : j < r.place.n2) :
    KeepsBut X s (s.rset r i j v) :=
  ⟨rfl, rfl, fun hq hk hl => State.rget_rset_other _ (fun e => hq.2 (e ▸ hr)) hk hl hi hj,
    fun hs h => (State.rbit_congr (State.rget_rset_other _ he.symm hs Nat.zero_lt_one hi hj) 63).trans h⟩

theorem raise {src : Nat} (hs : src < 2048) : KeepsBut X s (s.raise src) := by
  refine ⟨State.raise_mem _ _, State.raise_chans _ _, fun hq hk hl => ?_, fun {n} _ h => ?_⟩
  · exact State.rget_raise_other (fun e => absurd hq.1 (by rw [e]; decide)) hk hl hs
  · by_cases hn : n = src
    · exact hn ▸ State.pend_raise s src
    · refine (State.rbit_congr (s.rget_raise_ne src _ _ _ ?_) 63).trans h
      simp only [Reg.addr, Reg.place]
      omega

theorem linkState {p : Nat} (h : KeepsBut X s t) (hX : .lkStat ∉ X) (hp : p < 128) : t.linkState p = s.linkState p :=
  State.rfld_congr (h.reg ⟨by decide, hX⟩ hp Nat.zero_lt_one) 63 61

end State.KeepsBut

/-! ### Messages and routes (R416, R423 to R427) -/

namespace State.KeepsBut

variable {X : List Reg} {s t : State}

theorem modCore (n : Nat) (f : Core → Core) : KeepsBut X s (s.modCore n f) := of_eq rfl rfl rfl

theorem sendMsgs (ms : List Msg) (bl : List (Nat × Nat)) : KeepsBut X s (sendMsgs ms bl s) := by
  obtain ⟨q, p, h⟩ := s.sendMsgs_spec ms bl
  rw [h]
  exact of_eq rfl rfl rfl

theorem pumpMsgs (s : State) : KeepsBut X s s.pumpMsgs :=
  (of_eq rfl rfl rfl : KeepsBut X s { s with msgs := [] }).trans (sendMsgs _ _)

theorem send (mtype dst tid addr param : Nat) (body : List Word) : KeepsBut X s (s.send mtype dst tid addr param body) := by
  unfold State.send State.post
  refine trans ?_ (pumpMsgs _)
  exact of_eq rfl rfl rfl

theorem unserved (line place : Nat) : KeepsBut X s (s.unserved line place) := by
  unfold State.unserved
  extract_lets gone ca s1 fetchers s2
  exact (of_eq rfl rfl rfl : KeepsBut X s s2).trans (foldl (fun _ _ _ => modCore _ _) _)

theorem moduleLost (m : Nat) : KeepsBut X s (s.moduleLost m) :=
  (foldl (fun _ _ _ => unserved _ _) s).trans (of_eq rfl rfl rfl)

theorem updateRoutes (s : State) : KeepsBut [.lkRoute, .lkPstat] s s.updateRoutes := by
  unfold State.updateRoutes
  extract_lets others new changed lost s1 s2
  have h1 : KeepsBut [.lkRoute, .lkPstat] s s1 := by
    refine foldl (fun t x hx => ?_) s
    obtain ⟨d, hd, rfl⟩ := List.mem_map.1 hx
    have hd8 : d < 8 := List.mem_range.1 (List.mem_filter.1 hd).1
    exact ((rset _ (by decide) (by decide) hd8 Nat.zero_lt_one).trans (rset _ (by decide) (by decide) Nat.zero_lt_one Nat.zero_lt_one)).trans
      (rset _ (by decide) (by decide) Nat.zero_lt_one Nat.zero_lt_one)
  have h2 : KeepsBut [.lkRoute, .lkPstat] s1 s2 := by
    unfold s2
    split
    · exact raise (by decide)
    · exact refl _ _
  exact ((h1.trans h2).trans (foldl (fun _ _ _ => moduleLost _) _)).trans (pumpMsgs _)

theorem tellNeighbours (d : Nat) (down : Bool) : KeepsBut X s (s.tellNeighbours d down) :=
  foldl (fun _ _ _ => send _ _ _ _ _ _) s

/-- LK_PSTAT belongs to the routes. -/
theorem rput_lkPstat (hi lo x : Nat) : KeepsBut [.lkRoute, .lkPstat] s (s.rput .lkPstat 0 0 hi lo x) :=
  rset _ (by decide) (by decide) Nat.zero_lt_one Nat.zero_lt_one

theorem activate (s : State) (g : Nat) : KeepsBut [.lkRoute, .lkPstat] s (s.activate g) := by
  unfold State.activate
  extract_lets d old indirect s1 s2
  have h1 : KeepsBut [.lkRoute, .lkPstat] s s1 := by
    unfold s1
    split
    · exact (send _ _ _ _ _ _).trans (of_eq rfl rfl rfl)
    · exact refl _ _
  exact (((h1.trans (rput_lkPstat _ _ _)).trans (rput_lkPstat _ _ _)).trans (updateRoutes s2)).trans (tellNeighbours _ _)

theorem ngatraDown (s : State) (p : Nat) : KeepsBut [.lkRoute, .lkPstat] s (s.ngatraDown p) := by
  unfold State.ngatraDown
  extract_lets g d l was s1 s2 s3 s4
  have h1 : KeepsBut [.lkRoute, .lkPstat] s s1 := ((rput_lkPstat _ _ _).trans (rput_lkPstat _ _ _)).trans (of_eq rfl rfl rfl)
  have h3 : KeepsBut [.lkRoute, .lkPstat] s2 s3 := by
    unfold s3
    split
    · split
      · exact activate _ _
      · exact updateRoutes _
    · exact updateRoutes _
  have h4 : KeepsBut [.lkRoute, .lkPstat] s3 s4 := by
    unfold s4
    split
    · exact send _ _ _ _ _ _
    · exact of_eq rfl rfl rfl
  split
  · exact h1.trans (updateRoutes _)
  · exact (((h1.trans (of_eq rfl rfl rfl : KeepsBut _ s1 s2)).trans h3).trans h4).trans (tellNeighbours _ _)

end State.KeepsBut

end Sys2Proof.Machine
end

section
/-! The state of a link, the paths over it, and a link that goes down (08, R374; 09, R412, R420, R435, R438). -/

namespace Sys2Proof.Machine

/-! ### LK_STAT (R435) -/

section
variable (s : State) (p v : Nat)

theorem State.KeepsBut.modPorts {X : List Reg} (s : State) (f : PortOps → PortOps) : State.KeepsBut X s (s.modPorts f) := .of_eq rfl rfl rfl

theorem State.rget_modPorts (f : PortOps → PortOps) (r : Reg) (i j : Nat) : (s.modPorts f).rget r i j = s.rget r i j := rfl

/-- LK_STAT after a link has taken a state; an unchanged state is written again. -/
theorem State.rget_setLink (hp : p < 128) : (s.setLink p v).rget .lkStat p = setFld (s.rget .lkStat p) 63 61 v := by
  unfold State.setLink
  split
  next h =>
    rw [← h]
    exact (setFld_fld _ _ _).symm
  next =>
    rw [State.lkLink, State.rget_raise_other (by decide) hp Nat.zero_lt_one (by omega)]
    exact s.rget_rset_same _ _ _ _

theorem State.keepsBut_setLink (hp : p < 128) : State.KeepsBut [.lkStat] s (s.setLink p v) := by
  unfold State.setLink
  split
  · exact .refl _ _
  · exact State.KeepsBut.trans (.rset _ (by decide) (by decide) hp Nat.zero_lt_one) (.raise (by omega))

theorem State.linkState_setLink (hp : p < 128) (hv : v < 8) : (s.setLink p v).linkState p = v := by
  rw [State.linkState, State.rfld, s.rget_setLink p v hp, fld_setFld_same _ _ _ _ (by decide) (by decide) hv]

@[simp] theorem State.raise_ports (src : Nat) : (s.raise src).ports = s.ports := by
  obtain ⟨q, f, e, -⟩ := s.raise_spec src
  rw [e]
  rfl

@[simp] theorem State.setLink_ports : (s.setLink p v).ports = s.ports := by
  simp only [State.setLink, State.lkLink, apply_ite State.ports, State.raise_ports, State.rput_ports, ite_self]

end

/-- The end of a LINK command clears BUSY alone. -/
theorem State.linkCmdDone_spec (s : State) {p : Nat} (hp : p < 128) : State.KeepsBut [.lkStat] s (s.linkCmdDone p) ∧
    (s.linkCmdDone p).rget .lkStat p = setFld (s.rget .lkStat p) 31 31 0 ∧ (s.linkCmdDone p).ports = { s.ports with cmd := tdel s.ports.cmd p } :=
  ⟨.trans (.rset (r := .lkStat) _ List.mem_cons_self (by decide) hp Nat.zero_lt_one) (.modPorts _ _), s.rget_rset_same _ _ _ _, rfl⟩

/-! ### LK_ERRLOG (R438) -/

/-- An error raises LK_XFER, and the first is recorded with its cause. -/
theorem State.lkError_spec (s : State) {p cause : Nat} (rid addr : Nat) (hp : p < 128) (hc : cause < 16) :
    State.KeepsBut [.lkErrlog, .lkErraddr] s (s.lkError p cause rid addr) ∧
    (s.rbit .lkErrlog p 0 63 = false → (s.lkError p cause rid addr).rfld .lkErrlog p 0 61 58 = cause) ∧
    (s.lkError p cause rid addr).rbit .evStat (129 + 2 * p) 0 63 = true := by
  unfold State.lkError
  extract_lets v s1
  refine ⟨State.KeepsBut.trans ?_ (.raise (by omega)), fun h => ?_, State.pend_raise _ _⟩
  · unfold s1
    split
    · exact .rset _ (by decide) (by decide) hp Nat.zero_lt_one
    · exact .trans (.rset _ (by decide) (by decide) hp Nat.zero_lt_one) (.rset _ (by decide) (by decide) hp Nat.zero_lt_one)
  · have hlog : s1.rget .lkErrlog p = BitVec.ofNat 64 (2 ^ 63 + cause * 2 ^ 58 + rid % 2 ^ 16) := by
      have hv : flag v 63 = false := h
      unfold s1
      rw [hv, if_neg Bool.false_ne_true, State.rget_rset_other _ (by decide) hp Nat.zero_lt_one hp Nat.zero_lt_one, State.rget_rset_same]
    rw [State.rfld, State.rget_raise_other (by decide) hp Nat.zero_lt_one (by omega), hlog]
    simp only [fld, bits, BitVec.toNat_ofNat, Nat.shiftRight_eq_div_pow]
    omega

@[simp] theorem State.lkError_ports (s : State) (p cause rid addr : Nat) : (s.lkError p cause rid addr).ports = s.ports := by
  simp only [State.lkError, State.raise_ports, apply_ite State.ports, State.rset_ports, ite_self]

/-! ### Paths over a link that goes down (R374) -/

/-- What the failure of paths keeps: the pens' states, the paths that have failed already, and what any link service keeps. -/
structure State.PathsFail (s t : State) : Prop where
  keeps : State.KeepsBut [.chPenstat] s t
  state : ∀ n, n < 65536 → t.penState n = s.penState n
  failed : ∀ n i, n < 65536 → i < 8 → s.pathFailed n i = true → t.pathFailed n i = true

namespace State.PathsFail

variable {s t u : State}

theorem refl (s : State) : PathsFail s s := ⟨.refl _ _, fun _ _ => rfl, fun _ _ _ _ h => h⟩

theorem trans (h : PathsFail s t) (k : PathsFail t u) : PathsFail s u :=
  ⟨h.keeps.trans k.keeps, fun n hn => (k.state n hn).trans (h.state n hn), fun n i hn hi hf => k.failed n i hn hi (h.failed n i hn hi hf)⟩

theorem foldl {α : Type} {f : State → α → State} {l : List α} (h : ∀ s, ∀ x ∈ l, PathsFail s (f s x)) (s : State) : PathsFail s (l.foldl f s) :=
  State.foldl_related refl trans h s

theorem visits {α : Type} {f : State → α → State} {l : List α} (h : ∀ s, ∀ x ∈ l, PathsFail s (f s x)) {x : α} (hx : x ∈ l) (s : State) :
    ∃ u, PathsFail s u ∧ PathsFail (f u x) (l.foldl f s) :=
  State.foldl_visits refl trans h hx s

theorem raise {src : Nat} (hs : src < 2048) : PathsFail s (s.raise src) :=
  have hpen {n : Nat} (hn : n < 65536) : (s.raise src).rget .chPenstat n = s.rget .chPenstat n :=
    State.rget_raise_other (by decide) hn Nat.zero_lt_one hs
  ⟨.raise hs, fun _ hn => State.penState_congr (hpen hn), fun _ i hn _ h => (State.pathFailed_congr (hpen hn) i).trans h⟩

/-- One failed flag of a pen set. -/
theorem rput (m : Nat) {i : Nat} (hi : i < 8) : PathsFail s (s.rput .chPenstat m 0 (32 + i) (32 + i) 1) := by
  have hne {n : Nat} (h : n ≠ m) : (s.rput .chPenstat m 0 (32 + i) (32 + i) 1).rget .chPenstat n = s.rget .chPenstat n :=
    State.rget_chPenstat_rset_ne _ h
  refine ⟨⟨rfl, rfl, fun hq hk hl => ?_, fun hs h => ?_⟩, fun n _ => ?_, fun n j _ hj h => ?_⟩
  · exact s.rget_rset_ne _ _ _ _ _ _ _ (Reg.addr_ne_chPenstat hq.1 (fun e => hq.2 (e ▸ List.mem_cons_self)) hk hl m)
  · refine (State.rbit_congr (s.rget_rset_ne _ _ _ _ _ _ _ ?_) 63).trans h
    simp only [Reg.addr, Reg.place]
    omega
  · by_cases hn : n = m
    · rw [hn]
      exact s.rfld_rput_of_apart .chPenstat m 0 1 le_rfl (by decide) (.inl (by omega))
    · exact State.penState_congr (hne hn)
  · by_cases hn : n = m
    · rw [hn, State.pathFailed_rput _ _ _ hi hj]
      split
      · rfl
      · exact hn ▸ h
    · exact (State.pathFailed_congr (hne hn) j).trans h

theorem failPath (m : Nat) {i : Nat} (hi : i < 8) : PathsFail s (s.failPath m i) := by
  unfold State.failPath
  split
  · exact refl s
  · exact (rput m hi).trans (raise (by decide))

theorem pathsOver {n g p i : Nat} (h : i ∈ s.pathsOver n g p) : i < 8 := List.mem_range.1 (List.mem_filter.1 h).1

theorem failPaths (m g p : Nat) : PathsFail s ((s.pathsOver m g p).foldl (fun s i => s.failPath m i) s) :=
  foldl (fun _ _ hi => failPath m (pathsOver hi)) s

end State.PathsFail

/-- The paths of one pen over a link that goes down fail, where the pen is not DETACHED. -/
def State.failPen (p : Nat) (s : State) (n : Nat) : State :=
  if s.penState n = 0 then s else (s.pathsOver n (s.pen n).group p).foldl (fun s i => s.failPath n i) s

/-- CH_PATH raised once for each path of a group over a link. -/
def State.tellPaths (p : Nat) (s : State) (g : Nat) : State :=
  ((List.range 8).filter fun i => s.pathValid g i && s.pathPort g i == p).foldl (fun s _ => s.raise 51) s

theorem State.failPort_eq (s : State) (p : Nat) : s.failPort p =
    (((List.range 256).foldl (State.tellPaths p) s).chans.pens.map fun x => x.1).foldl (State.failPen p)
      ((List.range 256).foldl (State.tellPaths p) s) := rfl

theorem State.pathsFail_failPen (p : Nat) (s : State) (n : Nat) : State.PathsFail s (s.failPen p n) := by
  unfold State.failPen
  split
  · exact .refl s
  · exact .failPaths _ _ _

theorem State.pathsFail_tellPaths (p : Nat) (s : State) (g : Nat) : State.PathsFail s (s.tellPaths p g) :=
  State.PathsFail.foldl (fun _ _ _ => .raise (by decide)) s

theorem State.pathsFail_foldl_tellPaths (s : State) (p : Nat) : State.PathsFail s ((List.range 256).foldl (State.tellPaths p) s) :=
  State.PathsFail.foldl (fun t g _ => t.pathsFail_tellPaths p g) s

theorem State.pathsFail_failPort (s : State) (p : Nat) : State.PathsFail s (s.failPort p) :=
  (s.pathsFail_foldl_tellPaths p).trans (State.PathsFail.foldl (fun t n _ => t.pathsFail_failPen p n) _)

/-- A path of a pen that is not DETACHED over a link that goes down fails. -/
theorem State.failPen_fails {s : State} {n i p : Nat} (hn : n < 65536) (hi : i < 8) (hst : s.penState n ≠ 0)
    (hv : s.pathValid (s.pen n).group i = true) (hport : s.pathPort (s.pen n).group i = p) : (s.failPen p n).pathFailed n i = true := by
  have hmem : i ∈ s.pathsOver n (s.pen n).group p := by
    refine List.mem_filter.2 ⟨List.mem_range.2 hi, ?_⟩
    simp [hv, hport]
  obtain ⟨u, -, hu⟩ := State.PathsFail.visits (f := fun s i => s.failPath n i) (fun _ _ hj => .failPath n (State.PathsFail.pathsOver hj)) hmem s
  rw [State.failPen, if_neg hst]
  refine hu.failed n i hn hi ?_
  rw [State.pathFailed_failPath _ _ _ hn hi hi, if_pos rfl]

/-- Every path over a link that goes down fails for every pen of its group that is not DETACHED. -/
theorem State.failPort_fails {s : State} {p i : Nat} {x : Nat × Pen} (hx : x ∈ s.chans.pens) (hn : x.1 < 65536) (hi : i < 8)
    (hst : s.penState x.1 ≠ 0) (hv : s.pathValid (s.pen x.1).group i = true) (hport : s.pathPort (s.pen x.1).group i = p) :
    (s.failPort p).pathFailed x.1 i = true := by
  have htold := s.pathsFail_foldl_tellPaths p
  have hmem : x.1 ∈ ((List.range 256).foldl (State.tellPaths p) s).chans.pens.map fun x => x.1 := by
    rw [htold.keeps.chans]
    exact List.mem_map_of_mem hx
  obtain ⟨u, hu, hend⟩ := State.PathsFail.visits (fun t n _ => t.pathsFail_failPen p n) hmem _
  have hsu := htold.trans hu
  have hg : (s.pen x.1).group < 256 := Nat.mod_lt _ (by decide)
  have hgroup : u.rget .chPathgrp (s.pen x.1).group = s.rget .chPathgrp (s.pen x.1).group :=
    hsu.keeps.reg (by decide) hg Nat.zero_lt_one
  rw [State.failPort_eq]
  refine hend.failed _ _ hn hi (State.failPen_fails hn hi ?_ ?_ ?_)
  · rw [hsu.state _ hn]
    exact hst
  · rw [State.pen_congr hsu.keeps.chans]
    exact (State.rbit_congr hgroup _).trans hv
  · rw [State.pen_congr hsu.keeps.chans]
    exact (State.rfld_congr hgroup _ _).trans hport

/-! ### A link goes down (R412, R420) -/

section
variable {s : State} {p v : Nat}

/-- What a link that goes down leaves before its paths fail: rate and lanes 0, and the new state. -/
def State.linkLost (s : State) (p v : Nat) : State := (s.rmod .lkStat p 0 fun w => setFld w 60 52 0).setLink p v

theorem State.keepsBut_linkLost (s : State) (v : Nat) (hp : p < 128) : State.KeepsBut [.lkStat] s (s.linkLost p v) :=
  (State.KeepsBut.rset _ (by decide) (by decide) hp Nat.zero_lt_one).trans (State.keepsBut_setLink _ _ _ hp)

/-- A link that goes down. -/
theorem State.linkDown_eq (hs : s.linkState p = 2 ∨ s.linkState p = 3) (hv : v = 1 ∨ v = 4) : s.linkDown p v =
    if ((s.linkLost p v).failPort p).linkRole p = 2 then ((s.linkLost p v).failPort p).ngatraDown p else (s.linkLost p v).failPort p :=
  if_neg (by omega)

theorem State.linkDown_spec (hp : p < 128) (hs : s.linkState p = 2 ∨ s.linkState p = 3) (hv : v = 1 ∨ v = 4) :
    (s.linkDown p v).linkState p = v ∧ State.KeepsBut [.lkStat, .lkRoute, .lkPstat, .chPenstat] s (s.linkDown p v) := by
  have hlost := s.keepsBut_linkLost v hp
  have hfail := ((s.linkLost p v).pathsFail_failPort p).keeps
  have hst : ((s.linkLost p v).failPort p).linkState p = v :=
    (hfail.linkState (by decide) hp).trans (State.linkState_setLink _ _ _ hp (by omega))
  have hkeep : State.KeepsBut [.lkStat, .lkRoute, .lkPstat, .chPenstat] s ((s.linkLost p v).failPort p) :=
    (hlost.mono (by decide)).trans (hfail.mono (by decide))
  rw [State.linkDown_eq hs hv]
  split
  · have hdown := State.KeepsBut.ngatraDown ((s.linkLost p v).failPort p) p
    exact ⟨(hdown.linkState (by decide) hp).trans hst, hkeep.trans (hdown.mono (by decide))⟩
  · exact ⟨hst, hkeep⟩

/-- The paths over a link that goes down fail for the pens of their groups (R374). -/
theorem State.linkDown_fails {x : Nat × Pen} {i : Nat} (hp : p < 128) (hs : s.linkState p = 2 ∨ s.linkState p = 3) (hv : v = 1 ∨ v = 4)
    (hx : x ∈ s.chans.pens) (hn : x.1 < 65536) (hi : i < 8) (hst : s.penState x.1 ≠ 0) (hvalid : s.pathValid (s.pen x.1).group i = true)
    (hport : s.pathPort (s.pen x.1).group i = p) : (s.linkDown p v).pathFailed x.1 i = true := by
  have hlost := s.keepsBut_linkLost v hp
  have hg : (s.pen x.1).group < 256 := Nat.mod_lt _ (by decide)
  have hgroup : (s.linkLost p v).rget .chPathgrp (s.pen x.1).group = s.rget .chPathgrp (s.pen x.1).group :=
    hlost.reg (by decide) hg Nat.zero_lt_one
  have hpen := State.pen_congr hlost.chans x.1
  have hfails : ((s.linkLost p v).failPort p).pathFailed x.1 i = true := by
    refine State.failPort_fails (by rwa [hlost.chans]) hn hi ?_ ?_ ?_
    · rwa [State.penState_congr (hlost.reg (by decide) hn Nat.zero_lt_one)]
    · rw [hpen]
      exact (State.rbit_congr hgroup _).trans hvalid
    · rw [hpen]
      exact (State.rfld_congr hgroup _ _).trans hport
  rw [State.linkDown_eq hs hv]
  split
  · exact (State.pathFailed_congr ((State.KeepsBut.ngatraDown _ p).reg (by decide) hn Nat.zero_lt_one) i).trans hfails
  · exact hfails

end

end Sys2Proof.Machine
end

section
/-! LINK commands, margins and LK_DREQ at their stores (09, R408, R429 to R431, R436 to R439). -/

namespace Sys2Proof.Machine

/-! ### LINK commands (R429, R431, R436) -/

/-- From `s`, command `n` of link `p` is under way in `t`, with the link in state `st`. -/
def State.LinkRuns (s t : State) (p n st : Nat) : Prop :=
  t.linkState p = st ∧ t.rbit .lkStat p 0 31 = true ∧ t.rbit .lkStat p 0 30 = false ∧ tget 0 t.ports.cmd p = n ∧ t.mem = s.mem

/-- BUSY set for a LINK command, CMDREJ clear. -/
def State.linkStarted (s : State) (p n : Nat) : State :=
  (s.rmod .lkStat p 0 fun v => setFlag (setFlag v 30 false) 31 true).modPorts fun x => { x with cmd := tins x.cmd p n }

section
variable {s : State} {a : Agent} {p n v : Nat}

theorem State.linkRuns_setLink (hp : p < 128) (hv : v < 8) : s.LinkRuns ((s.linkStarted p n).setLink p v) p n v := by
  have hstat : ((s.linkStarted p n).setLink p v).rget .lkStat p = setFld (setFlag (setFlag (s.rget .lkStat p) 30 false) 31 true) 63 61 v := by
    rw [State.rget_setLink _ _ _ hp]
    exact congrArg (setFld · 63 61 v) (s.rget_rset_same .lkStat p 0 _)
  refine ⟨State.linkState_setLink _ _ _ hp hv, ?_, ?_, ?_, (State.keepsBut_setLink _ _ _ hp).mem⟩
  · rw [State.rbit, hstat, flag_setFld_of_apart _ _ (by decide) (by decide) (by decide), flag_setFlag _ _ _ _ (by decide), if_pos rfl]
  · rw [State.rbit, hstat, flag_setFld_of_apart _ _ (by decide) (by decide) (by decide), flag_setFlag _ _ _ _ (by decide),
      if_neg (by decide), flag_setFlag _ _ _ _ (by decide), if_pos rfl]
  · rw [State.setLink_ports]
    exact tget_tins_same _ _ _ _

theorem State.linkState_linkStarted : (s.linkStarted p n).linkState p = s.linkState p := by
  have h : (s.linkStarted p n).rget .lkStat p = setFlag (setFlag (s.rget .lkStat p) 30 false) 31 true := s.rget_rset_same _ _ _ _
  rw [State.linkState, State.rfld, h, setFlag, fld_setFld_of_apart _ _ le_rfl (by decide) (by decide), setFlag,
    fld_setFld_of_apart _ _ le_rfl (by decide) (by decide)]
  rfl

/-- A LINK command that leaves the link's state as it is. -/
theorem State.linkRuns_linkStarted (hp : p < 128) : s.LinkRuns (s.linkStarted p n) p n (s.linkState p) := by
  have h : (s.linkStarted p n).setLink p (s.linkState p) = s.linkStarted p n := if_pos State.linkState_linkStarted
  have hst : s.linkState p < 8 := fld_lt _ 63 61
  exact h ▸ State.linkRuns_setLink (s := s) (n := n) hp hst

theorem exec_linkCommand {c : Instr} {st : Nat} {t : State} (h : exec c s = .next (s.regWrite a .lkCtl p 0 (BitVec.ofNat 64 n))) (hn : n < 16)
    (hacc : s.accepts a .lkCtl p 0 (BitVec.ofNat 64 n)) (hrun : s.linkCommand p n = t) (ht : s.LinkRuns t p n st) :
    ∃ t, exec c s = .next t ∧ s.LinkRuns t p n st := by
  have hf : fld (BitVec.ofNat 64 n) 3 0 = n := by
    simp only [fld, bits, BitVec.toNat_ofNat, Nat.shiftRight_zero]
    omega
  exact ⟨t, stores_of h (congrArg some ((congrArg (s.linkCommand p) hf).trans hrun)) hacc, ht⟩

variable (hp : p < 128) (hbusy : s.linkBusy p = false)
include hp hbusy

theorem exec_linkRetrain (hrole : s.linkRole p ≠ 0) (hst : s.linkState p ≠ 4) (hacc : s.accepts a .lkCtl p 0 (BitVec.ofNat 64 1)) :
    ∃ t, exec (.linkRetrain a p) s = .next t ∧ s.LinkRuns t p 1 (if s.linkState p = 1 then 1 else 3) := by
  refine exec_linkCommand rfl (by decide) hacc ?_ (State.linkRuns_setLink hp (by split <;> decide))
  simp only [State.linkCommand, hbusy, hrole, hst, Bool.false_eq_true, or_self, if_false, Nat.one_ne_zero]
  rfl

theorem exec_linkReeq_pcie (hst : s.linkState p = 2) (hr : s.linkRole p = 1) (hacc : s.accepts a .lkCtl p 0 (BitVec.ofNat 64 2)) :
    ∃ t, exec (.linkReeq a p) s = .next t ∧ s.LinkRuns t p 2 3 := by
  refine exec_linkCommand rfl (by decide) hacc ?_ (State.linkRuns_setLink hp (by decide))
  simp only [State.linkCommand, OfNat.ofNat_ne_zero, ↓reduceIte, hbusy, Bool.false_eq_true, hr, one_ne_zero, or_self, hst, ne_eq,
    not_true_eq_false, OfNat.one_ne_ofNat, false_and]
  rfl

theorem exec_linkReeq_ngatra (hst : s.linkState p = 2) (hr : s.linkRole p = 2) (hlanes : 1 < s.rfld .lkStat p 0 57 53)
    (hacc : s.accepts a .lkCtl p 0 (BitVec.ofNat 64 2)) : ∃ t, exec (.linkReeq a p) s = .next t ∧ s.LinkRuns t p 2 2 := by
  refine exec_linkCommand rfl (by decide) hacc ?_ (hst ▸ State.linkRuns_linkStarted hp)
  simp only [State.linkCommand, OfNat.ofNat_ne_zero, ↓reduceIte, hbusy, Bool.false_eq_true, hr, or_self, hst, ne_eq, not_true_eq_false,
    Nat.not_le.2 hlanes, and_false]
  rfl

theorem exec_linkRelease (hrole : s.linkRole p ≠ 0) (hst : s.linkState p = 4) (hacc : s.accepts a .lkCtl p 0 (BitVec.ofNat 64 3)) :
    ∃ t, exec (.linkRelease a p) s = .next t ∧ s.LinkRuns t p 3 1 := by
  refine exec_linkCommand rfl (by decide) hacc ?_ (State.linkRuns_setLink hp (by decide))
  simp only [State.linkCommand, OfNat.ofNat_ne_zero, ↓reduceIte, hbusy, Bool.false_eq_true, hrole, or_self, hst]
  rfl

end

/-! ### LK_MARGIN (R430, R437) -/

theorem wordOf_three (x y z : Nat) : wordOf [x, y, z] = BitVec.ofNat 64 (x + y + z) := by
  simp only [wordOf, List.foldl_cons, List.foldl_nil, Nat.zero_add]

/-- The fields of a margin measurement's word. -/
theorem marginWord_fields {lane : Nat} (volt : Bool) (hl : lane < 16) : flag (wordOf [1, lane * 2 ^ 56, bnat volt * 2 ^ 55]) 0 = true ∧
    fld (wordOf [1, lane * 2 ^ 56, bnat volt * 2 ^ 55]) 59 56 = lane ∧ flag (wordOf [1, lane * 2 ^ 56, bnat volt * 2 ^ 55]) 55 = volt := by
  have hb : bnat volt < 2 := by cases volt <;> decide
  have hw : (wordOf [1, lane * 2 ^ 56, bnat volt * 2 ^ 55]).toNat = lane * 2 ^ 56 + bnat volt * 2 ^ 55 + 1 := by
    rw [wordOf_three, BitVec.toNat_ofNat]
    omega
  have hdiv : (lane * 2 ^ 56 + bnat volt * 2 ^ 55 + 1) / 2 ^ 55 % 2 = bnat volt := by omega
  refine ⟨?_, ?_, ?_⟩
  · rw [flag, hw, Nat.testBit_zero]
    exact decide_eq_true (by omega)
  · rw [fld, bits, hw, Nat.shiftRight_eq_div_pow]
    omega
  · rw [flag, hw, Nat.testBit_eq_decide_div_mod_eq, hdiv]
    cases volt <;> rfl

/-- A store leaves a bit that none of the fields it writes covers (R16). -/
theorem testBit_writeFields {fs : List Field} (old v : Nat) {b : Nat}
    (h : ∀ f ∈ fs, f.acc = .rw ∨ f.acc = .w1c → f.lo ≤ f.hi ∧ (b < f.lo ∨ f.hi < b)) : (writeFields fs old v).testBit b = old.testBit b := by
  refine List.foldlRecOn fs _ (motive := fun acc : Nat => acc.testBit b = old.testBit b) rfl fun acc hacc f hf => ?_
  have hput (x : Nat) (hf' : f.acc = .rw ∨ f.acc = .w1c) : (putBits acc f.hi f.lo x).testBit b = old.testBit b := by
    obtain ⟨hle, hout⟩ := h f hf hf'
    rw [testBit_putBits _ _ _ _ _ hle, if_neg (by omega), hacc]
  split
  next hrw => exact hput _ (.inl hrw)
  next hw1c => exact hput _ (.inr hw1c)
  next => exact hacc

section
variable {s : State} {a : Agent} {p lane : Nat} {volt : Bool}

/-- A measurement under way: its word in LK_MARGIN, and a lane lent to it by an Ngatra link. -/
def State.marginBegun (s : State) (p : Nat) (w : Word) : State :=
  if (s.rset .lkMargin p 0 w).linkRole p = 2 then
    ((s.rset .lkMargin p 0 w).rput .lkStat p 0 57 53 (s.rfld .lkStat p 0 57 53 - 1)).modPorts fun x => { x with margin := tins x.margin p 1 }
  else s.rset .lkMargin p 0 w

/-- A link that runs no operation, of two active lanes or more where it is an Ngatra link, is measured. -/
theorem State.margin_free (hbusy : s.linkBusy p = false) (hlanes : s.linkRole p = 2 → 2 ≤ s.rfld .lkStat p 0 57 53) :
    (s.linkBusy p || (s.linkRole p == 2 && decide (s.rfld .lkStat p 0 57 53 < 2))) = false := by
  simpa [hbusy] using fun h => Nat.lt_of_succ_le (hlanes h)

theorem State.marginGo_eq (hbusy : s.linkBusy p = false) (hlanes : s.linkRole p = 2 → 2 ≤ s.rfld .lkStat p 0 57 53) :
    s.marginGo p lane volt = s.marginBegun p (BitVec.ofNat 64 (2 ^ 63 + lane % 16 * 2 ^ 56 + bnat volt * 2 ^ 55)) :=
  if_neg (by rw [State.margin_free hbusy hlanes]; exact Bool.false_ne_true)

theorem State.marginBegun_spec (s : State) {p : Nat} (w : Word) (hp : p < 128) : (s.marginBegun p w).rget .lkMargin p = w ∧
    (s.marginBegun p w).rfld .lkStat p 0 57 53 = (if s.linkRole p = 2 then s.rfld .lkStat p 0 57 53 - 1 else s.rfld .lkStat p 0 57 53) ∧
    (s.linkRole p = 2 → tget 0 (s.marginBegun p w).ports.margin p = 1) ∧ (s.marginBegun p w).mem = s.mem := by
  have hlt : s.rfld .lkStat p 0 57 53 < 32 := fld_lt _ 57 53
  have hkeep : State.KeepsBut [.lkMargin] s (s.rset .lkMargin p 0 w) := .rset _ (by decide) (by decide) hp Nat.zero_lt_one
  have hrole : (s.rset .lkMargin p 0 w).linkRole p = s.linkRole p := State.rfld_congr (hkeep.reg (by decide) hp Nat.zero_lt_one) 13 12
  unfold State.marginBegun
  rw [hrole]
  by_cases hr : s.linkRole p = 2
  · rw [if_pos hr, if_pos hr]
    refine ⟨?_, ?_, fun _ => tget_tins_same _ _ _ _, rfl⟩
    · rw [State.rget_modPorts, State.rget_rput_other _ _ _ (by decide) hp Nat.zero_lt_one hp Nat.zero_lt_one, State.rget_rset_same]
    · rw [State.rfld_congr (State.rget_modPorts _ _ _ _ _)]
      exact State.rfld_rput_same _ .lkStat p 0 (by decide) (by decide) (by omega)
  · rw [if_neg hr, if_neg hr]
    exact ⟨s.rget_rset_same _ _ _ _, State.rfld_congr (hkeep.reg (by decide) hp Nat.zero_lt_one) 57 53, fun h => absurd h hr, rfl⟩

theorem exec_lkMarginGo (hp : p < 128) (hl : lane < 16) (hacc : s.accepts a .lkMargin p 0 (wordOf [1, lane * 2 ^ 56, bnat volt * 2 ^ 55]))
    (hbusy : s.linkBusy p = false) (hlanes : s.linkRole p = 2 → 2 ≤ s.rfld .lkStat p 0 57 53) :
    ∃ t, exec (.lkMarginGo a p lane volt) s = .next t ∧ t.rget .lkMargin p = BitVec.ofNat 64 (2 ^ 63 + lane * 2 ^ 56 + bnat volt * 2 ^ 55) ∧
      t.rfld .lkStat p 0 57 53 = (if s.linkRole p = 2 then s.rfld .lkStat p 0 57 53 - 1 else s.rfld .lkStat p 0 57 53) ∧
      (s.linkRole p = 2 → tget 0 t.ports.margin p = 1) ∧ t.mem = s.mem := by
  obtain ⟨hgo, hlane, hvolt⟩ := marginWord_fields volt hl
  have hfield : fieldAt lane 4 56 = lane * 2 ^ 56 := congrArg (· * 2 ^ 56) (Nat.mod_eq_of_lt hl)
  generalize hv : wordOf [1, lane * 2 ^ 56, bnat volt * 2 ^ 55] = v at *
  have hexec : exec (.lkMarginGo a p lane volt) s = .next (s.regWrite a .lkMargin p 0 v) := by
    rw [← hv, ← hfield]
    rfl
  have heffect : s.ctlEffect a .lkMargin p 0 v = some ((s.writeReg .lkMargin p 0 v).marginGo p lane volt) := by
    have h : s.ctlEffect a .lkMargin p 0 v = some (if flag v 0 then (s.writeReg .lkMargin p 0 v).marginGo p (fld v 59 56) (flag v 55)
        else s.writeReg .lkMargin p 0 v) := rfl
    rw [h, hgo, if_pos rfl, hlane, hvolt]
  have hkeep : State.KeepsBut [.lkMargin] s (s.writeReg .lkMargin p 0 v) := .rset _ (by decide) (by decide) hp Nat.zero_lt_one
  have hstat : (s.writeReg .lkMargin p 0 v).rget .lkStat p = s.rget .lkStat p := hkeep.reg (by decide) hp Nat.zero_lt_one
  have hrole : (s.writeReg .lkMargin p 0 v).linkRole p = s.linkRole p := State.rfld_congr (hkeep.reg (by decide) hp Nat.zero_lt_one) 13 12
  have hbusy' : (s.writeReg .lkMargin p 0 v).linkBusy p = false := by
    have hmargin : (s.writeReg .lkMargin p 0 v).rbit .lkMargin p 0 63 = s.rbit .lkMargin p 0 63 := by
      rw [State.rbit, State.writeReg, State.rget_rset_same, flag_ofNat _ (by decide), testBit_writeFields _ _ (by decide)]
      rfl
    rw [State.linkBusy, State.rbit_congr hstat, hmargin]
    exact hbusy
  have hgone := State.marginGo_eq (lane := lane) (volt := volt) hbusy' (by rwa [hrole, State.rfld_congr hstat])
  rw [Nat.mod_eq_of_lt hl] at hgone
  rw [hgone] at heffect
  have hspec := (s.writeReg .lkMargin p 0 v).marginBegun_spec (BitVec.ofNat 64 (2 ^ 63 + lane * 2 ^ 56 + bnat volt * 2 ^ 55)) hp
  rw [hrole, State.rfld_congr hstat] at hspec
  exact ⟨_, stores_of hexec heffect hacc, hspec⟩

end

/-! ### LK_DREQ (R408, R439) -/

/-- The fields of a device request's word. -/
theorem dreqWord_fields {op addr : Nat} (wide : Bool) (ho : op < 4) (ha : addr < 2 ^ 54) : fld (dreqWord op wide addr) 63 62 = op ∧
    flag (dreqWord op wide addr) 61 = wide ∧ fld (dreqWord op wide addr) 53 0 = addr := by
  have hb : bnat wide < 2 := by cases wide <;> decide
  have hw : (dreqWord op wide addr).toNat = op * 2 ^ 62 + bnat wide * 2 ^ 61 + addr := by
    rw [dreqWord, wordOf_three, BitVec.toNat_ofNat, fieldAt]
    omega
  have hdiv : (op * 2 ^ 62 + bnat wide * 2 ^ 61 + addr) / 2 ^ 61 % 2 = bnat wide := by omega
  refine ⟨?_, ?_, ?_⟩
  · rw [fld, bits, hw, Nat.shiftRight_eq_div_pow]
    omega
  · rw [flag, hw, Nat.testBit_eq_decide_div_mod_eq, hdiv]
    cases wide <;> rfl
  · rw [fld, bits, hw, Nat.shiftRight_zero]
    omega

/-- A request of LK_DREQ that ends: its RESULT, and LK_XFER. -/
theorem State.dreqEnd_spec (s : State) {p result : Nat} (hp : p < 128) (hr : result < 8) : State.KeepsBut [.lkDstat] s (s.dreqEnd p result) ∧
    (s.dreqEnd p result).rget .lkDstat p = setFld (setFlag (s.rget .lkDstat p) 63 false) 61 59 result ∧
    (s.dreqEnd p result).rbit .lkDstat p 0 63 = false ∧ (s.dreqEnd p result).rfld .lkDstat p 0 61 59 = result ∧
    tfind (s.dreqEnd p result).ports.dreq p = none ∧ (s.dreqEnd p result).rbit .evStat (129 + 2 * p) 0 63 = true := by
  have hstat : (s.dreqEnd p result).rget .lkDstat p = setFld (setFlag (s.rget .lkDstat p) 63 false) 61 59 result := by
    rw [State.dreqEnd, State.rget_raise_other (by decide) hp Nat.zero_lt_one (by omega)]
    exact s.rget_rset_same _ _ _ _
  refine ⟨?_, hstat, ?_, ?_, ?_, State.pend_raise _ _⟩
  · unfold State.dreqEnd
    exact ((State.KeepsBut.rset _ List.mem_cons_self (by decide) hp Nat.zero_lt_one).trans (.modPorts _ _)).trans (.raise (by omega))
  · rw [State.rbit, hstat, flag_setFld_of_apart _ _ (by decide) (by decide) (by decide), flag_setFlag _ _ _ _ (by decide), if_pos rfl]
  · rw [State.rfld, hstat, fld_setFld_same _ _ _ _ (by decide) (by decide) hr]
  · rw [State.dreqEnd, State.raise_ports]
    exact tfind_tdel_same _ _

section
variable {s : State} {a : Agent} {p op addr : Nat} {wide : Bool}
variable (hp : p < 128) (haddr : addr < 2 ^ 54) (hbusy : s.rbit .lkDstat p 0 63 = false) (hst : s.linkState p = 2) (hrole : s.linkRole p = 1)
include hp haddr hbusy hst hrole

/-- A request on a PCIe link that is up: a memory write is posted, another is held. -/
theorem State.dreq_dreqWord (ho : op < 4) : s.dreq p (dreqWord op wide addr) = if op = 1 then
      (((s.rset .lkDstat p 0 0).postBus p addr (if wide then s.rget .lkDwdata p else s.rget .lkDwdata p &&& 0xFFFFFFFF)).dreqEnd p 1)
    else ((s.rset .lkDstat p 0 0).rput .lkDstat p 0 63 63 1).modPorts fun x => { x with dreq := tins x.dreq p (dreqWord op wide addr) } := by
  obtain ⟨hop, hwide, hbus⟩ := dreqWord_fields wide ho haddr
  have hkeep : State.KeepsBut [.lkDstat] s (s.rset .lkDstat p 0 0) := .rset _ (by decide) (by decide) hp Nat.zero_lt_one
  have hstate := (hkeep.linkState (by decide) hp).trans hst
  have hcfg : (s.rset .lkDstat p 0 0).linkRole p = 1 := (State.rfld_congr (hkeep.reg (by decide) hp Nat.zero_lt_one) 13 12).trans hrole
  have hdata : (s.rset .lkDstat p 0 0).rget .lkDwdata p = s.rget .lkDwdata p := hkeep.reg (by decide) hp Nat.zero_lt_one
  have hidle : flag (s.rget .lkDstat p) 63 = false := hbusy
  simp only [State.dreq, hidle, hstate, hcfg, hop, hwide, hbus, hdata, Bool.false_eq_true, if_false, ne_eq, not_true_eq_false, or_self]

/-- A request that is no memory write is held until it completes. -/
theorem exec_dreqHeld {c : Instr} (ho : op < 4) (hop : op ≠ 1) (h : exec c s = .next (s.regWrite a .lkDreq p 0 (dreqWord op wide addr)))
    (hacc : s.accepts a .lkDreq p 0 (dreqWord op wide addr)) : ∃ t, exec c s = .next t ∧ t.rget .lkDstat p = BitVec.ofNat 64 (2 ^ 63) ∧
      tfind t.ports.dreq p = some (dreqWord op wide addr) ∧ t.mem = s.mem := by
  have hrun := (State.dreq_dreqWord (wide := wide) hp haddr hbusy hst hrole ho).trans (if_neg hop)
  refine ⟨_, stores_of h (congrArg some hrun) hacc, ?_, tfind_tins_same _ _ _, rfl⟩
  have hbit : setFld (0 : Word) 63 63 1 = BitVec.ofNat 64 (2 ^ 63) := by decide
  rw [State.rget_modPorts, State.rput, State.rmod, State.rget_rset_same, State.rget_rset_same, hbit]

/-- A memory write is posted at once. -/
theorem exec_dreqMemoryWrite (hacc : s.accepts a .lkDreq p 0 (dreqWord 1 wide addr)) :
    ∃ t, exec (.dreqMemoryWrite a p wide addr) s = .next t ∧ t.rget .lkDstat p = BitVec.ofNat 64 (2 ^ 59) ∧
      t.rbit .evStat (129 + 2 * p) 0 63 = true ∧ t.mem = s.mem ∧
      tget 0 t.chans.posted (p * 2 ^ 64 + addr) = (if wide then s.rget .lkDwdata p else s.rget .lkDwdata p &&& 0xFFFFFFFF) := by
  have hrun := (State.dreq_dreqWord (wide := wide) (op := 1) hp haddr hbusy hst hrole (by decide)).trans (if_pos rfl)
  obtain ⟨hkeep, hstat, -, -, -, hpend⟩ := State.dreqEnd_spec ((s.rset .lkDstat p 0 0).postBus p addr
    (if wide then s.rget .lkDwdata p else s.rget .lkDwdata p &&& 0xFFFFFFFF)) (result := 1) hp (by decide)
  refine ⟨_, stores_of rfl (congrArg some hrun) hacc, ?_, hpend, hkeep.mem, ?_⟩
  · have hzero : ((s.rset .lkDstat p 0 0).postBus p addr (if wide then s.rget .lkDwdata p else s.rget .lkDwdata p &&& 0xFFFFFFFF)).rget .lkDstat p = 0 :=
      s.rget_rset_same _ _ _ _
    rw [hstat, hzero]
    decide
  · rw [hkeep.chans]
    exact tget_tins_same _ _ _ _

end

end Sys2Proof.Machine
end

section
/-! What links and devices report: operations that end, links up and down, requests of LK_DREQ that complete (09, R408, R411, R412, R429, R430, R435). -/

namespace Sys2Proof.Machine

/-! ### LINK commands and margins that end (R429, R430) -/

section
variable {s : State} {p : Nat} (hp : p < 128)
include hp

theorem State.linkState_linkCmdDone : (s.linkCmdDone p).linkState p = s.linkState p := by
  rw [State.linkState, State.rfld, (s.linkCmdDone_spec hp).2.1, fld_setFld_of_apart _ _ le_rfl (by decide) (by decide)]
  rfl

/-- A REEQ that ends takes its link from RECOVERY to UP. -/
theorem execLinkReeqComplete_spec (hcmd : tget 0 s.ports.cmd p = 2) : ∃ t, execLinkReeqComplete p s = .next t ∧
    t.linkState p = (if s.linkState p = 3 then 2 else s.linkState p) ∧ t.rbit .lkStat p 0 31 = false ∧ tget 0 t.ports.cmd p = 0 ∧
    t.rbit .evStat (128 + 2 * p) 0 63 = true ∧ t.mem = s.mem := by
  obtain ⟨hkeep, hstat, hports⟩ := s.linkCmdDone_spec hp
  have hcmd' : tget 0 (s.linkCmdDone p).ports.cmd p = 0 := by
    rw [hports, tget_eq_tfind, tfind_tdel_same]
    rfl
  have hidle : (s.linkCmdDone p).rbit .lkStat p 0 31 = false := by
    rw [State.rbit, hstat, flag_setFld _ _ _ _ _ le_rfl (by decide), if_pos ⟨le_rfl, le_rfl⟩]
    rfl
  have hraise (u : State) : (u.lkLink p).rget .lkStat p = u.rget .lkStat p := State.rget_raise_other (by decide) hp Nat.zero_lt_one (by omega)
  unfold execLinkReeqComplete
  rw [if_neg (not_not.2 hcmd)]
  refine ⟨_, rfl, ?_⟩
  rw [State.linkState, State.rfld_congr (hraise _), State.rbit_congr (hraise _), State.lkLink, State.raise_ports, State.raise_mem,
    State.linkState_linkCmdDone hp]
  split
  · refine ⟨State.linkState_setLink _ _ _ hp (by decide), ?_, ?_, State.pend_raise _ _, ?_⟩
    · rw [State.rbit, State.rget_setLink _ _ _ hp, flag_setFld_of_apart _ _ (by decide) (by decide) (by decide)]
      exact hidle
    · rw [State.setLink_ports]
      exact hcmd'
    · exact (State.keepsBut_setLink _ _ _ hp).mem.trans hkeep.mem
  · exact ⟨State.linkState_linkCmdDone hp, hidle, hcmd', State.pend_raise _ _, hkeep.mem⟩

/-- A measurement that ends gives its STEPS, and the lane back. -/
theorem execMarginComplete_spec (steps : Nat) (hrun : s.rbit .lkMargin p 0 63 = true) : ∃ t, execMarginComplete p steps s = .next t ∧
    t.rbit .lkMargin p 0 63 = false ∧ t.rfld .lkMargin p 0 62 60 = 1 ∧ t.rfld .lkMargin p 0 54 48 = min steps 127 ∧
    t.rfld .lkStat p 0 57 53 = (s.rfld .lkStat p 0 57 53 + tget 0 s.ports.margin p) % 32 ∧ tfind t.ports.margin p = none ∧
    t.rbit .evStat (128 + 2 * p) 0 63 = true ∧ t.mem = s.mem := by
  have hbusy : ¬ (!s.rbit .lkMargin p 0 63) = true := by rw [hrun]; decide
  unfold execMarginComplete
  rw [if_neg hbusy]
  extract_lets s1 s2
  refine ⟨_, rfl, ?_⟩
  have hmargin : s2.rget .lkMargin p = setFld (setFld (setFlag (s.rget .lkMargin p) 63 false) 62 60 1) 54 48 (min steps 127) :=
    (State.rget_rset_other _ (by decide) hp Nat.zero_lt_one hp Nat.zero_lt_one).trans (s.rget_rset_same _ _ _ _)
  have hstat : s2.rget .lkStat p = setFld (s.rget .lkStat p) 57 53 (s.rfld .lkStat p 0 57 53 + tget 0 s.ports.margin p) := by
    have h1 : s1.rget .lkStat p = s.rget .lkStat p := State.rget_rset_other _ (by decide) hp Nat.zero_lt_one hp Nat.zero_lt_one
    unfold s2
    rw [State.rmod, State.rget_rset_same, h1]
    rfl
  generalize hu : (s2.modPorts fun x => { x with margin := tdel x.margin p }) = u
  have hraise {r : Reg} (hr : r ≠ .evStat) (h1 : p < r.place.n1) (h2 : 0 < r.place.n2) : (u.lkLink p).rget r p = s2.rget r p :=
    (State.rget_raise_other hr h1 h2 (by omega)).trans (hu ▸ s2.rget_modPorts _ _ _ _)
  have hm : (u.lkLink p).rget .lkMargin p = _ := (hraise (r := .lkMargin) (by decide) hp Nat.zero_lt_one).trans hmargin
  have hs : (u.lkLink p).rget .lkStat p = _ := (hraise (r := .lkStat) (by decide) hp Nat.zero_lt_one).trans hstat
  refine ⟨?_, ?_, ?_, ?_, ?_, State.pend_raise _ _, ?_⟩
  · rw [State.rbit, hm, flag_setFld_of_apart _ _ (by decide) (by decide) (by decide),
      flag_setFld_of_apart _ _ (by decide) (by decide) (by decide), flag_setFlag _ _ _ _ (by decide), if_pos rfl]
  · rw [State.rfld, hm, fld_setFld_of_apart _ _ (by decide) (by decide) (by decide), fld_setFld_same _ _ _ _ (by decide) (by decide) (by decide)]
  · rw [State.rfld, hm, fld_setFld_same _ _ _ _ (by decide) (by decide) (by omega)]
  · rw [State.rfld, hs]
    exact fld_setFld_mod _ _ (by decide) (by decide)
  · rw [State.lkLink, State.raise_ports, ← hu]
    exact tfind_tdel_same _ _
  · rw [State.lkLink, State.raise_mem, ← hu]
    rfl

end

/-! ### Links up and down (R412, R420, R423, R435) -/

/-- LK_STAT of a link that comes up. -/
def linkUpWord (w : Word) (rate lanes : Nat) (flit : Bool) (lame : Nat) (lent : Bool) : Word :=
  setFld (setFld (setFlag (setFld (setFlag (setFld (setFld w 60 58 rate) 57 53 lanes) 52 flit) 47 32 lame) 51 lent) 63 61 2) 31 31 0

theorem linkUpWord_fields (w : Word) {rate : Nat} (lanes : Nat) (flit : Bool) (lame : Nat) (lent : Bool) (hr : rate < 8) :
    fld (linkUpWord w rate lanes flit lame lent) 63 61 = 2 ∧ fld (linkUpWord w rate lanes flit lame lent) 60 58 = rate ∧
      fld (linkUpWord w rate lanes flit lame lent) 57 53 = lanes % 32 ∧ flag (linkUpWord w rate lanes flit lame lent) 52 = flit := by
  unfold linkUpWord
  refine ⟨?_, ?_, ?_, ?_⟩
  · rw [fld_setFld_of_apart _ _ le_rfl (by decide) (by decide), fld_setFld_same _ _ _ _ (by decide) (by decide) (by decide)]
  · rw [fld_setFld_of_apart _ _ le_rfl (by decide) (by decide), fld_setFld_of_apart _ _ (by decide) (by decide) (by decide), setFlag,
      fld_setFld_of_apart _ _ le_rfl (by decide) (by decide), fld_setFld_of_apart _ _ (by decide) (by decide) (by decide), setFlag,
      fld_setFld_of_apart _ _ le_rfl (by decide) (by decide), fld_setFld_of_apart _ _ (by decide) (by decide) (by decide),
      fld_setFld_same _ _ _ _ (by decide) (by decide) hr]
  · rw [fld_setFld_of_apart _ _ le_rfl (by decide) (by decide), fld_setFld_of_apart _ _ (by decide) (by decide) (by decide), setFlag,
      fld_setFld_of_apart _ _ le_rfl (by decide) (by decide), fld_setFld_of_apart _ _ (by decide) (by decide) (by decide), setFlag,
      fld_setFld_of_apart _ _ le_rfl (by decide) (by decide)]
    exact fld_setFld_mod _ _ (by decide) (by decide)
  · rw [flag_setFld_of_apart _ _ le_rfl (by decide) (by decide), flag_setFld_of_apart _ _ (by decide) (by decide) (by decide),
      flag_setFlag _ _ _ _ (by decide), if_neg (by decide), flag_setFld_of_apart _ _ (by decide) (by decide) (by decide),
      flag_setFlag _ _ _ _ (by decide), if_pos rfl]

section
variable {s : State} {p : Nat} (hp : p < 128)
include hp

/-- A link that comes up shows its rate, its lanes and its flit mode. -/
theorem execLinkUp_spec {rate lanes : Nat} (flit : Bool) (hlow : s.lowPort p = p) (hrole : s.linkRole p ≠ 0)
    (hst : s.linkState p = 1 ∨ s.linkState p = 3) (hlame : s.rbit .ftCnt 10 p 63 = false) (hrate : rate ≤ s.rfld .lkCfg p 0 7 5)
    (hlanes : lanes ≠ 0) (hwidth : lanes ≤ 2 ^ (s.rfld .lkCfg p 0 10 8 + 1)) (hcmd : tget 0 s.ports.cmd p ≠ 2) :
    ∃ t, execLinkUp p rate lanes flit s = .next t ∧ t.linkState p = 2 ∧ t.rfld .lkStat p 0 60 58 = rate ∧
      t.rfld .lkStat p 0 57 53 = lanes % 32 ∧ t.rbit .lkStat p 0 52 = flit ∧ t.mem = s.mem := by
  have hrate8 : rate < 8 := hrate.trans_lt (fld_lt _ 7 5)
  have hgo : ¬ (s.lowPort p ≠ p ∨ 128 ≤ p ∨ s.linkRole p = 0 ∨ (s.linkState p ≠ 1 ∧ s.linkState p ≠ 3) ∨ s.rbit .ftCnt 10 p 63 = true ∨
      fld (s.rget .lkCfg p) 7 5 < rate ∨ lanes = 0 ∨ 2 ^ (fld (s.rget .lkCfg p) 10 8 + 1) < lanes ∨ tget 0 s.ports.cmd p = 2) := by
    have h1 := Nat.not_lt.2 hrate
    have h2 := Nat.not_lt.2 hwidth
    simp only [State.rfld] at h1 h2
    simp only [hlow, hrole, hlame, hlanes, hcmd, h1, h2, Nat.not_le.2 hp, ne_eq, not_true_eq_false, Bool.false_eq_true, false_or, or_false]
    omega
  unfold execLinkUp
  extract_lets st cfg s1 lame s2 s3 s4
  rw [if_neg hgo]
  obtain ⟨lent, hword⟩ : ∃ lent, s3.rget .lkStat p = linkUpWord (s.rget .lkStat p) rate lanes flit lame lent := by
    have h1 : s1.rget .lkStat p = setFlag (setFld (setFld (s.rget .lkStat p) 60 58 rate) 57 53 lanes) 52 flit := s.rget_rset_same _ _ _ _
    have h2 : s2.rget .lkStat p = setFlag (setFld (s1.rget .lkStat p) 47 32 lame) 51 (flag (s1.rget .lkStat p) 51 && decide (lame ≠ 0)) :=
      s1.rget_rset_same _ _ _ _
    refine ⟨flag (s1.rget .lkStat p) 51 && decide (lame ≠ 0), ?_⟩
    unfold s3
    rw [(State.linkCmdDone_spec _ hp).2.1, State.rget_setLink _ _ _ hp, h2, linkUpWord, h1]
  have hkeep : State.KeepsBut [.lkStat] s s3 :=
    .trans (.trans (.trans (.rset _ (by decide) (by decide) hp Nat.zero_lt_one) (.rset _ (by decide) (by decide) hp Nat.zero_lt_one))
      (State.keepsBut_setLink _ _ _ hp)) (State.linkCmdDone_spec _ hp).1
  obtain ⟨hup, hr, hl, hf⟩ := linkUpWord_fields (s.rget .lkStat p) lanes flit lame lent hrate8
  suffices hend : ∃ t, _ = Host.Outcome.next t ∧ State.KeepsBut [.lkRoute, .lkPstat] s3 t by
    obtain ⟨t, ht, hk⟩ := hend
    have hstat := (hk.reg (q := .lkStat) (by decide) hp Nat.zero_lt_one).trans hword
    refine ⟨t, ht, ?_, ?_, ?_, ?_, hk.mem.trans hkeep.mem⟩
    · rw [State.linkState, State.rfld, hstat, hup]
    · rw [State.rfld, hstat, hr]
    · rw [State.rfld, hstat, hl]
    · rw [State.rbit, hstat, hf]
  split
  · have h4 : State.KeepsBut [.lkRoute, .lkPstat] s3 s4 := by
      unfold s4
      split
      · exact .of_eq rfl rfl rfl
      · exact .refl _ _
    refine ⟨_, rfl, h4.trans ?_⟩
    split
    · exact .activate _ _
    · exact .updateRoutes _
  · refine ⟨_, rfl, .foldl (fun u g _ => .foldl (fun u i _ => ?_) _) _⟩
    split
    · exact .raise (by decide)
    · exact .refl _ _

/-- An Ngatra link that fails is DOWN. -/
theorem execLinkDown_ngatra (protocol : Bool) (hlow : s.lowPort p = p) (hst : s.linkState p = 2 ∨ s.linkState p = 3) (hrole : s.linkRole p = 2) :
    ∃ t, execLinkDown p protocol s = .next t ∧ t.linkState p = 1 ∧ t.mem = s.mem := by
  have herr : State.KeepsBut [.lkErrlog, .lkErraddr] s (if protocol then s.lkError p 9 0 0 else s) := by
    split
    · exact (s.lkError_spec 0 0 hp (by decide)).1
    · exact .refl _ _
  generalize hu : (if protocol then s.lkError p 9 0 0 else s) = u at herr
  have hst' : u.linkState p = 2 ∨ u.linkState p = 3 := by rwa [herr.linkState (by decide) hp]
  obtain ⟨hdown, hkeep⟩ := State.linkDown_spec hp hst' (.inl rfl)
  refine ⟨(u.linkDown p 1).linkCmdDone p, ?_, (State.linkState_linkCmdDone hp).trans hdown,
    (State.linkCmdDone_spec _ hp).1.mem.trans (hkeep.mem.trans herr.mem)⟩
  unfold execLinkDown
  rw [if_neg (by rw [hlow]; omega), if_pos hrole, hu]

/-- A PCIe link that is CONTAINED: what it was reported for is recorded, and its paths fail (R374, R412). -/
def State.contained (s : State) (p : Nat) : State := ((s.lkError p 6 0 0).linkDown p 4).linkCmdDone p

theorem execLinkDown_pcie (protocol : Bool) (hlow : s.lowPort p = p) (hst : s.linkState p = 2 ∨ s.linkState p = 3) (hrole : s.linkRole p = 1) :
    execLinkDown p protocol s = .next (s.contained p) := by
  unfold execLinkDown
  rw [if_neg (by rw [hlow]; omega), if_neg (by rw [hrole]; decide)]
  rfl

theorem State.contained_spec (hst : s.linkState p = 2 ∨ s.linkState p = 3) : (s.contained p).linkState p = 4 ∧
    (s.rbit .lkErrlog p 0 63 = false → (s.contained p).rfld .lkErrlog p 0 61 58 = 6) ∧ (s.contained p).rbit .evStat (129 + 2 * p) 0 63 = true ∧
    (s.contained p).mem = s.mem ∧
    ∀ x ∈ s.chans.pens, ∀ i, x.1 < 65536 → i < 8 → s.penState x.1 ≠ 0 → s.pathValid (s.pen x.1).group i = true →
      s.pathPort (s.pen x.1).group i = p → (s.contained p).pathFailed x.1 i = true := by
  obtain ⟨herr, hcause, hpend⟩ := s.lkError_spec 0 0 (cause := 6) hp (by decide)
  have hst' : (s.lkError p 6 0 0).linkState p = 2 ∨ (s.lkError p 6 0 0).linkState p = 3 := by rwa [herr.linkState (by decide) hp]
  obtain ⟨hdown, hkeep⟩ := State.linkDown_spec (v := 4) hp hst' (.inr rfl)
  have hdone := (State.linkCmdDone_spec ((s.lkError p 6 0 0).linkDown p 4) hp).1
  have hend := hkeep.trans (hdone.mono (by decide))
  refine ⟨(State.linkState_linkCmdDone hp).trans hdown, fun h => ?_, hend.pend (by omega) hpend, hend.mem.trans herr.mem,
    fun x hx i hn hi hpen hvalid hport => ?_⟩
  · exact (State.rfld_congr (hend.reg (by decide) hp Nat.zero_lt_one) 61 58).trans (hcause h)
  · have hg : (s.pen x.1).group < 256 := Nat.mod_lt _ (by decide)
    have hgroup : (s.lkError p 6 0 0).rget .chPathgrp (s.pen x.1).group = s.rget .chPathgrp (s.pen x.1).group :=
      herr.reg (by decide) hg Nat.zero_lt_one
    refine (State.pathFailed_congr (hdone.reg (by decide) hn Nat.zero_lt_one) i).trans
      (State.linkDown_fails hp hst' (.inr rfl) (herr.chans ▸ hx) hn hi ?_ ?_ ?_)
    · rwa [State.penState_congr (herr.reg (by decide) hn Nat.zero_lt_one)]
    · rw [State.pen_congr herr.chans]
      exact (State.rbit_congr hgroup _).trans hvalid
    · rw [State.pen_congr herr.chans]
      exact (State.rfld_congr hgroup _ _).trans hport

/-! ### LK_DREQ and invalidations that end (R408, R411, R438, R439) -/

/-- A completion of a held request: its RESULT, and the data of a read that succeeds. -/
theorem execDreqComplete_spec {w : Word} {result : Nat} (data : Nat) (hw : tfind s.ports.dreq p = some w) (h1 : 1 ≤ result) (h3 : result ≤ 3) :
    ∃ t, execDreqComplete p result data s = .next t ∧ t.rbit .lkDstat p 0 63 = false ∧ t.rfld .lkDstat p 0 61 59 = result ∧
      tfind t.ports.dreq p = none ∧ t.rbit .evStat (129 + 2 * p) 0 63 = true ∧ t.mem = s.mem ∧
      (result = 1 → fld w 63 62 = 0 ∨ fld w 63 62 = 2 → t.rget .lkDrdata p = BitVec.ofNat 64 (if flag w 61 then data else data % 2 ^ 32)) := by
  simp only [execDreqComplete, hw]
  rw [if_neg (by omega)]
  generalize hu : (if result = 1 ∧ (fld w 63 62 = 0 ∨ fld w 63 62 = 2) then
    s.rset .lkDrdata p 0 (BitVec.ofNat 64 (if flag w 61 then data else data % 2 ^ 32)) else s) = u
  obtain ⟨hkeep, -, hidle, hresult, hnone, hpend⟩ := u.dreqEnd_spec (result := result) hp (by omega)
  refine ⟨_, rfl, hidle, hresult, hnone, hpend, hkeep.mem.trans ?_, fun hr hread => ?_⟩
  · rw [← hu]
    split <;> rfl
  · rw [hkeep.reg (by decide) hp Nat.zero_lt_one, ← hu, if_pos ⟨hr, hread⟩, State.rget_rset_same]

theorem execDreqTimeout_spec {w : Word} (hw : tfind s.ports.dreq p = some w) : ∃ t, execDreqTimeout p s = .next t ∧
    t.rbit .lkDstat p 0 63 = false ∧ t.rfld .lkDstat p 0 61 59 = 4 ∧ tfind t.ports.dreq p = none ∧ t.rbit .evStat (129 + 2 * p) 0 63 = true ∧
    (s.rbit .lkErrlog p 0 63 = false → t.rfld .lkErrlog p 0 61 58 = 5) ∧ t.mem = s.mem := by
  obtain ⟨herr, hcause, -⟩ := s.lkError_spec 0 (fld w 53 0) (cause := 5) hp (by decide)
  obtain ⟨hkeep, -, hidle, hresult, hnone, hpend⟩ := (s.lkError p 5 0 (fld w 53 0)).dreqEnd_spec (result := 4) hp (by decide)
  simp only [execDreqTimeout, hw]
  exact ⟨_, rfl, hidle, hresult, hnone, hpend, fun h => (State.rfld_congr (hkeep.reg (by decide) hp Nat.zero_lt_one) 61 58).trans (hcause h),
    hkeep.mem.trans herr.mem⟩

/-- A function that does not complete its invalidation is blocked. -/
theorem execAtsInvalidateTimeout_spec {fn : Nat} (hfn : fn < 256) (hats : s.ports.ats.contains (p, fn) = true) :
    ∃ t, execAtsInvalidateTimeout p fn s = .next t ∧ t.rbit .lkFn p fn 61 = true ∧ t.rbit .huInvstat 0 0 61 = true ∧
      t.ports.ats.contains (p, fn) = false ∧ t.rbit .evStat (129 + 2 * p) 0 63 = true ∧ t.mem = s.mem := by
  unfold execAtsInvalidateTimeout
  rw [if_pos hats]
  extract_lets s1 s2
  have hblock : s1.rbit .lkFn p fn 61 = true := by
    rw [State.rbit_congr (State.rget_rput_other _ _ _ (by decide) hp hfn Nat.zero_lt_one Nat.zero_lt_one)]
    exact s.rbit_rput_bit _ _ _ 1 (by decide)
  have hinv : s1.rbit .huInvstat 0 0 61 = true := State.rbit_rput_bit _ _ _ _ 1 (by decide)
  obtain ⟨herr, -, hpend⟩ := s1.lkError_spec (s1.rfld .lkFn p fn 15 0) 0 (cause := 7) hp (by decide)
  have hkeep : State.KeepsBut [.lkErrlog, .lkErraddr] s1 (s2.modPorts fun x => { x with ats := x.ats.filter fun y => y != (p, fn) }) :=
    herr.trans (.modPorts _ _)
  refine ⟨_, rfl, ?_, ?_, ?_, hpend, hkeep.mem⟩
  · exact (State.rbit_congr (hkeep.reg (by decide) hp hfn) 61).trans hblock
  · exact (State.rbit_congr (hkeep.reg (by decide) Nat.zero_lt_one Nat.zero_lt_one) 61).trans hinv
  · exact Bool.eq_false_iff.2 fun h => by simpa using (List.mem_filter.1 (List.contains_iff_mem.1 h)).2

end

end Sys2Proof.Machine
end

section
/-! Requests and errors of devices (09, R403, R409, R411, R412). -/

namespace Sys2Proof.Machine

section
variable {s : State} {p : Nat} (hup : s.pcieUp p = true)
include hup

/-! ### Errors (R412) -/

theorem execPcieCorrectableError_up : execPcieCorrectableError p s = .next (s.strike 10 p) :=
  congrArg Host.Outcome.next (if_pos hup)

/-- A non-fatal error of a device's request: the record, and the refusal. -/
theorem execPcieNonfatalError_device (rid addr : Nat) :
    execPcieNonfatalError p rid addr none s = .next ((s.lkError p 6 rid addr).answer p false 0 false) := by
  unfold execPcieNonfatalError
  rw [if_neg (by rw [hup]; decide)]

/-- A non-fatal error of a request of LK_DREQ: the record, and the request's end. -/
theorem execPcieNonfatalError_dreq {result : Nat} {w : Word} (rid addr : Nat) (hw : tfind s.ports.dreq p = some w)
    (hr : result = 2 ∨ result = 3) : execPcieNonfatalError p rid addr (some result) s = .next ((s.lkError p 6 rid addr).dreqEnd p result) := by
  unfold execPcieNonfatalError
  rw [if_neg (by rw [hup]; decide)]
  dsimp only
  rw [State.lkError_ports, hw, if_pos ⟨rfl, hr⟩]

/-! ### Requests for memory (R409) -/

theorem execDeviceMemoryRequest_up {r : DevReq} (hlen : r.len ≠ 0) (pe : PieceErr) :
    execDeviceMemoryRequest p r pe s = .next (s.inbound p r pe) :=
  congrArg Host.Outcome.next (if_pos (by rw [hup, bne_iff_ne.2 hlen]; rfl))

/-- A request of a function that no LK_FN names is refused. -/
theorem execDeviceMemoryRequest_unknown {r : DevReq} (hlen : r.len ≠ 0) (hfn : s.functionOf p r.rid = none) :
    execDeviceMemoryRequest p r .none s = .next (s.refuseDev p 0 r) := by
  rw [execDeviceMemoryRequest_up hup hlen, State.inbound, hfn]

/-- A request that passes the checks is served at the pieces of its buffer. -/
theorem execDeviceMemoryRequest_served {r : DevReq} {n : Nat} {fn : Word} {o : Option Nat} {u : State} {ps : List (Nat × Nat)} (hlen : r.len ≠ 0)
    (hfn : s.functionOf p r.rid = some (n, fn)) (hopen : flag fn 61 = false) (hmsi : r.addr < 0x200000000000 ∨ 0x200000001000 ≤ r.addr)
    (hkind : r.kind = .memory) (howner : fld fn 60 50 = 0 ∧ o = none ∧ r.addr < 2 ^ 52 ∨
      fld fn 60 50 ≠ 0 ∧ ∃ res, s.resOf (fld fn 60 50) = some res ∧ o = some res)
    (hbuf : s.dieBuf o r.addr r.len (if r.write then .store else .load) false = (u, ps, none)) (hreach : ∀ x ∈ ps, u.reachable x.1 = true) :
    execDeviceMemoryRequest p r .none s = .next (u.serveDev p r ps) := by
  have hall : (ps.all fun x => u.reachable x.1) = true := List.all_eq_true.2 hreach
  have hrange : ¬ (0x200000000000 ≤ r.addr ∧ r.addr < 0x200000001000) := by omega
  have hown : (if fld fn 60 50 = 0 then some none else (s.resOf (fld fn 60 50)).map some) = some o := by
    obtain ⟨h0, ho, -⟩ | ⟨h0, res, hres, ho⟩ := howner
    · rw [if_pos h0, ho]
    · rw [if_neg h0, hres, ho]
      rfl
  have hphys : ¬ (fld fn 60 50 = 0 ∧ 2 ^ 52 ≤ r.addr) := by
    obtain ⟨-, -, h⟩ | ⟨h0, -⟩ := howner
    · omega
    · exact fun h => h0 h.1
  rw [execDeviceMemoryRequest_up hup hlen]
  simp only [State.inbound, hfn, hopen, hkind, hown, hbuf, Bool.false_eq_true, ne_eq, not_true_eq_false, if_false, if_neg hrange, if_neg hphys]
  rw [State.pieceError_none, ite_self, if_pos hall]

/-! ### Address translation (R411, R530, R692) -/

theorem execAtsTranslationRequest_physical {rid n : Nat} {fn : Word} (addr : Nat) (hfn : s.functionOf p rid = some (n, fn)) (hopen : flag fn 61 = false)
    (hats : flag fn 62 = true) (hpart : fld fn 60 50 = 0) :
    execAtsTranslationRequest p rid addr s = .next (s.answer p true (addr / 4096 * 4096 + 1 + 2) false) := by
  simp only [execAtsTranslationRequest, hup, hfn, hopen, hats, hpart, Bool.not_true, Bool.false_eq_true, Bool.or_self, if_false, if_true]
  rfl

/-- The rights of a partition's function are what its hurdle lets it read and write. -/
theorem execAtsTranslationRequest_hurdle {rid n res addr : Nat} {fn : Word} {u w : State} {x y : Except DieErr Nat}
    (hfn : s.functionOf p rid = some (n, fn)) (hopen : flag fn 61 = false) (hats : flag fn 62 = true) (hpart : fld fn 60 50 ≠ 0)
    (hres : s.resOf (fld fn 60 50) = some res) (hx : s.dieXlate (some res) (addr / 4096 * 4096) .load false = (u, x))
    (hy : u.dieXlate (some res) (addr / 4096 * 4096) .store false = (w, y)) (hclean : ∀ l, x ≠ .error (.poison l) ∧ y ≠ .error (.poison l)) :
    execAtsTranslationRequest p rid addr s = .next (w.answer p true (addr / 4096 * 4096 + bnat x.isOk + 2 * bnat y.isOk) false) := by
  have hcases {z : Except DieErr Nat} (hz : ∀ l, z ≠ .error (.poison l)) : z = .error .hurdle ∨ ∃ pa, z = .ok pa := by
    rcases z with (- | l) | pa
    · exact .inl rfl
    · exact absurd rfl (hz l)
    · exact .inr ⟨pa, rfl⟩
  simp only [execAtsTranslationRequest, hup, hfn, hopen, hats, hpart, hres, Bool.not_true, Bool.false_eq_true, Bool.or_self, if_false]
  obtain rfl | ⟨pa, rfl⟩ := hcases fun l => (hclean l).1
  · obtain rfl | ⟨pb, rfl⟩ := hcases fun l => (hclean l).2 <;> simp only [hx, hy] <;> rfl
  · obtain rfl | ⟨pb, rfl⟩ := hcases fun l => (hclean l).2 <;> simp only [hx, hy] <;> rfl

end

/-- A write without poison writes its bytes at the pieces. -/
theorem State.serveDev_write {s : State} {r : DevReq} (p : Nat) (ps : List (Nat × Nat)) (hw : r.write = true) (hep : r.ep = false) :
    s.serveDev p r ps = s.dieWrites dieAgent ps (toBytes r.len r.data) := by
  simp only [State.serveDev, hw, hep, if_true, Bool.false_eq_true, if_false]

/-- A read of one piece answers its bytes. -/
theorem State.serveDev_read {s w : State} {p pa n : Nat} {r : DevReq} {bs : List Byte} (hr : r.write = false)
    (hread : s.dieRead dieAgent pa n = (w, .ok bs)) : s.serveDev p r [(pa, n)] = w.answer p true (ofBytes bs) false := by
  simp only [State.serveDev, hr, hread, List.foldl_cons, List.foldl_nil, List.nil_append, Bool.false_eq_true, if_false]

end Sys2Proof.Machine

open Sys2Proof Sys2Proof.Machine

/-- Settles O49: the stores to a link's registers, then what its operations, its peer and its devices report, each by its lemma. -/
theorem linksPortsAndDevices : Obligations.LinksPortsAndDevices := by
  refine ⟨fun s a p lane volt v hp => ⟨?retrain, ?reeq, ?reeqNgatra, ?release, fun hl hacc hbusy => exec_lkMarginGo hp hl hacc hbusy,
      fun hv => stores_of rfl (congrArg some (if_pos hv)), fun addr wide haddr hbusy hst hrole => ?dreq⟩,
    fun s p hp => ⟨execLinkReeqComplete_spec hp, execMarginComplete_spec hp, fun rate lanes flit => execLinkUp_spec hp flit,
      fun hlow hst => ⟨fun protocol => execLinkDown_ngatra hp protocol hlow hst, fun hrole => ?down⟩,
      fun w hw => ⟨fun result data => execDreqComplete_spec hp data hw, execDreqTimeout_spec hp hw⟩,
      fun fn hfn => execAtsInvalidateTimeout_spec hp hfn⟩,
    fun s p hup => ⟨execPcieCorrectableError_up hup,
      fun rid addr => ⟨execPcieNonfatalError_device hup rid addr, fun r w => execPcieNonfatalError_dreq hup rid addr⟩,
      fun r hlen => execDeviceMemoryRequest_unknown hup hlen,
      fun r n fn o u ps hlen hfn => execDeviceMemoryRequest_served hup hlen hfn,
      fun rid addr n fn hfn hopen hats => ⟨execAtsTranslationRequest_physical hup addr hfn hopen hats,
        fun res u w x y => execAtsTranslationRequest_hurdle hup hfn hopen hats⟩⟩,
    fun s p r ps => State.serveDev_write p ps, fun s w p pa n r bs => State.serveDev_read, fun s p data ok ep => tfind_tins_same _ _ _⟩
  case retrain => exact fun hst hacc hbusy hrole => exec_linkRetrain hp hbusy hrole hst hacc
  case reeq => exact fun hst hr hacc hbusy _ => exec_linkReeq_pcie hp hbusy hst hr hacc
  case reeqNgatra => exact fun hst hr hlanes hacc hbusy _ => exec_linkReeq_ngatra hp hbusy hst hr hlanes hacc
  case release => exact fun hst hacc hbusy hrole => exec_linkRelease hp hbusy hrole hst hacc
  case dreq =>
    exact ⟨exec_dreqHeld hp haddr hbusy hst hrole (by decide) (by decide) rfl, exec_dreqHeld hp haddr hbusy hst hrole (by decide) (by decide) rfl,
      exec_dreqHeld hp haddr hbusy hst hrole (by decide) (by decide) rfl, exec_dreqMemoryWrite hp haddr hbusy hst hrole⟩
  case down =>
    refine ⟨s.contained p, fun protocol => execLinkDown_pcie hp protocol hlow hst hrole, ?_, State.contained_spec hp hst⟩
    exact congrArg Host.Outcome.next (if_pos ⟨hrole, hlow, hst⟩)

end

section
/-! The jobs of the cipher engines: a job taken from its trough, worked, failed and interrupted (11, R486, R490, R495, R500 to R502, R508). -/

namespace Sys2Proof.Machine

/-! ### Invocation values (R490) -/

@[simp] theorem State.keySlot_setKey_same (s : State) (n : Nat) (k : KeySlot) : (s.setKey n k).keySlot n = k := tget_tput_same _ _ _ _

theorem State.keySlot_setKey_ne (s : State) {n m : Nat} (k : KeySlot) (h : m ≠ n) : (s.setKey n k).keySlot m = s.keySlot m :=
  tget_tput_ne _ _ _ _ _ h

/-- A slot that is not exhausted grants its next invocation value, and keeps its key (R490). -/
theorem State.grantInvocation_spec (s : State) {n : Nat} (hstate : (s.keySlot n).state ≠ 2) (hleft : (s.keySlot n).invoc ≠ 2 ^ 64 - 1) :
    (s.grantInvocation n).2 = some (s.keySlot n).invoc ∧ ((s.grantInvocation n).1.keySlot n).invoc = (s.keySlot n).invoc + 1 ∧
      ((s.grantInvocation n).1.keySlot n).key = (s.keySlot n).key ∧ ((s.grantInvocation n).1.keySlot n).state = (s.keySlot n).state := by
  unfold State.grantInvocation
  rw [if_neg hstate, if_neg hleft]
  simp only [State.keySlot_setKey_same, and_self]

/-! ### A job begins (R486, R495, R500) -/

/-- The first free context of an engine. -/
theorem State.find_free_context {s : State} {k c : Nat} (hc : c < 16) (hfree : tfind (s.cyE k).jobs c = none)
    (hfull : ∀ i, i < c → (tfind (s.cyE k).jobs i).isSome = true) :
    (List.range 16).find? (fun c => (tfind (s.cyE k).jobs c).isNone) = some c := by
  rw [List.find?_range_eq_some]
  refine ⟨by rw [hfree]; rfl, List.mem_range.2 hc, fun i hi => ?_⟩
  rw [Option.not_isNone]
  exact hfull i hi

/-- The job of a request, with its key latched, as engine `k` takes it from its trough (R486, R495). -/
def State.cyLatched (u : State) (k : Nat) (q : Request) : CyJob :=
  let ws := u.descriptor q
  let n := bits (lget 0 ws 1).toNat 63 52
  { req := q, words := ws, slot := u.keySlot n, key2 := if (u.keySlot n).ktype = 4 then (u.keySlot (n + 1)).key else 0, invoc := 0,
    hard := bit (lget 0 ws 1).toNat 47 || u.rbit .cyHard k 0 63, dummy := u.rfld .cyHard k 0 2 0, errors := 0, fail := none }

/-- Engine `k` gives a job to context `c`: it takes the context, GCM_ENC with an invocation value, or completes at once (R490, R500). -/
def State.cyTake (u : State) (k c op : Nat) (j : CyJob) : State :=
  match u.cyRefusal k j with
  | some st => u.cyEnd k j.req st 0
  | none =>
    if op = 1 then
      match u.grantInvocation j.kslot with
      | (w, none) => w.cyEnd k j.req 0x105 0
      | (w, some v) => w.modCy k fun e => { e with jobs := tins e.jobs c { j with invoc := v } }
    else u.modCy k fun e => { e with jobs := tins e.jobs c j }

section
variable {s u : State} {k c op : Nat} {j : CyJob}

theorem State.cyBegin_eq_cyTake {t : Nat} {q : Request} {rest : List Request} (hc : c < 16) (hfree : tfind (s.cyE k).jobs c = none)
    (hfull : ∀ i, i < c → (tfind (s.cyE k).jobs i).isSome = true) (hhead : s.engineHead 1 k (s.cyE k).next op = some (t, q, rest))
    (hrun : s.flockRuns k = true) (hu : u = (s.setTrough t rest).modCy k fun e => { e with next := t + 1 }) :
    s.cyBegin k op = u.cyTake k c op (u.cyLatched k q) := by
  subst hu
  simp only [State.cyBegin, State.find_free_context hc hfree hfull, hhead, hrun, Bool.not_true, Bool.false_eq_true, if_false]
  rfl

theorem State.cyTake_refused {st : Nat} (h : u.cyRefusal k j = some st) : u.cyTake k c op j = u.cyEnd k j.req st 0 := by
  simp only [State.cyTake, h]

theorem State.cyTake_accepted (h : u.cyRefusal k j = none) (hop : op ≠ 1) :
    u.cyTake k c op j = u.modCy k fun e => { e with jobs := tins e.jobs c j } := by
  simp only [State.cyTake, h, hop, if_false]

theorem State.cyTake_gcmEnc {w : State} {v : Nat} (h : u.cyRefusal k j = none) (hv : u.grantInvocation j.kslot = (w, some v)) :
    u.cyTake k c 1 j = w.modCy k fun e => { e with jobs := tins e.jobs c { j with invoc := v } } := by
  simp only [State.cyTake, h, hv, if_true]

/-! ### A job's results (R501) -/

section
variable {w x y : State} {aad src old tag : List Byte}

/-- A job that succeeds: its context is free, its completion written (R501). -/
def State.cyGood (s : State) (k c : Nat) (j : CyJob) : State :=
  ((s.modCy k fun e => { e with jobs := tdel e.jobs c }).cyEnd k j.req 0 j.dlen).cyAfter k

theorem execCipherJobComplete_worked (hj : tfind (s.cyE k).jobs c = some j) (hfail : j.fail = none)
    (hheld : s.heldBack (164 + k) j.req.res = false) (hrun : s.flockRuns k = true)
    (haad : s.engineRead k 0x20 j.req.agent j.aad j.aadlen = (u, .ok aad)) (hsrc : u.engineRead k 0x20 j.req.agent j.src j.dlen = (w, .ok src))
    (hdst : w.engineWrite k 0x20 j.req.agent [(j.dst, j.dlen)] 0 (j.work src aad).1 = (x, .ok ())) :
    execCipherJobComplete k c s = .next ((x.cyCount k j j.blocks).cyTag k c j (j.work src aad).2) := by
  simp only [execCipherJobComplete, hj, hfail, hheld, hrun, haad, hsrc, hdst, Option.isSome_none, Bool.not_true, Bool.or_self,
    Bool.false_eq_true, if_false]

/-- A tag that is read is compared, and withholds the output where it differs. -/
theorem State.cyTag_compared (hop : j.op = 2 ∨ j.op = 7 ∨ j.op = 9)
    (hread : s.engineRead k 0x20 j.req.agent j.tag j.taglen = (y, .ok old)) : s.cyTag k c j tag = if old = tag.take j.taglen then
      y.cyGood k c j else y.cyFail k c j 0x107 (if j.writes then j.dlen else 0) (if j.writes then j.dlen else 0) := by
  simp only [State.cyTag, hop, if_true, hread]
  rfl

section
variable (h2 : j.op ≠ 2) (h7 : j.op ≠ 7) (h9 : j.op ≠ 9)
include h2 h7 h9

theorem State.cyTag_untagged (hlen : j.taglen = 0) : s.cyTag k c j tag = s.cyGood k c j := by
  simp only [State.cyTag, h2, h7, h9, or_self, if_false, hlen, if_true]
  rfl

/-- A tag is written, and after it the IV of GCM_ENC into the descriptor. -/
theorem State.cyTag_written (hlen : j.taglen ≠ 0)
    (hwrite : s.engineWrite k 0x20 j.req.agent [(j.tag, j.taglen)] 0 (tag.take j.taglen) = (y, .ok ())) : s.cyTag k c j tag =
      State.cyGood (if j.op = 1 then (y.dieWrite (y.engineAgent k 0x20 (j.req.desc + 0x30)) (j.req.desc + 0x30) j.gcmIv).1 else y) k c j := by
  simp only [State.cyTag, h2, h7, h9, or_self, if_false, hlen, hwrite]
  rfl

end

/-! ### A job that failed or is interrupted (R502, R508) -/

theorem execOutputWithheld_failed {st lo hi m n : Nat} (hj : tfind (s.cyE k).jobs c = some j) (hfail : j.fail = some (st, lo, hi))
    (hm : m = if j.writes then max lo (min n hi) else 0) : execOutputWithheld k c n s =
      .next ((((s.engineWrite k 0x20 j.req.agent [(j.dst, m)] 0 (List.replicate m 0)).1.modCy k fun e => { e with jobs := tdel e.jobs c }).cyEnd
        k j.req st 0).cyAfter k) := by
  simp only [execOutputWithheld, hj, hfail, hm]

/-- An error on a job restarted already ends it. -/
theorem execCipherDatapathError_ends {kind : Nat} (hj : tfind (s.cyE k).jobs c = some j) (hfail : j.fail = none) (herr : 1 ≤ j.errors)
    (hu : u = ((s.cyCountSome k j).record .cyErrlog k 0 (kind % 4 * 2 ^ 60 + 2 ^ 59 + j.req.part * 2 ^ 48 + j.kslot)).raise (1410 + 4 * k)) :
    execCipherDatapathError k c kind s = .next ((u.cyFail k c j 0x10C 0 (if j.writes then j.dlen else 0)).cyStrike k) := by
  simp only [execCipherDatapathError, hj, hfail, herr, hu, Option.isSome_none, Bool.false_eq_true, if_false, decide_true, if_true, bnat, one_mul]

/-- The first error on a job restarts it. -/
theorem execCipherDatapathError_restarts {kind : Nat} (hj : tfind (s.cyE k).jobs c = some j) (hfail : j.fail = none) (herr : j.errors = 0)
    (hop : j.op ≠ 1) (hu : u = ((s.cyCountSome k j).record .cyErrlog k 0 (kind % 4 * 2 ^ 60 + j.req.part * 2 ^ 48 + j.kslot)).raise (1410 + 4 * k)) :
    execCipherDatapathError k c kind s = .next ((u.modCy k fun e => { e with jobs := tins e.jobs c { j with errors := 1 } }).cyStrike k) := by
  have hfirst : decide (1 ≤ j.errors) = false := decide_eq_false (by omega)
  simp only [execCipherDatapathError, hj, hfail, hfirst, hop, hu, Option.isSome_none, Bool.false_eq_true, if_false, bnat, zero_mul, add_zero]

end

end

/-! ### The work of each operation (R490, R499, R501) -/

section
variable {j : CyJob} (src aad : List Byte)

theorem CyJob.work_ctr (h : j.op = 5) : j.work src aad = (ctr j.aesKey j.iv src, []) := by
  simp [CyJob.work, CyJob.gcm, CyJob.xts, h]

theorem CyJob.work_cmac (h : j.op = 6 ∨ j.op = 7) : j.work src aad = ([], Machine.cmac j.aesKey src) := by
  obtain h | h := h <;> simp [CyJob.work, CyJob.gcm, CyJob.xts, CyJob.cmac, h]

theorem CyJob.work_hmac (h : j.op = 8 ∨ j.op = 9) : j.work src aad = ([], hmac384 (j.keyBytes 32) src) := by
  obtain h | h := h <;> simp [CyJob.work, CyJob.gcm, CyJob.xts, CyJob.cmac, h]

theorem CyJob.work_gcmEnc (h : j.op = 1) : j.work src aad =
    (gcmData (roundKeys j.aesKey) j.gcmIv src, gcmTag (roundKeys j.aesKey) j.gcmIv aad (gcmData (roundKeys j.aesKey) j.gcmIv src)) := by
  simp [CyJob.work, CyJob.gcm, h]

theorem CyJob.work_gcmDec (h : j.op = 2) :
    j.work src aad = (gcmData (roundKeys j.aesKey) (j.iv.take 12) src, gcmTag (roundKeys j.aesKey) (j.iv.take 12) aad src) := by
  simp [CyJob.work, CyJob.gcm, CyJob.gcmIv, h]

end

end Sys2Proof.Machine
end

section
/-! What the updates of a cipher engine make of its registers, and what they leave (11, R478, R482, R507, R509, R515). -/

namespace Sys2Proof.Machine

/-! ### What an update leaves -/

/-- From `s` to `t` memory is as it was, the registers but those of `X` and the events read as they did, and no pending event is lost. -/
structure State.RegsBut (X : List Reg) (s t : State) : Prop where
  mem : t.mem = s.mem
  reg : ∀ {q : Reg} {k l : Nat}, q ≠ .evStat ∧ q ∉ X → k < q.place.n1 → l < q.place.n2 → t.rget q k l = s.rget q k l
  pend : ∀ {src : Nat}, src < 2048 → s.rbit .evStat src 0 63 = true → t.rbit .evStat src 0 63 = true

namespace State.RegsBut

variable {X Y : List Reg} {s t u : State}

theorem trans (h : RegsBut X s t) (k : RegsBut X t u) : RegsBut X s u :=
  ⟨k.mem.trans h.mem, fun hq hk hl => (k.reg hq hk hl).trans (h.reg hq hk hl), fun hs hp => k.pend hs (h.pend hs hp)⟩

theorem mono (h : RegsBut X s t) (hXY : X ⊆ Y) : RegsBut Y s t :=
  ⟨h.mem, fun hq => h.reg ⟨hq.1, fun hX => hq.2 (hXY hX)⟩, h.pend⟩

theorem of_eq (hm : t.mem = s.mem) (hr : t.regs = s.regs) : RegsBut X s t :=
  ⟨hm, fun _ _ _ => State.rget_of_regs_eq hr _ _ _, fun _ h => (State.rbit_congr (State.rget_of_regs_eq hr _ _ _) 63).trans h⟩

theorem rset {r : Reg} {i j : Nat} (v : Word) (hr : r ∈ X) (he : r ≠ .evStat) (hi : i < r.place.n1) (hj : j < r.place.n2) :
    RegsBut X s (s.rset r i j v) :=
  ⟨rfl, fun hq hk hl => State.rget_rset_other _ (fun e => hq.2 (e ▸ hr)) hk hl hi hj,
    fun hs h => (State.rbit_congr (State.rget_rset_other _ he.symm hs Nat.zero_lt_one hi hj) 63).trans h⟩

theorem raise {src : Nat} (hs : src < 2048) : RegsBut X s (s.raise src) := by
  refine ⟨State.raise_mem _ _, fun hq hk hl => State.rget_raise_other hq.1 hk hl hs, fun {n} _ h => ?_⟩
  by_cases hn : n = src
  · exact hn ▸ State.pend_raise s src
  · refine (State.rbit_congr (s.rget_raise_ne src _ _ _ ?_) 63).trans h
    simp only [Reg.addr, Reg.place]
    omega

end State.RegsBut

/-! ### The engine's record -/

@[simp] theorem State.raise_cy (s : State) (src : Nat) : (s.raise src).cy = s.cy := by
  obtain ⟨q, f, e, -⟩ := s.raise_spec src
  rw [e]
  rfl

@[simp] theorem State.raise_drbg (s : State) (src : Nat) : (s.raise src).drbg = s.drbg := by
  obtain ⟨q, f, e, -⟩ := s.raise_spec src
  rw [e]
  rfl

section
variable {s t : State} {k v : Nat}

theorem State.cyE_congr (h : t.cy = s.cy) (k : Nat) : t.cyE k = s.cyE k := congrArg (tget CyEngine.reset · k) h

@[simp] theorem State.cyE_raise (src : Nat) : (s.raise src).cyE k = s.cyE k := State.cyE_congr (s.raise_cy src) k

@[simp] theorem State.cyE_modCy_same (f : CyEngine → CyEngine) : (s.modCy k f).cyE k = f (s.cyE k) := tget_tins_same _ _ _ _

/-- The DRBG refuses by SH_HEALTH and the requests it has served (R596). -/
theorem State.drbgRefuses_congr (hreg : t.rget .shHealth = s.rget .shHealth) (hdrbg : t.drbg = s.drbg) : t.drbgRefuses = s.drbgRefuses := by
  unfold State.drbgRefuses State.rfld
  rw [hreg, hdrbg]

/-! ### CY_STAT (R515) -/

theorem State.rget_cyStat_modCy (f : CyEngine → CyEngine) :
    (s.modCy k f).rget .cyStat k = setFld (s.rget .cyStat k) 57 53 (f (s.cyE k)).jobs.length :=
  State.rget_rset_same _ _ _ _ _

/-- The fields of CY_STAT above JOBS stay. -/
theorem State.rfld_cyStat_modCy (f : CyEngine → CyEngine) {hi lo : Nat} (hlo : 57 < lo) (hhi : hi < 64) :
    (s.modCy k f).rfld .cyStat k 0 hi lo = s.rfld .cyStat k 0 hi lo := by
  rw [State.rfld, State.rget_cyStat_modCy, fld_setFld_of_apart _ _ (by decide) hhi (.inl hlo), State.rfld]

theorem State.rbit_cyStat_modCy (f : CyEngine → CyEngine) {b : Nat} (hlo : 57 < b) (hhi : b < 64) :
    (s.modCy k f).rbit .cyStat k 0 b = s.rbit .cyStat k 0 b := by
  rw [State.rbit, State.rget_cyStat_modCy, flag_setFld_of_apart _ _ (by decide) hhi (.inl hlo), State.rbit]

theorem State.cyState_modCy (f : CyEngine → CyEngine) : (s.modCy k f).cyState k = s.cyState k :=
  State.rfld_cyStat_modCy f (by decide) (by decide)

/-- CY_STAT after a change of STATE; an unchanged state is written again. -/
theorem State.rget_setCyState (s : State) (v : Nat) (hk : k < 12) :
    (s.setCyState k v).rget .cyStat k = setFld (s.rget .cyStat k) 63 61 v := by
  unfold State.setCyState
  split
  next h =>
    rw [← h]
    exact (setFld_fld _ _ _).symm
  next =>
    rw [State.rget_raise_other (by decide) hk Nat.zero_lt_one (by omega)]
    exact s.rget_rset_same _ _ _ _

theorem State.cyState_setCyState (s : State) (hk : k < 12) (hv : v < 8) : (s.setCyState k v).cyState k = v := by
  rw [State.cyState, State.rfld, s.rget_setCyState v hk, fld_setFld_same _ _ _ _ (by decide) (by decide) hv]

/-- A change of STATE raises CY_STATE (R521). -/
theorem State.pend_setCyState (h : s.cyState k ≠ v) : (s.setCyState k v).rbit .evStat (1408 + 4 * k) 0 63 = true := by
  rw [State.setCyState, if_neg h]
  exact State.pend_raise _ _

@[simp] theorem State.setCyState_cy (s : State) (k v : Nat) : (s.setCyState k v).cy = s.cy := by
  unfold State.setCyState
  split
  · rfl
  · exact State.raise_cy _ _

@[simp] theorem State.setCyState_drbg (s : State) (k v : Nat) : (s.setCyState k v).drbg = s.drbg := by
  unfold State.setCyState
  split
  · rfl
  · exact State.raise_drbg _ _

theorem State.cyE_setCyState (s : State) (v : Nat) : (s.setCyState k v).cyE k = s.cyE k := State.cyE_congr (s.setCyState_cy k v) k

theorem State.regsBut_modCy {X : List Reg} (s : State) (f : CyEngine → CyEngine) (hX : .cyStat ∈ X) (hk : k < 12) : State.RegsBut X s (s.modCy k f) :=
  State.RegsBut.trans (State.RegsBut.of_eq rfl rfl : State.RegsBut X s { s with cy := tins s.cy k (f (s.cyE k)) })
    (.rset _ hX (by decide) hk Nat.zero_lt_one)

theorem State.regsBut_setCyState {X : List Reg} (s : State) (v : Nat) (hX : .cyStat ∈ X) (hk : k < 12) : State.RegsBut X s (s.setCyState k v) := by
  unfold State.setCyState
  split
  · exact .of_eq rfl rfl
  · exact (State.RegsBut.rset _ hX (by decide) hk Nat.zero_lt_one).trans (.raise (by omega))

/-! ### The masking generator, and the end of service (R507, R509) -/

theorem State.drbgRefuses_setCyState (s : State) (v : Nat) (hk : k < 12) : (s.setCyState k v).drbgRefuses = s.drbgRefuses :=
  State.drbgRefuses_congr ((State.regsBut_setCyState s v List.mem_cons_self hk).reg (X := [.cyStat]) (by decide) Nat.zero_lt_one Nat.zero_lt_one)
    (s.setCyState_drbg k v)

theorem State.drbgRefuses_modCy (s : State) (f : CyEngine → CyEngine) (hk : k < 12) : (s.modCy k f).drbgRefuses = s.drbgRefuses :=
  State.drbgRefuses_congr ((State.regsBut_modCy s f List.mem_cons_self hk).reg (X := [.cyStat]) (by decide) Nat.zero_lt_one Nat.zero_lt_one) rfl

/-- The state an engine out of service comes to rest in. -/
def State.cyRest (s : State) (k : Nat) : Nat := if s.rbit .ftCnt 12 k 63 then 4 else if s.rbit .cyCtl k 0 0 then 2 else 0

theorem State.cyRest_lt (s : State) (k : Nat) : s.cyRest k < 8 := by
  unfold State.cyRest
  split_ifs <;> decide

theorem State.cyRest_congr (hlame : t.rget .ftCnt 12 k = s.rget .ftCnt 12 k) (hctl : t.rget .cyCtl k = s.rget .cyCtl k) : t.cyRest k = s.cyRest k := by
  unfold State.cyRest State.rbit
  rw [hlame, hctl]

theorem State.cySettle_eq (s : State) (k : Nat) : s.cySettle k = s.setCyState k (s.cyRest k) := rfl

/-- What comes to rest is in service, WITHDRAWN or LAME. -/
theorem State.cyState_cySettle (s : State) (hk : k < 12) : (s.cySettle k).cyState k = s.cyRest k := s.cyState_setCyState hk (s.cyRest_lt k)

theorem State.cySeed_granted (h : s.drbgRefuses = false) : s.cySeed k = s.drbgUse.modCy k fun e => { e with masked := 0 } :=
  if_neg (by rw [h]; exact Bool.false_ne_true)

theorem State.cyE_cySeed (h : s.drbgRefuses = false) : (s.cySeed k).cyE k = { s.cyE k with masked := 0 } := by
  rw [State.cySeed_granted h, State.cyE_modCy_same]
  rfl

theorem State.regsBut_cySeed {X : List Reg} (h : s.drbgRefuses = false) (hX : .cyStat ∈ X) (hk : k < 12) : State.RegsBut X s (s.cySeed k) := by
  rw [State.cySeed_granted h]
  exact (State.RegsBut.of_eq rfl rfl : State.RegsBut X s s.drbgUse).trans (State.regsBut_modCy _ _ hX hk)

theorem State.rfld_cyStat_cySeed (h : s.drbgRefuses = false) {hi lo : Nat} (hlo : 57 < lo) (hhi : hi < 64) :
    (s.cySeed k).rfld .cyStat k 0 hi lo = s.rfld .cyStat k 0 hi lo := by
  rw [State.cySeed_granted h]
  exact State.rfld_cyStat_modCy _ hlo hhi

/-- The masking generator seeded: one generate request, which first reseeds the DRBG where that is due. -/
theorem State.cySeed_spec (hk : k < 12) (h : s.drbgRefuses = false) : ((s.cySeed k).cyE k).masked = 0 ∧
    (s.cySeed k).drbg = (if 2 ^ 20 ≤ s.drbg then 1 else s.drbg + 1) ∧ (s.cySeed k).mem = s.mem := by
  refine ⟨?_, ?_, (State.regsBut_cySeed h List.mem_cons_self hk : State.RegsBut [.cyStat] _ _).mem⟩
  · rw [State.cyE_cySeed h]
  · rw [State.cySeed_granted h]
    rfl

/-! ### Jobs that are aborted (R482, R488, R509) -/

/-- A job after an abort has failed, unless it is one that the abort does not name. -/
theorem State.mem_cyAbort {p : CyJob → Bool} {status : Nat} {x : Nat × CyJob} (hx : x ∈ ((s.cyAbort k p status).cyE k).jobs) :
    x.2.fail.isSome = true ∨ x ∈ (s.cyE k).jobs ∧ p x.2 = false := by
  rw [State.cyAbort, State.cyE_modCy_same] at hx
  obtain ⟨y, hy, rfl⟩ := List.mem_map.1 hx
  by_cases h : (p y.2 && y.2.fail.isNone) = true
  · rw [if_pos h]
    exact .inl rfl
  · rw [if_neg h]
    by_cases hp : p y.2 = true
    · left
      simpa [hp, Option.isSome_iff_ne_none] using h
    · exact .inr ⟨hy, Bool.eq_false_of_not_eq_true hp⟩

theorem State.jobs_cyAbort_eq_nil {p : CyJob → Bool} {status : Nat} : ((s.cyAbort k p status).cyE k).jobs = [] ↔ (s.cyE k).jobs = [] := by
  rw [State.cyAbort, State.cyE_modCy_same, List.map_eq_nil_iff]

end

end Sys2Proof.Machine
end

section
/-! Locks, withdrawal and tests of the cipher engines: their stores and the ends of wipes and tests (11, R478 to R482, R507, R509 to R518). -/

namespace Sys2Proof.Machine

section
variable {s : State} {k : Nat}

/-! ### The ends of a wipe and of a test (R481, R507, R510) -/

theorem execMaskingGeneratorReseed_due (h : 2 ^ 20 ≤ (s.cyE k).masked) : execMaskingGeneratorReseed k s = .next (s.cySeed k) := if_pos h

/-- A wiped lock is FREE, with its token gone and the engine's generator seeded anew. -/
theorem execLockWipeComplete_spec (hk : k < 12) (hlock : s.cyLockState k = 3) (hjobs : (s.cyE k).jobs = []) (hseed : s.drbgRefuses = false) :
    ∃ t, execLockWipeComplete k s = .next t ∧ t.rget .cyLock k = 0 ∧ (t.cyE k).token = 0 ∧ (t.cyE k).masked = 0 ∧
      t.rbit .evStat (1409 + 4 * k) 0 63 = true ∧ t.mem = s.mem := by
  generalize hu : ((s.rset .cyLock k 0 0).modCy k fun e => { e with token := 0 }) = u
  have hmod : State.RegsBut [.cyStat] (s.rset .cyLock k 0 0) u := hu ▸ State.regsBut_modCy _ _ (by decide) hk
  have hseed' : u.drbgRefuses = false := by
    rw [← hu, State.drbgRefuses_modCy _ _ hk, ← hseed]
    exact State.drbgRefuses_congr (State.rget_rset_other _ (by decide) Nat.zero_lt_one Nat.zero_lt_one hk Nat.zero_lt_one) rfl
  have hend : State.RegsBut [.cyStat] (s.rset .cyLock k 0 0) ((u.cySeed k).raise (1409 + 4 * k)) :=
    (hmod.trans (State.regsBut_cySeed hseed' (by decide) hk)).trans (.raise (by omega))
  refine ⟨(u.cySeed k).raise (1409 + 4 * k), ?_, ?_, ?_, ?_, State.pend_raise _ _, hend.mem⟩
  · rw [execLockWipeComplete, if_pos ⟨hlock, by rw [hjobs]; rfl⟩, hu]
  · rw [hend.reg (by decide) hk Nat.zero_lt_one, State.rget_rset_same]
  · rw [State.cyE_raise, State.cyE_cySeed hseed', ← hu, State.cyE_modCy_same]
  · rw [State.cyE_raise, State.cyE_cySeed hseed']

/-- A test that passes: its result, and the engine in the state it rests in, with its generator seeded anew. -/
theorem execCyTestComplete_pass (hk : k < 12) (hst : s.cyState k = 3) (hseed : s.drbgRefuses = false) :
    ∃ t, execCyTestComplete k true s = .next t ∧ t.rfld .cyStat k 0 60 59 = 1 ∧ t.rbit .evStat (1410 + 4 * k) 0 63 = true ∧ t.mem = s.mem ∧
      t.cyState k = s.cyRest k := by
  generalize hu : s.rput .cyStat k 0 60 59 1 = u
  have hput : State.RegsBut [.cyStat] s u := hu ▸ .rset _ (by decide) (by decide) hk Nat.zero_lt_one
  have hsettle : State.RegsBut [.cyStat] u (u.cySettle k) := State.regsBut_setCyState _ _ (by decide) hk
  have hseed' : (u.cySettle k).drbgRefuses = false := by
    rw [State.cySettle_eq, State.drbgRefuses_setCyState _ _ hk, ← hseed]
    exact State.drbgRefuses_congr (hput.reg (by decide) Nat.zero_lt_one Nat.zero_lt_one) (hu ▸ rfl)
  have hend : State.RegsBut [.cyStat] u (((u.cySettle k).cySeed k).raise (1410 + 4 * k)) :=
    (hsettle.trans (State.regsBut_cySeed hseed' (by decide) hk)).trans (.raise (by omega))
  have hfield {hi lo : Nat} (hlo : 57 < lo) (hhi : hi < 64) :
      (((u.cySettle k).cySeed k).raise (1410 + 4 * k)).rfld .cyStat k 0 hi lo = (u.cySettle k).rfld .cyStat k 0 hi lo :=
    (State.rfld_congr (State.rget_raise_other (by decide) hk Nat.zero_lt_one (by omega)) hi lo).trans (State.rfld_cyStat_cySeed hseed' hlo hhi)
  refine ⟨((u.cySettle k).cySeed k).raise (1410 + 4 * k), ?_, ?_, State.pend_raise _ _, hend.mem.trans hput.mem, ?_⟩
  · rw [execCyTestComplete, if_pos hst, ← hu]
    rfl
  · rw [hfield (by decide) (by decide), State.cySettle_eq, State.rfld, State.rget_setCyState _ _ hk,
      fld_setFld_of_apart _ _ (by decide) (by decide) (by decide), ← hu]
    exact State.rfld_rput_same _ _ _ _ (by decide) (by decide) (by decide)
  · rw [State.cyState, hfield (by decide) (by decide)]
    refine (State.cyState_cySettle _ hk).trans (State.cyRest_congr ?_ ?_)
    · exact hput.reg (by decide) (by decide) (hk.trans (by decide))
    · exact hput.reg (by decide) hk Nat.zero_lt_one

theorem execCyTestComplete_fail (hst : s.cyState k = 3) :
    execCyTestComplete k false s = .next (((((s.rput .cyStat k 0 60 59 2).cyStrike k).cySettle k).cySeed k).raise (1410 + 4 * k)) := if_pos hst

/-! ### CY_LOCK (R479, R520) -/

theorem wordOf_one (x : Nat) : wordOf [x] = BitVec.ofNat 64 x := by
  simp only [wordOf, List.foldl_cons, List.foldl_nil, Nat.zero_add]

theorem wordOf_two (x y : Nat) : wordOf [x, y] = BitVec.ofNat 64 (x + y) := by
  simp only [wordOf, List.foldl_cons, List.foldl_nil, Nat.zero_add]

/-- A field at bit 0 is the value it holds. -/
theorem fieldAt_zero {x w : Nat} (h : x < 2 ^ w) : fieldAt x w 0 = x := by
  rw [fieldAt, Nat.mod_eq_of_lt h, pow_zero, Nat.mul_one]

/-- The fields of a lock command's word. -/
theorem lockWord_fields {x cmd token : Nat} (hx : x = cmd * 2 ^ 32) (hc : cmd < 4) (ht : token < 2 ^ 32) :
    fld (wordOf [x, token]) 33 32 = cmd ∧ fld (wordOf [x, token]) 31 0 = token := by
  simp only [hx, wordOf_two, fld, bits, BitVec.toNat_ofNat, Nat.shiftRight_eq_div_pow]
  omega

variable {a : Agent} {token part : Nat}

/-- A FREE lock is the acquirer's, under its token. -/
theorem exec_acquire (hk : k < 12) (ht : token < 2 ^ 32) (ha : a.part < 2048) (hacc : s.accepts a .cyLock k 0 (wordOf [2 ^ 32, token]))
    (hfree : s.cyLockState k = 0) :
    ∃ t, exec (.acquire a k token) s = .next t ∧ t.cyHolds k a.part = true ∧ (t.cyE k).token = token ∧ t.mem = s.mem := by
  obtain ⟨hcmd, htoken⟩ := lockWord_fields (x := 2 ^ 32) (cmd := 1) rfl (by decide) ht
  have hexec : exec (.acquire a k token) s = .next (s.regWrite a .cyLock k 0 (wordOf [2 ^ 32, fieldAt token 32 0])) := rfl
  rw [fieldAt_zero ht] at hexec
  generalize wordOf [2 ^ 32, token] = w at *
  have heffect : s.cyLockWrite k a.part w = (s.rset .cyLock k 0 (BitVec.ofNat 64 (1 * 2 ^ 61 + a.part * 2 ^ 50))).modCy k
      fun e => { e with token := token } := by
    simp only [State.cyLockWrite, hcmd, hfree, htoken, if_true]
  have hkeep := State.regsBut_modCy (X := [.cyStat]) (s.rset .cyLock k 0 (BitVec.ofNat 64 (1 * 2 ^ 61 + a.part * 2 ^ 50)))
    (fun e => { e with token := token }) (by decide) hk
  refine ⟨_, stores_of hexec (congrArg some heffect) hacc, ?_, ?_, hkeep.mem⟩
  · simp only [State.cyHolds, State.cyLockState, State.cyOwner, State.rfld, hkeep.reg (q := .cyLock) (by decide) hk Nat.zero_lt_one,
      State.rget_rset_same, fld, bits, BitVec.toNat_ofNat, Nat.shiftRight_eq_div_pow, Bool.and_eq_true, decide_eq_true_eq]
    omega
  · rw [State.cyE_modCy_same]

/-- The holder that names its token releases the lock: through its wipe at once where no job runs. -/
theorem exec_release (ht : token < 2 ^ 32) (hacc : s.accepts a .cyLock k 0 (wordOf [2 ^ 33, token])) (hholds : s.cyHolds k a.part = true)
    (htoken : (s.cyE k).token = token) :
    exec (.release a k token) s = .next (s.rput .cyLock k 0 63 61 (if (s.cyE k).jobs.isEmpty then 3 else 2)) := by
  obtain ⟨hcmd, hfield⟩ := lockWord_fields (x := 2 ^ 33) (cmd := 2) rfl (by decide) ht
  have hexec : exec (.release a k token) s = .next (s.regWrite a .cyLock k 0 (wordOf [2 ^ 33, fieldAt token 32 0])) := rfl
  rw [fieldAt_zero ht] at hexec
  generalize wordOf [2 ^ 33, token] = w at *
  have heffect : s.cyLockWrite k a.part w = s.setCyLock k (if (s.cyE k).jobs.isEmpty then 3 else 2) := by
    simp only [State.cyLockWrite, hcmd, hfield, hholds, htoken, and_self, if_true]
  exact stores_of hexec (congrArg some heffect) hacc

/-! ### CY_FORCE (R482, R517) -/

theorem State.cyForce_quiescing {r : Nat} (hlock : s.cyLockState k = 1 ∨ s.cyLockState k = 2) (howner : s.cyOwner k = part)
    (hr : s.resOf part = some r) (hquiescing : s.resState r = 2) : s.cyForce k part =
      ((s.rput .cyStat k 0 58 58 0).setCyLock k 3).cyAbort k (fun j => j.req.part == part) 0x100 := by
  simp only [State.cyForce, hr, hquiescing, hlock, howner, decide_true, beq_self_eq_true, Bool.and_self, if_true]

/-- The lock of a QUIESCING partition is wiped, and its jobs end withheld. -/
theorem exec_cyForce (hk : k < 12) (hp : part < 2048) (hacc : s.accepts a .cyForce k 0 (wordOf [part]))
    (hlock : s.cyLockState k = 1 ∨ s.cyLockState k = 2) (howner : s.cyOwner k = part) (hres : ∃ r, s.resOf part = some r ∧ s.resState r = 2) :
    ∃ t, exec (.cyForce a k part) s = .next t ∧ t.cyLockState k = 3 ∧ t.rbit .cyStat k 0 58 = false ∧ t.mem = s.mem ∧
      ∀ x ∈ (t.cyE k).jobs, x.2.req.part = part → x.2.fail.isSome = true := by
  obtain ⟨r, hr, hquiescing⟩ := hres
  have hexec : exec (.cyForce a k part) s = .next (s.regWrite a .cyForce k 0 (wordOf [fieldAt part 11 0])) := rfl
  rw [fieldAt_zero (show part < 2 ^ 11 by omega)] at hexec
  have hfield : fld (wordOf [part]) 10 0 = part := by
    simp only [wordOf_one, fld, bits, BitVec.toNat_ofNat, Nat.shiftRight_zero]
    omega
  have heffect := (congrArg (s.cyForce k) hfield).trans (State.cyForce_quiescing hlock howner hr hquiescing)
  have habort : State.RegsBut [.cyStat] ((s.rput .cyStat k 0 58 58 0).setCyLock k 3)
      (((s.rput .cyStat k 0 58 58 0).setCyLock k 3).cyAbort k (fun j => j.req.part == part) 0x100) := State.regsBut_modCy _ _ (by decide) hk
  refine ⟨_, stores_of hexec (congrArg some heffect) hacc, ?_, ?_, habort.mem, fun x hx hpart => ?_⟩
  · refine (State.rfld_congr (habort.reg (by decide) hk Nat.zero_lt_one) 63 61).trans ?_
    exact State.rfld_rput_same _ _ _ _ (by decide) (by decide) (by decide)
  · have hlock : ((s.rput .cyStat k 0 58 58 0).setCyLock k 3).rget .cyStat k = (s.rput .cyStat k 0 58 58 0).rget .cyStat k :=
      State.rget_rput_other _ _ _ (by decide) hk Nat.zero_lt_one hk Nat.zero_lt_one
    rw [State.cyAbort, State.rbit_cyStat_modCy _ (by decide) (by decide), State.rbit_congr hlock, State.rbit_rput_bit _ _ _ _ _ (by decide)]
    rfl
  · obtain h | ⟨-, h⟩ := State.mem_cyAbort hx
    · exact h
    · exact absurd hpart (by simpa using h)

/-! ### CY_CTL (R509, R510, R514) -/

/-- The state with WITHDRAW written. -/
def State.withdrawSet (s : State) (k : Nat) (w : Bool) : State := s.rset .cyCtl k 0 (BitVec.ofNat 64 (bnat w))

theorem State.regsBut_withdrawSet {X : List Reg} (s : State) (w : Bool) (hX : .cyCtl ∈ X) (hk : k < 12) : State.RegsBut X s (s.withdrawSet k w) :=
  .rset _ hX (by decide) hk Nat.zero_lt_one

theorem State.rget_withdrawSet (s : State) (w : Bool) : (s.withdrawSet k w).rget .cyCtl k = BitVec.ofNat 64 (bnat w) := s.rget_rset_same _ _ _ _

theorem State.cyState_withdrawSet (s : State) (w : Bool) (hk : k < 12) : (s.withdrawSet k w).cyState k = s.cyState k :=
  State.rfld_congr (State.rget_rset_other _ (by decide) hk Nat.zero_lt_one hk Nat.zero_lt_one) 63 61

theorem State.drbgRefuses_withdrawSet (s : State) (w : Bool) (hk : k < 12) : (s.withdrawSet k w).drbgRefuses = s.drbgRefuses :=
  State.drbgRefuses_congr (State.rget_rset_other _ (by decide) Nat.zero_lt_one Nat.zero_lt_one hk Nat.zero_lt_one) rfl

/-- The bits of a write of WITHDRAW, with TEST or without. -/
theorem ctlWord_flags : flag (wordOf [1]) 0 = true ∧ flag (wordOf [1]) 1 = false ∧ flag (wordOf [0]) 0 = false ∧ flag (wordOf [0]) 1 = false ∧
    flag (wordOf [2, 1]) 0 = true ∧ flag (wordOf [2, 1]) 1 = true := by decide

/-! An engine that is withdrawn. -/

/-- An engine that is withdrawn first shows WITHDRAWING, its jobs aborted. -/
def State.withdrawing (s : State) (k : Nat) : State := (s.setCyState k 1).cyAbort k (fun _ => true) 0x10B

section
variable (s) (hk : k < 12)
include hk

theorem State.regsBut_withdrawing : State.RegsBut [.cyStat] s (s.withdrawing k) := by
  unfold State.withdrawing State.cyAbort
  exact (State.regsBut_setCyState _ _ (by decide) hk).trans (State.regsBut_modCy _ _ (by decide) hk)

theorem State.cyState_withdrawing : (s.withdrawing k).cyState k = 1 := by
  rw [State.withdrawing, State.cyAbort, State.cyState_modCy, State.cyState_setCyState _ hk (by decide)]

theorem State.drbgRefuses_withdrawing : (s.withdrawing k).drbgRefuses = s.drbgRefuses := by
  rw [State.withdrawing, State.cyAbort, State.drbgRefuses_modCy _ _ hk, State.drbgRefuses_setCyState _ _ hk]

end

theorem State.jobs_withdrawing_eq_nil : ((s.withdrawing k).cyE k).jobs = [] ↔ (s.cyE k).jobs = [] := by
  rw [State.withdrawing, State.jobs_cyAbort_eq_nil, State.cyE_setCyState]

theorem State.withdrawing_fails {x : Nat × CyJob} (hx : x ∈ ((s.withdrawing k).cyE k).jobs) : x.2.fail.isSome = true :=
  (State.mem_cyAbort hx).resolve_right fun h => absurd h.2 (by decide)

/-- With no job it comes to rest at once. -/
theorem State.cyWithdraw_idle (hjobs : (s.cyE k).jobs = []) : s.cyWithdraw k = (s.withdrawing k).cySettle k :=
  if_pos (List.isEmpty_iff.2 (State.jobs_withdrawing_eq_nil.2 hjobs))

theorem State.cyWithdraw_busy (hjobs : (s.cyE k).jobs ≠ []) : s.cyWithdraw k = s.withdrawing k :=
  if_neg fun h => hjobs (State.jobs_withdrawing_eq_nil.1 (List.isEmpty_iff.1 h))

/-- A write of WITHDRAW 1 withdraws a RUNNING engine, and where it has no job wipes it. -/
theorem State.cyControl_on (hk : k < 12) (hst : s.cyState k = 0) : s.cyControl k (wordOf [1]) =
    if (s.cyE k).jobs.isEmpty then ((s.withdrawSet k true).cyWithdraw k).cySeed k else (s.withdrawSet k true).cyWithdraw k := by
  obtain ⟨hw, htest, -⟩ := ctlWord_flags
  have hrun := (s.cyState_withdrawSet true hk).trans hst
  unfold State.withdrawSet at hrun
  simp only [State.cyControl, hw, htest, hrun, Bool.false_eq_true, if_false, and_self, if_true]
  rfl

section
variable (hk : k < 12)
include hk

theorem exec_cyWithdraw_idle (hacc : s.accepts a .cyCtl k 0 (wordOf [1])) (hst : s.cyState k = 0) (hjobs : (s.cyE k).jobs = [])
    (hseed : s.drbgRefuses = false) : ∃ t, exec (.cyWithdraw a k true) s = .next t ∧
      t.cyState k = (if s.rbit .ftCnt 12 k 63 then 4 else 2) ∧ t.rget .cyCtl k = 1 ∧ t.mem = s.mem := by
  have hset := s.regsBut_withdrawSet (X := [.cyCtl]) true (by decide) hk
  generalize hu : (s.withdrawSet k true).withdrawing k = u
  have hdraw : State.RegsBut [.cyStat] (s.withdrawSet k true) u := hu ▸ State.regsBut_withdrawing _ hk
  have hseed' : (u.cySettle k).drbgRefuses = false := by
    rw [State.cySettle_eq, State.drbgRefuses_setCyState _ _ hk, ← hu, State.drbgRefuses_withdrawing _ hk, State.drbgRefuses_withdrawSet _ _ hk, hseed]
  have hend : State.RegsBut [.cyStat] (s.withdrawSet k true) ((u.cySettle k).cySeed k) :=
    (hdraw.trans (State.regsBut_setCyState _ _ (by decide) hk)).trans (State.regsBut_cySeed hseed' (by decide) hk)
  have hctl : u.rget .cyCtl k = 1 := (hdraw.reg (by decide) hk Nat.zero_lt_one).trans (s.rget_withdrawSet true)
  have hlame : u.rget .ftCnt 12 k = s.rget .ftCnt 12 k :=
    (hdraw.reg (by decide) (by decide) (hk.trans (by decide))).trans (hset.reg (by decide) (by decide) (hk.trans (by decide)))
  have heffect : s.cyControl k (wordOf [1]) = (u.cySettle k).cySeed k := by
    rw [State.cyControl_on hk hst, if_pos (List.isEmpty_iff.2 hjobs), State.cyWithdraw_idle (s := s.withdrawSet k true) hjobs, hu]
  refine ⟨_, stores_of rfl (congrArg some heffect) hacc, ?_, ?_, hend.mem.trans hset.mem⟩
  · rw [State.cyState, State.rfld_cyStat_cySeed hseed' (by decide) (by decide)]
    refine (State.cyState_cySettle _ hk).trans ?_
    unfold State.cyRest State.rbit
    rw [hlame, hctl]
    rfl
  · exact (hend.reg (by decide) hk Nat.zero_lt_one).trans (s.rget_withdrawSet true)

theorem exec_cyWithdraw_busy (hacc : s.accepts a .cyCtl k 0 (wordOf [1])) (hst : s.cyState k = 0) (hjobs : (s.cyE k).jobs ≠ []) :
    ∃ t, exec (.cyWithdraw a k true) s = .next t ∧ t.cyState k = 1 ∧ t.rget .cyCtl k = 1 ∧ t.mem = s.mem ∧
      ∀ x ∈ (t.cyE k).jobs, x.2.fail.isSome = true := by
  have heffect : s.cyControl k (wordOf [1]) = (s.withdrawSet k true).withdrawing k := by
    rw [State.cyControl_on hk hst, if_neg (fun h => hjobs (List.isEmpty_iff.1 h)), State.cyWithdraw_busy (s := s.withdrawSet k true) hjobs]
  have hdraw := (s.withdrawSet k true).regsBut_withdrawing hk
  exact ⟨_, stores_of rfl (congrArg some heffect) hacc, State.cyState_withdrawing _ hk,
    (hdraw.reg (by decide) hk Nat.zero_lt_one).trans (s.rget_withdrawSet true), hdraw.mem, fun x => State.withdrawing_fails⟩

/-- A write of WITHDRAW 0 puts a WITHDRAWN engine back in service. -/
theorem exec_cyWithdraw_off (hacc : s.accepts a .cyCtl k 0 (wordOf [0])) (hst : s.cyState k = 2) :
    ∃ t, exec (.cyWithdraw a k false) s = .next t ∧ t.cyState k = 0 ∧ t.rget .cyCtl k = 0 ∧ t.rbit .evStat (1408 + 4 * k) 0 63 = true ∧
      t.mem = s.mem := by
  obtain ⟨-, -, hw, htest, -⟩ := ctlWord_flags
  have hdrawn := (s.cyState_withdrawSet false hk).trans hst
  have heffect : s.cyControl k (wordOf [0]) = (s.withdrawSet k false).setCyState k 0 := by
    unfold State.withdrawSet at hdrawn ⊢
    simp only [State.cyControl, hw, htest, hdrawn, Bool.false_eq_true, false_and, if_false, Bool.not_false, and_self, if_true]
  have hkeep := State.regsBut_setCyState (X := [.cyStat]) (s.withdrawSet k false) 0 (by decide) hk
  exact ⟨_, stores_of rfl (congrArg some heffect) hacc, State.cyState_setCyState _ hk (by decide),
    (hkeep.reg (by decide) hk Nat.zero_lt_one).trans (s.rget_withdrawSet false), State.pend_setCyState (by rw [hdrawn]; decide), hkeep.mem⟩

/-- TEST of a WITHDRAWN engine: it is TESTING, and wiped. -/
theorem exec_cyTest (hacc : s.accepts a .cyCtl k 0 (wordOf [2, 1])) (hst : s.cyState k = 2) (hctl : s.rfld .cyCtl k 0 0 0 = 1)
    (hseed : s.drbgRefuses = false) : ∃ t, exec (.cyTest a k) s = .next t ∧ t.cyState k = 3 ∧ t.rget .cyCtl k = 1 ∧
      t.rbit .evStat (1408 + 4 * k) 0 63 = true ∧ t.mem = s.mem := by
  obtain ⟨-, -, -, -, hw, htest⟩ := ctlWord_flags
  have hexec : exec (.cyTest a k) s = .next (s.regWrite a .cyCtl k 0 (wordOf [2, s.rfld .cyCtl k 0 0 0])) := rfl
  rw [hctl] at hexec
  have hdrawn := (s.cyState_withdrawSet true hk).trans hst
  generalize hu : (s.withdrawSet k true).setCyState k 3 = u
  have hstate : u.cyState k = 3 := hu ▸ State.cyState_setCyState _ hk (by decide)
  have hkeep : State.RegsBut [.cyStat] (s.withdrawSet k true) u := hu ▸ State.regsBut_setCyState _ _ (by decide) hk
  have hseed' : u.drbgRefuses = false := by
    rw [← hu, State.drbgRefuses_setCyState _ _ hk, State.drbgRefuses_withdrawSet _ _ hk, hseed]
  have hpend : u.rbit .evStat (1408 + 4 * k) 0 63 = true := hu ▸ State.pend_setCyState (by rw [hdrawn]; decide)
  have hwiped : State.RegsBut [.cyStat] u (u.cySeed k) := State.regsBut_cySeed hseed' (by decide) hk
  have hthree : (u.cySeed k).cyState k = 3 := (State.rfld_cyStat_cySeed hseed' (by decide) (by decide)).trans hstate
  have heffect : s.cyControl k (wordOf [2, 1]) = u.cySeed k := by
    subst hu
    unfold State.withdrawSet at hdrawn hthree ⊢
    simp only [State.cyControl, hw, htest, hdrawn, if_true, hthree, Bool.not_true, Bool.false_eq_true, false_and, if_false, OfNat.ofNat_ne_zero,
      and_false]
  exact ⟨_, stores_of hexec (congrArg some heffect) hacc, hthree,
    ((hkeep.trans hwiped).reg (by decide) hk Nat.zero_lt_one).trans (s.rget_withdrawSet true), hwiped.pend (by omega) hpend,
    (hkeep.trans hwiped).mem⟩

end

/-- A write of 1 to VLD clears CY_ERRLOG (R518). -/
theorem stores_cyErrlogClear : Stores (.cyErrlogClear a k) s a .cyErrlog k 0 (wordOf [2 ^ 63]) (s.rset .cyErrlog k 0 0) :=
  have hvld : flag (wordOf [2 ^ 63]) 63 = true := by decide
  stores_of rfl (congrArg some (if_pos hvld))

end

end Sys2Proof.Machine

open Sys2Proof Sys2Proof.Machine

/-- Settles O52: a job from its trough to its end, then the generator, the lock and the service of an engine, each by its lemma. -/
theorem cipherEnginesAndKeys : Obligations.CipherEnginesAndKeys := by
  refine ⟨?begins, fun s n => s.grantInvocation_spec, fun s u w x y k c n m j aad src tag old hj => ⟨execCipherJobComplete_worked hj,
      State.cyTag_compared, fun h2 h7 h9 => ⟨State.cyTag_untagged h2 h7 h9, State.cyTag_written h2 h7 h9⟩,
      fun st lo hi => execOutputWithheld_failed hj,
      fun kind hfail => ⟨execCipherDatapathError_ends hj hfail, execCipherDatapathError_restarts hj hfail⟩⟩,
    fun j src aad => ⟨CyJob.work_ctr src aad, CyJob.work_cmac src aad, CyJob.work_hmac src aad, CyJob.work_gcmEnc src aad, CyJob.work_gcmDec src aad⟩,
    fun s k hk => ⟨State.cySeed_spec hk, execMaskingGeneratorReseed_due, execLockWipeComplete_spec hk, execCyTestComplete_pass hk,
      execCyTestComplete_fail, fun a token part ht hp ha => ⟨exec_acquire hk ht ha, exec_release ht, exec_cyForce hk hp,
        fun hacc hst => ⟨exec_cyWithdraw_idle hk hacc hst, exec_cyWithdraw_busy hk hacc hst⟩, exec_cyWithdraw_off hk, exec_cyTest hk,
        stores_cyErrlogClear⟩⟩⟩
  rintro s u w k c n t op q rest ws j - hc hfree hfull hhead hrun hu rfl rfl hj begun
  have htake : s.cyBegin k op = u.cyTake k c op j := by
    rw [hj]
    exact State.cyBegin_eq_cyTake hc hfree hfull hhead hrun hu
  have hq : j.req = q := by rw [hj]
  have hn : j.kslot = bits (lget 0 (u.descriptor q) 1).toNat 63 52 := by rw [hj]; rfl
  have hbegun {i : Instr} (hi : exec i s = .next (s.cyBegin k op)) : begun i := by
    rw [htake] at hi
    refine ⟨fun st hst => hi.trans ?_, fun hst hop => hi.trans ?_, fun hst hop v hv => hi.trans ?_⟩
    · rw [State.cyTake_refused hst, hq]
    · rw [State.cyTake_accepted hst hop]
    · rw [hop, State.cyTake_gcmEnc hst (hn ▸ hv)]
  refine ⟨?_, ?_, ?_, ?_, ?_, ?_, ?_, ?_, ?_⟩ <;> exact fun hop => hbegun (by rw [hop]; rfl)

end

section
/-! What coherent writes and wipes leave of the Shepherd and of the key slots (05, R209; 07, R306; 14, R592). -/

namespace Sys2Proof.Machine

/-! ### Coherent writes -/

section
variable {β : Type} (φ : State → β)

/-- A coherent write shows in memory and its controller, in MC_SVCSTAT, in the caches and the L1s of the cores, and in the messages to
other modules (R209, R235): what these do not bear on is kept. -/
theorem State.cohWrite_keeps (hmem : ∀ t line d, φ (State.setMemLine t line d) = φ t) (hmc : ∀ t g, φ (State.modMc t g) = φ t)
    (hsvc : ∀ t n, φ (State.rput t .mcSvcstat 0 0 31 0 n) = φ t) (hca : ∀ t g, φ (State.modCa t g) = φ t)
    (hcores : ∀ t p f, φ (State.mapCores t p f) = φ t) (hask : ∀ t mt dst a p b, φ (State.ask t mt dst a p b) = φ t)
    (s : State) (pa : Nat) (bs : List Byte) : φ (s.cohWrite pa bs) = φ s := by
  have hline (t : State) (line : Nat) (d : BitVec 512) (p : Bool) : φ (t.memWriteLine line d p) = φ t :=
    State.memWriteLine_keeps φ t line d p (hmem t line d) hmc hsvc
  have hgo (t : State) (line : Nat) : φ (t.copiesGo line) = φ t := by
    unfold State.copiesGo
    split
    · refine (State.foldl_keeps φ (fun u h _ => hask u _ _ _ _ _) _).trans ?_
      split
      · exact hline _ _ _ _
      · simp only [apply_ite φ, hline, ite_self]
    · split
      · exact hask _ _ _ _ _ _
      · exact hask _ _ _ _ _ _
      · rfl
  have hall (t : State) (line : Nat) : φ (t.invalidateAll line) = φ t := by
    unfold State.invalidateAll State.setDir
    rw [hca, hcores, hca, hgo]
  refine State.foldl_keeps φ (fun t line _ => ?_) s
  unfold State.cohWriteLine State.cohWriteMask
  dsimp only
  split
  · exact (hline _ _ _ _).trans (hall t line)
  · exact (hask _ _ _ _ _ _).trans (hall t line)

end

@[simp] theorem setBytes_shep (s : State) (pa : Nat) (bs : List Byte) : (setBytes s pa bs).shep = s.shep := by
  induction bs generalizing s pa with
  | nil => rfl
  | cons b bs ih => exact ih _ _

@[simp] theorem State.ask_shep (s : State) (mtype dst addr param : Nat) (body : List Word) : (s.ask mtype dst addr param body).shep = s.shep := by
  obtain ⟨q, p, h⟩ := s.ask_spec mtype dst addr param body
  rw [h]

@[simp] theorem State.cohWrite_shep (s : State) (pa : Nat) (bs : List Byte) : (s.cohWrite pa bs).shep = s.shep :=
  State.cohWrite_keeps State.shep (fun _ _ _ => setBytes_shep _ _ _) (fun _ _ => rfl) (fun _ _ => rfl) (fun _ _ => rfl) (fun _ _ _ => rfl)
    State.ask_shep s pa bs

theorem State.rget_cohWrite (s : State) (pa : Nat) (bs : List Byte) {q : Reg} {k l : Nat} (hq : q ≠ .mcSvcstat) (hk : k < q.place.n1)
    (hl : l < q.place.n2) : (s.cohWrite pa bs).rget q k l = s.rget q k l :=
  State.cohWrite_keeps (·.rget q k l) (fun t line d => State.rget_of_regs_eq (t.setMemLine_regs line d) _ _ _) (fun _ _ => rfl)
    (fun _ _ => State.rget_rput_other _ _ _ hq hk hl Nat.zero_lt_one Nat.zero_lt_one) (fun _ _ => rfl) (fun _ _ _ => rfl)
    (fun t _ _ _ _ _ => State.rget_of_regs_eq (t.ask_regs _ _ _ _ _) _ _ _) s pa bs

/-! ### The Shepherd and the key slots -/

/-- The Shepherd's own state and the key slots. -/
def State.vault (s : State) : Shep × Tbl KeySlot := (s.shep, s.keys)

section
variable (s : State)

theorem State.rput_vault (r : Reg) (i j hi lo v : Nat) : (s.rput r i j hi lo v).vault = s.vault := rfl

theorem State.raise_vault (src : Nat) : (s.raise src).vault = s.vault := by
  obtain ⟨q, f, e, -⟩ := s.raise_spec src
  rw [e]
  rfl

@[simp] theorem State.raise_shep (src : Nat) : (s.raise src).shep = s.shep := congrArg Prod.fst (s.raise_vault src)

@[simp] theorem State.raise_keys (src : Nat) : (s.raise src).keys = s.keys := congrArg Prod.snd (s.raise_vault src)

section
variable (f : Shep → Shep)

@[simp] theorem State.modShep_shep : (s.modShep f).shep = f s.shep := rfl

@[simp] theorem State.modShep_mem : (s.modShep f).mem = s.mem := rfl

@[simp] theorem State.modShep_keys : (s.modShep f).keys = s.keys := rfl

end

/-! ### The wipe of keep data (R306, R592) -/

theorem State.zeroBank_vault (k b : Nat) : (s.zeroBank k b).vault = s.vault := rfl

theorem State.bankEnter_vault (k b v : Nat) : (s.bankEnter k b v).vault = s.vault := by
  unfold State.bankEnter
  simp only [apply_ite State.vault, State.raise_vault, State.rput_vault, State.zeroBank_vault, ite_self]

theorem State.bankStart_vault (k b : Nat) : (s.bankStart k b).vault = s.vault := by
  unfold State.bankStart
  dsimp only
  split
  · rfl
  · split
    · exact s.bankEnter_vault _ _ _
    · rfl

/-- The wipe of keep banks leaves the Shepherd and the slots. -/
theorem State.wipeKeeps_vault : s.wipeKeeps.vault = s.vault := by
  refine State.foldl_keeps State.vault (fun t k _ => ?_) s
  simp only [State.wipeKeep, State.wipeDone, apply_ite State.vault, State.bankStart_vault, State.raise_vault, State.rput_vault,
    State.zeroBank_vault, ite_self]

/-- A key slot as a wipe leaves it. -/
def KeySlot.wiped (k : KeySlot) : KeySlot := { k with key := 0, state := 0, gen := satAdd (2 ^ 32 - 1) k.gen 1 }

/-- Every slot is wiped; the jobs with a key latched change with their engines alone. -/
theorem State.wipeKeys_vault : s.wipeKeys.vault = (s.shep, (List.range 4096).map fun n => (n, (s.keySlot n).wiped)) := by
  unfold State.wipeKeys
  dsimp only
  rw [State.foldl_keeps State.vault fun t k _ => ?_]
  · simp only [State.vault, KeySlot.wiped]
  · split
    · rfl
    · rfl

/-- The wipe: KW drawn anew, the keep SRAM and the slots emptied, a command that works a slot overtaken (R592, R624). -/
theorem State.keepWipe_vault : ∃ kw cmd, s.keepWipe.vault =
    ({ s.shep with kw := kw, keepSram := [], cmd := cmd }, (List.range 4096).map fun n => (n, (s.keySlot n).wiped)) :=
  ⟨_, _, (State.wipeKeeps_vault _).trans (State.wipeKeys_vault _)⟩

theorem State.keepWipe_shep : ∃ kw cmd, s.keepWipe.shep = { s.shep with kw := kw, keepSram := [], cmd := cmd } := by
  obtain ⟨kw, cmd, h⟩ := s.keepWipe_vault
  exact ⟨kw, cmd, (Prod.mk.inj h).1⟩

theorem State.keepWipe_keys : s.keepWipe.keys = (List.range 4096).map fun n => (n, (s.keySlot n).wiped) := by
  obtain ⟨kw, cmd, h⟩ := s.keepWipe_vault
  exact (Prod.mk.inj h).2

end

/-- A table that lists a value at every one of a run of keys. -/
theorem tget_map {α : Type} (d : α) (f : Nat → α) {l : List Nat} {n : Nat} (h : n ∈ l) : tget d (l.map fun m => (m, f m)) n = f n := by
  induction l with
  | nil => cases h
  | cons m l ih =>
    by_cases hn : n = m
    · rw [List.map_cons, tget, if_pos hn, hn]
    · rw [List.map_cons, tget, if_neg hn, ih (List.mem_of_ne_of_mem hn h)]

end Sys2Proof.Machine
end

section
/-! The boot record and the life cycle: events, the seal, addenda and transitions (14, R589 to R593, R605, R608 to R614). -/

namespace Sys2Proof.Machine

/-! ### Events (R610) -/

section
variable (s : State) (type version target length : Nat) (label digest : List Byte)

/-- Before the seal an event's entry joins the boot part. -/
theorem State.recordEvent_unsealed (hheader : s.shep.header ≠ []) (hsealed : s.shep.sealed = false) :
    (s.recordEvent type version target length label digest).shep = { s.shep with
      entries := s.shep.entries ++ [recEntry type s.shep.entries.length version target length s.now 0 label digest] } := by
  simp only [State.recordEvent, Shep.nextPlace, List.isEmpty_iff, hheader, hsealed, Bool.not_false, if_true, if_false, State.modShep_shep]

/-- An event works the entries or the journal alone. -/
theorem State.recordEvent_shep : ∃ es gs n, (s.recordEvent type version target length label digest).shep =
    { s.shep with entries := es, journal := gs, formed := n } := by
  unfold State.recordEvent
  extract_lets x
  split
  · exact ⟨_, _, _, rfl⟩
  · dsimp only
    split
    · exact ⟨_, _, _, rfl⟩
    · split
      · exact ⟨_, _, _, rfl⟩
      · exact ⟨_, _, _, rfl⟩

@[simp] theorem State.recordEvent_keys : (s.recordEvent type version target length label digest).keys = s.keys := by
  simp only [State.recordEvent, apply_ite State.keys, State.modShep_keys, ite_self]

end

theorem entryType_recEntry {type : Nat} (seq version target length time addseq : Nat) (label digest : List Byte) (h : type < 256) :
    entryType (recEntry type seq version target length time addseq label digest) = type := by
  have hhead : lget 0 (recEntry type seq version target length time addseq label digest) 0 =
      BitVec.ofNat 64 (type * 2 ^ 56 + seq % 65536 * 2 ^ 40 + version % 2 ^ 32) := rfl
  rw [entryType, hhead, fld, bits, BitVec.toNat_ofNat, Nat.shiftRight_eq_div_pow]
  omega

/-! ### Pieces, the seal and addenda (R605, R610, R612 to R614) -/

section
variable (s : State)

theorem State.queuePiece_shep (off : Nat) (data : List Byte) (bootseq : Nat) : (s.queuePiece off data bootseq).shep =
    { s.shep with pieces := s.shep.pieces ++ [{ off := off, data := data, bootseq := bootseq }] } := by
  unfold State.queuePiece
  split
  · rfl
  · rfl

theorem State.queuePiece_mem (off : Nat) (data : List Byte) (bootseq : Nat) : (s.queuePiece off data bootseq).mem = s.mem := by
  unfold State.queuePiece
  split
  · rfl
  · rfl

theorem State.recordMemory_shep (data : List Byte) : ∃ m, (s.recordMemory data).shep = { s.shep with recMem := m } := by
  unfold State.recordMemory
  split
  next => exact ⟨s.shep.recMem, rfl⟩
  next a len used _ =>
    split
    · exact ⟨s.shep.recMem, rfl⟩
    · split
      · exact ⟨s.shep.recMem, rfl⟩
      · exact ⟨some (a, len, used + data.length), by rw [State.modShep_shep, State.cohWrite_shep]⟩

/-- The seal's entry closes the boot part over its chain, and the first piece waits for the BMC. -/
theorem State.sealRecord_spec : s.sealRecord.shep.sealed = true ∧
    s.sealRecord.shep.entries = s.shep.entries ++ [recEntry 0x10 s.shep.entries.length 0 s.shep.entries.length 0 s.now 0 []
      (recordChain s.shep.header s.shep.entries)] ∧ s.sealRecord.mem = s.mem ∧
    ∃ d, s.sealRecord.shep.copy = [d] ∧ s.sealRecord.shep.pieces = s.shep.pieces ++ [{ off := 0, data := d, bootseq := s.shep.bootseq }] := by
  unfold State.sealRecord
  extract_lets x e data u
  rw [State.queuePiece_shep, State.queuePiece_mem]
  exact ⟨rfl, rfl, rfl, data, rfl, rfl⟩

/-- The first addendum of the journal: its events and its own entry join the record, and a piece waits for the BMC. -/
theorem State.signAddendum_shep {g : List (List Word)} {rest : List (List (List Word))} (late : Bool) (h : s.shep.journal = g :: rest) :
    ∃ n copy size p m e, entryType e = 0x11 ∧ (s.signAddendum late).shep = { s.shep with
      entries := s.shep.entries ++ g ++ [e], journal := rest, addseq := s.shep.addseq + 1, formed := n, copy := copy, size := size,
      pieces := s.shep.pieces ++ [p], recMem := m } := by
  unfold State.signAddendum
  simp only [h]
  generalize hu : State.queuePiece _ _ _ _ = u
  obtain ⟨m, hm⟩ := u.recordMemory_shep _
  rw [hm, ← hu, State.queuePiece_shep]
  exact ⟨_, _, _, _, m, _, entryType_recEntry _ _ _ _ _ _ _ _ (by decide), rfl⟩

theorem State.signAddendum_life (late : Bool) : (s.signAddendum late).shep.life = s.shep.life := by
  cases h : s.shep.journal with
  | nil => simp only [State.signAddendum, h]
  | cons g rest =>
    obtain ⟨n, copy, size, p, m, e, -, hshep⟩ := s.signAddendum_shep late h
    rw [hshep]

theorem State.signAll_life (late : Bool) : (s.signAll late).shep.life = s.shep.life :=
  State.foldl_related (R := fun s t => t.shep.life = s.shep.life) (fun _ => rfl) (fun h k => k.trans h)
    (fun t _ _ => t.signAddendum_life late) s

/-! ### Transitions (R591, R592) -/

section
variable (l : Nat) (d : List Byte)

theorem State.transition_shep : ∃ kw cmd es gs n, (s.transition l d).shep =
    { s.shep with life := l, kw := kw, keepSram := [], cmd := cmd, entries := es, journal := gs, formed := n } := by
  unfold State.transition
  extract_lets old
  obtain ⟨kw, cmd, hwipe⟩ := s.keepWipe_shep
  obtain ⟨es, gs, n, hshep⟩ := (s.keepWipe.modShep fun x => { x with life := l }).recordEvent_shep 0x20 0 (old * 16 + l) 0 [] d
  exact ⟨kw, cmd, es, gs, n, by rw [State.raise_shep, hshep, State.modShep_shep, hwipe]⟩

/-- A transition wipes every slot. -/
theorem State.keySlot_transition {n : Nat} (hn : n < 4096) : (s.transition l d).keySlot n = (s.keySlot n).wiped := by
  have hkeys : (s.transition l d).keys = s.keepWipe.keys := by
    unfold State.transition
    rw [State.raise_keys, State.recordEvent_keys, State.modShep_keys]
  rw [State.keySlot, hkeys, s.keepWipe_keys]
  exact tget_map KeySlot.reset (fun n => (s.keySlot n).wiped) (List.mem_range.2 hn)

theorem State.transition_spec : (s.transition l d).shep.life = l ∧ (s.transition l d).shep.keepSram = [] ∧
    (s.transition l d).rbit .evStat 3 0 63 = true ∧
    ∀ n, n < 4096 → ((s.transition l d).keySlot n).state = 0 ∧ ((s.transition l d).keySlot n).key = 0 := by
  obtain ⟨kw, cmd, es, gs, n, hshep⟩ := s.transition_shep l d
  refine ⟨by rw [hshep], by rw [hshep], State.pend_raise _ _, fun n hn => ?_⟩
  rw [State.keySlot_transition _ _ _ hn]
  exact ⟨rfl, rfl⟩

end

/-- VOID destroys the identity store after the transition's addendum is signed (R591, R592). -/
theorem State.toVoid_spec : s.toVoid.shep.life = 4 ∧ s.toVoid.shep.idKeys = none ∧ s.toVoid.shep.chains = none := by
  have hlife := (State.transition_spec { s with shep := { s.shep with nonce := none } } 4 []).1
  refine ⟨?_, rfl, rfl⟩
  simp only [State.toVoid, State.modShep_shep, apply_ite State.shep, apply_ite Shep.life, State.raise_shep, State.signAll_life, hlife, ite_self]

end

end Sys2Proof.Machine
end

section
/-! The mailbox commands and the messages of RAW and VOID (14, R484, R485, R590 to R593, R605, R612, R620 to R623). -/

namespace Sys2Proof.Machine

/-! ### A command served, and its reply (R620, R621, R623) -/

/-- The firmware serves the command that runs: it has the OP, its reserved fields are 0, and the life-cycle state allows it. -/
def State.MbServed (s : State) (op : Nat) (c : MbCmd) (masks life : List Nat) : Prop :=
  s.shep.cmd = some c ∧ c.op = op ∧ s.shep.up = true ∧ s.shep.restart = none ∧ s.shep.load = none ∧ c.fits masks = true ∧
    life.contains s.shep.life = true

theorem State.mbServe_of_served {s : State} {op : Nat} {c : MbCmd} {masks life : List Nat} (f : State → MbCmd → State)
    (h : s.MbServed op c masks life) : s.mbServe op masks life f = f s c := by
  obtain ⟨hcmd, hop, hup, hrestart, hload, hfits, hlife⟩ := h
  simp only [State.mbServe, hcmd, hop, hup, hrestart, hload, hfits, hlife, ne_eq, not_true_eq_false, Bool.not_true, Option.isSome_none,
    Bool.false_eq_true, or_self, if_false]

/-- What a command comes to where its checks pass. -/
theorem exec_served {i : Instr} {s t : State} {op : Nat} {c : MbCmd} {masks life : List Nat} {f : State → MbCmd → State}
    (hexec : exec i s = .next (s.mbServe op masks life f)) (h : s.MbServed op c masks life) (ht : f s c = t) : exec i s = .next t := by
  rw [hexec, State.mbServe_of_served f h, ht]

/-- A reply ends the command with its STATUS and one COUNT more, raises source 0, and is written behind the block. -/
theorem State.mbReply_spec (s : State) (c : MbCmd) {status : Nat} (data : List Word) (h : status < 65536) :
    (s.mbReply c status data).shep.cmd = none ∧ (s.mbReply c status data).rbit .shMbstat 0 0 63 = false ∧
    (s.mbReply c status data).rfld .shMbstat 0 0 47 32 = status ∧
    (s.mbReply c status data).rfld .shMbstat 0 0 31 0 = (s.rfld .shMbstat 0 0 31 0 + 1) % 2 ^ 32 ∧
    (s.mbReply c status data).rbit .evStat 0 0 63 = true ∧
    (s.mbReply c status data).mem = (s.cohWrite (c.addr + 0x80) (wordsBytes (BitVec.ofNat 64 (status * 2 ^ 48) :: data))).mem := by
  have hstat : (s.mbReply c status data).rget .shMbstat =
      setFld (setFld (setFlag (s.rget .shMbstat) 63 false) 47 32 status) 31 0 (fld (s.rget .shMbstat) 31 0 + 1) := by
    rw [State.mbReply, State.mbEnd, State.rget_raise_other (by decide) Nat.zero_lt_one Nat.zero_lt_one (by decide), State.rmod,
      State.rget_rset_same]
    exact congrArg (fun v => setFld (setFld (setFlag v 63 false) 47 32 status) 31 0 (fld v 31 0 + 1))
      (State.rget_cohWrite s _ _ (by decide) Nat.zero_lt_one Nat.zero_lt_one)
  refine ⟨?_, ?_, ?_, ?_, State.pend_raise _ _, State.raise_mem _ _⟩
  · rw [State.mbReply, State.mbEnd, State.raise_shep, State.rmod_shep]
  · rw [State.rbit, hstat, flag_setFld_of_apart _ _ (by decide) (by decide) (by decide),
      flag_setFld_of_apart _ _ (by decide) (by decide) (by decide), flag_setFlag _ _ _ _ (by decide), if_pos rfl]
  · rw [State.rfld, hstat, fld_setFld_of_apart _ _ (by decide) (by decide) (by decide), fld_setFld_same _ _ _ _ (by decide) (by decide) h]
  · rw [State.rfld, hstat, fld_setFld_mod _ _ (by decide) (by decide)]
    rfl

/-! ### Information (R590, R612, R621) -/

section
variable {s u v w : State} {c : MbCmd}

theorem exec_getInfo {nonce : List Byte} (h : s.MbServed 0x01 c [] lifeFull) (hdrbg : s.drbgRefuses = false)
    (hnonce : nonce = toBytes 32 (Config.freeNat s.freeCtr % 2 ^ 256)) : exec (.getInfo .mailbox) s =
      .next (({ s.drawn.drbgUse with shep := { s.shep with nonce := some nonce } }).mbReply c 0
        ([s.rget .shLife, s.rget .shBootseq, BitVec.ofNat 64 Config.serial] ++ bytesWords 4 nonce)) := by
  refine exec_served rfl h ?_
  rw [hdrbg, if_neg Bool.false_ne_true, hnonce]
  rfl

theorem exec_getRecord {d : List Byte} (h : s.MbServed 0x02 c [wordMask, wordMask] lifeFull) (hd : d = s.shep.copyBytes)
    (hlen : d.length ≤ (c.w 2).toNat) (hmem : s.ownMem (c.w 1).toNat (max (c.w 2).toNat 1) = true) : exec (.getRecord .mailbox) s =
      .next ((s.cohWrite (c.w 1).toNat d).mbReply c 0 [BitVec.ofNat 64 d.length, BitVec.ofNat 64 d.length]) := by
  refine exec_served rfl h ?_
  rw [← hd, if_neg (by simp [hmem, hlen])]

theorem exec_getCerts {x y : List Byte} (h : s.MbServed 0x03 c [wordMask, wordMask] lifeFull) (hchains : s.shep.chains = some (x, y))
    (hlen : x.length + y.length ≤ (c.w 2).toNat) (hmem : s.ownMem (c.w 1).toNat (max (c.w 2).toNat 1) = true) : exec .getCerts s =
      .next ((s.cohWrite (c.w 1).toNat (x ++ y)).mbReply c 0 [BitVec.ofNat 64 x.length, BitVec.ofNat 64 y.length]) := by
  refine exec_served rfl h ?_
  rw [hchains]
  exact if_neg (by simp [hmem, hlen])

/-! ### Key slots (R484, R485, R621, R622) -/

/-- A KEY_WRITE that keeps to the rules writes its slot, and the next one with Key2 of a pair. -/
theorem exec_keyWrite {slot ktype use : Nat} {pair : Bool} {bs : List Byte}
    (h : s.MbServed 0x10 c [wordMask, 0xC000000000000FFF, wordMask] [2]) (hslot : slot = fld (c.w 1) 63 52) (hktype : ktype = fld (c.w 1) 51 49)
    (huse : use = fld (c.w 1) 48 43) (hpair : pair = decide (ktype = 4)) (hsrc : fld (c.w 2) 63 62 ≠ 3) (hwiped : c.wiped = false)
    (htripped : s.shep.tripped = 0) (hok : keyUseOk ktype use = true) (h0 : ktype ≠ 0) (h7 : ktype ≠ 7) (heven : pair = true → slot % 2 = 0)
    (hgen : ∀ n, n = slot ∨ pair = true ∧ n = slot + 1 → (s.keySlot n).gen ≠ 2 ^ 32 - 1)
    (hbytes : s.keyMaterial (fld (c.w 2) 63 62) (fld (c.w 2) 11 0) (c.w 3).toNat (if pair then 64 else 32) = (u, .ok bs))
    (hdiff : if pair then bs.take 32 ≠ bs.drop 32 else ktype = 3 → bs.take 16 ≠ bs.drop 16)
    (hv : v = u.setKey slot ((u.keySlot slot).written (ofBytes (bs.take 32)) ktype use (fld (c.w 1) 42 32) (fld (c.w 1) 31 0)))
    (hw : w = if pair then v.setKey (slot + 1) ((v.keySlot (slot + 1)).written (ofBytes (bs.drop 32)) 5 use (fld (c.w 1) 42 32)
      (fld (c.w 1) 31 0)) else v) :
    exec .keyWrite s = .next (w.mbReply c 0 [BitVec.ofNat 64 (w.keySlot slot).gen]) := by
  refine exec_served rfl h ?_
  have hfresh : ((if pair then [slot, slot + 1] else [slot]).any fun n => (s.keySlot n).gen == 2 ^ 32 - 1) = false := by
    refine List.any_eq_false.2 fun n hn => ?_
    rw [beq_iff_eq]
    refine hgen n ?_
    cases pair <;> simpa using hn
  have hsame : (if pair then decide (bs.take 32 = bs.drop 32) else decide (ktype = 3) && decide (bs.take 16 = bs.drop 16)) = false := by
    cases pair
    · simpa using hdiff
    · simpa using hdiff
  have hrule : ¬ ((!keyUseOk ktype use) = true ∨ pair = true ∧ slot % 2 = 1) := by
    rw [hok]
    rintro (hbad | ⟨hp, hodd⟩)
    · exact absurd hbad (by decide)
    · have := heven hp
      omega
  rw [hv] at hw
  subst hslot hktype huse hpair hw
  simp only [hsrc, h0, h7, hwiped, htripped, hrule, hfresh, hbytes, hsame, or_self, if_false, Bool.false_eq_true, ne_eq, not_true_eq_false]

theorem exec_keyErase {slot : Nat} (h : s.MbServed 0x11 c [0xFFF0000000000000] [2]) (hslot : slot = fld (c.w 1) 63 52) (hwiped : c.wiped = false)
    (hu : u = (s.slotsWith slot).foldl State.eraseSlot s) : exec .keyErase s = .next (u.mbReply c 0 [BitVec.ofNat 64 (u.keySlot slot).gen]) := by
  refine exec_served rfl h ?_
  rw [hwiped, if_neg Bool.false_ne_true, hu, hslot]

theorem exec_keyDescribe {k : KeySlot} (h : s.MbServed 0x12 c [0xFFF0000000000000] lifeFull) (hk : k = s.keySlot (fld (c.w 1) 63 52)) :
    exec .keyDescribe s = .next (s.mbReply c 0 [BitVec.ofNat 64 (k.state * 2 ^ 62 + k.ktype * 2 ^ 59 + k.use * 2 ^ 53 + k.owner * 2 ^ 42 + k.gen),
      BitVec.ofNat 64 k.fixed, BitVec.ofNat 64 k.invoc]) :=
  exec_served rfl h (by rw [hk])

theorem exec_keyEraseOwner {mine : List Nat} (h : s.MbServed 0x13 c [0x7FF] [2])
    (hmine : mine = (s.keys.filter fun x => x.2.state != 0 && x.2.owner == fld (c.w 1) 10 0).map fun x => x.1) :
    exec .keyEraseOwner s = .next ((mine.foldl State.eraseSlot s).mbReply c 0 [BitVec.ofNat 64 mine.length]) :=
  exec_served rfl h (by rw [hmine])

/-! ### EXTEND and SEAL (R605, R612, R614) -/

theorem exec_extend (h : s.MbServed 0x21 c (List.replicate 10 wordMask) lifeFull) (hroom : s.shep.sealed = false → s.shep.entries.length < 200) :
    exec .extend s = .next ((s.recordEvent 0x08 0 0 0 (wordsBytes ((c.words.drop 1).take 4)) (wordsBytes ((c.words.drop 5).take 6))).mbReply c 0
      [s.shep.placeWord]) := by
  refine exec_served rfl h (if_neg ?_)
  rintro ⟨hopen, hfull⟩
  exact absurd (hroom (by simpa using hopen)) (Nat.not_lt.2 hfull)

theorem exec_seal {a len : Nat} (h : s.MbServed 0x22 c [wordMask - 255, wordMask] lifeFull) (ha : a = (c.w 1).toNat) (hlen : len = (c.w 2).toNat)
    (hopen : s.shep.sealed = false) (hfits : 128 * (s.shep.entries.length + 2) + 4736 ≤ len) (hmem : s.ownMem a len = true)
    (hu : u = ({ s with shep := { s.shep with recMem := some (a, len, 0) } }).sealRecord)
    (hv : v = (u.recordMemory u.shep.copy.flatten).raise 1) : exec .seal s = .next (v.mbReply c 0 [BitVec.ofNat 64 v.shep.entries.length]) := by
  subst ha hlen hu hv
  refine exec_served rfl h ?_
  rw [hopen, if_neg Bool.false_ne_true, if_neg (by rw [hmem]; simpa using hfits)]

/-! ### The life cycle (R591 to R593) -/

theorem exec_own {d : List Byte} (h : s.MbServed 0x41 c [wordMask] [1]) (hmem : s.ownMem (c.w 1).toNat 97 = true)
    (hd : d = sha384 (s.cohBytes (c.w 1).toNat 97)) :
    exec .own s = .next (((s.modShep fun x => { x with ownerHash := some d }).transition 2 d).mbReply c 0 []) := by
  subst hd
  refine exec_served rfl h ?_
  rw [hmem, Bool.not_true, if_neg Bool.false_ne_true]

theorem exec_return (h : s.MbServed 0x42 c (List.replicate 13 wordMask) [2]) (hmem : s.ownMem (c.w 1).toNat 97 = true)
    (hsigned : s.ownerSigned c = true) :
    exec .returnOwned s = .next (((s.modShep fun x => { x with ownerHash := none, nonce := none }).transition 3 []).mbReply c 0 []) := by
  refine exec_served rfl h ?_
  rw [hmem, hsigned, Bool.not_true, if_neg Bool.false_ne_true, if_neg Bool.false_ne_true]

theorem exec_void (h : s.MbServed 0x43 c (if s.shep.life = 2 then List.replicate 13 wordMask else []) lifeFull)
    (howner : s.shep.life = 2 → s.ownMem (c.w 1).toNat 97 = true ∧ s.ownerSigned c = true) :
    exec (.void .mailbox) s = .next (s.toVoid.mbReply c 0 []) := by
  refine exec_served rfl h ?_
  rw [if_neg fun hbad => ?_, if_neg fun hbad => ?_]
  · exact absurd hbad.2 (by rw [(howner hbad.1).2]; decide)
  · exact absurd hbad.2 (by rw [(howner hbad.1).1]; decide)

end

/-! ### Messages of RAW and VOID (R590, R591, R597) -/

theorem State.tell_mem (s : State) (r : Reply) : (s.tell r).mem = s.mem := rfl

theorem State.drbgNat_mem (s : State) : s.drbgNat.1.mem = s.mem := by rw [State.drbgNat, State.drbgUse, State.drawn_mem]

section
variable {s : State} {words : List Word} {sig ecdsa mldsa : List Byte}

theorem exec_getInfo_message (h : s.message 4 = true) : exec (.getInfo (.message words sig)) s =
    .next (s.tell (.words 0x01 0 [s.rget .shLife, s.rget .shBootseq, BitVec.ofNat 64 Config.serial, 0, 0, 0, 0] [])) := if_pos h

theorem exec_getRecord_message {part : List Byte} (h : s.message 4 = true)
    (hpart : part = (s.shep.copyBytes.drop (lget 0 words 0).toNat).take 1024) : exec (.getRecord (.message words sig)) s =
      .next (s.tell (.words 0x02 0 [BitVec.ofNat 64 part.length, BitVec.ofNat 64 s.shep.copyBytes.length] part)) := by
  rw [hpart]
  exact if_pos h

section
variable (hraw : s.message 0 = true)
include hraw

theorem exec_void_message (hsig : Config.factorySigned (words.map BitVec.toNat) [] sig = true) :
    exec (.void (.message words sig)) s = .next (s.toVoid.tell (.words 0x43 0 [] [])) := by
  change execVoid (.message words sig) s = _
  simp only [execVoid, hraw, hsig, Bool.not_true, Bool.false_eq_true, if_false]

theorem exec_provision (hsig : Config.factorySigned [] [] sig = true) (hdrbg : s.drbgRefuses = false) : ∃ t k l, exec (.provision sig) s = .next t ∧
    t.shep.idKeys = some (k, l) ∧ t.shep.chains = none ∧ t.shep.trips = 0 ∧
    t.shep.reply = some (.words 0 0 [] (Config.ecdsaPublic k ++ Config.mldsaPublic l)) ∧ t.mem = s.mem := by
  change ∃ t k l, execProvision sig s = .next t ∧ _
  simp only [execProvision, hraw, hsig, hdrbg, Bool.not_true, Bool.false_eq_true, if_false]
  exact ⟨_, _, _, rfl, rfl, rfl, rfl, rfl, by rw [State.tell_mem, State.modShep_mem, State.drbgNat_mem, State.drbgNat_mem]⟩

theorem exec_certify (hsig : Config.factorySigned [] (ecdsa ++ mldsa) sig = true) (hkeys : s.shep.idKeys.isSome = true)
    (hecdsa : ecdsa.length ≤ 16384) (hmldsa : mldsa.length ≤ 16384) : ∃ t, exec (.certify sig ecdsa mldsa) s = .next t ∧ t.shep.life = 1 ∧
      t.shep.chains = some (ecdsa, mldsa) ∧ t.shep.reply = some (.words 0 0 [] []) := by
  have hsome : s.shep.idKeys.isNone = false := by rw [← Option.not_isSome, hkeys]; rfl
  obtain ⟨kw, cmd, es, gs, n, hshep⟩ := (s.modShep fun x => { x with chains := some (ecdsa, mldsa) }).transition_shep 1 []
  refine ⟨((s.modShep fun x => { x with chains := some (ecdsa, mldsa) }).transition 1 []).tell (.words 0 0 [] []), ?_, ?_, ?_, rfl⟩
  · change execCertify sig ecdsa mldsa s = _
    simp only [execCertify, hraw, hsig, hsome, Bool.not_true, Bool.false_eq_true, if_false]
    exact if_neg (by omega)
  · exact (congrArg Shep.life hshep :)
  · exact (congrArg Shep.chains hshep :)

end

/-! ### What the record does by itself (R605, R610, R613) -/

theorem exec_autoSeal (hstarted : s.shep.started = true) (hopen : s.shep.sealed = false) (hup : s.shep.up = true) :
    exec .autoSeal s = .next (s.sealRecord.raise 1) :=
  if_pos (by rw [hstarted, hopen, hup]; rfl)

/-- ADDENDUM_SIGNED: the first addendum of the journal joins the record. -/
theorem exec_addendumSigned {g : List (List Word)} {rest : List (List (List Word))} (hjournal : s.shep.journal = g :: rest)
    (hrestart : s.shep.restart = none) (hup : s.shep.up = true) : ∃ (t : State) (e : List Word), exec .addendumSigned s = .next t ∧
      t.shep.entries = s.shep.entries ++ g ++ [e] ∧ entryType e = 0x11 ∧ t.shep.journal = rest ∧ t.shep.addseq = s.shep.addseq + 1 ∧
      t.shep.pieces.length = s.shep.pieces.length + 1 ∧ t.rbit .evStat 1 0 63 = true := by
  obtain ⟨n, copy, size, p, m, e, htype, hshep⟩ := s.signAddendum_shep false hjournal
  have hraise : ((s.signAddendum false).raise 1).shep = _ := (State.raise_shep _ _).trans hshep
  refine ⟨(s.signAddendum false).raise 1, e, if_neg ?_, ?_⟩
  · simp [hjournal, hrestart, hup]
  · rw [hraise]
    exact ⟨rfl, htype, rfl, rfl, List.length_append, State.pend_raise _ _⟩

theorem exec_recordReoffer (hpieces : s.shep.pieces ≠ []) (hheld : s.power.held = false) (hrestart : s.shep.restart = none) :
    exec .recordReoffer s = .next { s with tense := { s.tense with offering := true } } :=
  if_neg (by simp [hpieces, hheld, hrestart])

end

end Sys2Proof.Machine

open Sys2Proof Sys2Proof.Machine

/-- Settles O55: the reply, the slots, the record and the transitions, then each command, message and act of the record by its lemma. -/
theorem mailboxAndRecord : Obligations.MailboxAndRecord := by
  unfold Obligations.MailboxAndRecord
  intro served
  refine ⟨fun s c status data => s.mbReply_spec c data, fun s n k => ⟨s.keySlot_setKey_same n k, fun m => s.keySlot_setKey_ne k⟩,
    fun s type version target length label digest => s.recordEvent_unsealed type version target length label digest,
    fun s => s.sealRecord_spec, fun s l d => s.transition_spec l d, fun s c => ?commands, fun s => s.toVoid_spec,
    fun s words sig ecdsa mldsa => ⟨fun h => ⟨exec_getInfo_message h, fun part => exec_getRecord_message h⟩,
      fun hraw => ⟨exec_void_message hraw, exec_provision hraw, exec_certify hraw⟩⟩,
    fun s => ⟨exec_autoSeal, fun g rest => exec_addendumSigned, exec_recordReoffer⟩⟩
  exact ⟨fun nonce => exec_getInfo, fun d => exec_getRecord, fun x y => exec_getCerts, fun slot ktype use pair bs u v w => exec_keyWrite,
    fun slot u => exec_keyErase, fun k => exec_keyDescribe, fun mine => exec_keyEraseOwner, exec_extend, fun a len u v => exec_seal,
    fun h => exec_own, exec_return, exec_void⟩

end

section
/-! The tick of the always-on clock (16, R655, R664; log entry 50). -/

namespace Sys2Proof.Machine

theorem State.idle_of_held {s : State} (h : s.power.held = true) : s.idle = s := if_pos h

theorem State.idle_of_released {s : State} (h : s.power.held = false) : s.idle = s.rset .pwAotime 0 0 (s.rget .pwAotime + 1) :=
  if_neg (by rw [h]; exact Bool.false_ne_true)

end Sys2Proof.Machine

open Sys2Proof Sys2Proof.Machine

/-- Settles O2: out of reset a tick sets one register. -/
theorem idleStepTicksTheClock : Obligations.IdleStepTicksTheClock := by
  unfold Obligations.IdleStepTicksTheClock
  intro s hs
  refine ⟨fun hheld => ?_, fun hheld => ⟨s.idle, step_nil s hs, ?_⟩⟩
  · rw [step_nil s hs, State.idle_of_held hheld]
  · rw [State.idle_of_released hheld]
    exact ⟨s.rget_rset_same .pwAotime 0 0 _, rfl, fun r i j h => s.rget_rset_ne _ _ _ _ _ _ _ h⟩

end

section
/-! The Shepherd's answers on its I3C port: SPDM requests, their deferral during a restart, and MCTP control commands (14, R589, R615 to
R618). -/

namespace Sys2Proof.Machine

/-! ### Requests served, deferred and not answered -/

/-- The firmware runs out of reset, and the life cycle has SPDM requests answered: it is neither RAW nor VOID (R589). -/
structure State.SpdmServes (s : State) : Prop where
  released : s.power.held = false
  up : s.shep.up = true
  notRaw : s.shep.life ≠ 0
  notVoid : s.shep.life ≠ 4

theorem State.spdmSign_eq (s : State) {key : Nat} (hkey : key = (s.shep.idKeys.map fun k => k.1).getD 0) : s.spdmSign =
    (s.drawn, toBytes 32 (Config.freeNat s.freeCtr), Config.ecdsaSign key (Config.spdmTranscript s.freeCtr)) := by
  rw [hkey]
  rfl

section
variable {s t : State} {r : State → State × Reply} {a : Reply} (hs : s.SpdmServes)
include hs

theorem State.SpdmServes.not_silent : ¬ (s.power.held ∨ !s.shep.up ∨ s.shep.life = 0 ∨ s.shep.life = 4) := by
  simp [hs.released, hs.up, hs.notRaw, hs.notVoid]

/-- Where the cores do not restart, the answer is given at once. -/
theorem State.spdm_ready (hr : r s = (t, a)) (hrestart : t.shep.restart = none) : s.spdm r = t.tell a := by
  simp only [State.spdm, if_neg hs.not_silent, hr, hrestart, Option.isSome_none, Bool.false_eq_true, if_false]

/-- During a restart it is deferred (R618). -/
theorem State.spdm_restarting (hr : r s = (t, a)) (hrestart : t.shep.restart ≠ none) :
    s.spdm r = { t with shep := { t.shep with reply := some .notReady, deferred := some a } } := by
  simp only [State.spdm, if_neg hs.not_silent, hr, Option.isSome_iff_ne_none.2 hrestart, if_true]

/-! ### The requests (R616, R617) -/

variable (hrestart : s.shep.restart = none)
include hrestart

theorem exec_getVersion : exec .getVersion s = .next (s.tell .version) :=
  (if_neg fun h => hs.notVoid h.1).trans (congrArg Host.Outcome.next (State.spdm_ready hs rfl hrestart))

theorem exec_getCapabilities : exec .getCapabilities s = .next (s.tell .capabilities) :=
  congrArg Host.Outcome.next (State.spdm_ready hs rfl hrestart)

theorem exec_negotiateAlgorithms : exec .negotiateAlgorithms s = .next (s.tell .algorithms) :=
  congrArg Host.Outcome.next (State.spdm_ready hs rfl hrestart)

theorem exec_getDigests : exec .getDigests s = .next (s.tell (.digests (sha384 s.slotChain))) :=
  congrArg Host.Outcome.next (State.spdm_ready hs rfl hrestart)

theorem exec_spdmUnsupportedRequest : exec .spdmUnsupportedRequest s = .next (s.tell .unsupported) :=
  congrArg Host.Outcome.next (State.spdm_ready hs rfl hrestart)

theorem exec_getCertificate {off : Nat} (len : Nat) (hoff : off < s.slotChain.length) : exec (.getCertificate 0 off len) s =
    .next (s.tell (.certificate ((s.slotChain.drop off).take len) (s.slotChain.length - off - min len (s.slotChain.length - off)))) := by
  refine congrArg Host.Outcome.next (State.spdm_ready hs (congrArg (Prod.mk s) (if_neg ?_)) hrestart)
  omega

theorem exec_getCertificate_invalid {slot off : Nat} (len : Nat) (h : slot ≠ 0 ∨ s.slotChain.length ≤ off) :
    exec (.getCertificate slot off len) s = .next (s.tell .invalid) :=
  congrArg Host.Outcome.next (State.spdm_ready hs (congrArg (Prod.mk s) (if_pos h)) hrestart)

theorem exec_challenge {key : Nat} (hkey : key = (s.shep.idKeys.map fun k => k.1).getD 0) : exec (.challenge 0) s =
    .next (s.drawn.tell (.challengeAuth (sha384 s.slotChain) (toBytes 32 (Config.freeNat s.freeCtr))
      (Config.ecdsaSign key (Config.spdmTranscript s.freeCtr)))) := by
  refine congrArg Host.Outcome.next (State.spdm_ready hs ?_ hrestart)
  rw [if_neg (not_not.2 rfl), s.spdmSign_eq hkey]

theorem exec_challenge_invalid {slot : Nat} (h : slot ≠ 0) : exec (.challenge slot) s = .next (s.tell .invalid) :=
  congrArg Host.Outcome.next (State.spdm_ready hs (if_pos h) hrestart)

/-! ### Measurements (R617) -/

/-- The measurement of boot entry `i`, under its index. -/
def State.bootBlock (s : State) (i : Nat) : Nat × List Byte := (i + 1, entryDigest (lget [] s.shep.bootPart i))

/-- The measurements an index names: all of the boot part, the chain of the record, or one entry. -/
def State.measured (s : State) (index : Nat) : Option (List (Nat × List Byte)) :=
  if index = 0xFF then some ((List.range (min s.shep.bootPart.length 200)).map s.bootBlock)
  else if index = 0xEF then some [(0xEF, recordChain s.shep.header s.shep.entries)]
  else if 1 ≤ index ∧ index ≤ 200 ∧ index ≤ s.shep.bootPart.length then some [s.bootBlock (index - 1)]
  else none

theorem exec_getMeasurements {index key : Nat} {bs : List (Nat × List Byte)} {signed : Bool} {sig : List Byte} (hbs : s.measured index = some bs)
    (hkey : key = (s.shep.idKeys.map fun k => k.1).getD 0)
    (hsig : sig = if signed then Config.ecdsaSign key (Config.spdmTranscript s.freeCtr) else []) : exec (.getMeasurements index signed) s =
      .next (s.drawn.tell (.measurements bs (toBytes 32 (Config.freeNat s.freeCtr)) sig)) := by
  refine congrArg Host.Outcome.next (State.spdm_ready hs ?_ hrestart)
  change (match s.measured index with
    | none => (s, Reply.invalid)
    | some bs => (s.spdmSign.1, Reply.measurements bs s.spdmSign.2.1 (if signed then s.spdmSign.2.2 else []))) = _
  rw [hbs, s.spdmSign_eq hkey, hsig]

theorem exec_getMeasurements_invalid {index : Nat} (signed : Bool) (h : s.measured index = none) :
    exec (.getMeasurements index signed) s = .next (s.tell .invalid) := by
  refine congrArg Host.Outcome.next (State.spdm_ready hs ?_ hrestart)
  change (match s.measured index with
    | none => (s, Reply.invalid)
    | some bs => (s.spdmSign.1, Reply.measurements bs s.spdmSign.2.1 (if signed then s.spdmSign.2.2 else []))) = _
  rw [h]

omit hs hrestart in
theorem State.measured_entry (s : State) {i : Nat} (h1 : 1 ≤ i) (h200 : i ≤ 200) (hlen : i ≤ s.shep.bootPart.length) :
    s.measured i = some [(i, entryDigest (lget [] s.shep.bootPart (i - 1)))] := by
  rw [State.measured, if_neg (by omega), if_neg (by omega), if_pos ⟨h1, h200, hlen⟩, State.bootBlock, Nat.sub_add_cancel h1]

/-! ### RESPOND_IF_READY (R616, R618) -/

theorem exec_respondIfReady {a : Reply} (h : s.shep.deferred = some a) :
    exec .respondIfReady s = .next { s with shep := { s.shep with reply := some a, deferred := none } } := by
  change execRespondIfReady s = _
  simp only [execRespondIfReady, hs.released, hs.up, hs.notRaw, hs.notVoid, hrestart, h, Bool.not_true, Bool.false_eq_true, false_and, or_self,
    if_false, Option.isSome_none]

theorem exec_respondIfReady_invalid (h : s.shep.deferred = none) : exec .respondIfReady s = .next (s.tell .invalid) := by
  change execRespondIfReady s = _
  simp only [execRespondIfReady, hs.released, hs.up, hs.notRaw, hs.notVoid, hrestart, h, Bool.not_true, Bool.false_eq_true, false_and, or_self,
    if_false, Option.isSome_none]

end

/-- In VOID the version alone is answered (R589). -/
theorem exec_getVersion_void {s : State} (hheld : s.power.held = false) (hup : s.shep.up = true) (hlife : s.shep.life = 4)
    (hrestart : s.shep.restart = none) : exec .getVersion s = .next (s.tell .version) := by
  refine (if_pos ⟨hlife, hup, by rw [hheld]; rfl⟩).trans ?_
  rw [hrestart]
  rfl

/-- An MCTP control command is answered while the firmware runs out of reset (R615). -/
theorem State.mctp_of_up {s : State} (hheld : s.power.held = false) (hup : s.shep.up = true) (k : State → State) : s.mctp k = k s :=
  if_neg (by simp [hheld, hup])

end Sys2Proof.Machine

open Sys2Proof Sys2Proof.Machine

/-- Settles O56: each request by its lemma; MCTP commands are answered as they come. -/
theorem spdmAndMctpAnswers : Obligations.SpdmAndMctpAnswers := by
  unfold Obligations.SpdmAndMctpAnswers
  intro s hheld hup
  have hmctp (k : State → State) : s.mctp k = k s := State.mctp_of_up hheld hup k
  refine ⟨fun h0 h4 key hkey => ?_, exec_getVersion_void hheld hup, fun n => congrArg Host.Outcome.next (hmctp _),
    congrArg Host.Outcome.next (hmctp _), congrArg Host.Outcome.next (hmctp _), congrArg Host.Outcome.next (hmctp _)⟩
  have hs : s.SpdmServes := ⟨hheld, hup, h0, h4⟩
  refine ⟨fun hrestart r => State.spdm_restarting hs rfl hrestart, fun hr => ⟨exec_getVersion hs hr, exec_getCapabilities hs hr,
    exec_negotiateAlgorithms hs hr, exec_getDigests hs hr, exec_spdmUnsupportedRequest hs hr, fun off len => exec_getCertificate hs hr len,
    fun slot off len => exec_getCertificate_invalid hs hr len, exec_challenge hs hr hkey, fun slot => exec_challenge_invalid hs hr,
    fun signed sig hsig => ⟨fun i h1 h200 hlen => exec_getMeasurements hs hr (s.measured_entry h1 h200 hlen) hkey hsig,
      exec_getMeasurements hs hr rfl hkey hsig, exec_getMeasurements hs hr rfl hkey hsig, exec_getMeasurements_invalid hs hr signed rfl⟩,
    fun r => exec_respondIfReady hs hr, exec_respondIfReady_invalid hs hr⟩⟩

end

section
/-! Strike counters: a strike below WARN, the drains of a counter and of a row's, and the clear of a lame declaration (15, R630 to R633). -/

namespace Sys2Proof.Machine

/-! ### Strikes (R630, R631) -/

section
variable {s : State} {c i : Nat} (hwarn : s.rfld .ftCnt c i 31 0 + 1 < s.warnAt c) (hthresh : s.rfld .ftCnt c i 31 0 + 1 < s.thresh c)
include hwarn hthresh

/-- Such a strike only counts: it sets LEVEL and TOTAL of its counter. -/
theorem State.strike_of_below : s.strike c i = s.rset .ftCnt c i (setFld (setFld (s.rget .ftCnt c i) 31 0 (s.rfld .ftCnt c i 31 0 + 1)) 61 32
    (min (s.rfld .ftCnt c i 61 32 + 1) (2 ^ 30 - 1))) := by
  have hmax : s.warnAt c < 2 ^ 32 := fld_lt _ 31 0
  have hlevel : satAdd (2 ^ 32 - 1) (s.rfld .ftCnt c i 31 0) 1 = s.rfld .ftCnt c i 31 0 + 1 := Nat.min_eq_left (by omega)
  have hwarns : decide (s.warnAt c ≤ s.rfld .ftCnt c i 31 0 + 1) = false := decide_eq_false (Nat.not_le.2 hwarn)
  have hfalls : decide (s.thresh c ≤ s.rfld .ftCnt c i 31 0 + 1) = false := decide_eq_false (Nat.not_le.2 hthresh)
  rw [State.rfld] at hlevel hwarns hfalls
  simp only [State.strike, hlevel, hwarns, hfalls, Bool.false_and, Bool.false_eq_true, if_false]
  rfl

theorem State.strike_below_spec : (s.strike c i).rfld .ftCnt c i 31 0 = s.rfld .ftCnt c i 31 0 + 1 ∧
    (s.strike c i).rfld .ftCnt c i 61 32 = min (s.rfld .ftCnt c i 61 32 + 1) (2 ^ 30 - 1) ∧
    (s.strike c i).rbit .ftCnt c i 63 = s.rbit .ftCnt c i 63 ∧ { s.strike c i with regs := s.regs } = s := by
  have hmax : s.warnAt c < 2 ^ 32 := fld_lt _ 31 0
  have htotal : min (s.rfld .ftCnt c i 61 32 + 1) (2 ^ 30 - 1) < 2 ^ 30 := (Nat.min_le_right _ _).trans_lt (by decide)
  rw [State.strike_of_below hwarn hthresh]
  refine ⟨?_, ?_, ?_, rfl⟩
  · rw [State.rfld, State.rget_rset_same, fld_setFld_of_apart _ _ (by decide) (by decide) (by decide),
      fld_setFld_same _ _ _ _ (by decide) (by decide) (by omega)]
  · rw [State.rfld, State.rget_rset_same, fld_setFld_same _ _ _ _ (by decide) (by decide) htotal]
  · rw [State.rbit, State.rget_rset_same, flag_setFld_of_apart _ _ (by decide) (by decide) (by decide),
      flag_setFld_of_apart _ _ (by decide) (by decide) (by decide), State.rbit]

end

/-! ### Drains (R631) -/

section
variable {s : State} {c i acc : Nat} (hacc : acc = tget 0 s.strikeAcc (65536 * c + i) + s.thresh c)
include hacc

theorem State.drainCounter_below (h : acc < s.windowTicks c) :
    s.drainCounter c i = { s with strikeAcc := tput 0 s.strikeAcc (65536 * c + i) acc } := by
  subst hacc
  exact if_pos h

/-- At WINDOW one is taken from LEVEL, and WARNED goes with the last. -/
theorem State.drainCounter_window (h : s.windowTicks c ≤ acc) : s.drainCounter c i =
    ({ s with strikeAcc := tput 0 s.strikeAcc (65536 * c + i) (acc - s.windowTicks c) }).rset .ftCnt c i
      (setFlag (setFld (s.rget .ftCnt c i) 31 0 (s.rfld .ftCnt c i 31 0 - 1)) 62
        (s.rbit .ftCnt c i 62 && decide (s.rfld .ftCnt c i 31 0 - 1 ≠ 0))) := by
  subst hacc
  exact if_neg (Nat.not_lt.2 h)

theorem exec_strikeDrainTick (hc : c ≠ 7) (hi : i < classCount c) : ∃ t, exec (.strikeDrainTick c i) s = .next t ∧ t.mem = s.mem ∧
    (acc < s.windowTicks c → tget 0 t.strikeAcc (65536 * c + i) = acc ∧ t.regs = s.regs) ∧
    (s.windowTicks c ≤ acc → tget 0 t.strikeAcc (65536 * c + i) = acc - s.windowTicks c ∧
      t.rfld .ftCnt c i 31 0 = s.rfld .ftCnt c i 31 0 - 1 ∧
      t.rbit .ftCnt c i 62 = (s.rbit .ftCnt c i 62 && decide (1 < s.rfld .ftCnt c i 31 0)) ∧
      t.rbit .ftCnt c i 63 = s.rbit .ftCnt c i 63) := by
  have hexec : exec (.strikeDrainTick c i) s = .next (s.drainCounter c i) := (if_neg hc).trans (if_pos hi)
  rcases Nat.lt_or_ge acc (s.windowTicks c) with h | h
  · refine ⟨_, hexec, ?_, fun _ => ?_, fun h' => absurd h (Nat.not_lt.2 h')⟩ <;> rw [State.drainCounter_below hacc h]
    exact ⟨tget_tput_same _ _ _ _, rfl⟩
  · have hlevel : s.rfld .ftCnt c i 31 0 - 1 < 2 ^ 32 := (Nat.sub_le _ _).trans_lt (fld_lt _ 31 0)
    have hlast : decide (s.rfld .ftCnt c i 31 0 - 1 ≠ 0) = decide (1 < s.rfld .ftCnt c i 31 0) := decide_eq_decide.2 (by omega)
    refine ⟨_, hexec, ?_, fun h' => absurd h' (Nat.not_lt.2 h), fun _ => ?_⟩ <;> rw [State.drainCounter_window hacc h]
    · rfl
    refine ⟨tget_tput_same _ _ _ _, ?_, ?_, ?_⟩
    · rw [State.rfld, State.rget_rset_same, setFlag, fld_setFld_of_apart _ _ le_rfl (by decide) (by decide),
        fld_setFld_same _ _ _ _ (by decide) (by decide) hlevel]
    · rw [State.rbit, State.rget_rset_same, flag_setFlag _ _ _ _ (by decide), if_pos rfl, hlast]
    · rw [State.rbit, State.rget_rset_same, flag_setFlag _ _ _ _ (by decide), if_neg (by decide),
        flag_setFld_of_apart _ _ (by decide) (by decide) (by decide), State.rbit]

end

/-- The drain of a row's counter; one at 0 that is not lame is free again (R630). -/
theorem exec_strikeDrainTick_row {s : State} {ch row k acc : Nat} (hrow : row < 2 ^ 32)
    (hcounted : ∃ x ∈ s.memctl.rows, x.channel = ch ∧ x.row = row) (hk : k = 2 ^ 40 + ch * 2 ^ 32 + row)
    (hacc : acc = tget 0 s.strikeAcc k + s.thresh 7) :
    (acc < s.windowTicks 7 → exec (.strikeDrainTick 7 (ch * 2 ^ 32 + row)) s = .next { s with strikeAcc := tput 0 s.strikeAcc k acc }) ∧
    (s.windowTicks 7 ≤ acc → exec (.strikeDrainTick 7 (ch * 2 ^ 32 + row)) s =
      .next (({ s with strikeAcc := tput 0 s.strikeAcc k (acc - s.windowTicks 7) }).modMc fun m =>
        { m with rows := (m.rows.map (drainedRow ch row)).filter fun x => x.level != 0 || x.lame })) := by
  have hany : (!s.memctl.rows.any fun x => x.channel == ch && x.row == row) = false := by
    obtain ⟨x, hx, hch, hr⟩ := hcounted
    rw [Bool.not_eq_false', List.any_eq_true]
    exact ⟨x, hx, by simp [hch, hr]⟩
  have hexec : exec (.strikeDrainTick 7 (ch * 2 ^ 32 + row)) s = .next (s.drainRow ch row) := by
    change Host.Outcome.next (s.drainRow ((ch * 2 ^ 32 + row) / 2 ^ 32) ((ch * 2 ^ 32 + row) % 2 ^ 32)) = _
    rw [show (ch * 2 ^ 32 + row) / 2 ^ 32 = ch by omega, show (ch * 2 ^ 32 + row) % 2 ^ 32 = row by omega]
  subst hk hacc
  refine ⟨fun h => ?_, fun h => ?_⟩ <;> rw [hexec, State.drainRow, hany]
  · exact congrArg Host.Outcome.next (if_pos h)
  · exact congrArg Host.Outcome.next (if_neg (Nat.not_lt.2 h))

/-! ### Clears (R633) -/

/-- Whether a lame component of class `c` may be cleared. -/
def State.mayClear (s : State) (c i : Nat) : Bool :=
  match c with
  | 0 => (s.roleOf i).isNone && (s.core i).tested
  | 1 | 6 | 7 | 8 | 14 | 15 => false
  | _ => true

section
variable {s : State} {c i : Nat}

theorem State.mayClear_of (h0 : c = 0 → s.roleOf i = none ∧ (s.core i).tested = true)
    (hc : c ≠ 1 ∧ c ≠ 6 ∧ c ≠ 7 ∧ c ≠ 8 ∧ c ≠ 14 ∧ c ≠ 15) : s.mayClear c i = true := by
  obtain ⟨h1, h6, h7, h8, h14, h15⟩ := hc
  unfold State.mayClear
  split
  case h_1 =>
    obtain ⟨hrole, htested⟩ := h0 rfl
    rw [hrole, htested]
    rfl
  case h_8 => rfl
  all_goals contradiction

theorem State.not_mayClear_of (hc : c = 1 ∨ c = 6 ∨ c = 7 ∨ c = 8 ∨ c = 14 ∨ c = 15) : s.mayClear c i = false := by
  obtain rfl | rfl | rfl | rfl | rfl | rfl := hc <;> rfl

theorem exec_ftCntClear {a : Agent} {v : Word} (hacc : s.accepts a .ftCnt c i v) (hv : flag v 63 = true) (hlame : s.rbit .ftCnt c i 63 = true) :
    exec (.ftCntClear a c i v) s =
      .next (if s.mayClear c i then (s.cleared c i).rput .ftStat 0 0 62 62 0 else s.rput .ftStat 0 0 62 62 1) := by
  refine stores_of rfl ((congrArg some ((if_pos hv).trans ?_) :)) hacc
  change (if !s.rbit .ftCnt c i 63 then s else if !s.mayClear c i then s.rput .ftStat 0 0 62 62 1 else (s.cleared c i).rput .ftStat 0 0 62 62 0) = _
  rw [hlame]
  cases s.mayClear c i <;> rfl

theorem ftCnt_addr_ne_ftStat (c i : Nat) : Reg.ftCnt.addr c i ≠ Reg.ftStat.addr := by
  simp only [Reg.addr, Reg.place]
  omega

theorem State.clearLame_regs (h : s.rbit .ftCnt c i 63 = true) : (s.clearLame c i).regs =
    ((s.rmod .ftCnt c i fun v => setFlag (setFlag (setFld v 31 0 0) 63 false) 62 false).rmod .ftStat 0 0 fun w =>
      setFld w 15 0 (fld w 15 0 - 1)).regs := by
  rw [State.clearLame, if_pos h]

/-- Once cleared, a component is not lame. -/
theorem State.rbit_clearLame (s : State) (c i : Nat) : (s.clearLame c i).rbit .ftCnt c i 63 = false := by
  by_cases h : s.rbit .ftCnt c i 63 = true
  · rw [State.rbit, State.rget_of_regs_eq (State.clearLame_regs h), State.rmod, State.rget_rset_ne _ _ _ _ _ _ _ _ (ftCnt_addr_ne_ftStat c i),
      State.rmod, State.rget_rset_same, flag_setFlag _ _ _ _ (by decide), if_neg (by decide), flag_setFlag _ _ _ _ (by decide), if_pos rfl]
  · rw [State.clearLame, if_neg h]
    exact Bool.eq_false_of_not_eq_true h

/-- Classes without a repair of their own are only cleared. -/
theorem State.cleared_eq_clearLame (s : State) (i : Nat) (h : c ∉ [2, 3, 4, 11, 12, 13, 16]) : s.cleared c i = s.clearLame c i := by
  unfold State.cleared
  split
  case h_8 => rfl
  all_goals exact absurd h (by decide)

end

end Sys2Proof.Machine
end

section
/-! The self-test of a core, asynchronous machine checks and the test access port (15, R640 to R651). -/

namespace Sys2Proof.Machine

/-! ### Self-tests (R643, R651) -/

theorem exec_ftCtest {s : State} {a : Agent} {v : Word} (hacc : s.accepts a .ftCtest 0 0 v) (hidle : s.rbit .ftCtstat 0 0 63 = false)
    (hrole : s.roleOf (fld v 7 0) = none) (hruns : s.foldRuns (foldOf (fld v 7 0)) = true) :
    exec (.ftCtest a v) s = .next (s.rset .ftCtstat 0 0 (BitVec.ofNat 64 (2 ^ 63 + fld v 7 0))) := by
  refine stores_of rfl ((congrArg some ?_ :)) hacc
  simp only [State.ftCtest, hidle, hrole, hruns, Option.isSome_none, Bool.not_true, Bool.false_eq_true, or_self, if_false]

section
variable {s u : State} {n : Nat} (hbusy : s.rbit .ftCtstat 0 0 63 = true) (hn : n = s.rfld .ftCtstat 0 0 7 0)
include hbusy hn

theorem exec_coreSelftestComplete_pass : ∃ t, exec (.coreSelftestComplete true) s = .next t ∧ (t.core n).tested = true ∧
    t.rbit .ftCtstat 0 0 63 = false ∧ t.rfld .ftCtstat 0 0 62 60 = 1 ∧ t.mem = s.mem := by
  subst hn
  refine ⟨_, if_neg (by simp [hbusy]), ?_, ?_, ?_, rfl⟩
  · exact congrArg Core.tested (State.core_modCore_same _ _ _)
  · refine (congrArg (flag · 63) (s.rget_rset_same .ftCtstat 0 0 _)).trans ?_
    rw [flag_setFld_of_apart _ _ (by decide) (by decide) (by decide), flag_setFlag _ _ _ _ (by decide), if_pos rfl]
  · exact (congrArg (fld · 62 60) (s.rget_rset_same .ftCtstat 0 0 _)).trans (fld_setFld_same _ _ _ _ (by decide) (by decide) (by decide))

theorem exec_coreSelftestComplete_fail (hu : u = s.rmod .ftCtstat 0 0 fun v => setFld (setFlag v 63 false) 62 60 2) :
    exec (.coreSelftestComplete false) s = .next ((u.strike 0 n).declare 0 n) := by
  subst hn hu
  exact if_neg (by simp [hbusy])

end

/-! ### Asynchronous machine checks (R640) -/

/-- The delivery of the machine check that waits: it joins those of the core, and the waiting one is gone. -/
def State.mcDelivered (s : State) (m : MCheck) (n : Nat) : State :=
  ({ s with asyncMc := none }.rput .ftStat 0 0 63 63 0).modCore n fun c => { c with smchecks := c.smchecks ++ [m] }

/-- The core of the log's record where it waited: the core the check was delivered to. -/
def State.mcLogged (s : State) (n : Nat) : State :=
  let v := s.rget .ftMclog
  if flag v 63 && flag v 52 && fld v 51 44 == 0xFF then s.rput .ftMclog 0 0 51 44 n else s

theorem State.mcLogged_spec (s : State) (n : Nat) : ∃ t, s.mcLogged n = t ∧ t.asyncMc = s.asyncMc ∧ t.cores = s.cores ∧ t.mem = s.mem ∧
    t.rget .ftStat = s.rget .ftStat := by
  refine ⟨_, rfl, ?_⟩
  unfold State.mcLogged
  extract_lets v
  split
  · exact ⟨rfl, rfl, rfl, State.rget_rput_other _ _ _ (by decide) Nat.zero_lt_one Nat.zero_lt_one Nat.zero_lt_one Nat.zero_lt_one⟩
  · exact ⟨rfl, rfl, rfl, rfl⟩

theorem exec_asyncMachineCheck {s : State} {m : MCheck} {n : Nat} (hm : s.asyncMc = some m) (htarget : s.rbit .ftMctarget 0 0 63 = true)
    (hruns : s.lstate (s.logical (s.rfld .ftMctarget 0 0 7 0)) = 0)
    (hn : (s.coresOf (s.logical (s.rfld .ftMctarget 0 0 7 0))).head? = some n) : ∃ t, exec .asyncMachineCheck s = .next t ∧ t.asyncMc = none ∧
      (t.core n).smchecks = (s.core n).smchecks ++ [m] ∧ t.rbit .ftStat 0 0 63 = false ∧ t.mem = s.mem := by
  obtain ⟨rest, hcores⟩ := List.head?_eq_some_iff.1 hn
  obtain ⟨t, ht, hasync, hcoresT, hmem, hstat⟩ := (s.mcDelivered m n).mcLogged_spec n
  refine ⟨t, ?_, hasync, ?_, ?_, hmem⟩
  · rw [← ht]
    change execAsyncMachineCheck s = _
    simp only [execAsyncMachineCheck, hm, htarget, hruns, hcores, Bool.not_true, Bool.false_eq_true, ne_eq, not_true_eq_false, or_self, if_false]
    rfl
  · refine (congrArg (fun cs => (tget Core.reset cs n).smchecks) hcoresT).trans ?_
    exact congrArg Core.smchecks (State.core_modCore_same _ _ _)
  · exact (State.rbit_congr hstat 63).trans (State.rbit_rput_bit _ _ _ _ _ (by decide))

/-! ### The test access port (R646, R647) -/

theorem State.tapSelect_drives (s : State) (code : Nat) :
    s.tapSelect code true = { s with power := { s.power with tap := if s.power.held then code else 0xFF } } := by
  unfold State.tapSelect
  cases s.power.held <;> rfl

end Sys2Proof.Machine

open Sys2Proof Sys2Proof.Machine

/-- Settles O57: the counters, their clears, the tests, the machine check and the port, each by its lemma. -/
theorem faultsTestsAndTheTestPort : Obligations.FaultsTestsAndTheTestPort := by
  unfold Obligations.FaultsTestsAndTheTestPort
  refine ⟨fun s c i _ hwarn hthresh => State.strike_below_spec hwarn hthresh, fun s c i acc hc hi hacc => exec_strikeDrainTick hacc hc hi,
    fun s ch row k acc hrow hcounted hk hacc => ?_, fun s a c i v hacc hv hlame => ⟨fun h0 h1 h6 h7 h8 h14 h15 => ?_, fun hc => ?_⟩,
    fun s c i => ⟨s.rbit_clearLame c i, s.cleared_eq_clearLame i⟩,
    fun s a v => ⟨exec_ftCtest, stores_of rfl rfl, fun hv => stores_of rfl (congrArg some (if_pos hv))⟩,
    fun s u n hbusy hn => ⟨exec_coreSelftestComplete_pass hbusy hn, exec_coreSelftestComplete_fail hbusy hn⟩,
    fun s m n => exec_asyncMachineCheck, fun s => ⟨rfl, rfl, rfl, fun c n hc => ?_⟩⟩
  · obtain ⟨hbelow, hwindow⟩ := exec_strikeDrainTick_row hrow hcounted hk hacc
    exact ⟨hbelow, fun h => ⟨_, hwindow h, rfl, rfl, rfl⟩⟩
  · rw [exec_ftCntClear hacc hv hlame, State.mayClear_of h0 ⟨h1, h6, h7, h8, h14, h15⟩, if_pos rfl]
  · rw [exec_ftCntClear hacc hv hlame, State.not_mayClear_of hc, if_neg Bool.false_ne_true]
  · have hdrives (code : Nat) := congrArg (Host.Outcome.next (φ := Fault) (ρ := Refusal)) (s.tapSelect_drives code)
    obtain ⟨rfl, rfl⟩ | ⟨rfl, rfl⟩ | ⟨rfl, rfl⟩ | ⟨rfl, rfl⟩ | ⟨rfl, rfl⟩ := hc <;> exact hdrives _

end

section
/-! Runs of updates and the registers they leave, and the thermal caps after a raise. -/

namespace Sys2Proof.Machine

theorem State.RegsBut.refl (X : List Reg) (s : State) : State.RegsBut X s s := .of_eq rfl rfl

theorem State.RegsBut.foldl {α : Type} {X : List Reg} {f : State → α → State} {l : List α} (h : ∀ s, ∀ x ∈ l, State.RegsBut X s (f s x))
    (s : State) : State.RegsBut X s (l.foldl f s) :=
  State.foldl_related (.refl X) .trans h s

/-- A run of updates of which one alone concerns a place: what the others keep holds from before the run to that update and from it to the
run's end. -/
theorem State.foldl_once {α : Type} {R : State → State → Prop} (hrefl : ∀ s, R s s) (htrans : ∀ {s t u}, R s t → R t u → R s u)
    {f : State → α → State} {l : List α} (hl : l.Nodup) {x : α} (hx : x ∈ l) (h : ∀ s, ∀ y ∈ l, y ≠ x → R s (f s y)) (s : State) :
    ∃ u, R s u ∧ R (f u x) (l.foldl f s) := by
  obtain ⟨l₁, l₂, rfl⟩ := List.append_of_mem hx
  obtain ⟨-, hcons, hapart⟩ := List.nodup_append.1 hl
  have hx₂ := (List.nodup_cons.1 hcons).1
  rw [List.foldl_append, List.foldl_cons]
  exact ⟨l₁.foldl f s,
    State.foldl_related hrefl htrans (fun s y hy => h s y (List.mem_append_left _ hy) (hapart y hy x List.mem_cons_self)) s,
    State.foldl_related hrefl htrans
      (fun s y hy => h s y (List.mem_append_right _ (List.mem_cons_of_mem x hy)) fun e => hx₂ (e ▸ hy)) _⟩

/-- A write to a table leaves its other places, whatever default they are read with. -/
theorem tget_tput_of_ne {α : Type} [DecidableEq α] (d e : α) (t : Tbl α) {n m : Nat} (x : α) (h : m ≠ n) :
    tget d (tput e t n x) m = tget d t m := by
  unfold tput
  split
  · rw [tget_eq_tfind, tfind_tdel_ne _ _ _ h, ← tget_eq_tfind]
  · exact tget_tins_ne _ _ _ _ _ h

@[simp] theorem State.raise_thermal (s : State) (src : Nat) : (s.raise src).thermal = s.thermal := by
  obtain ⟨q, f, e, -⟩ := s.raise_spec src
  rw [e]
  rfl

end Sys2Proof.Machine
end

section
/-! Rails, and the blocks whose clocks the module manages: their registers, caps, sleep and wake (16, R658, R662 to R669). -/

namespace Sys2Proof.Machine

/-! ### Rails (R658, R659) -/

section
variable {s : State} {i : Nat}

theorem exec_railExcursion_leaves (high : Bool) (hi : i < 9) (hin : s.rbit .pwStat 0 0 (55 + i) = true) : ∃ t,
    exec (.railExcursion i true high) s = .next t ∧ t.rbit .pwStat 0 0 (55 + i) = false ∧ t.mem = s.mem ∧
      (s.power.held = false → t.rbit .evStat 17 0 63 = true ∧ (s.rbit .pwRaillog 0 0 63 = false →
        t.rget .pwRaillog = BitVec.ofNat 64 (2 ^ 63 + (i * 2 ^ 58 + bnat high * 2 ^ 57 + s.now % 2 ^ 32) % 2 ^ 62))) := by
  have hout : (s.rput .pwStat 0 0 (55 + i) (55 + i) 0).rbit .pwStat 0 0 (55 + i) = false := State.rbit_rput_bit _ _ _ _ _ (by omega)
  have hnow : (s.rput .pwStat 0 0 (55 + i) (55 + i) 0).now = s.now :=
    congrArg BitVec.toNat (State.rget_rput_other _ _ _ (by decide) Nat.zero_lt_one Nat.zero_lt_one Nat.zero_lt_one Nat.zero_lt_one)
  have hlog : (s.rput .pwStat 0 0 (55 + i) (55 + i) 0).rget .pwRaillog = s.rget .pwRaillog :=
    State.rget_rput_other _ _ _ (by decide) Nat.zero_lt_one Nat.zero_lt_one Nat.zero_lt_one Nat.zero_lt_one
  refine ⟨_, (if_neg (Nat.not_le.2 hi)).trans ((if_neg Bool.false_ne_true).trans (if_neg (by simp [hin]))), ?_, ?_, fun hheld => ?_⟩
  · split
    · exact hout
    · rw [State.rbit, State.rget_raise_other (by decide) Nat.zero_lt_one Nat.zero_lt_one (by decide), State.record,
        State.rget_rset_other _ (by decide) Nat.zero_lt_one Nat.zero_lt_one Nat.zero_lt_one Nat.zero_lt_one]
      exact hout
  · split
    · rfl
    · exact State.raise_mem _ _
  · rw [if_neg (by simp [hheld])]
    refine ⟨State.pend_raise _ _, fun hempty => ?_⟩
    rw [State.rget_raise_other (by decide) Nat.zero_lt_one Nat.zero_lt_one (by decide),
      (State.record_spec _ _ _ _ _).2 ((congrArg (flag · 63) hlog).trans hempty), hnow, State.rget_rset_same]

/-- A rail that returns is shown, and a boot that waits for the last of them goes on (R655). -/
theorem exec_railExcursion_returns (high : Bool) (hi : i < 9) :
    (s.power.bootWait = none → exec (.railExcursion i false high) s = .next (s.rput .pwStat 0 0 (55 + i) (55 + i) 1)) ∧
    ∀ {u : State} {recov lockstep : Bool} {flash : Option (List Byte)}, u = s.rput .pwStat 0 0 (55 + i) (55 + i) 1 →
      s.power.bootWait = some (recov, lockstep, flash) → u.railsIn = true →
      exec (.railExcursion i false high) s = .next ({ u with power := { u.power with bootWait := none } }.boot recov lockstep flash) := by
  have h9 : ¬ 9 ≤ i := Nat.not_le.2 hi
  refine ⟨fun hwait => ?_, fun hu hwait hin => ?_⟩
  · change execRailExcursion i false high s = _
    simp only [execRailExcursion, h9, Bool.not_false, if_false, if_true, State.rput_power, hwait]
  · subst hu
    change execRailExcursion i false high s = _
    simp only [execRailExcursion, h9, Bool.not_false, if_false, if_true, State.rput_power, hwait, hin]

end

/-! ### The register of a block (R662, R687) -/

/-- The registers of the folds and of the flocks. -/
def blkRegs : List Reg := [.pwFold, .pwFlock]

/-- The register of block `b`, and which one of its kind it is. -/
def blkReg (b : Nat) : Reg × Nat := if b < 24 then (.pwFold, b) else (.pwFlock, b - 24)

section
variable (s : State) (b : Nat)

theorem State.blk_eq_rfld (hi lo : Nat) : s.blk b hi lo = s.rfld (blkReg b).1 (blkReg b).2 0 hi lo := by
  unfold State.blk blkReg
  split <;> rfl

theorem State.setBlk_eq_rput (hi lo x : Nat) : s.setBlk b hi lo x = s.rput (blkReg b).1 (blkReg b).2 0 hi lo x := by
  unfold State.setBlk blkReg
  split <;> rfl

theorem blkReg_place {b : Nat} (hb : b < 36) :
    (blkReg b).1 ∈ blkRegs ∧ (blkReg b).1 ≠ .evStat ∧ (blkReg b).2 < (blkReg b).1.place.n1 ∧ 0 < (blkReg b).1.place.n2 := by
  unfold blkReg
  split <;> dsimp only
  next h => exact ⟨by decide, by decide, h, Nat.zero_lt_one⟩
  next =>
    have h12 : b - 24 < 12 := by omega
    exact ⟨by decide, by decide, h12, Nat.zero_lt_one⟩

theorem State.blk_setBlk_same {hi lo : Nat} (x : Nat) (h : lo ≤ hi) (hw : hi < 64) : (s.setBlk b hi lo x).blk b hi lo = x % 2 ^ (hi + 1 - lo) := by
  rw [blk_eq_rfld, setBlk_eq_rput, rfld, rput, rmod, rget_rset_same, fld_setFld_mod _ _ h hw]

theorem State.blk_setBlk_of_lt {hi lo x : Nat} (h : lo ≤ hi) (hw : hi < 64) (hx : x < 2 ^ (hi + 1 - lo)) :
    (s.setBlk b hi lo x).blk b hi lo = x := by
  rw [blk_setBlk_same _ _ _ h hw, Nat.mod_eq_of_lt hx]

theorem State.blk_setBlk_of_apart {hi lo hi' lo' : Nat} (x : Nat) (h : lo ≤ hi) (hw : hi' < 64) (ha : hi < lo' ∨ hi' < lo) :
    (s.setBlk b hi lo x).blk b hi' lo' = s.blk b hi' lo' := by
  rw [blk_eq_rfld, setBlk_eq_rput, State.rfld_rput_of_apart _ _ _ _ _ h hw ha, blk_eq_rfld]

theorem State.blk_of_regs_eq {s t : State} (h : t.regs = s.regs) (hi lo : Nat) : t.blk b hi lo = s.blk b hi lo := by
  rw [blk_eq_rfld, blk_eq_rfld, State.rfld_congr (State.rget_of_regs_eq h _ _ _)]

theorem State.setBlk_frame (hi lo x : Nat) : { s.setBlk b hi lo x with regs := s.regs } = s := by
  rw [setBlk_eq_rput]
  rfl

@[simp] theorem State.setBlk_thermal (hi lo x : Nat) : (s.setBlk b hi lo x).thermal = s.thermal := by rw [setBlk_eq_rput, rput_thermal]

@[simp] theorem State.setBlk_mem (hi lo x : Nat) : (s.setBlk b hi lo x).mem = s.mem := by rw [setBlk_eq_rput, rput_mem]

theorem State.blkCap_congr {s t : State} (h : t.thermal = s.thermal) : t.blkCap b = s.blkCap b := by rw [blkCap, blkCap, h]

variable {b : Nat} (hb : b < 36)
include hb

theorem State.blk_raise {src : Nat} (hs : src < 2048) (hi lo : Nat) : (s.raise src).blk b hi lo = s.blk b hi lo := by
  obtain ⟨-, hne, hi1, hi2⟩ := blkReg_place hb
  rw [blk_eq_rfld, blk_eq_rfld, State.rfld_congr (State.rget_raise_other hne hi1 hi2 hs)]

theorem State.regsBut_setBlk (hi lo x : Nat) : State.RegsBut blkRegs s (s.setBlk b hi lo x) := by
  obtain ⟨hmem, hne, hi1, hi2⟩ := blkReg_place hb
  rw [setBlk_eq_rput]
  exact .rset _ hmem hne hi1 hi2

/-! ### THR and the thermal cap (R669, R687) -/

theorem State.regsBut_thrSync : State.RegsBut blkRegs s (s.thrSync b) := by
  unfold State.thrSync
  extract_lets thr
  split
  · exact .refl _ _
  · exact (s.regsBut_setBlk hb _ _ _).trans (.raise (by decide))

/-- THR is bit 60 alone. -/
theorem State.blk_thrSync {hi lo : Nat} (hw : hi < 64) (ha : hi < 60 ∨ 60 < lo) : (s.thrSync b).blk b hi lo = s.blk b hi lo := by
  unfold State.thrSync
  extract_lets thr
  split
  · rfl
  · rw [State.blk_raise _ hb (by decide), State.blk_setBlk_of_apart _ _ _ le_rfl hw ha.symm]

omit hb in
@[simp] theorem State.thrSync_thermal : (s.thrSync b).thermal = s.thermal := by
  simp only [State.thrSync, apply_ite State.thermal, State.raise_thermal, State.setBlk_thermal, ite_self]

theorem State.regsBut_setCap (v : Nat) : State.RegsBut blkRegs s (s.setCap b v) :=
  (State.RegsBut.of_eq (s := s) (t := { s with thermal := tput (blkMax b) s.thermal b v }) rfl rfl).trans (State.regsBut_thrSync _ hb)

omit hb in
theorem State.blkCap_setCap_same (v : Nat) : (s.setCap b v).blkCap b = v := by
  rw [blkCap, setCap, thrSync_thermal]
  exact tget_tput_same _ _ _ _

omit hb in
theorem State.blkCap_setCap_ne {c : Nat} (v : Nat) (h : c ≠ b) : (s.setCap b v).blkCap c = s.blkCap c := by
  rw [blkCap, setCap, thrSync_thermal]
  exact tget_tput_of_ne _ _ _ _ h

/-! ### Commands of a block (R662, R663, R665, R667, R669) -/

theorem exec_thermalCapStep_hot (hhot : ∃ n ∈ capSensors b, (4 * (s.rfld .pwTherm 0 0 15 8) : Int) ≤ s.temp n) :
    exec (.thermalCapStep b) s = .next (s.setCap b (max 4 (s.blkCap b - 2))) := by
  obtain ⟨n, hn, hle⟩ := hhot
  exact (if_neg (Nat.not_le.2 hb)).trans (if_pos (List.any_eq_true.2 ⟨n, hn, decide_eq_true hle⟩))

theorem exec_thermalCapStep_cool (hcool : ∀ n ∈ capSensors b, s.temp n < (4 * (s.rfld .pwTherm 0 0 15 8) : Int) - 12)
    (hcap : s.blkCap b < s.blk b 12 8) : exec (.thermalCapStep b) s = .next (s.setCap b (s.blkCap b + 1)) := by
  have hnone : ¬ ((capSensors b).any fun n => decide ((4 * (s.rfld .pwTherm 0 0 15 8) : Int) ≤ s.temp n)) = true := by
    rw [List.any_eq_true]
    rintro ⟨n, hn, hle⟩
    have := hcool n hn
    have := of_decide_eq_true hle
    omega
  refine (if_neg (Nat.not_le.2 hb)).trans ((if_neg hnone).trans (if_pos ?_))
  rw [Bool.and_eq_true, List.all_eq_true]
  exact ⟨fun n hn => decide_eq_true (hcool n hn), decide_eq_true hcap⟩

theorem exec_pllStepComplete (hruns : s.blk b 63 61 = 0) :
    exec (.pllStepComplete b) s = .next (s.setBlk b 52 48 (min (s.blkFreq b) (s.blkCap b))) :=
  if_neg (by rw [hruns]; omega)

omit hb in
theorem State.sleep_spec : (s.sleep b).blk b 63 61 = 2 ∧ (s.sleep b).blk b 52 48 = 0 ∧ { s.sleep b with regs := s.regs } = s := by
  refine ⟨?_, State.blk_setBlk_of_lt _ _ (by decide) (by decide) (by decide), ?_⟩
  · rw [State.sleep, State.blk_setBlk_of_apart _ _ _ (by decide) (by decide) (by decide),
      State.blk_setBlk_of_lt _ _ (by decide) (by decide) (by decide)]
  · exact (congrArg (fun t : State => { t with regs := s.regs }) ((s.setBlk b 63 61 2).setBlk_frame b 52 48 0)).trans (s.setBlk_frame b 63 61 2)

theorem State.wake_spec : (s.wake b).blk b 63 61 = 0 ∧
    (s.blk b 63 61 = 3 → (s.wake b).rbit .evStat 18 0 63 = true) ∧ (s.wake b).mem = s.mem := by
  unfold State.wake
  extract_lets asked p s1 s2
  have hstate : s2.blk b 63 61 = 0 := by
    rw [State.blk_setBlk_of_apart _ _ _ (by decide) (by decide) (by decide),
      State.blk_setBlk_of_lt _ _ (by decide) (by decide) (by decide)]
  have hmem : s2.mem = s.mem := by
    rw [State.setBlk_mem, State.setBlk_mem]
    simp only [s1, apply_ite State.mem, ite_self]
  split
  next => exact ⟨(State.blk_raise _ hb (by decide) _ _).trans hstate, fun _ => State.pend_raise _ _, (State.raise_mem _ _).trans hmem⟩
  next h => exact ⟨hstate, fun hasked => absurd hasked h, hmem⟩

/-- FREQ and SLEEP are taken, and SLEEP 0 wakes a block that is asleep. -/
theorem State.pwWrite_spec (v : Word) : (s.pwWrite b v).blk b 12 8 = fld v 12 8 ∧ (s.pwWrite b v).blk b 0 0 = fld v 0 0 ∧
    (s.pwWrite b v).mem = s.mem ∧ (s.pwWrite b v).blk b 63 61 = if fld v 0 0 = 0 ∧ s.blk b 63 61 = 2 then 3 else s.blk b 63 61 := by
  unfold State.pwWrite
  extract_lets t
  have hfreq : t.blk b 12 8 = fld v 12 8 := by
    rw [State.blk_thrSync _ hb (by decide) (by decide), State.blk_setBlk_of_apart _ _ _ (by decide) (by decide) (by decide),
      State.blk_setBlk_of_lt _ _ (by decide) (by decide) (fld_lt v 12 8)]
  have hsleep : t.blk b 0 0 = fld v 0 0 := by
    rw [State.blk_thrSync _ hb (by decide) (by decide), State.blk_setBlk_of_lt _ _ (by decide) (by decide) (fld_lt v 0 0)]
  have hstate : t.blk b 63 61 = s.blk b 63 61 := by
    rw [State.blk_thrSync _ hb (by decide) (by decide), State.blk_setBlk_of_apart _ _ _ (by decide) (by decide) (by decide),
      State.blk_setBlk_of_apart _ _ _ (by decide) (by decide) (by decide)]
  have hmem : t.mem = s.mem := by
    rw [(State.regsBut_thrSync _ hb).mem, State.setBlk_mem, State.setBlk_mem]
  rw [hstate]
  split
  · refine ⟨?_, ?_, ?_, State.blk_setBlk_of_lt _ _ (by decide) (by decide) (by decide)⟩
    · rw [State.blk_setBlk_of_apart _ _ _ (by decide) (by decide) (by decide), hfreq]
    · rw [State.blk_setBlk_of_apart _ _ _ (by decide) (by decide) (by decide), hsleep]
    · rw [State.setBlk_mem, hmem]
  · exact ⟨hfreq, hsleep, hmem, hstate⟩

end

section
variable {s : State} {f : Nat}

theorem exec_foldSleepEntry (hf : f < 24) (hruns : s.blk f 63 61 = 0) (hasked : s.blk f 0 0 = 1) (hcalled : s.foldCalled f = false) :
    exec (.foldSleepEntry f) s = .next (s.sleep f) :=
  if_pos ⟨hf, hruns, hasked, by rw [hcalled]; rfl⟩

theorem exec_foldWake (hf : f < 24) (h : s.blk f 63 61 = 3 ∨ s.blk f 63 61 = 2 ∧ s.foldCalled f = true) :
    exec (.foldWake f) s = .next (s.wake f) :=
  if_pos ⟨hf, h⟩

theorem exec_flockSleepEntry (hf : f < 12) (hruns : s.blk (24 + f) 63 61 = 0) (hasked : s.blk (24 + f) 0 0 = 1) (hidle : s.flockIdle f = true) :
    exec (.flockSleepEntry f) s = .next (s.sleep (24 + f)) :=
  if_pos ⟨hf, hruns, hasked, hidle⟩

theorem exec_flockWake (hf : f < 12) (h : s.blk (24 + f) 63 61 = 3 ∨ s.blk (24 + f) 63 61 = 2 ∧ s.flockIdle f = false) :
    exec (.flockWake f) s = .next (s.wake (24 + f)) :=
  if_pos ⟨hf, h.imp_right (And.imp_right fun hbusy => by rw [hbusy]; rfl)⟩

end

end Sys2Proof.Machine
end

section
/-! Temperature samples: the readings, the warnings and trips they cause, and the caps (16, R668 to R670, R686, R688). -/

namespace Sys2Proof.Machine

/-- A reading of a sample in quarters of a degree. -/
def degOf (temps : List Nat) (n : Nat) : Int := (BitVec.ofNat 16 (lget 0 temps n)).toInt

/-- The readings of a sample kept. -/
def State.withTemps (s : State) (temps : List Nat) : State :=
  (List.range 44).foldl (fun s n => s.rset .pwTemp n 0 (BitVec.ofNat 64 (lget 0 temps n % 65536))) s

/-- Whether any sensor reads `t` or above. -/
def State.anyTemp (s : State) (t : Int) : Bool := (List.range 44).any fun n => decide (t ≤ s.temp n)

/-- The warning of PW_THERM (R686). -/
def State.warnTemp (s : State) : Int := 4 * (s.rfld .pwTherm 0 0 7 0)

/-- A block that a sensor of 105 degrees caps is capped at 400 MHz. -/
def State.capStep (s : State) (b : Nat) : State := if (capSensors b).any fun n => decide (420 ≤ s.temp n) then s.setCap b 4 else s

/-- Every block is. -/
def State.hotCapped (s : State) : State := (List.range 36).foldl State.capStep s

/-- WARN and CRIT shown. -/
def State.thermShown (s : State) (warn crit : Bool) : State := s.rmod .pwTherm 0 0 fun v => setFlag (setFlag v 63 warn) 62 crit

section
variable {s t : State} {temps : List Nat}

/-! ### Readings -/

theorem State.temp_congr {n : Nat} (h : t.rget .pwTemp n = s.rget .pwTemp n) : t.temp n = s.temp n := by
  rw [temp, temp, State.rfld_congr h]

theorem State.RegsBut.temp {X : List Reg} (h : State.RegsBut X s t) (hX : .pwTemp ∉ X) {n : Nat} (hn : n < 44) : t.temp n = s.temp n :=
  State.temp_congr (h.reg ⟨by decide, hX⟩ hn Nat.zero_lt_one)

theorem State.RegsBut.anyTemp {X : List Reg} (h : State.RegsBut X s t) (hX : .pwTemp ∉ X) (x : Int) : t.anyTemp x = s.anyTemp x := by
  unfold State.anyTemp
  rw [Bool.eq_iff_iff, List.any_eq_true, List.any_eq_true]
  refine exists_congr fun n => and_congr_right fun hn => ?_
  rw [h.temp hX (List.mem_range.1 hn)]

theorem capSensors_lt {b n : Nat} (hb : b < 36) (hn : n ∈ capSensors b) : n < 44 := by
  unfold capSensors at hn
  split at hn <;> simp only [List.mem_cons, List.not_mem_nil, or_false] at hn <;> omega

theorem State.anyTemp_iff {x : Int} : s.anyTemp x = true ↔ ∃ n, n < 44 ∧ x ≤ s.temp n := by
  simp only [State.anyTemp, List.any_eq_true, List.mem_range, decide_eq_true_eq]

theorem State.regsBut_withTemps (s : State) (temps : List Nat) : State.RegsBut [.pwTemp] s (s.withTemps temps) :=
  .foldl (fun _ _ hn => .rset _ (by decide) (by decide) (List.mem_range.1 hn) Nat.zero_lt_one) s

theorem State.rget_readings {l : List Nat} (hl : l.Nodup) (v : Nat → Word) (s : State) {n : Nat} (hn : n ∈ l) :
    (l.foldl (fun s n => s.rset .pwTemp n 0 (v n)) s).rget .pwTemp n = v n := by
  obtain ⟨u, -, hlast⟩ := State.foldl_once (R := fun s t => t.rget .pwTemp n = s.rget .pwTemp n) (fun _ => rfl) (fun h k => k.trans h) hl hn
    (f := fun s n => s.rset .pwTemp n 0 (v n)) (fun s m _ hm => s.rget_rset_ne _ _ _ _ _ _ _ (by simp only [Reg.addr, Reg.place]; omega)) s
  exact hlast.trans (u.rget_rset_same _ _ _ _)

theorem State.temp_withTemps (s : State) (temps : List Nat) {n : Nat} (hn : n < 44) : (s.withTemps temps).temp n = degOf temps n := by
  have hfield : fld (BitVec.ofNat 64 (lget 0 temps n % 65536)) 15 0 = lget 0 temps n % 2 ^ 16 := by
    rw [fld, bits, BitVec.toNat_ofNat, Nat.shiftRight_zero]
    omega
  rw [State.temp, State.rfld, State.withTemps, State.rget_readings List.nodup_range _ _ (List.mem_range.2 hn), hfield, degOf]
  congr 1
  exact BitVec.eq_of_toNat_eq (by rw [BitVec.toNat_ofNat, BitVec.toNat_ofNat, Nat.mod_mod])

/-! ### Warnings and caps -/

theorem State.thermShown_spec (s : State) (warn crit : Bool) : State.RegsBut [.pwTherm] s (s.thermShown warn crit) ∧
    (s.thermShown warn crit).rbit .pwTherm 0 0 63 = warn ∧ (s.thermShown warn crit).rbit .pwTherm 0 0 62 = crit := by
  refine ⟨.rset _ (by decide) (by decide) Nat.zero_lt_one Nat.zero_lt_one, ?_, ?_⟩ <;>
    rw [State.thermShown, State.rbit, State.rmod, State.rget_rset_same, flag_setFlag _ _ _ _ (by decide)]
  · rw [if_neg (by decide), flag_setFlag _ _ _ _ (by decide), if_pos rfl]
  · exact if_pos rfl

/-- One step of the caps concerns one block. -/
theorem State.capStep_keeps (s : State) {b : Nat} (hb : b < 36) : State.RegsBut blkRegs s (s.capStep b) ∧
    ∀ c, c ≠ b → (s.capStep b).blkCap c = s.blkCap c := by
  unfold State.capStep
  split
  · exact ⟨s.regsBut_setCap hb 4, fun c hc => s.blkCap_setCap_ne 4 hc⟩
  · exact ⟨.refl _ _, fun _ _ => rfl⟩

theorem State.capSteps_spec {l : List Nat} (hl : l.Nodup) (hlt : ∀ b ∈ l, b < 36) (s : State) :
    State.RegsBut blkRegs s (l.foldl State.capStep s) ∧
    ∀ b ∈ l, (∃ n ∈ capSensors b, 420 ≤ s.temp n) → (l.foldl State.capStep s).blkCap b = 4 := by
  refine ⟨.foldl (fun t b hb => (t.capStep_keeps (hlt b hb)).1) s, fun b hb ⟨n, hn, hhot⟩ => ?_⟩
  obtain ⟨u, ⟨hkeep, -⟩, -, hcap⟩ := State.foldl_once (R := fun s t => State.RegsBut blkRegs s t ∧ t.blkCap b = s.blkCap b)
    (fun s => ⟨.refl _ s, rfl⟩) (fun h k => ⟨h.1.trans k.1, k.2.trans h.2⟩) hl hb
    (fun t c hc hcb => (t.capStep_keeps (hlt c hc)).imp_right fun h => h b hcb.symm) s
  have hany : ((capSensors b).any fun n => decide (420 ≤ u.temp n)) = true := by
    refine List.any_eq_true.2 ⟨n, hn, decide_eq_true ?_⟩
    rw [hkeep.temp (by decide) (capSensors_lt (hlt b hb) hn)]
    exact hhot
  rw [hcap, State.capStep, if_pos hany, State.blkCap_setCap_same]

theorem State.hotCapped_spec (s : State) : State.RegsBut blkRegs s s.hotCapped ∧
    ∀ b, b < 36 → (∃ n ∈ capSensors b, 420 ≤ s.temp n) → s.hotCapped.blkCap b = 4 := by
  obtain ⟨hkeep, hcap⟩ := s.capSteps_spec List.nodup_range (l := List.range 36) fun _ => List.mem_range.1
  exact ⟨hkeep, fun b hb => hcap b (List.mem_range.2 hb)⟩

/-! ### The sample -/

theorem State.regsBut_power {X : List Reg} (s : State) (p : Power) : State.RegsBut X s { s with power := p } := .of_eq rfl rfl

/-- A sample as its steps: the readings, then the events and what the manager notes, WARN and CRIT, the caps, and the trip. -/
theorem exec_temperatureSample_steps (hlen : temps.length = 44) (hheld : s.power.held = false) : ∃ (u w x : State) (trips : Bool),
    u = s.withTemps temps ∧ State.RegsBut [] u w ∧ x = w.thermShown (u.anyTemp u.warnTemp) (u.anyTemp 420) ∧
    (u.anyTemp 460 = true → trips = true) ∧ exec (.temperatureSample temps) s = .next (if trips then x.hotCapped.thermTrip else x.hotCapped) := by
  obtain ⟨o, ho⟩ : ∃ o, execTemperatureSample temps s = o := ⟨_, rfl⟩
  have hexec : exec (.temperatureSample temps) s = o := ho
  rw [execTemperatureSample, if_neg (by simp [hlen, hheld])] at ho
  extract_lets u any warn crit v v' warned hot p w x y at ho
  have hcrit : State.RegsBut [] u v := by
    unfold v
    split
    · exact .raise (by decide)
    · exact .refl _ _
  have hwarn : State.RegsBut [] v v' := by
    unfold v'
    split
    · exact .raise (by decide)
    · exact .refl _ _
  have hw : State.RegsBut [] v' w := State.regsBut_power v' _
  have hany (z : Int) : any z = u.anyTemp z := rfl
  have hx : x = w.thermShown (any u.warnTemp) (any 420) := rfl
  have hy : y = x.hotCapped := rfl
  refine ⟨u, w, x, u.anyTemp 460 || hot.any fun x => decide (100 ≤ x.2), rfl, (hcrit.trans hwarn).trans hw, ?_, fun h => ?_, ?_⟩
  · rw [hx, hany, hany]
  · rw [h, Bool.true_or]
  · rw [hexec, ← ho, hany, hy]

theorem exec_temperatureSample (hlen : temps.length = 44) (hheld : s.power.held = false) : ∃ t, exec (.temperatureSample temps) s = .next t ∧
    t.mem = s.mem ∧ (∀ n, n < 44 → t.temp n = degOf temps n) ∧ (t.rbit .pwTherm 0 0 62 = true ↔ ∃ n, n < 44 ∧ 420 ≤ degOf temps n) ∧
    (t.rbit .pwTherm 0 0 63 = true ↔ ∃ n, n < 44 ∧ 4 * (s.rfld .pwTherm 0 0 7 0 : Int) ≤ degOf temps n) ∧
    ((∃ n, n < 44 ∧ 460 ≤ degOf temps n) → t.power.trip = true) ∧
    ∀ b, b < 36 → (∃ n ∈ capSensors b, 420 ≤ degOf temps n) → t.blkCap b = 4 := by
  obtain ⟨u, w, x, trips, hu, huw, hx, htrips, hexec⟩ := exec_temperatureSample_steps hlen hheld
  have hsu : State.RegsBut [.pwTemp] s u := hu ▸ s.regsBut_withTemps temps
  have hread {n : Nat} (hn : n < 44) : u.temp n = degOf temps n := hu ▸ s.temp_withTemps temps hn
  have hany (x : Int) : u.anyTemp x = true ↔ ∃ n, n < 44 ∧ x ≤ degOf temps n :=
    State.anyTemp_iff.trans (exists_congr fun n => and_congr_right fun hn => by rw [hread hn])
  have hwarn : u.warnTemp = 4 * (s.rfld .pwTherm 0 0 7 0 : Int) :=
    congrArg (fun n : Nat => 4 * (n : Int)) (State.rfld_congr (hsu.reg ⟨by decide, by decide⟩ Nat.zero_lt_one Nat.zero_lt_one) 7 0)
  obtain ⟨hshown, hshow63, hshow62⟩ := w.thermShown_spec (u.anyTemp u.warnTemp) (u.anyTemp 420)
  rw [← hx] at hshown hshow63 hshow62
  obtain ⟨hcapped, hcaps⟩ := x.hotCapped_spec
  have hux : State.RegsBut [.pwTherm] u x := (huw.mono (List.nil_subset _)).trans hshown
  have hshow {b : Nat} : x.hotCapped.rbit .pwTherm 0 0 b = x.rbit .pwTherm 0 0 b :=
    State.rbit_congr (hcapped.reg ⟨by decide, by decide⟩ Nat.zero_lt_one Nat.zero_lt_one) b
  have htemp {n : Nat} (hn : n < 44) : x.hotCapped.temp n = degOf temps n := by
    rw [hcapped.temp (by decide) hn, hux.temp (by decide) hn, hread hn]
  have hmem : x.hotCapped.mem = s.mem := (hcapped.mem.trans hux.mem).trans hsu.mem
  have hcap (b : Nat) (hb : b < 36) (hhot : ∃ n ∈ capSensors b, 420 ≤ degOf temps n) : x.hotCapped.blkCap b = 4 := by
    obtain ⟨n, hn, hle⟩ := hhot
    refine hcaps b hb ⟨n, hn, ?_⟩
    rw [hux.temp (by decide) (capSensors_lt hb hn), hread (capSensors_lt hb hn)]
    exact hle
  have h62 : x.hotCapped.rbit .pwTherm 0 0 62 = true ↔ ∃ n, n < 44 ∧ 420 ≤ degOf temps n := by rw [hshow, hshow62, hany]
  have h63 : x.hotCapped.rbit .pwTherm 0 0 63 = true ↔ ∃ n, n < 44 ∧ 4 * (s.rfld .pwTherm 0 0 7 0 : Int) ≤ degOf temps n := by
    rw [hshow, hshow63, hwarn, hany]
  refine ⟨_, hexec, ?_⟩
  clear hcaps hcapped hshow hexec
  generalize x.hotCapped = y at *
  cases htr : trips
  · exact ⟨hmem, fun n => htemp, h62, h63, fun hot => absurd (htrips ((hany 460).2 hot)) (by rw [htr]; decide), hcap⟩
  · exact ⟨hmem, fun n => htemp, h62, h63, fun _ => rfl, hcap⟩

end

end Sys2Proof.Machine
end

section
/-! The tense port: tenses, the record's pieces, UART, trace and time sync (16, R673 to R680, R688 to R690). -/

namespace Sys2Proof.Machine

section
variable {s : State}

/-! ### Tenses and pieces (R673 to R677) -/

theorem State.wantTns_lt (s : State) : s.wantTns < 4 := by
  have htns : s.tns < 4 := fld_lt _ 63 62
  unfold State.wantTns
  split_ifs <;> omega

/-- The port takes the tense, and raises TN_TENSE where it is another. -/
theorem State.setTns_spec (s : State) {v : Nat} (hv : v < 4) : (s.setTns v).tns = v ∧ (s.tns ≠ v → (s.setTns v).rbit .evStat 24 0 63 = true) ∧
    (s.setTns v).mem = s.mem := by
  unfold State.setTns
  split
  next h => exact ⟨h, fun hne => absurd h hne, rfl⟩
  next =>
    refine ⟨?_, fun _ => State.pend_raise _ _, State.raise_mem _ _⟩
    rw [State.tns, State.rfld_congr (State.rget_raise_other (by decide) Nat.zero_lt_one Nat.zero_lt_one (by decide))]
    exact State.rfld_rput_same _ _ _ _ (by decide) (by decide) hv

theorem exec_tenseChange (hidle : s.tense.transfer = none) : exec .tenseChange s = .next (s.setTns s.wantTns) := if_neg (by simp [hidle])

theorem exec_recordPieceSend {p : Piece} {rest : List Piece} (hpieces : s.shep.pieces = p :: rest) (htns : s.tns = 2)
    (hidle : s.tense.transfer = none) (hoffer : s.tense.offering = true) (hrestart : s.shep.restart = none) :
    exec .recordPieceSend s = .next { s with tense := { s.tense with transfer := some p.bytes } } := by
  have hsends : ¬ (s.tns ≠ 2 ∨ s.tense.transfer.isSome ∨ !s.tense.offering ∨ s.shep.restart.isSome) := by
    simp [htns, hidle, hoffer, hrestart]
  change execRecordPieceSend s = _
  simp only [execRecordPieceSend, hpieces, if_neg hsends]
  rfl

theorem exec_recordPieceAccept (hbusy : s.tense.transfer ≠ none) : exec .recordPieceAccept s =
    .next ((s.modShep fun x => { x with pieces := s.shep.pieces.drop 1 }).modTense fun t =>
      { t with transfer := none, offering := !(s.shep.pieces.drop 1).isEmpty }) :=
  if_neg (by rw [Option.isNone_iff_eq_none]; exact hbusy)

theorem State.pieceFails_of_busy (hbusy : s.tense.transfer ≠ none) :
    s.pieceFails = { s with tense := { s.tense with transfer := none, offering := false } } :=
  if_neg (by rw [Option.isNone_iff_eq_none]; exact hbusy)

/-! ### UART (R678, R689) -/

theorem State.rget_uartSync (s : State) : s.uartSync.rget .tnUart =
    setFld (setFld (s.rget .tnUart) 56 48 s.tense.uartTx.length) 40 32 s.tense.uartRx.length :=
  s.rget_rset_same _ _ _ _

theorem State.txcount_uartSync (s : State) (h : s.tense.uartTx.length < 512) : s.uartSync.rfld .tnUart 0 0 56 48 = s.tense.uartTx.length := by
  rw [State.rfld, State.rget_uartSync, fld_setFld_of_apart _ _ (by decide) (by decide) (by decide),
    fld_setFld_same _ _ _ _ (by decide) (by decide) h]

theorem State.rxcount_uartSync (s : State) (h : s.tense.uartRx.length < 512) : s.uartSync.rfld .tnUart 0 0 40 32 = s.tense.uartRx.length := by
  rw [State.rfld, State.rget_uartSync, fld_setFld_same _ _ _ _ (by decide) (by decide) h]

/-- A byte that is written is the byte that joins the queue. -/
theorem ofNat_fld_setWidth (byte : Byte) : BitVec.ofNat 8 (fld (byte.setWidth 64) 7 0) = byte := by
  have hlt := byte.isLt
  refine BitVec.eq_of_toNat_eq ?_
  rw [BitVec.toNat_ofNat, fld, bits, BitVec.toNat_setWidth, Nat.shiftRight_zero]
  omega

theorem exec_uartTransmit {a : Agent} {byte : Byte} (hacc : s.accepts a .tnUarttx 0 0 (byte.setWidth 64)) : exec (.uartTransmit a byte) s =
    .next (if 256 ≤ s.tense.uartTx.length then s.rput .tnUart 0 0 63 63 1
      else (s.modTense fun t => { t with uartTx := t.uartTx ++ [byte] }).uartSync) := by
  refine stores_of rfl ((congrArg some ?_ :)) hacc
  rw [State.uartPut, ofNat_fld_setWidth]

theorem exec_uartTransmit_joins {a : Agent} {byte : Byte} (hacc : s.accepts a .tnUarttx 0 0 (byte.setWidth 64))
    (hroom : s.tense.uartTx.length < 256) : ∃ t, exec (.uartTransmit a byte) s = .next t ∧ t.tense.uartTx = s.tense.uartTx ++ [byte] ∧
      t.rfld .tnUart 0 0 56 48 = s.tense.uartTx.length + 1 ∧ t.mem = s.mem := by
  have hlen : (s.tense.uartTx ++ [byte]).length = s.tense.uartTx.length + 1 := List.length_append
  refine ⟨_, (exec_uartTransmit hacc).trans (congrArg Host.Outcome.next (if_neg (Nat.not_le.2 hroom))), rfl, ?_, rfl⟩
  exact (State.txcount_uartSync _ (by rw [State.modTense, hlen]; omega)).trans hlen

theorem exec_uartTransmit_overflows {a : Agent} {byte : Byte} (hacc : s.accepts a .tnUarttx 0 0 (byte.setWidth 64))
    (hfull : 256 ≤ s.tense.uartTx.length) : exec (.uartTransmit a byte) s = .next (s.rput .tnUart 0 0 63 63 1) :=
  (exec_uartTransmit hacc).trans (congrArg Host.Outcome.next (if_pos hfull))

theorem exec_uartByteSent {x : Byte} {rest : List Byte} (htns : s.tns ≠ 0) (hq : s.tense.uartTx = x :: rest) : ∃ t,
    exec .uartByteSent s = .next t ∧ t.tense.uartTx = rest ∧ t.mem = s.mem :=
  ⟨_, if_neg (by simp [htns, hq]), congrArg (List.drop 1) hq, rfl⟩

theorem exec_uartReceive_joins (byte : Byte) (htns : s.tns ≠ 0) (hroom : s.tense.uartRx.length < 256) : ∃ t,
    exec (.uartReceive byte) s = .next t ∧ t.tense.uartRx = s.tense.uartRx ++ [byte] ∧
      t.rfld .tnUart 0 0 40 32 = s.tense.uartRx.length + 1 ∧ t.mem = s.mem := by
  have hlen : (s.tense.uartRx ++ [byte]).length = s.tense.uartRx.length + 1 := List.length_append
  refine ⟨_, (if_neg htns).trans (if_neg (Nat.not_le.2 hroom)), rfl, ?_, rfl⟩
  exact (State.rxcount_uartSync _ (by rw [State.modTense, hlen]; omega)).trans hlen

theorem exec_uartReceive_overflows (byte : Byte) (htns : s.tns ≠ 0) (hfull : 256 ≤ s.tense.uartRx.length) :
    exec (.uartReceive byte) s = .next (s.rput .tnUart 0 0 62 62 1) :=
  (if_neg htns).trans (if_pos hfull)

/-- A load of TN_UARTRX takes the oldest byte (R689). -/
theorem State.ctlRead_tnUartrx {a : Agent} (hown : s.ownModule < 8) (hat : s.ctlAt a (Reg.tnUartrx.addr 0) = .reg .tnUartrx 0 0) :
    s.ctlRead a (s.ctlPa (Reg.tnUartrx.addr 0)) 8 = (s.uartGet.1, s.uartGet.2.toNat) := by
  have hlt : Reg.tnUartrx.addr 0 < 2 ^ 32 := Reg.addr_lt _ _ _ Nat.zero_lt_one Nat.zero_lt_one
  have haligned : s.ctlPa (Reg.tnUartrx.addr 0) % 8 = 0 := by
    have := Reg.tnUartrx.addr_aligned 0 0
    unfold State.ctlPa
    omega
  simp only [State.ctlRead, s.ctlModule_ctlPa _ hown hlt, haligned, s.ctlPa_mod _ hlt, hat, ne_eq, not_true_eq_false, or_self, if_false]

theorem State.uartGet_cons {x : Byte} {rest : List Byte} (hq : s.tense.uartRx = x :: rest) :
    s.uartGet = ((s.modTense fun t => { t with uartRx := rest }).uartSync, BitVec.ofNat 64 (2 ^ 63 + x.toNat)) := by
  simp only [State.uartGet, hq]

theorem exec_tnUartrxRead {a : Agent} {x : Byte} {rest : List Byte} (hheld : s.power.held = false) (hown : s.ownModule < 8)
    (hat : s.ctlAt a (Reg.tnUartrx.addr 0) = .reg .tnUartrx 0 0) (hq : s.tense.uartRx = x :: rest) : ∃ t,
    exec (.tnUartrxRead a) s = .next t ∧ t.tense.uartRx = rest ∧ (s.ctlRead a (s.ctlPa (Reg.tnUartrx.addr 0)) 8).2 = 2 ^ 63 + x.toNat ∧
      t.mem = s.mem := by
  have hx := x.isLt
  refine ⟨_, congrArg Host.Outcome.next (if_neg (by simp [hheld])), ?_, ?_, ?_⟩ <;>
    rw [State.ctlRead_tnUartrx hown hat, State.uartGet_cons hq]
  · rfl
  · exact (BitVec.toNat_ofNat _ _).trans (Nat.mod_eq_of_lt (by omega))
  · rfl

/-! ### Trace and time sync (R679, R680) -/

theorem exec_tracePcSample {n : Nat} (hn : n = s.rfld .tnTrace 0 0 55 48) (hon : s.rfld .tnTrace 0 0 63 62 = 2)
    (hruns : s.foldRuns (foldOf n) = true) : exec .tracePcSample s =
      .next (s.traceRecord (2 * 2 ^ 60 + s.now % 2 ^ 20 * 2 ^ 40 + bits (s.core n).arch.pc 43 4)) := by
  subst hn
  exact if_neg (by simp [hon, hruns])

theorem exec_traceRecordSent (htns : s.tns = 3) (hon : s.rfld .tnTrace 0 0 63 62 ≠ 0) (hlost : s.tense.lost = 0) :
    exec .traceRecordSent s = .next { s with tense := { s.tense with trace := s.tense.trace.drop 1 } } :=
  (if_neg (by simp [htns, hon])).trans (if_pos hlost)

/-- Records that were lost are reported behind those that wait. -/
theorem exec_traceRecordSent_lost (htns : s.tns = 3) (hon : s.rfld .tnTrace 0 0 63 62 ≠ 0) (hlost : s.tense.lost ≠ 0) : ∃ t w,
    exec .traceRecordSent s = .next t ∧ t.tense.trace = s.tense.trace.drop 1 ++ [w] ∧ fld w 63 60 = 3 ∧ t.tense.lost = 0 ∧ t.mem = s.mem := by
  refine ⟨_, _, (if_neg (by simp [htns, hon])).trans (if_neg hlost), rfl, ?_, rfl, rfl⟩
  rw [fld, bits, BitVec.toNat_ofNat, Nat.shiftRight_eq_div_pow]
  omega

/-- A SYNC edge in SERVICE takes the always-on time (R680). -/
theorem exec_syncEdge_service (hheld : s.power.held = false) (htns : s.tns = 3) : ∃ t, exec .syncEdge s = .next t ∧
    t.rget .tnSynctime = s.rget .pwAotime ∧ t.rbit .tnSyncstat 0 0 63 = true ∧ t.rbit .evStat 25 0 63 = true ∧ t.mem = s.mem := by
  refine ⟨_, (if_neg (by simp [hheld])).trans (if_pos htns), ?_, ?_, State.pend_raise _ _, State.raise_mem _ _⟩
  · rw [State.rget_raise_other (by decide) Nat.zero_lt_one Nat.zero_lt_one (by decide),
      State.rget_rput_other _ _ _ (by decide) Nat.zero_lt_one Nat.zero_lt_one Nat.zero_lt_one Nat.zero_lt_one, State.rget_rset_same]
  · rw [State.rbit_congr (State.rget_raise_other (by decide) Nat.zero_lt_one Nat.zero_lt_one (by decide))]
    exact State.rbit_rput_bit _ _ _ _ _ (by decide)

theorem exec_syncEdge_other (hheld : s.power.held = false) (htns : s.tns ≠ 3) :
    exec .syncEdge s = .next (s.rmod .tnSyncstat 0 0 fun v => setFld v 31 0 (fld v 31 0 + 1)) :=
  (if_neg (by simp [hheld])).trans (if_neg htns)

end

end Sys2Proof.Machine

open Sys2Proof Sys2Proof.Machine

/-- Settles O58: rails, samples, blocks, tenses, pieces, UART and trace, each by its lemma. -/
theorem powerClocksAndTheTensePort : Obligations.PowerClocksAndTheTensePort := by
  unfold Obligations.PowerClocksAndTheTensePort
  refine ⟨fun s a i v hi => ⟨fun high => (exec_railExcursion_returns high hi).1,
      fun high recov lockstep flash => (exec_railExcursion_returns high hi).2 rfl, fun high => exec_railExcursion_leaves high hi,
      fun hv => stores_of rfl (congrArg some (if_pos hv))⟩,
    fun s temps => exec_temperatureSample,
    fun s b hb => ⟨fun hhot => ⟨_, exec_thermalCapStep_hot s hb hhot, s.blkCap_setCap_same _, (s.regsBut_setCap hb _).mem⟩,
      fun hcool hcap => ⟨_, exec_thermalCapStep_cool s hb hcool hcap, s.blkCap_setCap_same _, (s.regsBut_setCap hb _).mem⟩,
      fun hruns => ⟨_, exec_pllStepComplete s hb hruns, s.blk_setBlk_same b _ (by decide) (by decide), s.setBlk_mem b _ _ _⟩,
      s.sleep_spec, s.wake_spec hb⟩,
    fun s a f v => ⟨fun hf hacc => ?fold, fun hf hacc => ?flock, exec_foldSleepEntry, exec_foldWake, exec_flockSleepEntry, exec_flockWake⟩,
    fun s hidle => ⟨_, exec_tenseChange hidle, s.setTns_spec s.wantTns_lt⟩,
    fun s p rest hpieces => ⟨exec_recordPieceSend hpieces, fun hbusy => ?accept⟩,
    fun s hbusy t ht => ?timeout,
    fun s a byte x rest => ⟨fun hacc => ⟨exec_uartTransmit_joins hacc, exec_uartTransmit_overflows hacc⟩, exec_uartByteSent,
      fun htns => ⟨exec_uartReceive_joins byte htns, exec_uartReceive_overflows byte htns⟩, exec_tnUartrxRead⟩,
    fun s => ⟨exec_tracePcSample rfl, fun htns hon => ⟨exec_traceRecordSent htns hon, exec_traceRecordSent_lost htns hon⟩, exec_syncEdge_service,
      exec_syncEdge_other⟩⟩
  case fold =>
    obtain ⟨hfreq, hsleep, hmem, hstate⟩ := s.pwWrite_spec (b := f) (by omega) v
    exact ⟨_, stores_of rfl rfl hacc, hfreq, hsleep, hmem, hstate⟩
  case flock =>
    obtain ⟨hfreq, hsleep, hmem, hstate⟩ := s.pwWrite_spec (b := 24 + f) (by omega) v
    exact ⟨_, stores_of rfl rfl hacc, hfreq, hsleep, hmem, hstate⟩
  case accept =>
    have hdrop : s.shep.pieces.drop 1 = rest := by rw [hpieces, List.drop_one, List.tail_cons]
    exact ⟨_, exec_recordPieceAccept hbusy, hdrop, rfl, congrArg (fun l : List Piece => !l.isEmpty) hdrop, rfl⟩
  case timeout =>
    have hfails := congrArg (Host.Outcome.next (φ := Fault) (ρ := Refusal)) (State.pieceFails_of_busy hbusy)
    exact ht ▸ ⟨hfails, hfails⟩

end

section
/-! Partitions: the PT_CTL commands, the entries of cores, and the invalidation of hurdle translations (12, R523 to R526, R533). -/

namespace Sys2Proof.Machine

/-! ### PT_CTL (R523, R524, R557) -/

/-- The fields of the word of a PT_CTL command. -/
theorem ptWord_fields {cmd r pid : Nat} (hcmd : cmd < 16) (hr : r < 257) (hpid : pid < 2048) (sealed : Bool) :
    fld (ptWord cmd r sealed pid) 63 60 = cmd ∧ fld (ptWord cmd r sealed pid) 56 48 = r ∧
    fld (ptWord cmd r sealed pid) 11 11 = bnat sealed ∧ fld (ptWord cmd r sealed pid) 10 0 = pid := by
  have hsealed : bnat sealed < 2 := by cases sealed <;> decide
  simp only [ptWord, wordOf, fieldAt, fld, bits, List.foldl_cons, List.foldl_nil, BitVec.toNat_ofNat, Nat.shiftRight_eq_div_pow]
  omega

/-- An entry that a PT_CTL command leaves in a state, sealed or not, with an ID, and RESULT done. -/
def State.ptDone (s : State) (cmd r st sealed pid : Nat) : State := (s.setRes r st sealed pid).ptResult cmd 1 r

section
variable {s : State} {a : Agent} {r pid : Nat} {v : Word}

section
variable (hr : fld v 56 48 = r)
include hr

theorem State.ptControl_admit (hcmd : fld v 63 60 = 1) (hpid : fld v 10 0 = pid) (hempty : s.resState r = 0) (h0 : pid ≠ 0)
    (hnew : s.resOf pid = none) : s.ptControl v = s.ptDone 1 r 1 (fld v 11 11) pid := by
  simp only [State.ptControl, hcmd, hr, hpid, hempty, h0, hnew, Option.isSome_none, Bool.false_eq_true, or_self, ne_eq, not_true_eq_false,
    if_false]
  rfl

theorem State.ptControl_quiesce (hcmd : fld v 63 60 = 2) (hactive : s.resState r = 1) :
    s.ptControl v = s.ptDone 2 r 2 (s.rfld .ptRes r 0 61 61) (s.partId r) := by
  simp only [State.ptControl, hcmd, hr, hactive, if_true]
  rfl

theorem State.ptControl_resume (hcmd : fld v 63 60 = 3) (hquiet : s.resState r = 2) :
    s.ptControl v = s.ptDone 3 r 1 (s.rfld .ptRes r 0 61 61) (s.partId r) := by
  simp only [State.ptControl, hcmd, hr, hquiet, if_true]
  rfl

theorem State.ptControl_remove (hcmd : fld v 63 60 = 4) (hquiet : s.resState r = 2) (hfree : s.partHeld r (s.partId r) = false)
    (hinfl : s.rfld .ptInfl r 0 31 0 = 0) : s.ptControl v = s.ptDone 4 r 0 0 0 := by
  simp only [State.ptControl, hcmd, hr, hquiet, hfree, hinfl, ne_eq, not_true_eq_false, Bool.false_eq_true, if_false]
  rfl

theorem State.ptControl_mode (hcmd : fld v 63 60 = 5) (hres : s.resState r = 1 ∨ s.resState r = 2) :
    s.ptControl v = s.ptDone 5 r (s.resState r) (fld v 11 11) (s.partId r) := by
  simp only [State.ptControl, hcmd, hr, hres, if_true]
  rfl

end

variable (hr : r < 257)
include hr

theorem exec_ptAdmit {sealed : Bool} (hpid : pid < 2048) (hempty : s.resState r = 0) (h0 : pid ≠ 0) (hnew : s.resOf pid = none)
    (hacc : s.accepts a .ptCtl 0 0 (ptWord 1 r (decide (bnat sealed = 1)) pid)) :
    exec (.ptAdmit a r pid sealed) s = .next (s.ptDone 1 r 1 (bnat sealed) pid) := by
  obtain ⟨hcmd, hentry, hseal, hid⟩ := ptWord_fields (cmd := 1) (by decide) hr hpid sealed
  rw [decide_bnat] at hacc
  exact stores_of rfl (congrArg some (hseal ▸ State.ptControl_admit hentry hcmd hid hempty h0 hnew)) hacc

theorem exec_ptQuiesce (hactive : s.resState r = 1) (hacc : s.accepts a .ptCtl 0 0 (ptWord 2 r false 0)) :
    exec (.ptQuiesce a r) s = .next (s.ptDone 2 r 2 (s.rfld .ptRes r 0 61 61) (s.partId r)) := by
  obtain ⟨hcmd, hentry, -⟩ := ptWord_fields (cmd := 2) (pid := 0) (by decide) hr (by decide) false
  exact stores_of rfl (congrArg some (State.ptControl_quiesce hentry hcmd hactive)) hacc

theorem exec_ptResume (hquiet : s.resState r = 2) (hacc : s.accepts a .ptCtl 0 0 (ptWord 3 r false 0)) :
    exec (.ptResume a r) s = .next (s.ptDone 3 r 1 (s.rfld .ptRes r 0 61 61) (s.partId r)) := by
  obtain ⟨hcmd, hentry, -⟩ := ptWord_fields (cmd := 3) (pid := 0) (by decide) hr (by decide) false
  exact stores_of rfl (congrArg some (State.ptControl_resume hentry hcmd hquiet)) hacc

theorem exec_ptRemove (hquiet : s.resState r = 2) (hfree : s.partHeld r (s.partId r) = false) (hinfl : s.rfld .ptInfl r 0 31 0 = 0)
    (hacc : s.accepts a .ptCtl 0 0 (ptWord 4 r false 0)) : exec (.ptRemove a r) s = .next (s.ptDone 4 r 0 0 0) := by
  obtain ⟨hcmd, hentry, -⟩ := ptWord_fields (cmd := 4) (pid := 0) (by decide) hr (by decide) false
  exact stores_of rfl (congrArg some (State.ptControl_remove hentry hcmd hquiet hfree hinfl)) hacc

theorem exec_ptMode {sealed : Bool} (hres : s.resState r = 1 ∨ s.resState r = 2)
    (hacc : s.accepts a .ptCtl 0 0 (ptWord 5 r (decide (bnat sealed = 1)) 0)) :
    exec (.ptMode a r sealed) s = .next (s.ptDone 5 r (s.resState r) (bnat sealed) (s.partId r)) := by
  obtain ⟨hcmd, hentry, hseal, -⟩ := ptWord_fields (cmd := 5) (pid := 0) (by decide) hr (by decide) sealed
  rw [decide_bnat] at hacc
  exact stores_of rfl (congrArg some (hseal ▸ State.ptControl_mode hentry hcmd hres)) hacc

end

/-! ### PT_CORE (R526) -/

/-- Whether a core takes a new entry at once: it has no role, or its logical core is STOPPED or SAFE. -/
def State.ptCoreFree (s : State) (n : Nat) : Bool :=
  match s.roleOf n with
  | none => true
  | some c => decide (4 ≤ s.lstate (s.logicalOf (foldOf n) c))

theorem State.ptCoreWrite_eq (s : State) (n : Nat) (v : Word) : s.ptCoreWrite n v =
    if s.ptCoreFree n then (s.rput .ptCore n 0 8 0 (fld v 8 0)).rput .ptCore n 0 24 16 (fld v 8 0) else s.rput .ptCore n 0 8 0 (fld v 8 0) :=
  rfl

theorem exec_ptCoreWrite {s : State} {a : Agent} {n next : Nat} (hnext : next < 512) (hacc : s.accepts a .ptCore n 0 (wordOf [next])) : ∃ t,
    exec (.ptCoreWrite a n next) s = .next t ∧ t.rfld .ptCore n 0 8 0 = next ∧
      t.rfld .ptCore n 0 24 16 = (if s.ptCoreFree n then next else s.rfld .ptCore n 0 24 16) ∧ { t with regs := s.regs } = s := by
  have hword : wordOf [fieldAt next 9 0] = wordOf [next] := by
    rw [fieldAt, Nat.mod_eq_of_lt (show next < 2 ^ 9 from hnext), pow_zero, Nat.mul_one]
  have hfield : fld (wordOf [next]) 8 0 = next := by
    simp only [wordOf, List.foldl_cons, List.foldl_nil, fld, bits, BitVec.toNat_ofNat, Nat.shiftRight_zero]
    omega
  have hexec : exec (.ptCoreWrite a n next) s = .next (s.regWrite a .ptCore n 0 (wordOf [next])) := hword ▸ rfl
  refine ⟨_, stores_of hexec rfl hacc, ?_⟩
  rw [State.ptCoreWrite_eq, hfield]
  split
  · refine ⟨?_, State.rfld_rput_same _ _ _ _ (by decide) (by decide) hnext, rfl⟩
    rw [State.rfld_rput_of_apart _ _ _ _ _ (by decide) (by decide) (by decide), State.rfld_rput_same _ _ _ _ (by decide) (by decide) hnext]
  · exact ⟨State.rfld_rput_same _ _ _ _ (by decide) (by decide) hnext,
      State.rfld_rput_of_apart _ _ _ _ _ (by decide) (by decide) (by decide), rfl⟩

/-! ### Hurdle translations (R533) -/

/-- A table with a function applied to its values, where the default is a fixed point of it. -/
theorem tget_map_snd {α : Type} {d : α} {f : α → α} (hd : f d = d) (t : Tbl α) (n : Nat) :
    tget d (t.map fun x => (x.1, f x.2)) n = f (tget d t n) := by
  induction t with
  | nil => exact hd.symm
  | cons x t ih =>
    rw [List.map_cons, tget, tget, ih]
    split <;> rfl

/-- A core without the cached hurdle translations that an invalidation names. -/
def Core.huFiltered (v : Word) (c : Core) : Core := { c with hcache := c.hcache.filter fun e => !huNames v e }

theorem State.huInvalidate_spec {s : State} (v : Word) (hidle : s.rbit .huInvstat 0 0 63 = false) :
    (s.huInvalidate v).hurdles = s.hurdles.filter (fun e => !huNames v e) ∧
    (s.huInvalidate v).cores = s.cores.map (fun x => (x.1, x.2.huFiltered v)) ∧
    (s.huInvalidate v).regs = (s.rset .huInvstat 0 0 (BitVec.ofNat 64 (2 ^ 63))).regs ∧
    (s.huInvalidate v).huWait = s.liveTickets (fld v 58 48) ∧ (s.huInvalidate v).mem = s.mem := by
  rw [State.huInvalidate, if_neg (by rw [hidle]; decide)]
  exact ⟨rfl, rfl, rfl, rfl, rfl⟩

theorem exec_huInv {s : State} {a : Agent} {v : Word} (hacc : s.accepts a .huInv 0 0 v) (hidle : s.rbit .huInvstat 0 0 63 = false) : ∃ t,
    exec (.huInv a v) s = .next t ∧ t.hurdles = s.hurdles.filter (fun e => !huNames v e) ∧
      (∀ n, (t.core n).hcache = (s.core n).hcache.filter fun e => !huNames v e) ∧ t.rget .huInvstat = BitVec.ofNat 64 (2 ^ 63) ∧
      t.huWait = s.liveTickets (fld v 58 48) ∧ t.mem = s.mem := by
  obtain ⟨hhurdles, hcores, hregs, hwait, hmem⟩ := State.huInvalidate_spec v hidle
  refine ⟨_, stores_of rfl rfl hacc, hhurdles, fun n => ?_, ?_, hwait, hmem⟩
  · rw [State.core, hcores, tget_map_snd (f := Core.huFiltered v) rfl]
    rfl
  · rw [State.rget_of_regs_eq hregs, State.rget_rset_same]

@[simp] theorem State.raise_huWait (s : State) (src : Nat) : (s.raise src).huWait = s.huWait := by
  obtain ⟨q, f, e, -⟩ := s.raise_spec src
  rw [e]
  rfl

theorem exec_huInvdone {s : State} (hbusy : s.rbit .huInvstat 0 0 63 = true) (hdone : ∀ n ∈ s.huWait, ∀ q ∈ s.liveRequests, q.ticket ≠ n) :
    ∃ t, exec .huInvdone s = .next t ∧ t.rbit .huInvstat 0 0 63 = false ∧ t.huWait = [] ∧ t.ports.ats = [] ∧ t.rbit .evStat 60 0 63 = true ∧
      t.mem = s.mem := by
  have hall : (s.huWait.all fun t => !s.liveRequests.any fun q => q.ticket == t) = true := by
    simpa using hdone
  refine ⟨_, if_pos (by rw [hbusy, hall]; rfl), ?_, ?_, ?_, State.pend_raise _ _, ?_⟩
  · rw [State.rbit_congr (State.rget_raise_other (by decide) Nat.zero_lt_one Nat.zero_lt_one (by decide)),
      State.rbit_rput_bit _ _ _ _ _ (by decide)]
    rfl
  · rw [State.raise_huWait]
    rfl
  · rw [State.raise_ports]
    rfl
  · rw [State.raise_mem]
    rfl

end Sys2Proof.Machine
end

section
/-! The event router: clears, ends of interrupt, raises and the coalescing timer (13, R567, R568, R572, R574, R579, R580). -/

namespace Sys2Proof.Machine

/-- The highest bit of a number taken from it. -/
theorem testBit_sub_log2 {x : Nat} (hx : x ≠ 0) (j : Nat) :
    (x - 2 ^ Nat.log2 x).testBit j = if j = Nat.log2 x then false else x.testBit j := by
  have hlow : 2 ^ Nat.log2 x ≤ x := Nat.log2_self_le hx
  have hhigh : x < 2 ^ (Nat.log2 x + 1) := Nat.lt_log2_self
  have hmod : x - 2 ^ Nat.log2 x = x % 2 ^ Nat.log2 x := by
    rw [Nat.mod_eq_sub_mod hlow, Nat.mod_eq_of_lt (by rw [pow_succ] at hhigh; omega)]
  rw [hmod, Nat.testBit_mod_two_pow]
  rcases lt_trichotomy j (Nat.log2 x) with h | h | h
  · rw [decide_eq_true h, Bool.true_and, if_neg h.ne]
  · rw [decide_eq_false h.not_lt, Bool.false_and, if_pos h]
  · rw [decide_eq_false h.asymm, Bool.false_and, if_neg h.ne',
      Nat.testBit_lt_two_pow (hhigh.trans_le (Nat.pow_le_pow_right Nat.two_pos h))]

/-- A field without its highest bit. -/
theorem fld_setFld_log2 (v : Word) {hi lo : Nat} (hw : hi < 64) (hset : fld v hi lo ≠ 0) :
    fld (setFld v (lo + Nat.log2 (fld v hi lo)) (lo + Nat.log2 (fld v hi lo)) 0) hi lo = fld v hi lo - 2 ^ Nat.log2 (fld v hi lo) := by
  refine fld_eq_of_flag ((Nat.sub_le _ _).trans_lt (fld_lt v hi lo)) fun j hj => ?_
  rw [flag_setFld _ _ _ _ _ le_rfl (by omega), testBit_sub_log2 hset, Nat.zero_testBit, fld, testBit_bits, decide_eq_true hj, Bool.true_and, flag]
  exact if_congr (by omega) rfl rfl

/-- The place of a level's active set in EV_ACTIVE. -/
def evBase (lvl : Nat) : Nat := if lvl = 2 then 16 else 0

section
variable {s : State} {a : Agent} {l lvl n src : Nat} {v : Word}

theorem State.evActiveSet_eq (s : State) (l lvl : Nat) : s.evActiveSet l lvl = s.rfld .evActive l 0 (evBase lvl + 15) (evBase lvl) := by
  unfold State.evActiveSet evBase
  split <;> rfl

theorem State.evEoiAt_frame (hact : s.evActiveSet l lvl ≠ 0) : (s.evEoiAt l lvl).mem = s.mem ∧ (s.evEoiAt l lvl).regs =
    (s.rput .evActive l 0 (evBase lvl + Nat.log2 (s.evActiveSet l lvl)) (evBase lvl + Nat.log2 (s.evActiveSet l lvl)) 0).regs := by
  simp only [State.evEoiAt, if_neg hact]
  split <;> exact ⟨rfl, rfl⟩

/-- An end of interrupt takes the highest priority from the active set (R572). -/
theorem State.evActiveSet_evEoiAt (hact : s.evActiveSet l lvl ≠ 0) :
    (s.evEoiAt l lvl).evActiveSet l lvl = s.evActiveSet l lvl - 2 ^ Nat.log2 (s.evActiveSet l lvl) := by
  have hw : evBase lvl + 15 < 64 := by unfold evBase; split <;> decide
  have hregs := (State.evEoiAt_frame hact).2
  rw [State.evActiveSet_eq] at hact hregs ⊢
  rw [State.evActiveSet_eq, State.rfld_congr (State.rget_of_regs_eq hregs _ _ _), State.rfld, State.rput, State.rmod, State.rget_rset_same]
  exact fld_setFld_log2 _ hw hact

theorem exec_evEoi (hacc : lvl = 1 ∧ s.accepts a .evEoi1 n 0 v ∨ lvl = 2 ∧ s.accepts a .evEoi2 n 0 v) (hv : flag v 0 = true) :
    exec (.evEoi a n lvl v) s = .next (s.evEoiAt (s.evCore n) lvl) := by
  obtain ⟨rfl, hacc⟩ | ⟨rfl, hacc⟩ := hacc <;> exact stores_of rfl (congrArg some (if_pos hv)) hacc

theorem exec_evStatClear (hacc : s.accepts a .evStat src 0 v) (hv : flag v 63 = true) : ∃ t, exec (.evStatClear a src v) s = .next t ∧
    t.rget .evStat src = 0 ∧ t.evReady src = false ∧ t.mem = s.mem ∧
    ∀ r i j, r.addr i j ≠ Reg.evStat.addr src → t.rget r i j = s.rget r i j := by
  have hregs : (s.evClear src).regs = (s.rset .evStat src 0 0).regs := rfl
  have hstat : (s.evClear src).rget .evStat src = 0 := by rw [State.rget_of_regs_eq hregs, State.rget_rset_same]
  refine ⟨_, stores_of rfl (congrArg some (if_pos hv)) hacc, hstat, ?_, rfl, fun r i j h => ?_⟩
  · rw [State.evReady, State.rbit, hstat]
    rfl
  · rw [State.rget_of_regs_eq hregs, State.rget_rset_ne _ _ _ _ _ _ _ _ h]

/-- The timer of a pending source makes it ready: the always-on time reaches the tick it waits for (R568). -/
theorem exec_coalesceTimerExpire (hsrc : src < 2048) (hpend : s.rbit .evStat src 0 63 = true) (ht : s.rfld .evRoute src 0 15 0 ≠ 0)
    (hlt : tget 0 s.evFirst src + s.rfld .evRoute src 0 15 0 < 2 ^ 64) : ∃ t, exec (.coalesceTimerExpire src) s = .next t ∧
      t.evReady src = true ∧ { t with regs := s.regs } = s ∧ ∀ r i j, r.addr i j ≠ Reg.pwAotime.addr → t.rget r i j = s.rget r i j := by
  have hother {q : Reg} (hq : q ≠ .pwAotime) (hn : src < q.place.n1) (h2 : 0 < q.place.n2) (v : Word) :
      (s.rset .pwAotime 0 0 v).rget q src = s.rget q src := State.rget_rset_other v hq hn h2 Nat.zero_lt_one Nat.zero_lt_one
  refine ⟨_, if_pos ⟨hpend, ht, hsrc⟩, ?_, rfl, fun r i j h => s.rget_rset_ne _ _ _ _ _ _ _ h⟩
  have hnow := (s.rget .pwAotime).isLt
  have hdue : tget 0 s.evFirst src + fld (s.rget .evRoute src) 15 0 ≤
      (BitVec.ofNat 64 (max (s.rget .pwAotime).toNat (tget 0 s.evFirst src + s.rfld .evRoute src 0 15 0))).toNat := by
    rw [BitVec.toNat_ofNat, Nat.mod_eq_of_lt (Nat.max_lt.2 ⟨hnow, hlt⟩)]
    exact Nat.le_max_right _ _
  have hcoalt : decide (fld (s.rget .evRoute src) 15 0 ≠ 0) = true := decide_eq_true ht
  simp only [State.evReady, State.rbit, hother (q := .evStat) (by decide) hsrc Nat.zero_lt_one,
    hother (q := .evRoute) (by decide) hsrc Nat.zero_lt_one, State.rget_rset_same, State.rset_evFirst, hcoalt, decide_eq_true hdue,
    Bool.true_or, Bool.or_true, Bool.and_true]
  exact hpend

end

end Sys2Proof.Machine
end

section
/-! The stint meters: what a period boundary publishes and begins, and an opportunity (12, R538 to R547). -/

namespace Sys2Proof.Machine

/-! ### The use that a meter publishes (R541) -/

/-- ST_USE of an entry: its lent and own opportunities of the period. -/
def Meter.use (x : Meter) (r : Nat) : Word := BitVec.ofNat 64 (tget 0 x.borrow r % 2 ^ 24 * 2 ^ 24 + tget 0 x.used r % 2 ^ 24)

/-- The use of one entry published. -/
def State.publish (m : Nat) (x : Meter) (s : State) (r : Nat) : State := if s.rget .stUse m r = x.use r then s else s.rset .stUse m r (x.use r)

section
variable {s t : State} {m n k r : Nat} {x : Meter}

theorem State.rget_publish_same (s : State) (m r : Nat) (x : Meter) : (s.publish m x r).rget .stUse m r = x.use r := by
  unfold State.publish
  split
  next h => exact h
  next => exact s.rget_rset_same _ _ _ _

theorem State.rget_publish_ne (hr : r < 257) (hk : k < 257) (h : n ≠ m ∨ k ≠ r) : (s.publish m x r).rget .stUse n k = s.rget .stUse n k := by
  unfold State.publish
  split
  · rfl
  · refine s.rget_rset_ne _ _ _ _ _ _ _ ?_
    simp only [Reg.addr, Reg.place]
    omega

theorem State.regsBut_publish (hm : m < 192) (hr : r < 257) : State.RegsBut [.stUse] s (s.publish m x r) := by
  unfold State.publish
  split
  · exact .refl _ _
  · exact .rset _ (by decide) (by decide) hm hr

theorem State.publish_frame : (s.publish m x r).meters = s.meters ∧ (s.publish m x r).thermal = s.thermal := by
  unfold State.publish
  split <;> exact ⟨rfl, rfl⟩

/-- The use of every entry published. -/
def State.published (s : State) (m : Nat) (x : Meter) : State := (List.range 257).foldl (State.publish m x) s

theorem State.publishRun_spec {l : List Nat} (hl : l.Nodup) (hlt : ∀ r ∈ l, r < 257) (hm : m < 192) (s : State) (x : Meter) :
    State.RegsBut [.stUse] s (l.foldl (State.publish m x) s) ∧
    (l.foldl (State.publish m x) s).meters = s.meters ∧ (l.foldl (State.publish m x) s).thermal = s.thermal ∧
    (∀ n k, n ≠ m → k < 257 → (l.foldl (State.publish m x) s).rget .stUse n k = s.rget .stUse n k) ∧
    ∀ r ∈ l, (l.foldl (State.publish m x) s).rget .stUse m r = x.use r := by
  refine ⟨.foldl (fun _ r hr => State.regsBut_publish hm (hlt r hr)) s, State.foldl_keeps State.meters (fun _ _ _ => State.publish_frame.1) s,
    State.foldl_keeps State.thermal (fun _ _ _ => State.publish_frame.2) s,
    fun n k hn hk => State.foldl_keeps (·.rget .stUse n k) (fun _ r hr => State.rget_publish_ne (hlt r hr) hk (.inl hn)) s, fun r hr => ?_⟩
  obtain ⟨u, -, hlast⟩ := State.foldl_once (R := fun s t => t.rget .stUse m r = s.rget .stUse m r) (fun _ => rfl) (fun h k => k.trans h) hl hr
    (fun _ k hk hne => State.rget_publish_ne (x := x) (hlt k hk) (hlt r hr) (.inr hne.symm)) s
  exact hlast.trans (u.rget_publish_same m r x)

theorem State.published_spec (hm : m < 192) (s : State) (x : Meter) : State.RegsBut [.stUse] s (s.published m x) ∧
    (s.published m x).meters = s.meters ∧ (s.published m x).thermal = s.thermal ∧
    (∀ n k, n ≠ m → k < 257 → (s.published m x).rget .stUse n k = s.rget .stUse n k) ∧
    ∀ r, r < 257 → (s.published m x).rget .stUse m r = x.use r := by
  obtain ⟨hregs, hmeters, hthermal, hothers, huse⟩ := State.publishRun_spec (List.nodup_range (n := 257)) (fun _ => List.mem_range.1) hm s x
  exact ⟨hregs, hmeters, hthermal, hothers, fun r hr => huse r (List.mem_range.2 hr)⟩

/-! ### Capacities (R538) -/

/-- The registers that a period boundary of the meters writes. -/
def meterRegs : List Reg := [.stUse, .stCap, .stStat]

theorem State.meterCap_congr (h : State.RegsBut meterRegs s t) (hthermal : t.thermal = s.thermal) (hm : m < 192) (p : Nat) :
    t.meterCap m p = s.meterCap m p := by
  have hfield {q : Reg} (hi lo : Nat) {k : Nat} (hq : q ≠ .evStat ∧ q ∉ meterRegs) (hk : k < q.place.n1) (h2 : 0 < q.place.n2) :
      t.rfld q k 0 hi lo = s.rfld q k 0 hi lo := State.rfld_congr (h.reg hq hk h2) hi lo
  have hchans (i : Nat) (hm4 : m < 4) : ((rangeFrom (5 * m) 5).all fun c => decide (t.chState c = i)) =
      (rangeFrom (5 * m) 5).all fun c => decide (s.chState c = i) := by
    rw [Bool.eq_iff_iff, List.all_eq_true, List.all_eq_true]
    refine forall₂_congr fun c hc => ?_
    have hc20 : c < 20 := by have := mem_rangeFrom.1 hc; omega
    rw [State.chState, State.chState, hfield (q := .mcChstat) 63 61 (by decide) hc20 Nat.zero_lt_one]
  have hmhz {k : Nat} (hk : k < 12) : t.engineMhz k = s.engineMhz k := by
    rw [State.engineMhz, State.engineMhz, hfield (q := .pwFlock) 12 8 (by decide) hk Nat.zero_lt_one, hthermal]
  unfold State.meterCap
  split
  next h4 =>
    dsimp only
    rw [hchans 0 h4, hchans 1 h4, hfield (q := .mcCfg) 55 52 (by decide) Nat.zero_lt_one Nat.zero_lt_one]
  split
  next =>
    have hp : m - 4 < 128 := by omega
    dsimp only
    rw [State.linkState, State.linkState, hfield (q := .lkStat) 63 61 (by decide) hp Nat.zero_lt_one,
      hfield (q := .lkStat) 57 53 (by decide) hp Nat.zero_lt_one,
      hfield (q := .lkStat) 60 58 (by decide) hp Nat.zero_lt_one]
  split
  next =>
    have hd : m - 132 < 32 := by omega
    rw [hfield (q := .chDrovstat) 63 61 (by decide) hd Nat.zero_lt_one]
  split
  next =>
    have hk : m - 164 < 12 := by omega
    rw [State.cyState, State.cyState, hfield (q := .cyStat) 63 61 (by decide) hk Nat.zero_lt_one, hmhz hk]
  split
  next =>
    have hk : m - 176 < 12 := by omega
    rw [State.czState, State.czState, hfield (q := .czStat) 63 61 (by decide) hk Nat.zero_lt_one, hmhz hk]
  next => rfl

/-! ### A period boundary (R538, R539, R541) -/

/-- From `s` to `t` the boundary of other meters: meter `m` and what it publishes stand as they did. -/
structure State.SparesMeter (m : Nat) (s t : State) : Prop where
  regs : State.RegsBut meterRegs s t
  thermal : t.thermal = s.thermal
  cycle : t.rfld .stStat 0 0 63 32 = s.rfld .stStat 0 0 63 32
  meter : tget Meter.reset t.meters m = tget Meter.reset s.meters m
  use : ∀ {r : Nat}, r < 257 → t.rget .stUse m r = s.rget .stUse m r

namespace State.SparesMeter

theorem refl (m : Nat) (s : State) : SparesMeter m s s := ⟨.refl _ _, rfl, rfl, rfl, fun _ => rfl⟩

theorem trans {u : State} (h : SparesMeter m s t) (k : SparesMeter m t u) : SparesMeter m s u :=
  ⟨h.regs.trans k.regs, k.thermal.trans h.thermal, k.cycle.trans h.cycle, k.meter.trans h.meter, fun hr => (k.use hr).trans (h.use hr)⟩

end State.SparesMeter

/-- Meter `m` of `t` begins a period after that of `s`: its use is published, its capacity taken anew, and its first opportunity next. -/
structure State.MeterBegins (m : Nat) (s t : State) : Prop where
  first : (tget Meter.reset t.meters m).pos = 0 ∧ (tget Meter.reset t.meters m).used = [] ∧ (tget Meter.reset t.meters m).borrow = [] ∧
    (tget Meter.reset t.meters m).passed = []
  last : (tget Meter.reset t.meters m).last = (tget Meter.reset s.meters m).last
  cap : (tget Meter.reset t.meters m).cap = s.meterCap m (s.rfld .stPeriod 0 0 14 0)
  use : ∀ {r : Nat}, r < 257 → t.rget .stUse m r = (tget Meter.reset s.meters m).use r

/-- The capacity and SCALED shown in ST_CAP and ST_STAT, which raises 61 (R539). -/
def State.capShown (s : State) (m c : Nat) (scaled : Bool) : State :=
  let s := s.rset .stCap m 0 (setFld (setFlag (s.rget .stCap m) 63 scaled) 23 0 c)
  if scaled then (s.rput .stStat 0 0 1 1 1).raise 61 else s

/-- A meter at the beginning of a period. -/
def Meter.begun (x : Meter) (c : Nat) (ns : List (Nat × Nat)) : Meter :=
  { pos := 0, cap := c, counts := ns, credit := ns.map fun o => (o.1, 0), passed := [], used := [], borrow := [], last := x.last }

/-- A state with one meter replaced. -/
def State.withMeter (s : State) (m : Nat) (y : Meter) : State := { s with meters := tins s.meters m y }

theorem State.regsBut_withMeter {X : List Reg} (s : State) (m : Nat) (y : Meter) : State.RegsBut X s (s.withMeter m y) := .of_eq rfl rfl

theorem State.meterBoundary_eq (s u : State) (m c : Nat) (hu : u = s.published m (tget Meter.reset s.meters m))
    (hc : c = u.meterCap m (u.rfld .stPeriod 0 0 14 0)) : s.meterBoundary m =
    (u.capShown m c (u.meterCounts m c).2).withMeter m ((tget Meter.reset s.meters m).begun c (u.meterCounts m c).1) := by
  unfold State.meterBoundary
  extract_lets x u' c'
  have hu' : u' = u := hu.symm
  have hc' : c' = c := by rw [hc, ← hu']
  rw [hu', hc']
  obtain ⟨ns, scaled⟩ := u.meterCounts m c
  rfl

@[simp] theorem State.raise_meters (s : State) (src : Nat) : (s.raise src).meters = s.meters := by
  obtain ⟨q, f, e, -⟩ := s.raise_spec src
  rw [e]
  rfl

theorem State.capShown_frame (s : State) (m c : Nat) (scaled : Bool) : (s.capShown m c scaled).meters = s.meters ∧
    (s.capShown m c scaled).thermal = s.thermal := by
  unfold State.capShown
  dsimp only
  split
  · rw [State.raise_meters, State.rput_meters, State.rset_meters, State.raise_thermal, State.rput_thermal, State.rset_thermal]
    exact ⟨rfl, rfl⟩
  · exact ⟨State.rset_meters _ _ _ _ _, State.rset_thermal _ _ _ _ _⟩

theorem State.capShown_regs (s : State) (c : Nat) (scaled : Bool) (hm : m < 192) : State.RegsBut [.stCap, .stStat] s (s.capShown m c scaled) ∧
    (s.capShown m c scaled).rfld .stStat 0 0 63 32 = s.rfld .stStat 0 0 63 32 := by
  have hcap : State.RegsBut [.stCap, .stStat] s (s.rset .stCap m 0 (setFld (setFlag (s.rget .stCap m) 63 scaled) 23 0 c)) :=
    .rset _ (by decide) (by decide) hm Nat.zero_lt_one
  have hstat : (s.rset .stCap m 0 (setFld (setFlag (s.rget .stCap m) 63 scaled) 23 0 c)).rfld .stStat 0 0 63 32 = s.rfld .stStat 0 0 63 32 :=
    State.rfld_congr (State.rget_rset_other _ (by decide) Nat.zero_lt_one Nat.zero_lt_one hm Nat.zero_lt_one) _ _
  unfold State.capShown
  dsimp only
  split
  · refine ⟨hcap.trans (.trans (.rset _ (by decide) (by decide) Nat.zero_lt_one Nat.zero_lt_one) (.raise (by decide))), ?_⟩
    rw [State.rfld_congr (State.rget_raise_other (by decide) Nat.zero_lt_one Nat.zero_lt_one (by decide)),
      State.rfld_rput_of_apart _ _ _ _ _ (by decide) (by decide) (by decide), hstat]
  · exact ⟨hcap, hstat⟩

/-- The boundary of one meter: it begins its period, and every other meter is spared. -/
theorem State.meterBoundary_spec (s : State) (hm : m < 192) : State.RegsBut meterRegs s (s.meterBoundary m) ∧
    (s.meterBoundary m).rfld .stStat 0 0 63 32 = s.rfld .stStat 0 0 63 32 ∧
    State.MeterBegins m s (s.meterBoundary m) ∧ ∀ n, n < 192 → n ≠ m → State.SparesMeter n s (s.meterBoundary m) := by
  obtain ⟨u, hu⟩ : ∃ u, u = s.published m (tget Meter.reset s.meters m) := ⟨_, rfl⟩
  obtain ⟨c, hc⟩ : ∃ c, c = u.meterCap m (u.rfld .stPeriod 0 0 14 0) := ⟨_, rfl⟩
  obtain ⟨hregs, hmeters, hthermal, hothers, huse⟩ := State.published_spec hm s (tget Meter.reset s.meters m)
  rw [s.meterBoundary_eq u m c hu hc]
  rw [← hu] at hregs hmeters hthermal hothers huse
  obtain ⟨hwMeters, hwThermal⟩ := u.capShown_frame m c (u.meterCounts m c).2
  obtain ⟨hwRegs, hwStat⟩ := u.capShown_regs c (u.meterCounts m c).2 hm
  generalize u.capShown m c (u.meterCounts m c).2 = w at *
  have hsu : State.RegsBut meterRegs s u := hregs.mono (by decide)
  have hend (y : Meter) : State.RegsBut meterRegs s (w.withMeter m y) :=
    (hsu.trans (hwRegs.mono (by decide))).trans (w.regsBut_withMeter m y)
  have hwUse {n r : Nat} (hn : n < 192) (hr : r < 257) : w.rget .stUse n r = u.rget .stUse n r := hwRegs.reg ⟨by decide, by decide⟩ hn hr
  have hcap : c = s.meterCap m (s.rfld .stPeriod 0 0 14 0) := by
    rw [hc, State.meterCap_congr hsu hthermal hm, State.rfld_congr (hsu.reg ⟨by decide, by decide⟩ Nat.zero_lt_one Nat.zero_lt_one)]
  have hstat : w.rfld .stStat 0 0 63 32 = s.rfld .stStat 0 0 63 32 :=
    hwStat.trans (State.rfld_congr (hregs.reg ⟨by decide, by decide⟩ Nat.zero_lt_one Nat.zero_lt_one) _ _)
  refine ⟨hend _, hstat, ?_, fun n hn hne => ⟨hend _, hwThermal.trans hthermal, hstat, ?_, fun hr => (hwUse hn hr).trans (hothers _ _ hne hr)⟩⟩
  · refine ⟨?_, ?_, ?_, fun hr => (hwUse hm hr).trans (huse _ hr)⟩ <;> rw [State.withMeter, tget_tins_same]
    · exact ⟨rfl, rfl, rfl, rfl⟩
    · rfl
    · exact hcap
  · rw [State.withMeter, tget_tins_ne _ _ _ _ _ hne, hwMeters, hmeters]

namespace State.MeterBegins

/-- A beginning stands where the boundaries before it and after it spare the meter. -/
theorem of_spared {u v : State} (hbefore : SparesMeter m s u) (h : MeterBegins m u v) (hafter : SparesMeter m v t) (hm : m < 192) :
    MeterBegins m s t := by
  have hperiod : u.rfld .stPeriod 0 0 14 0 = s.rfld .stPeriod 0 0 14 0 :=
    State.rfld_congr (hbefore.regs.reg ⟨by decide, by decide⟩ Nat.zero_lt_one Nat.zero_lt_one) _ _
  refine ⟨?_, ?_, ?_, fun hr => ?_⟩
  · rw [hafter.meter]
    exact h.first
  · rw [hafter.meter, h.last, hbefore.meter]
  · rw [hafter.meter, h.cap, State.meterCap_congr hbefore.regs hbefore.thermal hm, hperiod]
  · rw [hafter.use hr, h.use hr, hbefore.meter]

end State.MeterBegins

/-- The boundaries of a run of meters, each once. -/
theorem State.meterBoundaries_spec {l : List Nat} (hl : l.Nodup) (hlt : ∀ n ∈ l, n < 192) (s : State) :
    State.RegsBut meterRegs s (l.foldl State.meterBoundary s) ∧
    (l.foldl State.meterBoundary s).rfld .stStat 0 0 63 32 = s.rfld .stStat 0 0 63 32 ∧
    ∀ m ∈ l, State.MeterBegins m s (l.foldl State.meterBoundary s) := by
  refine ⟨.foldl (fun t n hn => (t.meterBoundary_spec (hlt n hn)).1) s,
    State.foldl_keeps (fun t => t.rfld .stStat 0 0 63 32) (fun t n hn => (t.meterBoundary_spec (hlt n hn)).2.1) s, fun m hm => ?_⟩
  obtain ⟨u, hbefore, hafter⟩ := State.foldl_once (R := State.SparesMeter m) (.refl m) .trans hl hm
    (fun t n hn hne => (t.meterBoundary_spec (hlt n hn)).2.2.2 m (hlt m hm) hne.symm) s
  exact .of_spared hbefore (u.meterBoundary_spec (hlt m hm)).2.2.1 hafter (hlt m hm)

theorem State.SparesMeter.of_power (s : State) (o : Power) : State.SparesMeter m s { s with power := o } :=
  ⟨.of_eq rfl rfl, rfl, rfl, rfl, fun _ => rfl⟩

/-- A boundary as its steps: the frequencies of the flocks, the boundary of every meter, the sealed modes, and the count of periods. -/
theorem exec_stintPeriodBoundary_steps (s : State) : ∃ (o : Power) (u : State),
    u = (List.range 192).foldl State.meterBoundary { s with power := o } ∧
    exec .stintPeriodBoundary s = .next (State.rmod
      { u with sealedNow := (List.range 257).filter fun r => u.resState r != 0 && u.rbit .ptRes r 0 61 }
      .stStat 0 0 fun v => setFld v 63 32 (fld v 63 32 + 1)) := ⟨_, _, rfl, rfl⟩

theorem exec_stintPeriodBoundary (s : State) : ∃ t, exec .stintPeriodBoundary s = .next t ∧ t.mem = s.mem ∧
    t.rfld .stStat 0 0 63 32 = (s.rfld .stStat 0 0 63 32 + 1) % 2 ^ 32 ∧
    t.sealedNow = (List.range 257).filter (fun r => s.resState r != 0 && s.rbit .ptRes r 0 61) ∧
    ∀ m, m < 192 → State.MeterBegins m s t := by
  obtain ⟨o, u, hu, hexec⟩ := exec_stintPeriodBoundary_steps s
  obtain ⟨hregs, hcycle, hbegins⟩ := State.meterBoundaries_spec (List.nodup_range (n := 192)) (fun _ => List.mem_range.1) { s with power := o }
  rw [← hu] at hregs hcycle hbegins
  clear hu
  have hres {r : Nat} (hr : r ∈ List.range 257) : u.rget .ptRes r = s.rget .ptRes r :=
    hregs.reg ⟨by decide, by decide⟩ (List.mem_range.1 hr) Nat.zero_lt_one
  refine ⟨_, hexec, hregs.mem, ?_, List.filter_congr fun r hr => ?_, fun m hm => ?_⟩
  · rw [State.rfld, State.rmod, State.rget_rset_same, fld_setFld_mod _ _ (by decide) (by decide)]
    exact congrArg (fun n => (n + 1) % 2 ^ 32) hcycle
  · rw [State.resState, State.resState, State.rfld, State.rbit, hres hr]
    rfl
  · obtain ⟨hfirst, hlast, hcap, huse⟩ := State.MeterBegins.of_spared (.of_power s o) (hbegins m (List.mem_range.2 hm)) (.refl m u) hm
    exact ⟨hfirst, hlast, hcap, fun hr => (State.rget_rset_other _ (by decide) hm hr Nat.zero_lt_one Nat.zero_lt_one).trans (huse hr)⟩

/-! ### An opportunity (R540, R541, R547) -/

/-- Whether RECOVERY takes an opportunity that is not its own. -/
def Meter.recoveryTakes (x : Meter) (waiting : List Nat) : Bool :=
  decide (x.count ownRecovery ≤ tget 0 x.passed ownRecovery) && decide (x.pos % 10 = 9) && waiting.contains ownRecovery

/-- ST_STAT and the event of an opportunity that RECOVERY takes (R547). -/
def State.tookRecovery (s : State) : State := (s.rput .stStat 0 0 0 0 1).raise 62

/-- The meter `y` is `x` moved on by an opportunity of an owner, with the credits after it. -/
structure Meter.MovesOn (x y : Meter) (owner : Nat) (credit : List (Nat × Int)) : Prop where
  pos : y.pos = x.pos + 1
  credit : y.credit = credit
  passed : y.passed = tins x.passed owner (tget 0 x.passed owner + 1)

/-- An opportunity moves its meter on, whoever takes it, and shows RECOVERY where that takes it; its owner's use counts. -/
theorem exec_stintOpportunity_steps {waiting : List Nat} (hx : x = tget Meter.reset s.meters m) (hpos : x.pos < x.cap) : ∃ y : Meter,
    exec (.stintOpportunity m waiting) s = .next ((if x.recoveryTakes waiting then s.tookRecovery else s).withMeter m y) ∧
    x.MovesOn y x.turn.1 x.turn.2 ∧
    (x.recoveryTakes waiting = false → x.turn.1 ≤ 256 → waiting.contains x.turn.1 = true →
      y.used = tins x.used x.turn.1 (tget 0 x.used x.turn.1 + 1)) := by
  have hexec : exec (.stintOpportunity m waiting) s = execStintOpportunity m waiting s := rfl
  rw [hexec, execStintOpportunity, ← hx]
  dsimp only
  rw [if_neg hpos.not_ge, ← Meter.recoveryTakes]
  generalize x.turn = p
  obtain ⟨o, credit⟩ := p
  cases x.recoveryTakes waiting
  case true => exact ⟨_, rfl, ⟨rfl, rfl, rfl⟩, fun h => absurd h (by decide)⟩
  case false =>
    simp only [Bool.false_eq_true, if_false]
    refine ⟨_, rfl, ?_, fun _ ho hwait => by rw [if_pos ⟨ho, hwait⟩]⟩
    split
    case isTrue => exact ⟨rfl, rfl, rfl⟩
    split
    case isTrue => exact ⟨rfl, rfl, rfl⟩
    split
    case isTrue => exact ⟨rfl, rfl, rfl⟩
    split <;> exact ⟨rfl, rfl, rfl⟩

theorem exec_stintOpportunity {waiting : List Nat} (hx : x = tget Meter.reset s.meters m) (hpos : x.pos < x.cap) : ∃ t,
    exec (.stintOpportunity m waiting) s = .next t ∧ t.mem = s.mem ∧ (tget Meter.reset t.meters m).pos = x.pos + 1 ∧
    (tget Meter.reset t.meters m).credit = x.turn.2 ∧ tget 0 (tget Meter.reset t.meters m).passed x.turn.1 = tget 0 x.passed x.turn.1 + 1 ∧
    (x.recoveryTakes waiting = false → x.turn.1 ≤ 256 → waiting.contains x.turn.1 = true →
      tget 0 (tget Meter.reset t.meters m).used x.turn.1 = tget 0 x.used x.turn.1 + 1 ∧ t.regs = s.regs) ∧
    (x.recoveryTakes waiting = true → t.rbit .stStat 0 0 0 = true ∧ t.rbit .evStat 62 0 63 = true) := by
  obtain ⟨y, hexec, ⟨hy, hcredit, hpassed⟩, hused⟩ := exec_stintOpportunity_steps (waiting := waiting) hx hpos
  refine ⟨_, hexec, ?_⟩
  rw [State.withMeter, tget_tins_same, hcredit, hpassed, tget_tins_same]
  cases htakes : x.recoveryTakes waiting
  · exact ⟨rfl, hy, rfl, rfl, fun _ ho hwait => ⟨by rw [hused htakes ho hwait, tget_tins_same], rfl⟩, fun h => absurd h (by decide)⟩
  · refine ⟨State.raise_mem _ _, hy, rfl, rfl, fun h => absurd h (by decide), fun _ => ⟨?_, State.pend_raise _ _⟩⟩
    exact (State.rbit_congr (State.rget_raise_other (by decide) Nat.zero_lt_one Nat.zero_lt_one (by decide)) 0).trans
      (State.rbit_rput_bit _ _ _ _ _ (by decide))

end

end Sys2Proof.Machine
end

section
/-! The clauses on partitions, stints and the event router, assembled. -/

open Sys2Proof Sys2Proof.Machine

/-- Settles O53: PT_CTL and PT_CORE by the word of each command, a period boundary by its meters, each begun once and spared by the others, an
opportunity by whose it is, and the event router by its registers. -/
theorem partitionsStintsAndEvents : Obligations.PartitionsStintsAndEvents := by
  refine ⟨fun s a r pid sealed hr hpid => ⟨exec_ptAdmit hr hpid, exec_ptQuiesce hr, exec_ptResume hr, exec_ptRemove hr, exec_ptMode hr⟩,
    fun s a n next _ hnext => exec_ptCoreWrite hnext, fun s a v => exec_huInv, fun s => exec_huInvdone, fun s => ?_,
    fun s m waiting => exec_stintOpportunity rfl, fun s src _ => ⟨s.pend_raise src, s.count_raise src, s.raise_mem src⟩,
    fun s src => exec_coalesceTimerExpire,
    fun s a src n v _ _ => ⟨stores_of rfl rfl, exec_evStatClear, fun lvl hacc hv hact => ⟨_, exec_evEoi hacc hv, (State.evEoiAt_frame hact).1,
      State.evActiveSet_evEoiAt hact⟩, stores_of rfl rfl, fun hguest ha howns => stores_of rfl (congrArg some (if_pos ⟨hguest, ha, howns⟩))⟩⟩
  obtain ⟨t, hexec, hmem, hcycle, hsealed, hbegins⟩ := exec_stintPeriodBoundary s
  refine ⟨t, hexec, hmem, hcycle, hsealed, fun m hm => ?_⟩
  obtain ⟨⟨hpos, hused, hborrow, hpassed⟩, hlast, hcap, huse⟩ := hbegins m hm
  exact ⟨hpos, hused, hborrow, hpassed, hlast, hcap, fun r => huse⟩

end
